-- ==== Sys2Proof/Word.lean ====
section
/-! DEFINITION. The data words of the model: bytes, sparse tables in one canonical form, and nothing else. Arithmetic on them
stands in Machine/Bits.lean. -/

namespace Sys2Proof

/-- One byte of memory, a packet or a record (R5: little-endian order is applied in Machine/Bits.lean). -/
abbrev Byte := BitVec 8

/-- A sparse table: (index, value) pairs, indices strictly rising, no entry equal to what an unlisted index reads as.
Every numbered set of the device (queues, lanes, slots, streams, registers of a core, memory bytes) is held so. -/
abbrev Table (α : Type) := List (Nat × α)

end Sys2Proof
end

