-- ==== Sys2Proof/Syntax.lean ====
section
/-! DEFINITION. The commands of the block: ONE constructor of `Instr` per row of the table of operations and events
(opcode_table.json). A command packet row carries the packet (R432); an event row carries what the outside world or a free
engine supplies for it. -/

namespace Sys2Proof

/-- Where a command packet comes from: a submission queue (R430), the mailbox (R459), a CMD message of another group member
with the issuing queue and the role it holds there (R498), or a CMD_MIRROR message of the pair's primary (R502). -/
inductive CmdSource where
  | queue (q : Nat)
  | mailbox
  | forwarded (device : Nat) (q : Nat) (role : Nat)
  | mirrored
  deriving DecidableEq, Repr

/-- A command packet (R432): the header fields, and the parameter area (48 bytes, or the extended block of R435). -/
structure Packet where
  /-- where it was issued -/
  src : CmdSource
  /-- bytes 0-1 -/
  opcode : Nat
  /-- bytes 2-3 (R433) -/
  flags : BitVec 16
  /-- bytes 4-5 -/
  tag : BitVec 16
  /-- bytes 6-7: [11:0] unit, [15:12] device -/
  target : BitVec 16
  /-- bytes 8-15 -/
  replyAddr : Nat
  /-- bytes 16-63, or the extended block -/
  params : List Byte
  deriving DecidableEq, Repr

/-- The two synthesisers of Chanter (R67). -/
inductive Synth where
  | sclk
  | lo
  deriving DecidableEq, Repr

/-- The blocks that adopt settings from epoch tokens (R58, first row). -/
inductive TokenBlock where
  | converter (ch : Fin 4)
  | lane (ch : Fin 4) (l : Fin 5)
  | slot (ch : Fin 4) (n : Fin 4)
  | trig
  | map (m : Fin 8)
  | stream (n : Fin 256)
  deriving DecidableEq, Repr

/-- The result of an ECC check of one read (R468-R470, R571): what the error pattern was is the outside world's. -/
inductive Ecc where
  | clean
  | corrected
  | uncorrectable
  deriving DecidableEq, Repr

/-- Error of one Yard burst: the symbols that read wrong, as codeword and symbol position (R468); what it is is the outside world's. -/
abbrev BurstError := List (Fin 8 × Fin 10)

/-- How a burst of the transfer engine ends (R321). -/
inductive BurstEnd where
  | ok
  | accessError (cause : Nat)
  | dataError (cause : Nat)
  deriving DecidableEq, Repr

/-- Statistics of one block of 4,096 instants of the shadowed position (R100, R101): sums over the calibrated slice, over the active
samples of all 64 positions, and of the products with the neighbours; also the sums of several blocks. -/
structure CalSums where
  s1 : Int := 0
  s2 : Int := 0
  e1 : Int := 0
  e2 : Int := 0
  cm : Int := 0
  cp : Int := 0
  /-- stage-1 disagreements of comparators 0 to 3 -/
  dis : List Nat := [0, 0, 0, 0]
  /-- a sample of the block, from the slice or from an active position, is over-range -/
  overrange : Bool := false
  /-- the block contains a pause under R75 -/
  paused : Bool := false
  deriving DecidableEq, Repr

/-- What the health monitor measured at one position over 2^16 of its instants (R107 and the limits before it). -/
structure HealthSums where
  /-- position's sum of samples and sum over all 64 positions -/
  sumPos : Int
  sumAll : Int
  /-- position's sum of squares and sum over all 64 positions -/
  sqPos : Nat
  sqAll : Nat
  /-- distinct codes at the position and over the ensemble -/
  codesPos : Nat
  codesAll : Nat
  deriving DecidableEq, Repr

/-- What the verification of a spare measured over 2^16 instants (R103). -/
structure VerifySums where
  /-- sum of x_c - x_s -/
  diff : Int
  /-- sum of (x_c - x_s)^2 -/
  diffSq : Nat
  /-- the spare and the active slice against the ensemble -/
  spare : HealthSums
  active : HealthSums
  deriving DecidableEq, Repr

/-- A configuration request of the host (R416, R531). -/
inductive ConfigReq where
  | read (offset : Nat)
  /-- MSI-X Enable and Function Mask of the MSI-X capability (R454) -/
  | msixControl (enable : Bool) (functionMask : Bool)
  /-- size of BAR4 as its base-2 logarithm, in the Resizable BAR capability (R416, R417) -/
  | resizeBar4 (log2 : Nat)
  deriving DecidableEq, Repr

/-- A request waiting in stall 0x25 of a Yard channel (R465, R466). -/
structure YardReq where
  /-- source ID of the master (R568), which gives the service class (R465) -/
  master : Nat
  /-- device address -/
  addr : Nat
  /-- write with its bytes, at most to the end of the 64-byte line, or a read of the line -/
  data : Option (List Byte)
  /-- hits an open row (R466) -/
  rowHit : Bool
  /-- promoted once already (R39); a request that arrives is not -/
  promoted : Bool := false
  /-- device time at which the request entered the stall (R466) -/
  since : Nat := 0
  deriving DecidableEq, Repr

/-- What an MR4 poll of a channel indicates (R472, R473). -/
inductive Mr4 where
  | rate1x
  | rate2x
  | aboveRange
  deriving DecidableEq, Repr

/-- A link frame as the receiver sees it (R486, R487). -/
structure LinkFrame where
  /-- 0 IDLE, 1 DATA, 2 NAK -/
  type : Nat
  dest : Nat
  source : Nat
  vc : Nat
  seq : Nat
  ack : Nat
  e2e : Nat
  payload : List Byte
  /-- CRC and FEC codewords good -/
  good : Bool
  deriving DecidableEq, Repr

/-- A fault message (R568). -/
structure FaultMsg where
  source : Nat
  kind : Nat
  /-- 0 CORRECTED, 1 CONTAINED, 2 FATAL -/
  cls : Nat
  address : Nat
  master : Nat
  access : Nat
  /-- the 16 detail bytes of R577 -/
  detail : List Byte
  deriving DecidableEq, Repr

/-- Sensor and rail readings that Bellows takes for telemetry (R534, R536, R537). -/
structure Readings where
  /-- 32 temperatures in 1/16 degree (R537) -/
  temps : List Int
  /-- 13 rails: millivolt, status, milliampere (R537) -/
  rails : List (Nat × Nat × Nat)
  /-- a PMBus transaction failed -/
  pmbusError : Bool
  deriving DecidableEq, Repr

/-- A drive as its bring-up finds it (R326): what Identify and CAP report. -/
structure DriveId where
  /-- an active LBA format of 4,096 data bytes, no metadata, no protection -/
  formatOk : Bool
  /-- MDTS in bytes, 0 for no limit -/
  mdts : Nat
  mqes : Nat
  /-- namespace size in LBAs -/
  capacity : Nat
  deriving DecidableEq, Repr

/-- One DIMM as its SPD reports it (R461, R462). -/
structure Dimm where
  /-- capacity in GiB -/
  gib : Nat
  ranks : Nat
  x8 : Bool
  /-- highest data rate the SPD supports: 0 4,800, 1 5,600, 2 6,400 MT/s -/
  speed : Nat
  /-- the CRC of the SPD is valid -/
  crcOk : Bool := true
  /-- an RDIMM with RCD, SPD hub and PMIC: no UDIMM, LRDIMM, 3DS stack or MRDIMM -/
  registered : Bool := true
  /-- subchannels of 40 bits, 8 of them check bits -/
  ec8 : Bool := true
  /-- x16 DRAMs -/
  x16 : Bool := false
  /-- density of a DRAM in Gb -/
  gbit : Nat := 16
  deriving DecidableEq, Repr

/-- Fuses (R544). -/
structure Fuses where
  huk : BitVec 256 := 0
  iek : BitVec 256 := 0
  vkh : BitVec 384 := 0
  okh : BitVec 384 := 0
  arb : BitVec 64 := 0
  kill : BitVec 8 := 0
  serial : BitVec 64 := 0
  grade : BitVec 2 := 0
  deriving DecidableEq, Repr

/-- SPI flash content (R547): the 12 bytes of the boot record and the bytes of the two image slots. -/
structure Flash where
  present : Bool := false
  /-- the bytes from offset 0x7F_F000 on -/
  bootRecord : List Byte := []
  slotA : List Byte := []
  slotB : List Byte := []
  deriving DecidableEq, Repr

/-- What the board and the fuses present when POR# deasserts (R12, R597). -/
structure Board where
  groupId : Fin 8
  pwrSeqExt : Bool
  xtal32 : Bool
  refin : Bool
  perst : Bool
  fuses : Fuses
  flash : Flash
  /-- power-up self-tests of Paddock (R561) and the fuse read pass -/
  selfTest : Bool
  fuseRead : Bool
  deriving DecidableEq, Repr

/-- A record key of a mirrored stream (R503). -/
structure RecKey where
  stream : Nat
  seq : Nat
  type : Nat
  source : Nat
  firstIndex : Nat
  length : Nat
  deriving DecidableEq, Repr

/-- A neighbour report carried by a FORM message (R489, R491). -/
inductive FormMsg where
  /-- join the group of these members -/
  | join (members : BitVec 8)
  /-- the sender has joined the group that this device forms -/
  | joined
  /-- the sender cannot join: it belongs to a group already -/
  | cannot
  /-- the sender leaves -/
  | leave
  /-- the sender's neighbours, one per port -/
  | neighbours (n : List (Option Nat))
  deriving DecidableEq, Repr

/-- GROUP_SYNC control (R494, R495). -/
inductive SyncCtl where
  /-- the coordinator asks for the values of step 1 -/
  | query
  /-- f_SCLK of the member, its pending common fields, whether it is the root, and whether it passes step 1 -/
  | report (fsclk : Nat) (common : List Int) (root : Bool) (ready : Bool)
  /-- step 2, with whether the transit measurement is skipped, and its answer -/
  | arm (noBus : Bool)
  | armed
  | disarm
  /-- the coordinator asks the root for the pulse -/
  | pulse
  /-- the member's SYNC capture less its trace delay in 2^-16 sample periods -/
  | captured (x : Int)
  /-- the member has received every PING: its largest transit -/
  | transit (t : Nat)
  /-- the coordinator tells the member its skew, or that it missed the capture, or that GROUP_SYNC is complete -/
  | skew (d : Int)
  | missed
  | complete (ok : Bool)
  deriving DecidableEq, Repr

/-- A mirrored command (R502) with its acting index and the blocks that the primary read, its confirmation, and the control of the pair. -/
inductive CmdMirrorMsg where
  | command (p : Packet) (actAt : Option Nat) (data : List (Nat × List Byte))
  | confirm (tag : Nat)
  /-- PAIR_FORM of the primary (R500): T, mirrored streams, generation, active values, staged base, overlays, and ring_log2 by stream -/
  | pairForm (epoch : Nat) (streams : BitVec 256) (generation : BitVec 32) (active staged : List (Nat × Int))
      (overlays : List (Nat × List (Nat × Int))) (rings : List (Nat × Nat))
  | pairAnswer (ok : Bool)
  | dissolve (unmute : Bool)
  /-- PAIR_TAKEOVER at an epoch, and the new primary's report that it has switched (R509) -/
  | takeoverAt (epoch : Nat)
  | switched
  deriving DecidableEq, Repr

/-- Mirrored generator entry-memory write or ring commit (R502). -/
inductive MemMirrorMsg where
  | write (gen : Fin 2) (entry : Nat) (value : BitVec 128)
  | ringCommit (gen : Fin 2) (segment : Nat)
  deriving DecidableEq, Repr

/-- The messages of the Shunis link (R488). -/
inductive Msg where
  | busAssert (mask : BitVec 8) (instant emit : Nat)
  | ping (emit : Nat)
  | pong (emit : Nat)
  | heartbeat (role : Nat) (index : Nat) (generation : BitVec 32) (keySeq : Nat) (status : Nat)
  | fence
  | fatalNotice (source kind : Nat)
  | cmd (p : Packet) (role : Nat)
  | cpl (tag : Nat) (status : Nat) (reply : List Byte)
  | prepare (epoch : Nat) (generation : BitVec 32) (content : List (Nat × Int)) (mask : BitVec 8)
  | armed
  | refused (status : Nat)
  | abort
  | applied
  | form (m : FormMsg)
  | syncCtl (m : SyncCtl)
  | keyLog (k : RecKey)
  | ackMirror (confirm : Bool) (tag stream seq offset : Nat)
  | cmdMirror (m : CmdMirrorMsg)
  | memMirror (m : MemMirrorMsg)
  deriving DecidableEq, Repr

/-- A JTAG instruction (R564). -/
inductive TapInstr where
  | bypass | idcode | samplePreload
  | extest | clamp | highz | extestPulse | extestTrain
  | mehrikDebug (code : Nat)
  deriving DecidableEq, Repr

/-- BAND_SEARCH_DONE (R72): the VCO core and the band the automatic search selected. -/
structure FoundBand where
  vco : Nat
  band : Nat
  deriving DecidableEq, Repr

/-- A slice of a channel that is being calibrated, verified or handed over (R98 to R106). -/
structure SliceOf where
  ch : Fin 4
  slice : Fin 68
  deriving DecidableEq, Repr

/-- A raw stamp of an edge (R223, R225): the coarse counter's periods, and the interpolator's code. -/
structure RawStamp where
  cycles : Nat
  r : Nat
  deriving DecidableEq, Repr

/-- The stamp of an index tick (R223, R228): coarse periods, and the fine part in LSB. -/
structure TickStamp where
  cycles : Nat
  fine : Fin 1600
  deriving DecidableEq, Repr

/-- What a DisplayPort port reads of the sink at HPD (R262): adaptive sync, and the lanes and rate it can take. -/
structure SinkCaps where
  adaptive : Bool
  lanes : Nat
  rate : Nat
  deriving DecidableEq, Repr

/-- The bank of a Loft scrub access (R34, R38): a foreground write replaced the word, a foreground access wants the bank. -/
structure BankUse where
  written : Bool
  busy : Bool
  deriving DecidableEq, Repr

/-- A frame of a link as it arrives (R482, R485): its bytes, and whether forward error correction repaired them. -/
structure ArrivedFrame where
  bytes : List Byte
  fecGood : Bool
  deriving DecidableEq, Repr

/-- A regulator's answer (R530): the rail, its status word and its output voltage. -/
structure RailReading where
  rail : Nat
  status : Nat
  vout : Nat
  deriving DecidableEq, Repr

/-- The rows of the table of operations and events, one constructor per row. -/
inductive Instr where
  /-- NOP (R447): Command that does nothing and completes with OK. -/
  | nop (p : Packet)
  /-- IDENTIFY (R448): Command that returns the 64-byte identity reply, including the grade, versions, group role and Yard population. -/
  | identify (p : Packet)
  /-- GET_STATUS (R447): Command that returns DEV_STATUS, tags in flight, sample index, device time, generation and pending commits. -/
  | getStatus (p : Packet)
  /-- SLEEP (R522): Command that takes the device through SLEEP entry, or refuses it when paired or when a recording runs without FORCE. -/
  | sleep (p : Packet)
  /-- WAKE (R525): Command that starts leaving SLEEP: rails are restored, domains power up, the Yard retrains and the synthesisers relock. -/
  | wake (p : Packet)
  /-- WAKE_COMPLETE (R525): Retraining and relock have finished: the sample index resumes, STATE becomes READY and WAKE completes. -/
  | wakeComplete (failed : List Nat) (words : List (Fin 4 × Fin 68 × Bool))
  /-- BLOCK_RESET (R581): Command that resets the block owning the given source ID, discarding its state and stall contents and opening a reaction window. -/
  | blockReset (p : Packet)
  /-- BLOCK_RESET_COMPLETE (R581): A block reset finishes: the block restarts with the active settings and GAP records of cause 0x06 are written. -/
  | blockResetComplete (src : Nat)
  /-- SAFE_EXIT (R585): Command that leaves the safe state when no FATAL record, live FATAL kind or POR#-only kind blocks it. -/
  | safeExit (p : Packet)
  /-- QUEUE_CREATE (R427): Command that creates a submission or completion queue from queue 0. -/
  | queueCreate (p : Packet)
  /-- QUEUE_DELETE (R428): Command that deletes a queue, completing after the commands fetched from it have written their entries. -/
  | queueDelete (p : Packet)
  /-- CFG_WRITE_BASE (R47): Command that checks a list of field changes and writes the staged values, marking the fields dirty. -/
  | cfgWriteBase (p : Packet)
  /-- CFG_WRITE_OVERLAY_REPLACE (R48): CFG_WRITE_OVERLAY in mode REPLACE: the overlay becomes the given list. -/
  | cfgWriteOverlayReplace (p : Packet)
  /-- CFG_WRITE_OVERLAY_APPEND (R48): CFG_WRITE_OVERLAY in mode APPEND: the entries are added to the overlay, replacing entries with the same key. -/
  | cfgWriteOverlayAppend (p : Packet)
  /-- CFG_WRITE_OVERLAY_FREE (R48): CFG_WRITE_OVERLAY in mode FREE: the overlay is emptied and its ID freed. -/
  | cfgWriteOverlayFree (p : Packet)
  /-- CFG_READ (R49): Command that returns the staged or active value of a field, with the generation and the number of pending commits. -/
  | cfgRead (p : Packet)
  /-- CFG_VALIDATE (R54): Command that runs every admission check of a prospective commit without accepting it. -/
  | cfgValidate (p : Packet)
  /-- CFG_COMMIT (R57): Command that validates, copies and distributes commit content for target epoch T, or completes with LATE. -/
  | cfgCommit (p : Packet)
  /-- CFG_COMMIT_GROUP (R65): CFG_COMMIT with the GROUP flag: the master validates and sends PREPARE to every member. -/
  | cfgCommitGroup (p : Packet)
  /-- CFG_ABORT (R61): Command that removes one or all pending commits before their tokens form, optionally discarding dirty staged values. -/
  | cfgAbort (p : Packet)
  /-- CLK_SET (R70): Command that computes a divider set for a requested frequency and writes it into the staged base. -/
  | clkSet (p : Packet)
  /-- CLK_STATUS (R71): Command that returns the clock status word and clears the selected W1C bits. -/
  | clkStatus (p : Packet)
  /-- LO_RAMP_LOAD (R80): Command that writes a ramp profile of segments into a ramp store. -/
  | loRampLoad (p : Packet)
  /-- CAL_RUN (R116): Command that starts calibration passes on the selected channels, optionally waiting for their end. -/
  | calRun (p : Packet)
  /-- CAL_READ (R112): Command that writes the code set in use or pending to memory and returns the channel status word. -/
  | calRead (p : Packet)
  /-- CAL_WRITE (R113): Command that checks a code set, abandons any running pass and schedules the set hand-over. -/
  | calWrite (p : Packet)
  /-- MASK_LOAD (R186): Command that writes 2,048 mask columns into a mask store. -/
  | maskLoad (p : Packet)
  /-- WINDOW_LOAD (R156): Command that writes a user window table and returns its sum, CG and ENBW. -/
  | windowLoad (p : Packet)
  /-- DISARM (R213): TRIG_ARM op DISARM: evaluation stops at the acting instant, windows close and timers stop. -/
  | disarm (p : Packet)
  /-- ARM (R213): TRIG_ARM op ARM: the disarmed sequencer enters the given state at the acting instant. -/
  | arm (p : Packet)
  /-- REARM (R213): TRIG_ARM op REARM: the sequencer enters the given state whether or not it is armed. -/
  | rearm (p : Packet)
  /-- TRIG_ARM_AT_SAMPLE (R213): A TRIG_ARM waiting for its at_sample reaches that instant and acts. -/
  | trigArmAtSample
  /-- TRIG_FORCE (R214): Command that makes source 47 pulse at the first unevaluated instant or at at_sample. -/
  | trigForce (p : Packet)
  /-- TRIG_STATUS (R215): Command that returns the sequencer status word, E, counters and dropped actions. -/
  | trigStatus (p : Packet)
  /-- TIU_RUN (R230): Command that starts an interval measurement run after calibrating the named inputs. -/
  | tiuRun (p : Packet)
  /-- TIU_RUN_ABORT (R233): TIU_RUN with ABORT: ends the active run, which completes with ABORTED. -/
  | tiuRunAbort (p : Packet)
  /-- YARD_ALLOC (R266): Command that allocates a Yard buffer and returns its handle and address. -/
  | yardAlloc (p : Packet)
  /-- YARD_FREE (R267): Command that frees a Yard buffer at once, completes with BUSY, or defers until the buffer retires. -/
  | yardFree (p : Packet)
  /-- DISP_COMMIT (R265): Command that updates the committed plane state of the display layers. -/
  | dispCommit (p : Packet)
  /-- PALETTE_LOAD (R254): Command that writes 256 YCbCr entries into a palette store. -/
  | paletteLoad (p : Packet)
  /-- STREAM_OPEN (R286): STREAM_OPEN op OPEN: allocates the ring of a stream and resets its offsets and counters. -/
  | streamOpen (p : Packet)
  /-- STREAM_CLOSE (R286): STREAM_OPEN op CLOSE: closes a disabled stream, deferred while the recorder still reads the ring. -/
  | streamClose (p : Packet)
  /-- STREAM_RESUME (R297): STREAM_OPEN op RESUME: writes a cause 0x0A GAP record and ends the halt of a stream. -/
  | streamResume (p : Packet)
  /-- STREAM_ACK (R293): Command in which the host acknowledges records of a stream, returning ring space. -/
  | streamAck (p : Packet)
  /-- XFER_START (R322): XFER_KICK op START: an IDLE or HALTED channel begins a chain at the named descriptor. -/
  | xferStart (p : Packet)
  /-- XFER_RESUME (R322): XFER_KICK op RESUME: a halted channel continues at next, or a WAIT_OWN channel refetches its descriptor. -/
  | xferResume (p : Packet)
  /-- XFER_STOP (R322): XFER_KICK op STOP: completes when the current descriptor has completed and the channel is IDLE. -/
  | xferStop (p : Packet)
  /-- XFER_ABORT (R322): XFER_KICK op ABORT: no further burst; the descriptor completes ABORTED once bursts in flight complete. -/
  | xferAbort (p : Packet)
  /-- VOL_CREATE (R330): VOL_CREATE op CREATE: writes superblocks and an empty journal to every drive and mounts the volume. -/
  | volCreate (p : Packet)
  /-- VOL_MOUNT (R330): VOL_CREATE op MOUNT: reads the superblocks, replays the journal and recovers open recordings. -/
  | volMount (p : Packet)
  /-- VOL_UNMOUNT (R330): VOL_CREATE op UNMOUNT: flushes, writes the journal and clears DIRTY. -/
  | volUnmount (p : Packet)
  /-- REC_START (R331): Command that starts recording a stream to a volume, at once or at the EPOCH record of target epoch T. -/
  | recStart (p : Packet)
  /-- REC_STOP (R334): Command that ends a recording at W or at the EPOCH record of target epoch T, and writes CLOSE. -/
  | recStop (p : Packet)
  /-- PLAY (R336): Command that plays a recording back into a target stream without dropping records. -/
  | play (p : Packet)
  /-- REC_DELETE (R335): Command that deletes a recording that is neither running nor being played, and frees its units. -/
  | recDelete (p : Packet)
  /-- SEG_DEFINE (R353): SEG_WRITE op DEFINE: makes a segment name a range of entries. -/
  | segDefine (p : Packet)
  /-- SEG_COPY (R353): SEG_WRITE op COPY: writes entries from memory into the range, then defines the segment. -/
  | segCopy (p : Packet)
  /-- SEG_CLEAR (R353): SEG_WRITE op CLEAR: makes a segment undefined. -/
  | segClear (p : Packet)
  /-- SEQ_LOAD (R357): Command that writes steps into a sequence store of a generator. -/
  | seqLoad (p : Packet)
  /-- GEN_JUMP (R362): GEN_JUMP op JUMP: places a pending jump request for the next decision. -/
  | genJump (p : Packet)
  /-- GEN_START (R362): GEN_JUMP op START: a STOPPED generator is scheduled to enter a step at boundary s. -/
  | genStart (p : Packet)
  /-- GEN_STOP (R362): GEN_JUMP op STOP: places a STOP that takes effect at the next decided boundary. -/
  | genStop (p : Packet)
  /-- GEN_STATUS (R368): GEN_JUMP op STATUS: returns the generator status word and clears the selected W1C bits. -/
  | genStatus (p : Packet)
  /-- KERNEL_LOAD (R408): Command that checks a kernel image, zeroes the core RAMs and loads the sections, optionally starting the cores. -/
  | kernelLoad (p : Packet)
  /-- KERNEL_BIND (R394): KERNEL_RUN op BIND: connects a source to a core port after admission checks. -/
  | kernelBind (p : Packet)
  /-- KERNEL_UNBIND (R409): KERNEL_RUN op UNBIND: stops new batches and completes when the core has released the batches of the binding. -/
  | kernelUnbind (p : Packet)
  /-- KERNEL_START (R409): KERNEL_RUN op START: zeroes the core registers and runs from the entry address. -/
  | kernelStart (p : Packet)
  /-- KERNEL_STOP (R409): KERNEL_RUN op STOP: stops issue, completes outstanding xfer and bput, and the core becomes STOPPED. -/
  | kernelStop (p : Packet)
  /-- KERNEL_STATUS (R409): KERNEL_RUN op STATUS: returns the core status word and the state of the bound ports. -/
  | kernelStatus (p : Packet)
  /-- GROUP_FORM (R491): GROUP_FORM op FORM: forms a group of the listed devices within 10 ms. -/
  | groupForm (p : Packet)
  /-- GROUP_LEAVE (R491): GROUP_FORM op LEAVE: removes the executing device from its group. -/
  | groupLeave (p : Packet)
  /-- GROUP_STATUS (R491): GROUP_FORM op STATUS: reports the members, reachability, diameter and port neighbours. -/
  | groupStatus (p : Packet)
  /-- GROUP_SYNC (R494): Command that checks, arms and synchronises every member and measures skew and bus transit. -/
  | groupSync (p : Packet)
  /-- PAIR_FORM (R500): PAIR_FORM op FORM: checks the pair and copies the primary configuration to the shadow for token T. -/
  | pairForm (p : Packet)
  /-- PAIR_DISSOLVE (R500): PAIR_FORM op DISSOLVE: ends the pair at once, optionally unmuting the former shadow. -/
  | pairDissolve (p : Packet)
  /-- PAIR_STATUS (R500): PAIR_FORM op STATUS: returns the pair status word. -/
  | pairStatus (p : Packet)
  /-- PAIR_TAKEOVER (R509): Command that schedules a planned role swap of a pair at epoch T. -/
  | pairTakeover (p : Packet)
  /-- FAULT_ACK (R587): Command that empties a first-error record if its first_time matches. -/
  | faultAck (p : Packet)
  /-- FAULT_READ_RECORDS (R586): FAULT_READ op RECORDS: returns the three first-error records, log_lost and the waiting count. -/
  | faultReadRecords (p : Packet)
  /-- FAULT_READ_LOG (R586): FAULT_READ op LOG: copies log entries to memory and advances the read index. -/
  | faultReadLog (p : Packet)
  /-- FAULT_READ_LIVE (R586): FAULT_READ op LIVE: writes the live bits of all sources to memory. -/
  | faultReadLive (p : Packet)
  /-- FAULT_READ_EVENTS (R586): FAULT_READ op EVENTS: writes and clears the event pending bits. -/
  | faultReadEvents (p : Packet)
  /-- EVENT_MAP (R590): Command that sets the delivery mode, target, alert and code mask of one event source. -/
  | eventMap (p : Packet)
  /-- FAULT_DUMP (R588): Command that writes records, log state, stall occupancies and CP state to memory. -/
  | faultDump (p : Packet)
  /-- AUTH_CHALLENGE (R554): Command that returns a 48-byte nonce for an operator, unless authentication is locked out. -/
  | authChallenge (p : Packet)
  /-- AUTH_RESPONSE (R554): Command that verifies the operator signature and grants the role to the queue. -/
  | authResponse (p : Packet)
  /-- AUTH_END (R555): Command that ends the session of the queue. -/
  | authEnd (p : Packet)
  /-- KEY_GENERATE (R559): KEY_WRAP op GENERATE: fills an empty key slot from the DRBG. -/
  | keyGenerate (p : Packet)
  /-- KEY_IMPORT (R559): KEY_WRAP op IMPORT: unwraps a blob into an empty slot. -/
  | keyImport (p : Packet)
  /-- KEY_EXPORT (R559): KEY_WRAP op EXPORT: writes the key of a slot, wrapped under another slot, to memory. -/
  | keyExport (p : Packet)
  /-- KEY_DESTROY (R559): KEY_WRAP op DESTROY: empties a key slot. -/
  | keyDestroy (p : Packet)
  /-- KEY_WRAP_STATUS (R559): KEY_WRAP op STATUS: returns the loaded slots. -/
  | keyWrapStatus (p : Packet)
  /-- ZEROIZE (R563): Command that zeroises slots, volume keys, DRBG state and sessions. -/
  | zeroize (p : Packet)
  /-- ZEROIZE_PERMANENT (R563): ZEROIZE with PERMANENT: also blows the KILL fuses, so every later boot fails. -/
  | zeroizePermanent (p : Packet)
  /-- SELF_TEST (R561): Command that runs the selected known-answer, entropy and digest tests. -/
  | selfTest (p : Packet)
  /-- IMAGE_UPDATE_WRITE (R552): IMAGE_UPDATE op WRITE: verifies an image, writes it to the non-running slot and rewrites the boot record. -/
  | imageUpdateWrite (p : Packet)
  /-- COMMIT_VERSION (R552): IMAGE_UPDATE op COMMIT_VERSION: blows ARB bits up to the running security_version. -/
  | commitVersion (p : Packet)
  /-- IMAGE_UPDATE_STATUS (R552): IMAGE_UPDATE op STATUS: returns the fused version, boot slot and slot versions. -/
  | imageUpdateStatus (p : Packet)
  /-- TELE_READ (R538): Command that samples telemetry at once and writes the prefix and the selected sections. -/
  | teleRead (p : Packet)
  /-- POWER_CAP (R533): Command that sets the power cap. -/
  | powerCap (p : Packet)
  /-- ENABLE (R425): Host sets DEV_CONTROL ENABLE: admin queues are created, or ENABLE_ERROR is set. -/
  | enable
  /-- ENABLE_CLEAR (R425): Host clears ENABLE: fetching stops, commands finish without entries and all queues are deleted. -/
  | enableClear
  /-- SQ_TAIL_DOORBELL (R429): Host writes a submission queue tail doorbell, which is checked and taken or ignored with DB_ERROR. -/
  | sqTailDoorbell (q : Fin 64) (v : Nat)
  /-- CQ_HEAD_DOORBELL (R429): Host writes a completion queue head doorbell, releasing slots, or it is ignored with DB_ERROR. -/
  | cqHeadDoorbell (q : Fin 64) (v : Nat)
  /-- FETCH_ERROR_CLEAR (R423): Host clears FETCH_ERROR in SQ_STATUS, which resumes fetching at HEAD. -/
  | fetchErrorClear (q : Fin 64)
  /-- WRITE_ERROR_CLEAR (R424): Host clears WRITE_ERROR in CQ_STATUS, which resumes entry writes. -/
  | writeErrorClear (q : Fin 64)
  /-- BOOT_PUSH (R547): Host writes 0x1 to BOOT_PUSH in WAIT_IMAGE, handing the pushed image to Paddock for verification. -/
  | bootPush (v : BitVec 32) (ok : Bool)
  /-- REGISTER_WRITE (R418): Host write to a BAR0 register without behaviour of its own, such as SCRATCH, BAR4_WINDOW or the admin queue registers. -/
  | registerWrite (off : Nat) (size8 : Bool) (v : Nat)
  /-- MSIX_UNMASK (R454): A vector is unmasked or MSI-X is enabled while its PBA bit is set, and the pending message is sent. -/
  | msixUnmask (vector : Fin 256)
  /-- FUNCTION_LEVEL_RESET (R425): A Function Level Reset acts as a clear of ENABLE and resets BAR4_WINDOW and the MSI-X table. -/
  | functionLevelReset
  /-- CONFIG_REQUEST (R531): PCIe configuration request, answered with Configuration Request Retry Status until step 4 of start-up ends. -/
  | configRequest (r : ConfigReq)
  /-- BAR2_WRITE (R419): Host write TLP to Loft through BAR2, applied only in the writable region, with discards counted. -/
  | bar2Write (off : Nat) (bytes : List Byte)
  /-- BAR2_READ (R419): Host read TLP of Loft through BAR2, returning zero outside the readable regions and poison for bad words. -/
  | bar2Read (off : Nat) (len : Nat)
  /-- BAR4_WRITE (R420): Host write TLP to the Yard window, discarded beyond populated memory. -/
  | bar4Write (off : Nat) (bytes : List Byte)
  /-- BAR4_READ (R420): Host read TLP of the Yard window, reading zero beyond populated memory. -/
  | bar4Read (off : Nat) (len : Nat)
  /-- COMMAND_FETCH (R436): The CP fetches a submission entry, checks it and accepts it or completes it with an error status. -/
  | commandFetch (ok : Bool)
  /-- COMPLETION_WRITE (R431): A waiting completion or event entry is written once a released slot exists. -/
  | completionWrite (q : Fin 64) (ok : Bool)
  /-- COALESCE_TIMEOUT (R454): co_us expires after the first unsignalled entry and the completion queue signals its vector. -/
  | coalesceTimeout (q : Fin 64)
  /-- SPI_READ (R457): Management SPI READ instruction returning data from the SPI address space. -/
  | spiRead (addr : Nat) (n : Nat)
  /-- SPI_WRITE (R457): Management SPI WRITE instruction storing data into the SPI address space. -/
  | spiWrite (addr : Nat) (bytes : List Byte)
  /-- READ_STATUS (R457): Management SPI READ_STATUS instruction returning the mailbox and device status byte. -/
  | readStatus
  /-- MBOX_SUBMIT (R459): Writing 0x1 to MBOX_CONTROL submits the mailbox command, or answers it from the Drone while the CP does not run. -/
  | mboxSubmit
  /-- MACHINE_CHECK (R550): A control-store parity error reloads the microcode from Loft, checks the digest and restarts the CP. -/
  | machineCheck (addr : Fin 16384) (upset : Fin 148) (copies : List (Option (List (Nat × Byte)))) (fetched : List (Fin 64))
  /-- SAMPLE_DELIVERY (R95): The converter delivers a beat of 16 samples into stall 0x01, 1,184 sample periods after sampling. -/
  | sampleDelivery (ch : Fin 4) (codes : List (BitVec 12))
  /-- TOKEN_FORM (R24): At every epoch boundary an epoch token with the active generation enters stall 0x01. -/
  | tokenForm
  /-- TOKEN_ADOPT (R26): A token leaves a block's input stall: the block adopts its settings and forwards the token behind its last old output. -/
  | tokenAdopt (b : TokenBlock) (upTo : Nat)
  /-- BAND_SEARCH_DONE (R72): The automatic band search selects a VCO core and band and the loop closes. -/
  | bandSearchDone (syn : Synth) (found : FoundBand) (periods : Nat)
  /-- LOCK_DETECT (R72): Lock detection holds for 64 PFD periods, the output is released and the relock completes. -/
  | lockDetect (syn : Synth)
  /-- RELOCK_TIMEOUT (R74): A relock misses its 1.5 ms bound: LOCK_FAIL, CONTAINED fault and one repeat. -/
  | relockTimeout (syn : Synth)
  /-- LOSS_OF_LOCK (R78): A synthesiser loses lock while REFIN is present: the unlock bit and PHASE_UNVERIFIED are set and an event is raised. -/
  | lossOfLock (syn : Synth)
  /-- REFERENCE_LOST (R78): REFIN is lost: REF_LOST and HOLDOVER are set and both synthesisers coast. -/
  | referenceLost (hz : Option Nat := none)
  /-- REFERENCE_QUALIFIED (R79): REFIN meets its conditions for 100 µs: holdover ends and phase slewing starts. -/
  | referenceQualified (hz : Nat := 100000000)
  /-- SLEW_COMPLETE (R79): The slewed phase error enters the lock window and SLEWING clears. -/
  | slewComplete
  /-- RAMP_STEP (R81): The ramp generator adds delta to the feedback word after an interval, moving through segments. -/
  | rampStep (crossing : Option (Nat × Nat))
  /-- BAND_CROSSING_MUTE_END (R81): The VCO band change completes and LO_OUT resumes at the current profile point. -/
  | bandCrossingMuteEnd
  /-- DRONE_FALLBACK (R83): XTAL32 gives no edge for 1 ms and the Drone clock switches to the RC oscillator. -/
  | droneFallback
  /-- SYSTEM_CLOCK_FAILURE (R84): The system PLL loses lock and the FATAL fault is raised. -/
  | systemClockFailure
  /-- TEMPERATURE_SAMPLE (R98): Every 10 ms the converter temperature is sampled and a pass may start. -/
  | temperatureSample (ch : Fin 4) (t : Int)
  /-- CALIBRATION_STEP_END (R101): A calibration step collects 64 qualifying blocks and updates the slice codes. -/
  | calibrationStepEnd (work : SliceOf) (blocks : List CalSums)
  /-- CALIBRATION_RUN_END (R102): The second run of a slice ends and the two runs are compared for agreement. -/
  | calibrationRunEnd (work : SliceOf)
  /-- VERIFICATION_END (R103): A spare is verified against the active slice over 2^16 instants, passing or failing. -/
  | verificationEnd (work : SliceOf) (sums : VerifySums)
  /-- HAND_OVER (R104): At the hand-over instant the position is taken over by the spare and the old slice begins shadowing. -/
  | handOver (work : SliceOf)
  /-- RUN_TIMEOUT (R106): A calibration run exceeds 2^29 sample periods and the pass ends incomplete. -/
  | runTimeout (work : SliceOf)
  /-- CALIBRATION_RETRY (R106): cal_retry_ms after an incomplete pass the starting condition still holds and a new pass starts. -/
  | calibrationRetry (ch : Fin 4)
  /-- HEALTH_CHECK (R107): The health monitor tests an active position against the ensemble limits and marks suspect slices. -/
  | healthCheck (ch : Fin 4) (pos : Fin 64) (sums : HealthSums)
  /-- SET_HAND_OVER (R113): At the set hand-over instant a CAL_WRITE code set is applied and CAL_WRITE completes. -/
  | setHandOver (ch : Fin 4)
  /-- LANE_SAMPLE (R128): A lane computes a decimated complex sample and writes it to its history buffer and output stalls. -/
  | laneSample (ch : Fin 4) (lane : Fin 5)
  /-- FRAME_COMPUTE (R168): The spectral engine transforms a complete frame and delivers the spectrum, trace and bins. -/
  | frameCompute (ch : Fin 4) (slot : Fin 4)
  /-- ENVELOPE_EVALUATE (R182): An envelope unit evaluates a lane sample from stall 0x03 and reports changes with their instants. -/
  | envelopeEvaluate (unit : Fin 16)
  /-- FREQUENCY_UNIT_EVALUATE (R185): A frequency unit evaluates a spectrum from stall 0x06. -/
  | frequencyUnitEvaluate (unit : Fin 8)
  /-- SEQUENCER_EVALUATE (R197): The sequencer evaluates an instant when the converter samples t + horizon. -/
  | sequencerEvaluate
  /-- FAST_EVENT (R200): In fast mode the sequencer evaluates an arriving event at its carried instant. -/
  | fastEvent
  /-- TIMER_EXPIRY (R190): Timer TM0 or TM1 reaches its limit and its source pulses. -/
  | timerExpiry (tm : Fin 2)
  /-- TRANSITION_TIMER (R193): A transition timer reaches E + limit, ending the within period or producing the after edge. -/
  | transitionTimer (t : Fin 4)
  /-- TRIG_OUT_PULSE_END (R202): A TRIG_OUT pulse has lasted its width and is released. -/
  | trigOutPulseEnd (o : Fin 4)
  /-- WINDOW_AUTO_CLOSE (R206): A record window reaches t + post_len and closes. -/
  | windowAutoClose (w : Nat)
  /-- ACTION_ARRIVAL (R622): A window action from stall 0x09 reaches the record path, possibly late with a cause 0x0D GAP. -/
  | actionArrival
  /-- STAMP_DECIDE (R622): The record path decides a stamp once the lane has advanced by L, emitting it or not. -/
  | stampDecide (ch : Fin 4) (lane : Fin 5)
  /-- MEASUREMENT_COMPLETE (R212): The engine has read the last measured sample and emits a MEASUREMENT record. -/
  | measurementComplete (w : Nat)
  /-- JUMP_REQUEST_ARRIVAL (R360): A GEN_JUMP action reaches a generator and becomes the pending request. -/
  | jumpRequestArrival (gen : Fin 2)
  /-- BUS_LINE_RELEASE (R496): A trigger-bus line reaches t + bus_delay + bus_hold and falls. -/
  | busLineRelease (line : Fin 8)
  /-- EDGE_STAMP (R224): An edge on a stamping input is stamped, converted and passed to the run and the sequencer. -/
  | edgeStamp (input : Fin 6) (rising : Bool) (interp : Fin 2) (stamp : RawStamp)
  /-- INDEX_TICK (R228): The converters emit an index tick every 1,024 sample indices, and the unit stamps it. -/
  | indexTick (stamp : TickStamp)
  /-- INTERPOLATOR_CALIBRATION (R226): Periodic calibration of the interpolators of the stamping inputs every recal_ms. -/
  | interpolatorCalibration (input : Fin 6) (interp : Fin 2) (sum1 : Nat) (sum2 : Nat)
  /-- RUN_CALIBRATION_COMPLETE (R226): The calibration at run start completes and the run begins accepting edges. -/
  | runCalibrationComplete
  /-- PENDING_START_EXPIRY (R232): A pending start's window end passes without a stop and it is counted unmatched. -/
  | pendingStartExpiry
  /-- TIU_TIMEOUT (R233): The run timeout expires and the run ends with TIMEOUT. -/
  | tiuTimeout
  /-- SPECTRUM_INTAKE (R242): A density map takes a spectrum from stall 0x07 and increments one cell per bin. -/
  | spectrumIntake (map : Fin 8)
  /-- DRAIN_COMPLETE (R246): The drain has written every completed cell, and a deferred frame end takes effect. -/
  | drainComplete (map : Fin 8)
  /-- COLOUR_FRAME_COMPLETE (R256): The colouriser writes the last byte of a colour frame into a slot. -/
  | colourFrameComplete (map : Fin 8)
  /-- LATCH_INSTANT (R263): At the first blanking line the committed planes and newest colour frame are latched and disp fields swap. -/
  | latchInstant
  /-- DISPLAY_FRAME_START (R263): At the first active line the latched state becomes the active state. -/
  | displayFrameStart (lines : Nat := 0)
  /-- LINE_FETCH (R259): Scan-out fetches a line from the Yard; late data is sent as bg and counted as underflow. -/
  | lineFetch (line : Nat) (late : List (Nat × Nat))
  /-- HOT_PLUG (R262): HPD on a DisplayPort port: the port reads DPCD and EDID and trains. -/
  | hotPlug (port : Fin 2) (sink : SinkCaps)
  /-- UNPLUG (R262): HPD falls on a DisplayPort port. -/
  | unplug (port : Fin 2)
  /-- LINK_TRAINED (R262): DisplayPort link training completes, or the port sends idle patterns when the link is insufficient. -/
  | linkTrained (port : Fin 2) (lanes : Nat) (rate : Nat)
  /-- LINK_LOST (R262): A trained DisplayPort link is lost. -/
  | linkLost (port : Fin 2)
  /-- RECORD_ARRIVAL (R296): A record reaches the stream gatherer and is written or dropped under the stream policy. -/
  | recordArrival (stream : Fin 256)
  /-- RING_WRITE_COMPLETE (R290): Every byte of a record is in the Yard and W advances past it. -/
  | ringWriteComplete (stream : Fin 256)
  /-- EPOCH_RECORD_WRITE (R300): Token B has arrived from every subscribed source and the EPOCH record is written. -/
  | epochRecordWrite (stream : Fin 256)
  /-- STATE_BLOCK_WRITE (R292): The stream state block is mirrored to host memory, at most every 256 fabric cycles. -/
  | stateBlockWrite (stream : Fin 256)
  /-- DESCRIPTOR_FETCH (R307): A channel fetches or prefetches a descriptor and runs it or enters WAIT_OWN. -/
  | descriptorFetch (ch : Fin 64)
  /-- OWN_POLL (R307): poll_us expires in WAIT_OWN and the channel fetches the descriptor again. -/
  | ownPoll (ch : Fin 64)
  /-- BURST_ISSUE (R319): A channel wins arbitration and issues a burst when its request line allows. -/
  | burstIssue (ch : Fin 64)
  /-- BURST_COMPLETE (R320): A burst in flight completes or fails. -/
  | burstComplete (ch : Fin 64) (how : BurstEnd)
  /-- DESCRIPTOR_COMPLETE (R315): Completion writes status, CRC and bytes_done, clears OWN and raises the event if IRQ is set. -/
  | descriptorComplete (ch : Fin 64)
  /-- REQUEST_LINE_TIMEOUT (R319): The request line stays deasserted for req_timeout_us and the descriptor completes with TIMEOUT. -/
  | requestLineTimeout (ch : Fin 64)
  /-- UNIT_WRITE_COMPLETE (R332): A full unit has been written to its drive and rec_offset advances. -/
  | unitWriteComplete (rec : Nat)
  /-- CHECKPOINT (R333): Every checkpoint_ms the recorder flushes each drive and writes CHECKPOINT entries. -/
  | checkpoint
  /-- SMART_POLL (R340): Every 60 s the SMART log of each drive is read and worn drives are retired. -/
  | smartPoll (port : Fin 8) (percent : Nat) (critical : Nat)
  /-- DEALLOCATION_BATCH (R340): Once per second per drive a batch of freed units is deallocated. -/
  | deallocationBatch (port : Fin 8)
  /-- NVME_COMPLETION (R339): An NVMe command completes; a failure is retried once or fails the drive. -/
  | nvmeCompletion (port : Fin 8) (ok : Bool)
  /-- NVME_COMMAND_TIMEOUT (R339): No completion within cmd_timeout_ms and the drive fails. -/
  | nvmeCommandTimeout (port : Fin 8)
  /-- DRIVE_LINK_DOWN (R339): A storage port link goes down or CSTS.CFS is set, and the drive fails. -/
  | driveLinkDown (port : Fin 8)
  /-- PLAYBACK_READ (R336): A playback read returns data and records are written into the target ring when space allows. -/
  | playbackRead (ok : Bool) (authOk : Bool)
  /-- DECISION_POINT (R359): At b − 512 the generator decides STOP, the pending jump, the next play or an idle granule. -/
  | decisionPoint (gen : Fin 2)
  /-- SEGMENT_BOUNDARY (R358): A segment or idle granule ends, the chosen segment starts and gen fields swap. -/
  | segmentBoundary (gen : Fin 2)
  /-- START_BOUNDARY (R362): A started generator reaches boundary s and enters its step. -/
  | startBoundary (gen : Fin 2)
  /-- MARKER_PULSE_END (R351): A PULSE marker goes low mk_width samples after it rose. -/
  | markerPulseEnd (gen : Fin 2) (m : Fin 4)
  /-- ENTRY_MEMORY_WRITE (R354): A write to generator entry memory is accepted, or discarded as a locked write. -/
  | entryMemoryWrite (gen : Fin 2) (entry : Nat) (value : BitVec 128)
  /-- REED_NOP (R384): Reed instruction nop. -/
  | reedNop (core : Fin 32)
  /-- VSTEP (R393): Reed instruction that increments the vector ring offset. -/
  | vstep (core : Fin 32)
  /-- VMAC (R384): Reed instruction: lane-wise multiply-accumulate. -/
  | vmac (core : Fin 32)
  /-- VMUL (R384): Reed instruction: lane-wise multiply into an accumulator. -/
  | vmul (core : Fin 32)
  /-- VMACB (R384): Reed instruction: multiply-accumulate with a broadcast lane. -/
  | vmacb (core : Fin 32)
  /-- VCMAC (R384): Reed instruction: complex multiply-accumulate. -/
  | vcmac (core : Fin 32)
  /-- VCMUL (R384): Reed instruction: complex multiply. -/
  | vcmul (core : Fin 32)
  /-- VPWR (R384): Reed instruction: accumulate complex power. -/
  | vpwr (core : Fin 32)
  /-- ACCCLR (R384): Reed instruction: clear an accumulator. -/
  | accclr (core : Fin 32)
  /-- ACCADD (R384): Reed instruction: add one accumulator to another. -/
  | accadd (core : Fin 32)
  /-- ACCSUM (R384): Reed instruction: sum the lanes of an accumulator. -/
  | accsum (core : Fin 32)
  /-- VRND (R379): Reed instruction: convergent round and saturate an accumulator into a vector. -/
  | vrnd (core : Fin 32)
  /-- VADD (R384): Reed instruction: saturating vector add. -/
  | vadd (core : Fin 32)
  /-- VSUB (R384): Reed instruction: saturating vector subtract. -/
  | vsub (core : Fin 32)
  /-- VMAX (R384): Reed instruction: lane-wise maximum. -/
  | vmax (core : Fin 32)
  /-- VMIN (R384): Reed instruction: lane-wise minimum. -/
  | vmin (core : Fin 32)
  /-- VSHR (R379): Reed instruction: convergent shift right with saturation. -/
  | vshr (core : Fin 32)
  /-- VSHL (R384): Reed instruction: saturating shift left. -/
  | vshl (core : Fin 32)
  /-- VALIGN (R384): Reed instruction: extract eight lanes from two concatenated vectors. -/
  | valign (core : Fin 32)
  /-- VMOV (R384): Reed instruction: copy a vector. -/
  | vmov (core : Fin 32)
  /-- VBCAST (R384): Reed instruction: broadcast a lane. -/
  | vbcast (core : Fin 32)
  /-- VCONJ (R384): Reed instruction: complex conjugate. -/
  | vconj (core : Fin 32)
  /-- SETA (R385): Reed instruction: set an address register. -/
  | seta (core : Fin 32)
  /-- SETM (R385): Reed instruction: set a modifier register. -/
  | setm (core : Fin 32)
  /-- ADDA (R380): Reed instruction: add to an address register with circular wrap. -/
  | adda (core : Fin 32)
  /-- LDA (R385): Reed instruction: load an address register from Y RAM. -/
  | lda (core : Fin 32)
  /-- LOOP (R391): Reed instruction: push a hardware loop level. -/
  | loop (core : Fin 32)
  /-- BR (R385): Reed instruction: conditional branch. -/
  | br (core : Fin 32)
  /-- BGET (R399): Reed instruction: release the held batch of a port and wait for the next. -/
  | bget (core : Fin 32)
  /-- BPUT (R403): Reed instruction: emit an output block as a KERNEL_OUT record. -/
  | bput (core : Fin 32)
  /-- EVT (R404): Reed instruction: raise a Reed event source with an instant. -/
  | evt (core : Fin 32)
  /-- SIG (R405): Reed instruction: set or clear the output request of the current binding. -/
  | sig (core : Fin 32)
  /-- XFER (R406): Reed instruction: start a window transfer. -/
  | xfer (core : Fin 32)
  /-- XWAIT (R385): Reed instruction: wait until every xfer of the core has completed. -/
  | xwait (core : Fin 32)
  /-- STOP (R385): Reed instruction: the core enters STOPPED and raises kernel stopped. -/
  | stop (core : Fin 32)
  /-- BATCH_DELIVERY (R399): The batch engine copies a complete batch into a released buffer, returning a waiting bget, or drops it. -/
  | batchDelivery (binding : Fin 128)
  /-- WINDOW_TRANSFER_COMPLETE (R406): An xfer of a core completes, releasing a waiting xwait. -/
  | windowTransferComplete (core : Fin 32)
  /-- WATCHDOG (R410): wdog cycles pass without a bget returning and the core takes a watchdog exception. -/
  | watchdog (core : Fin 32)
  /-- YARD_REQUEST (R466): A channel scheduler issues the highest-class ready request to the DRAM. -/
  | yardRequest (ch : Fin 12) (arriving : List YardReq) (err : BurstError)
  /-- AGE_PROMOTION (R466): A background request waits beyond its class age limit and is promoted once. -/
  | agePromotion (ch : Fin 12) (idx : Nat)
  /-- REFRESH (R472): tREFI expires and an all-bank refresh is issued to a rank. -/
  | refresh (ch : Fin 12) (rank : Nat)
  /-- MR4_POLL (R472): Every 1 ms MR4 is read and the refresh mode and over-temperature throttle are updated. -/
  | mr4Poll (ch : Fin 12) (m : Mr4)
  /-- PATROL_SCRUB_READ (R471): The patrol scrub reads a line and writes back corrected data or reports an uncorrectable error. -/
  | patrolScrubRead (ch : Fin 12) (err : BurstError) (written : Bool)
  /-- CORRECTABLE_ERROR_HOUR (R469): An hour of device time ends and the per-channel corrected-error count restarts. -/
  | correctableErrorHour
  /-- ALERT_N (R474): ALERT_n asserts on a subchannel and the controller replays commands from its buffer. -/
  | alertN (ch : Fin 12) (sub : Fin 2)
  /-- REPLAY_COMPLETE (R474): A replay finishes, THROTTLED clears and the fault is counted. -/
  | replayComplete (ch : Fin 12) (sub : Fin 2)
  /-- LOFT_SCRUB_ACCESS (R38): Loft scrub reads a word of a bank and writes it back unless a foreground write intervened. -/
  | loftScrubAccess (bank : Fin 512) (ecc : Ecc) (use : BankUse)
  /-- PORT_TERMINATION_DETECT (R485): A Shunis receiver detects a far-end termination, testing every 100 ms, and training starts. -/
  | portTerminationDetect (port : Fin 4)
  /-- PORT_TRAINING_COMPLETE (R485): A Shunis port finishes training and exchanges identities, or stays down on a version mismatch. -/
  | portTrainingComplete (port : Fin 4) (trained : BitVec 4) (id : Fin 8) (serial : Nat) (version : Nat)
  /-- LINK_FRAME_RECEIVE (R487): A link frame is received, checked, acknowledged or discarded with a NAK. -/
  | linkFrameReceive (port : Fin 4) (frame : ArrivedFrame)
  /-- NAK (R487): A NAK is received and the transmitter resends the unacknowledged frames. -/
  | nak (port : Fin 4) (ack : Nat)
  /-- SHUNIS_LINK_DOWN (R485): A Shunis port goes down, after a replay limit or lost link, and routes are recomputed. -/
  | shunisLinkDown (port : Fin 4)
  /-- BUS_ASSERT (R497): A BUS_ASSERT message arrives and asserts bus lines from t + bus_delay, or is late. -/
  | busAssert (src : Fin 8) (mask : BitVec 8) (instant : Nat) (emit : Nat)
  /-- PING (R494): A PING arrives and its transit is recorded. -/
  | ping (src : Fin 8) (emit : Nat)
  /-- PONG (R488): A PONG arrives for transit measurement. -/
  | pong (src : Fin 8) (emit : Nat)
  /-- HEARTBEAT_SEND (R505): Every 10 µs a pair member sends a HEARTBEAT. -/
  | heartbeatSend
  /-- HEARTBEAT (R505): A HEARTBEAT from the pair peer arrives. -/
  | heartbeat (onPort3 : Bool) (index : Nat) (keySeq : Nat) (status : Nat)
  /-- HEARTBEAT_TIMEOUT (R505): No heartbeat for 200 µs: the shadow takes over, or the primary raises peer lost. -/
  | heartbeatTimeout
  /-- FATAL_NOTICE (R505): A FATAL_NOTICE from the primary arrives and the shadow takes over. -/
  | fatalNotice (source : Nat) (kind : Nat)
  /-- FENCE (R506): A FENCE arrives and the device raises pair fenced and enters the safe state. -/
  | fence
  /-- CMD (R498): A forwarded command arrives and the member executes it. -/
  | cmd (src : Fin 8) (q : Nat) (role : Nat) (p : Packet)
  /-- CPL (R434): The completion of a forwarded command arrives and is written on the issuing queue. -/
  | cpl (src : Fin 8) (tag : Nat) (status : Nat) (reply : List Byte)
  /-- PREPARE (R65): A group commit PREPARE arrives and the member validates and distributes it. -/
  | prepare (src : Fin 8) (epoch : Nat) (generation : BitVec 32) (content : List (Nat × Int)) (mask : BitVec 8)
  /-- ARMED (R65): An ARMED reply arrives at the master. -/
  | armed (src : Fin 8)
  /-- REFUSED (R65): A REFUSED reply arrives at the master. -/
  | refused (src : Fin 8) (status : Nat)
  /-- ABORT (R65): A group commit ABORT arrives and the member discards the commit. -/
  | abort (src : Fin 8)
  /-- APPLIED (R65): An APPLIED message arrives at the master. -/
  | applied (src : Fin 8)
  /-- ARM_DEADLINE (R65): The master reaches (T − 2) × 2^e and checks the replies, broadcasting ABORT if any member did not arm. -/
  | armDeadline
  /-- APPLIED_TIMEOUT (R65): The master reaches (T + 1) × 2^e without every APPLIED and completes with TIMEOUT. -/
  | appliedTimeout
  /-- FORM (R489): A FORM message arrives with group formation and neighbour information. -/
  | form (src : Fin 8) (m : FormMsg)
  /-- SYNC_CTL (R494): A GROUP_SYNC control message arrives. -/
  | syncCtl (src : Fin 8) (m : SyncCtl)
  /-- SYNC_PULSE (R494): 10 µs after the last ARMED the root drives the SYNC pulse. -/
  | syncPulse
  /-- SYNC (R493): SYNC_IN is taken at a REFIN edge: sample index 0, aborted commits, EPOCH and GAP records. -/
  | sync (capture : Int)
  /-- SYNC_CAPTURE_TIMEOUT (R494): A member has not reported its capture within 1 ms and GROUP_SYNC completes with TIMEOUT. -/
  | syncCaptureTimeout
  /-- EXTERNAL_SYNC_TIMEOUT (R494): With EXTERNAL no board edge arrives within 100 ms and every member disarms. -/
  | externalSyncTimeout
  /-- KEY_LOG (R503): A record key arrives at the shadow and a matching held record is written. -/
  | keyLog (k : RecKey)
  /-- KEY_MATCH_TIMEOUT (R503): A held record or key goes unmatched for pair_match_us and is dropped or replaced by a GAP. -/
  | keyMatchTimeout (stream : Fin 256)
  /-- ACK_MIRROR (R504): A mirrored STREAM_ACK or its confirmation arrives. -/
  | ackMirror (confirm : Bool) (tag : Nat) (stream : Fin 256) (seq : Nat) (offset : Nat)
  /-- CMD_MIRROR (R502): A mirrored command arrives at the shadow, or its acceptance confirmation at the primary. -/
  | cmdMirror (m : CmdMirrorMsg)
  /-- MEM_MIRROR (R502): Mirrored generator entry-memory writes arrive at the shadow. -/
  | memMirror (m : MemMirrorMsg)
  /-- PAIR_TAKEOVER_ACT (R509): At T × 2^e the old primary mutes and the shadow unmutes. -/
  | pairTakeoverAct
  /-- DOMAIN_POWER_UP (R518): A domain turned on by a commit becomes ready within 20 µs. -/
  | domainPowerUp (bit : Nat)
  /-- DOMAIN_POWER_DOWN (R519): A domain whose condition has been false for 1 ms powers down. -/
  | domainPowerDown (bit : Nat)
  /-- AVS_UPDATE (R529): Every 1 ms Bellows sets VDD_CORE from the path monitors. -/
  | avsUpdate (mv : Nat)
  /-- THROTTLE_EVALUATE (R534): Every 1 ms the measured power and temperature adjust the throttle level. -/
  | throttleEvaluate (power : Nat) (temp : Int)
  /-- POWER_CAP_UNREACHABLE (R534): The throttle level has been 7 for 100 ms while the power exceeds the cap. -/
  | powerCapUnreachable
  /-- OVER_TEMPERATURE (R535): A die sensor reaches 110 °C (FATAL) or 125 °C (thermal trip). -/
  | overTemperature (t : Int)
  /-- PMB_ALERT (R529): PMB_ALERT# falls and Bellows reads every managed rail's status. -/
  | pmbAlert (statuses : List Nat)
  /-- RAIL_GOOD (R527): A managed rail becomes good and the next rail starts 100 µs later. -/
  | railGood (reading : RailReading)
  /-- RAIL_TIMEOUT (R528): A rail is not good within 2 ms and the Drone records rail failure. -/
  | railTimeout (r : Nat)
  /-- TELEMETRY_SAMPLE (R536): Every tele_period_ms a TELEMETRY record is written into stream 255. -/
  | telemetrySample (r : Readings)
  /-- SLEEP_SAMPLE (R524): In SLEEP the Drone samples temperatures and power every 2^sleep_tele_log2 s. -/
  | sleepSample (r : Readings)
  /-- CP_CLOCK_STOP (R524): In SLEEP the CP clock stops after 100 µs without work. -/
  | cpClockStop
  /-- TIMED_WAKE (R525): Device time reaches the wake time and the device wakes. -/
  | timedWake
  /-- WAKE_TRIG (R525): A rising TRIG_IN0 edge in SLEEP with WAKE_TRIG wakes the device. -/
  | wakeTrig
  /-- POR_ASSERT (R532): POR# is asserted and every domain resets. -/
  | porAssert
  /-- POR_DEASSERT (R530): POR# deasserts and the device runs the start-up sequence toward READY. -/
  | porDeassert (b : Board)
  /-- VDD_AON_LOW (R601): VDD_AON falls below 0.68 V and acts as POR#. -/
  | vddAonLow
  /-- PERST_ASSERT (R532): PERST# is asserted, acting as a Function Level Reset after step 3. -/
  | perstAssert
  /-- ZEROIZE_PIN (R563): ZEROIZE# held low zeroises the module within 20 µs. -/
  | zeroizePin (ns : Nat)
  /-- FAULT_MESSAGE (R573): The collector accepts a fault message, logs it, captures or escalates it and reacts by class. -/
  | faultMessage (m : Option FaultMsg)
  /-- LIVE_BIT_TIMEOUT (R575): 1 ms after the last message of a single-occurrence kind its live bit falls. -/
  | liveBitTimeout (src : Nat) (kind : Nat)
  /-- REACTION_WINDOW_CLOSE (R582): A reaction window reaches window_us and closes. -/
  | reactionWindowClose (idx : Nat)
  /-- NONCE_EXPIRY (R554): An authentication nonce expires 10 s after issue. -/
  | nonceExpiry (q : Fin 576)
  /-- LOCKOUT_END (R554): auth_lockout_ms expires and AUTH_CHALLENGE is served again. -/
  | lockoutEnd
  /-- PERIODIC_SELF_TEST (R561): selftest_period_h expires and all three self-tests run. -/
  | periodicSelfTest (pass : BitVec 3)
  /-- TAP_INSTRUCTION (R564): A JTAG instruction is executed if the mode permits it, otherwise taken as BYPASS. -/
  | tapInstruction (t : TapInstr)
  /-- PERST_DEASSERT (R532): PERST# deasserts and the host link, held in reset, starts training. -/
  | perstDeassert
  /-- YARD_BRING_UP_COMPLETE (R530): Yard training and fill complete or exclude channels, streams 254 and 255 open and STATE becomes READY. -/
  | yardBringUpComplete (found : List (Option Dimm × Nat))
  /-- STORAGE_LINK_UP (R326): A storage port link finishes training and drive bring-up begins. -/
  | storageLinkUp (port : Fin 8) (d : DriveId)
  /-- OUTPUT_BLOCK_COMPLETE (R390): An outstanding bput finishes forming its KERNEL_OUT record, releasing a bput that waits while four are outstanding. -/
  | outputBlockComplete (core : Fin 32)
  /-- MARKER_CHANGE_POINT (R351): At DAC sample d0 + mk_offset of an entry the generator markers change or a pulse starts. -/
  | markerChangePoint (gen : Fin 2)
  /-- TRIG_FORCE_AT_SAMPLE (R214): A TRIG_FORCE waiting for its at_sample reaches that instant and source 47 pulses. -/
  | trigForceAtSample
  deriving DecidableEq, Repr

end Sys2Proof
end

