-- ==== Sys2Proof/Decode.lean ====
section
/-! DEFINITION. The command that a table word spells. The table of operations and events gives no row any bits, so no word
spells a command. -/

namespace Sys2Proof

/-- No row of opcode_table.json has bits: every word is refused. -/
def decodeTableWord (_nbits _w : Nat) : Option Instr := none

end Sys2Proof
end

