-- ==== Sys2Proof/Config.lean ====
section
/-! DEFINITION. Values that the spec leaves open, as constants without a body: nothing can be proved of their values. Each is
applied to the free-value counter of the state or to the operands it depends on; the log entries name the rule of each. -/

namespace Sys2Proof

/-- T_ref of a channel while it is undefined (R118). -/
opaque Config.undefinedTRef : Nat → Int

/-- Qualifier of the event pass started: R122 names a cause and gives no numbers; by the case of R98 that started it. -/
opaque Config.passCause : Nat → Nat

/-- Gain and timing corrections of a calibration step whose statistics give no logarithm or quotient (R101). -/
opaque Config.calCorrection : Nat → Int

/-- Coefficients of the decimation filters in units of 2^-62 (R126): taps 0 to 31 of the 63 of stage 0, and taps 0, 2, .. 20 of the 43
of a half-band stage. Both are symmetric; the centre tap of a half-band stage is one half and its other odd taps are zero. -/
structure LaneTaps where
  stage0 : List Int
  half : List Int

def LaneTaps.stage (t : LaneTaps) (j : Nat) : List Int :=
  if j == 0 then (List.range 63).map (fun n => t.stage0.getD (min n (62 - n)) 0)
  else (List.range 43).map (fun n => if n == 21 then 2 ^ 61 else if n % 2 == 0 then t.half.getD (min n (42 - n) / 2) 0 else 0)

/-- The magnitude response of R127 for every k, by the offset x as a fraction of f_lane: each line of its table, the attenuation of
what folds (every such component lies at 0.6 or above), and the gain of R132 at 0 Hz. The group delay is constant because the taps
are symmetric. -/
def LaneTaps.meetsResponse (t : LaneTaps) : Prop :=
  ∀ k ≤ 20, ∀ x : ℝ, 0 ≤ x → x ≤ 2 ^ k →
    let level (a : ℝ) : ℝ := (10 : ℝ) ^ (a / 20)
    let gain (y : ℝ) : ℝ := ((List.range (k + 1)).map (fun j =>
      ‖((List.range (t.stage j).length).map (fun n => (((t.stage j).getD n 0 : ℤ) : ℂ) / 2 ^ 62 *
        Complex.exp (-2 * Real.pi * Complex.I * n * (y / 2 ^ (k + 1 - j) : ℝ)))).sum‖)).prod
    let rel := gain x / gain 0
    level (-0.02) ≤ gain 0 ∧ gain 0 ≤ level 0.02
      ∧ (x ≤ 0.4 → level (-0.02) ≤ rel ∧ rel ≤ level 0.02)
      ∧ (x = 0.425 → level (-1.2) ≤ rel ∧ rel ≤ level (-0.6))
      ∧ (x = 0.45 → level (-2.2) ≤ rel ∧ rel ≤ level (-1))
      ∧ (x = 0.5 → level (-6.3) ≤ rel ∧ rel ≤ level (-5.7))
      ∧ (x = 0.55 → rel ≤ level (-30))
      ∧ (0.6 ≤ x → rel ≤ level (-85))

/-- The fixed coefficients of the lanes, which the spec does not list: any that meet R127. None stands for a device without such
filters, of which R127 does not hold. -/
opaque Config.laneTaps : Option { t : LaneTaps // t.meetsResponse }

/-- What the arithmetic of the transform adds to a complex bin (R159), by the free-value counter and the bin: an error of the amplitude
in units of 2^-40, and of the real and imaginary part in units of 2^-149. The model cuts each to the bound of R159. -/
opaque Config.transformError : Nat → Nat → Int × Int × Int

/-- Peak, minimum, mean and rms of a measurement without samples (R209 states none). -/
opaque Config.emptyMeasurement : Nat → Int

/-- Fields of an INTERVAL record that no accepted start fills (R235), by the free-value counter and the field: 0 the instant, 1 the
coarse count, 2 the fine value, 3 the fraction, 4 and 5 the spans. -/
opaque Config.emptyInterval : Nat → Nat → Nat

/-- Stamps of the first and the last spectrum of a density frame without spectra (R251 states none), by the free-value counter. -/
opaque Config.emptyFrame : Nat → Nat

/-- DRBG output bytes (R557). -/
opaque Config.drbg : Nat → Nat

/-- SHA-384 of bytes (R557). -/
opaque Config.sha384 : List Byte → BitVec 384

/-- AES-256 key wrap of 32 or 112 bytes under a key, and its integrity-checked inverse (R557, R559, R560). -/
opaque Config.kwWrap : BitVec 256 → List Byte → List Byte
opaque Config.kwUnwrap : BitVec 256 → List Byte → Option (List Byte)

/-- ECDSA P-384 verification: key, digest, signature (R557). -/
opaque Config.ecdsaVerify : List Byte → BitVec 384 → List Byte → Bool

/-- AES-256-GCM decryption under IEK with IV, additional data and tag (R548). -/
opaque Config.gcmDecrypt : BitVec 256 → List Byte → List Byte → List Byte → List Byte → Option (List Byte)

/-- Slot 0 derived from HUK (R558). -/
opaque Config.kekFromHuk : BitVec 256 → BitVec 256

/-- Rank, bank group, bank, row and column (fields 0 to 4) of a Yard channel address: fixed for a DIMM organisation, not given
(R464, R577). -/
opaque Config.dramField : Nat → Nat → Nat

/-- DRAM position of an uncorrectable burst (field 0) and syndrome of a Loft word (1) in a fault record (R577). -/
opaque Config.eccField : Nat → Nat → Nat

/-- What a Yard codeword with several wrong symbols decodes to (R468, which guarantees no detection): 0 a zero syndrome, 1 to 10 a
single-symbol error at position 0 to 9, above no such error. -/
opaque Config.codewordOf : Nat → Nat → Nat

/-- Bytes that such a burst delivers when it decodes wrongly (R468). -/
opaque Config.miscorrected : Nat → Nat → Byte

/-- CP program counter in a FAULT_DUMP (R588): a place in the microcode, which the spec does not give. -/
opaque Config.cpCounter : Nat → Nat

/-- Pass bits of the tests that SELF_TEST runs (R561): whether the silicon passes is not the spec's to state. -/
opaque Config.selfTestPass : Nat → Nat

/-- Qualifier of the event wake, its cause (R542 gives no numbers): 0 the timed wake, 1 the TRIG_IN0 edge. -/
opaque Config.wakeCause : Nat → Nat

/-- Readings that TELE_READ takes at once, by the free-value counter and the place: temperatures 0-31, then 3 per rail from 32 on. -/
opaque Config.sensor : Nat → Nat → Nat

/-- Prefix bytes that TELE_READ returns in SLEEP without meaning (R538). -/
opaque Config.staleByte : Nat → Nat → Byte

/-- Bytes of Loft below the Reed window region, where the spec gives no layout (R16, R419), by the free-value counter and the address. -/
opaque Config.loftByte : Nat → Nat → Byte

/-- Destination bytes of a transfer that lie in its source range as well (R310), by the free-value counter and the address. -/
opaque Config.overlapByte : Nat → Nat → Byte

/-- Whether a ZEROIZE# pulse of 0.2 to 1 µs zeroises (R609, R617). -/
opaque Config.shortPulse : Nat → Bool

/-- The PCI Vendor ID of Mehrik, which R2 and R448 name without a number. -/
opaque Config.vendorId : BitVec 16

/-- The programming-interface byte of the class code, of which R2 gives the other 16 bits. -/
opaque Config.progIf : BitVec 8

/-- What the host link negotiated: 0 Max_Payload_Size, 1 Max_Read_Request_Size, 2 generation, 3 width (R448). -/
opaque Config.linkSetting : Nat → Nat

/-- Configuration space at offsets that no rule describes (R416). -/
opaque Config.configSpace : Nat → BitVec 32

/-- Analogue output delay t_out of a generator above 9.5 ns, before it is bounded, in units of 0.25 ps (R346, R372). -/
opaque Config.outputLag : Nat → Nat

/-- Cycles that a Reed core waits in an xfer, a bput or an xwait (R390, R412). -/
opaque Config.waitCycles : Nat → Nat

end Sys2Proof
end

