-- ==== Sys2Proof/Machine/Bits.lean ====
section
/-! DEFINITION. Bit fields, byte order (R5), sparse tables and CRC-32C: the small helpers that every later file uses. -/

namespace Sys2Proof.Machine

/-- Bits `lo + width - 1 : lo` of a number (R4). -/
def bits (v lo width : Nat) : Nat := v / 2 ^ lo % 2 ^ width

/-- Bit `i` of a number (R4). -/
def bit (v i : Nat) : Bool := v / 2 ^ i % 2 == 1

def boolN (b : Bool) : Nat := if b then 1 else 0

/-- The `n` little-endian bytes of a number (R5). -/
def leBytes : Nat → Nat → List Byte
  | 0, _ => []
  | n + 1, v => BitVec.ofNat 8 v :: leBytes n (v / 256)

/-- The number that little-endian bytes spell (R5). -/
def leNat : List Byte → Nat
  | [] => 0
  | b :: bs => b.toNat + 256 * leNat bs

/-- `n` zero bytes. -/
def zeroBytes (n : Nat) : List Byte := List.replicate n 0

/-- Bytes `at .. at + n - 1` of a list, zeros beyond its end. -/
def sliceBytes (bs : List Byte) (start n : Nat) : List Byte :=
  let t := (bs.drop start).take n
  t ++ zeroBytes (n - t.length)

/-- The number in bytes `at .. at + n - 1`. -/
def getLe (bs : List Byte) (start n : Nat) : Nat := leNat (sliceBytes bs start n)

/-- A list cut or zero-padded to `n` bytes. -/
def padTo (bs : List Byte) (n : Nat) : List Byte := sliceBytes bs 0 n

/-- Two's complement reading of a `w`-bit number. -/
def signed (w v : Nat) : Int :=
  let m := v % 2 ^ w
  if m < 2 ^ (w - 1) then (m : Int) else (m : Int) - (2 ^ w : Nat)

/-- Two's complement encoding in `w` bits. -/
def unsigned (w : Nat) (i : Int) : Nat := (i % ((2 ^ w : Nat) : Int)).toNat

/-- Little-endian bytes of a signed value. -/
def leInt (n : Nat) (i : Int) : List Byte := leBytes n (unsigned (8 * n) i)

/-- Saturation to a signed range of `w` bits. -/
def clampInt (lo hi v : Int) : Int := if v < lo then lo else if v > hi then hi else v

/-- Division rounding half to even, of an integer by a positive number. -/
def roundHalfEven (n : Int) (m : Nat) : Int :=
  let q := n / (m : Int)
  let r := n % (m : Int)
  if 2 * r < (m : Int) then q else if 2 * r > (m : Int) then q + 1
  else if q % 2 == 0 then q else q + 1

/-- Ceiling division. -/
def ceilDiv (a b : Nat) : Nat := (a + (b - 1)) / b

/-- Smallest exponent `k` up to `fuel` with `v ≤ 2 ^ k`. -/
def log2Ceil (fuel v : Nat) : Nat :=
  match fuel with
  | 0 => 0
  | f + 1 => if v ≤ 1 then 0 else 1 + log2Ceil f ((v + 1) / 2)

/-- `x` placed behind the elements of no greater key. -/
def insertBy (key : α → Nat) (x : α) : List α → List α
  | [] => [x]
  | y :: l => if key x < key y then x :: y :: l else y :: insertBy key x l

/-- The elements in ascending order of their keys; those of equal key keep their order. -/
def sortBy (key : α → Nat) (l : List α) : List α := l.foldl (fun a x => insertBy key x a) []

/-- Bit `n` set for every `n` below `w` with `p n`. -/
def maskOf (w : Nat) (p : Nat → Bool) : Nat :=
  (List.range w).foldl (fun m i => if p i then m + 2 ^ i else m) 0

/-! ### Sparse tables -/

/-- The entry of index `i`, `dflt` where the table lists none. -/
def tget (dflt : α) : Table α → Nat → α
  | [], _ => dflt
  | (j, v) :: t, i => if j == i then v else tget dflt t i

/-- The table with index `i` set: sorted, and without the entry when the value is the unlisted one. -/
def tset [DecidableEq α] (dflt : α) : Table α → Nat → α → Table α
  | [], i, v => if v = dflt then [] else [(i, v)]
  | (j, w) :: t, i, v =>
    if j == i then (if v = dflt then t else (i, v) :: t)
    else if i < j then (if v = dflt then (j, w) :: t else (i, v) :: (j, w) :: t)
    else (j, w) :: tset dflt t i v

/-- The canonical form: indices strictly rising from `lo` on, no entry equal to the unlisted value. -/
def tableWfFrom [DecidableEq α] (dflt : α) : Nat → Table α → Bool
  | _, [] => true
  | lo, (j, v) :: t => decide (lo ≤ j) && decide (v ≠ dflt) && tableWfFrom dflt (j + 1) t

def tableWf [DecidableEq α] (dflt : α) (t : Table α) : Bool := tableWfFrom dflt 0 t

/-- The table with the entry of index `i` changed by a function. -/
def tmod [DecidableEq α] (dflt : α) (t : Table α) (i : Nat) (f : α → α) : Table α :=
  tset dflt t i (f (tget dflt t i))

/-! ### CRC-32C -/

/-- One bit step of CRC-32C (reflected polynomial 0x82F6_3B78). -/
def crcStep (c : BitVec 32) : BitVec 32 :=
  if c.getLsbD 0 then (c >>> 1) ^^^ 0x82F63B78#32 else c >>> 1

def crcByte (c : BitVec 32) (b : Byte) : BitVec 32 :=
  let x := c ^^^ (b.setWidth 32)
  crcStep (crcStep (crcStep (crcStep (crcStep (crcStep (crcStep (crcStep x)))))))

/-- CRC-32C over bytes: initial value and final inversion all ones. -/
def crc32c (bs : List Byte) : BitVec 32 := ~~~ (bs.foldl crcByte 0xFFFFFFFF#32)

/-- Replace element `i` of a list. -/
def setAt (l : List α) (i : Nat) (v : α) : List α := l.set i v

/-- The minimum of a list of numbers, `dflt` where it is empty. -/
def listMin (dflt : Nat) (l : List Nat) : Nat := l.foldl min dflt

end Sys2Proof.Machine
end

