-- ==== Sys2Proof/Machine/CfgState.lean ====
section
/-! DEFINITION. State of the configuration mechanism: staged and active values, overlays, pending commits, parts received by
blocks, generations (02_configuration_and_epochs.md). -/

namespace Sys2Proof.Machine

/-- A commit that has been accepted and whose token has not formed (R55-R57, R65). -/
structure Commit where
  /-- the CFG_COMMIT that waits; none at a member armed by PREPARE -/
  packet : Option Packet
  /-- target epoch T -/
  epoch : Nat
  /-- field key and value, the later entry of a key counts (R56) -/
  content : List (Nat × Int)
  /-- WAIT_ADOPTED -/
  waitAdopted : Bool
  /-- generation a group commit sets (R65) -/
  generation : Option (BitVec 32) := none
  /-- master of a group commit, at a member -/
  master : Option Nat := none
  deriving DecidableEq, Repr

/-- A part of a formed commit that one block instance has received and not yet swapped in (R58). -/
structure Part where
  /-- block code and instance: key bits [31:16] -/
  block : Nat
  epoch : Nat
  changes : List (Nat × Int)
  deriving DecidableEq, Repr

/-- A formed CFG_COMMIT that waits for adoption (R59). -/
structure Adoption where
  packet : Packet
  epoch : Nat
  generation : BitVec 32
  /-- block instances that have not applied it -/
  blocks : List Nat
  deriving DecidableEq, Repr

structure CfgState where
  /-- active values that differ from reset, by key; 64 bits each; R45; reset: every field at its table's reset value (R50) -/
  active : Table (Option Int) := []
  /-- dirty staged values by key; 64 bits each; R47; reset none (R50) -/
  dirty : Table (Option Int) := []
  /-- overlays 0-31: lists of key and value, at most 4,096; R48; reset none stored (R50) -/
  overlays : Table (Option (List (Nat × Int))) := []
  /-- accepted commits whose token has not formed, in order of acceptance; R57, R60; reset none -/
  pendingCommits : List Commit := []
  /-- parts received and waiting for their swap point, in order of epoch; R58; reset none -/
  parts : List Part := []
  /-- commits that wait for adoption; R59; reset none -/
  adoptions : List Adoption := []
  /-- generation; 32 bits; R60; reset 0 (R50) -/
  generation : BitVec 32 := 0
  /-- epochs at which the generation changed, oldest first; R24, R60; reset none -/
  genAt : List (Nat × BitVec 32) := []
  /-- epoch index of the newest token formed; 64 bits; R24; reset 0 -/
  lastToken : Nat := 0
  /-- a SYNC has taken place and its token of epoch 0 has not formed; R493; reset 0 -/
  tokenZero : Bool := false
  /-- master whose group commit this member applied last, until its next PREPARE; R66; reset none -/
  groupApplied : Option Nat := none
  /-- epoch that each token block has adopted, by its block key; R26; reset 0 -/
  adopted : Table Nat := []
  /-- generation under which each token block works, by its block key; 32 bits; R24, R26; reset 0 -/
  blockGen : Table (BitVec 32) := []
  /-- an armed group commit whose token formed without it; R66; reset none -/
  skewed : Option Commit := none
  /-- values that a lane, slot, map or the sequencer replaced at a token which blocks behind it have not adopted: epoch, key and old value,
  oldest first; R26, R28; reset none -/
  undo : List (Nat × Nat × Int) := []
  /-- settings contexts of token blocks that a formed token replaced and that may still deliver: block, boundary and the index at which
  their last output is out; R28; reset none -/
  oldContexts : List (Nat × Nat × Nat) := []
  deriving DecidableEq, Repr

end Sys2Proof.Machine
end

