-- ==== Sys2Proof/Machine/ClockState.lean ====
section
/-! DEFINITION. State of Chanter, the system PLL and the Drone clock (03_clocks.md). -/

namespace Sys2Proof.Machine

/-- Where the relock sequence of R72 stands. -/
inductive Relock where
  | idle
  /-- step 1 taken, REFIN not qualified (R88) -/
  | waitRef
  /-- step 2: band search -/
  | search
  /-- steps 3 and 4 -/
  | closing
  /-- both attempts missed the bound (R74) -/
  | failed
  deriving DecidableEq, Repr

/-- Divider values and the declared reference in force (R67, R620). -/
structure Dividers where
  refDiv : Nat
  /-- fb_div of the SCLK, int_div of the LO -/
  intDiv : Nat
  frac : Nat
  outDiv : Nat
  refinHz : Nat
  deriving DecidableEq, Repr

structure Synthesiser where
  /-- SCLK_LOCKED or LO_LOCKED; 1 bit; R71; reset 0 -/
  locked : Bool := false
  /-- SCLK_UNLOCK or LO_UNLOCK; 1 bit; R71; reset 0 -/
  unlock : Bool := false
  /-- place in the relock sequence; R72; reset idle -/
  relock : Relock := .idle
  /-- the repeat of R74 is running; 1 bit; R74; reset 0 -/
  repeated : Bool := false
  /-- VCO core of the last lock; 2 bits; R71; reset 0 -/
  core : Nat := 0
  /-- VCO band of the last lock; 6 bits; R71; reset 0 -/
  band : Nat := 0
  /-- values in force at the most recent lock; R67, R620; DESIGN CHOICE the reset values of R69 -/
  inForce : Dividers
  /-- reference divider aligned at the last SYNC or lock; R76; DESIGN CHOICE the reset value of R69 -/
  alignedRef : Nat := 5
  /-- the output stage is off or the clock gated by a relock; R73; reset 1 -/
  gated : Bool := true
  deriving DecidableEq, Repr

/-- One segment of a ramp profile (R80). -/
structure RampSegment where
  delta : Int
  interval : Nat
  count : Nat
  last : Bool
  waitTrig : Bool
  restart : Bool
  deriving DecidableEq, Repr

/-- The ramp generator (R81). -/
structure Ramp where
  /-- RAMP_ACTIVE; R71; reset 0 -/
  active : Bool := false
  /-- waits for the TRIG_IN edge; R81; reset 0 -/
  waiting : Bool := false
  /-- segment index; R81; reset 0 -/
  segment : Nat := 0
  /-- steps taken in the segment; R81; reset 0 -/
  step : Nat := 0
  /-- feedback word int_div × 2^32 + frac; 42 bits; R80; reset 0 -/
  word : Int := 0
  /-- LO_OUT mutes for a band crossing; R81; reset 0 -/
  crossing : Bool := false
  deriving DecidableEq, Repr

structure ClockState where
  /-- SCLK synthesiser; R67 -/
  sclk : Synthesiser := ({ inForce := { refDiv := 5, intDiv := 1024, frac := 0, outDiv := 0, refinHz := 100000000 } } : Synthesiser)
  /-- LO synthesiser; R67 -/
  lo : Synthesiser := ({ inForce := { refDiv := 5, intDiv := 600, frac := 0, outDiv := 1, refinHz := 100000000 } } : Synthesiser)
  /-- REF_PRESENT; 1 bit; R71; reset 0 -/
  refPresent : Bool := false
  /-- HOLDOVER; 1 bit; R71; reset 0 -/
  holdover : Bool := false
  /-- SLEWING; 1 bit; R71; reset 0 -/
  slewing : Bool := false
  /-- PHASE_UNVERIFIED; 1 bit; R71; reset 0 -/
  phaseUnverified : Bool := false
  /-- REF_LOST; 1 bit; R71; reset 0 -/
  refLost : Bool := false
  /-- DRONE_FALLBACK; 1 bit; R71; reset 0 -/
  droneFallback : Bool := false
  /-- the Drone clock runs on the RC oscillator; R83; reset 0 -/
  onRc : Bool := false
  /-- LOCK_FAIL; 1 bit; R71; reset 0 -/
  lockFail : Bool := false
  /-- SYNC_IGNORED; 1 bit; R71; reset 0 -/
  syncIgnored : Bool := false
  /-- RELOCK_COUNT; 16 bits; R71; reset 0 -/
  relockCount : BitVec 16 := 0
  /-- firmware has started and the synthesisers may lock; R85; reset 0 -/
  started : Bool := false
  /-- the SCLK synthesiser has locked since POR#; R118; reset 0 -/
  sclkEver : Bool := false
  /-- the system PLL is in lock; R84; reset 0 -/
  sysPll : Bool := false
  /-- ramp generator; R81 -/
  ramp : Ramp := {}
  /-- LO PFD periods since the last SYNC; R76; reset 0 -/
  loPeriods : Nat := 0
  /-- sigma-delta modulator accumulator of the LO, as step 3 of a relock preloads it; 32 bits; R72, R76; reset 0 -/
  loAccumulator : BitVec 32 := 0
  /-- LO_OUT was not released at SAFE_EXIT, because the LO had lost lock; R87; reset 0 -/
  loHeld : Bool := false
  /-- ramp stores 0-3; up to 1,024 segments each; R80; DESIGN CHOICE empty -/
  rampStores : Table (List RampSegment) := []
  deriving DecidableEq, Repr

end Sys2Proof.Machine
end

