-- ==== Sys2Proof/Machine/ConvState.lean ====
section
/-! DEFINITION. State of the four converters and their calibration (04_converters.md). -/

namespace Sys2Proof.Machine

/-- A slice word (R110). -/
structure Slice where
  /-- DELAY; 6 bits; reset 32 -/
  delay : Nat := 32
  /-- LADDER; 8 bits; reset 128 -/
  ladder : Nat := 128
  /-- OFFSET; 7 bits; reset 64 -/
  offset : Nat := 64
  /-- COMP; 2 bits; reset 0 -/
  comp : Nat := 0
  /-- POSITION; 6 bits; reset the slice number for 0-63, 0 for 64-67 -/
  position : Nat := 0
  /-- STATE: 0 active, 1 spare, 2 retired; 2 bits; reset 0 for 0-63, 1 for 64-67 -/
  state : Nat := 0
  deriving DecidableEq, Repr

/-- The reset slice words (R110). -/
def resetSlices : List Slice :=
  (List.range 64).map (fun n => ({ position := n } : Slice)) ++ List.replicate 4 ({ state := 1 } : Slice)

/-- A slice under calibration (R99-R102). -/
structure CalWork where
  slice : Nat
  position : Nat
  /-- run 1 or 2 and step 1 to 8 -/
  run : Nat
  step : Nat
  /-- qualifying blocks of the step so far and their statistics (R100) -/
  blocks : Nat
  sums : CalSums
  /-- codes before the first run -/
  before : Slice
  /-- codes after run 1 -/
  first : Slice
  /-- codes of the current run -/
  now : Slice
  /-- a code ended at the end of its span with the error pointing beyond it (R107) -/
  beyond : Bool
  /-- the slice is calibrated because it was suspect (R107) -/
  suspect : Bool
  deriving DecidableEq, Repr

/-- What the calibration sequencer is doing with one slice. -/
inductive CalStage where
  | calibrate (w : CalWork)
  /-- a spare is verified against the active slice; spares tried already -/
  | verify (spare : Nat) (tried : List Nat) (suspect : Bool)
  /-- waits for the hand-over instant -/
  | handOver (spare : Nat) (suspect : Bool)
  deriving DecidableEq, Repr

/-- A running pass (R99). -/
structure CalPass where
  /-- temperature sampled at its start (R98) -/
  startTemp : Int
  /-- spares still to calibrate in phase 1, then the slices still to visit -/
  spares : List Nat
  visits : List Nat
  /-- the slice of the pass that is calibrated or visited -/
  current : Option Nat
  /-- slices calibrated in it -/
  done : List Nat
  deriving DecidableEq, Repr

/-- A pending CAL_WRITE set (R113). -/
structure PendingSet where
  packet : Packet
  slices : List Slice
  tRef : Int
  sclkMhz : Nat
  passCount : Nat
  applyAt : Nat
  startPass : Bool
  bytes : List Byte
  deriving DecidableEq, Repr

structure Converter where
  /-- retention registers: 68 slice words; 32 bits each; R110; reset per R110 -/
  slices : List Slice := resetSlices
  /-- spare queue, head first; R99; reset 64, 65, 66, 67 -/
  spareQueue : List Nat := [64, 65, 66, 67]
  /-- running pass; R99; reset none -/
  pass : Option CalPass := none
  /-- activities by the slice that is calibrated or replaced: that of the pass and those of suspect slices; R99, R107; reset none -/
  stages : Table (Option CalStage) := []
  /-- suspect slices that wait for a spare; R107; reset none -/
  suspects : List Nat := []
  /-- consecutive passes in which a slice disagreed, by slice; R108; reset 0 -/
  disagreements : Table Nat := []
  /-- T_ref in 1/16 degree; 16 bits signed; R98; undefined after POR# (R118): none -/
  tRef : Option Int := none
  /-- f_SCLK in MHz at which the codes were obtained; 16 bits; R111; DESIGN CHOICE 0 -/
  sclkMhz : Nat := 0
  /-- completed passes; 32 bits; R111; reset 0 -/
  passCount : BitVec 32 := 0
  /-- a pass waits for cal_retry_ms, PASS_PENDING; R106, R117; reset 0 -/
  retry : Bool := false
  /-- SIGNAL_LOW; 1 bit; R117; reset 0 -/
  signalLow : Bool := false
  /-- CODES_VALID; 1 bit; R117; reset 0 -/
  codesValid : Bool := false
  /-- DEGRADED; 1 bit; R117; reset 0 -/
  degraded : Bool := false
  /-- DISAGREE; 1 bit; R117; reset 0 -/
  disagree : Bool := false
  /-- HANDOVER_FAIL; 1 bit; R117; reset 0 -/
  handoverFail : Bool := false
  /-- INCOMPLETE; 1 bit; R117; reset 0 -/
  incomplete : Bool := false
  /-- OVERRANGE; 1 bit; R117; reset 0 -/
  overrange : Bool := false
  /-- SLICE_RETIRED; 1 bit; R117; reset 0 -/
  sliceRetired : Bool := false
  /-- TEMP in 1/16 degree; 16 bits signed; R117; reset 0 -/
  temp : Int := 0
  /-- the sensor has failed: temperature triggers stop; R122; reset 0 -/
  sensorFailed : Bool := false
  /-- results of the last or running pass for CAL_RUN: slices calibrated, disagreements, retirements, end state; R116; reset 0, 0, 0, 3 -/
  result : Nat × Nat × Nat × Nat := (0, 0, 0, 3)
  /-- pending CAL_WRITE set; R113; reset none -/
  pendingSet : Option PendingSet := none
  /-- over-range samples in an epoch, and that epoch; R114; reset 0 -/
  ovrCount : Nat := 0
  ovrEpoch : Nat := 0
  /-- samples below this index are delivered as zero codes; R115; reset 0 -/
  zeroBelow : Nat := 0
  /-- sample index of the next sample to be delivered; 64 bits; R95; reset 0 -/
  next : Nat := 0
  /-- stall 0x01: beats of 16 samples with the index of their first, oldest first; R19; reset empty -/
  stall : List (Nat × List (BitVec 12)) := []
  /-- stall 0x01 discards: first lost index; R21; reset none -/
  discarding : Option Nat := none
  deriving DecidableEq, Repr

/-- A CAL_RUN with WAIT (R116). -/
structure CalWaiter where
  packet : Packet
  /-- channels whose pass has not ended -/
  channels : List Nat
  /-- results of channels A-D, each taken when its pass ended -/
  results : List (Nat × Nat × Nat × Nat)
  failed : Bool
  deriving DecidableEq, Repr

structure ConvState where
  /-- converters A-D; R95 -/
  channels : Table Converter := []
  /-- CAL_RUN commands with WAIT; R116; reset none -/
  waiters : List CalWaiter := []
  deriving DecidableEq, Repr

end Sys2Proof.Machine
end

