-- ==== Sys2Proof/Machine/LaneState.lean ====
section
/-! DEFINITION. State of the twenty lanes: filter chain, history buffer and record path (05_lanes.md). -/

namespace Sys2Proof.Machine

/-- A lane sample as a lane delivers it (R128, R130, R132). -/
structure LaneSample where
  /-- the lane that delivers it: channel × 8 + lane -/
  lane : Nat
  /-- stamp (R128) -/
  stamp : Nat
  i : Int
  q : Int
  settling : Bool
  saturated : Bool
  /-- false: the stamp was not produced (R130); it stands for its place only -/
  present : Bool
  /-- the reset point or boundary, on the first sample after a reset point or a token that changes the lane (R130, R138) -/
  cut : Option Nat
  /-- gain field under which it was scaled (R132) -/
  gain : Nat
  /-- generation of the token that precedes it (R138) -/
  gen : BitVec 32
  deriving DecidableEq, Repr

/-- A real-time stall (R18, R21): its units, and the first lost index while it discards. -/
structure RtStall (α : Type) where
  items : List α := []
  discarding : Option Nat := none
  deriving DecidableEq, Repr

/-- Record-path settings of one context (R136-R139). -/
structure RecSettings where
  mode : Nat
  dec : Nat
  avg : Nat
  format : Nat
  gate : Nat
  hist : Nat
  k : Nat
  deriving DecidableEq, Repr

/-- A record-path sample (R137). -/
structure RecPoint where
  stamp : Nat
  i : Int
  q : Int
  settling : Bool
  saturated : Bool
  /-- record windows that covered it -/
  windows : Nat
  /-- read from the history buffer before the opening action (R282) -/
  pre : Bool
  deriving DecidableEq, Repr

/-- An open SAMPLES record (R281). -/
structure OpenRec where
  settings : RecSettings
  spacing : Nat
  gen : BitVec 32
  points : List RecPoint
  deriving DecidableEq, Repr

/-- A record window as the record path of one lane knows it (R139, R622). -/
structure RecWin where
  window : Nat
  /-- first stamp covered -/
  start : Nat
  /-- instant of the opening action -/
  opened : Nat
  /-- closing instant, none while open -/
  stop : Option Nat
  deriving DecidableEq, Repr

structure Lane where
  /-- stamp of the next lane sample; 64 bits; R128; reset 0 -/
  next : Nat := 0
  /-- most recent reset point; 64 bits; R130; reset 0 (R146) -/
  resetPoint : Nat := 0
  /-- reset point or boundary of a token behind which the next sample is the first; R130, R138; reset none -/
  cut : Option Nat := none
  /-- lane.x.y.reset_stamp; 64 bits; R140; reset 0 -/
  resetStamp : Nat := 0
  /-- lost runs of converter samples not passed yet: first and end; R21, R115, R130; reset none -/
  lost : List (Nat × Nat) := []
  /-- lane.x.y.sat_count; 32 bits; R140; reset 0 -/
  satCount : BitVec 32 := 0
  /-- epochs that have had a saturation event and may still bring saturated samples; R145; reset none -/
  satEpochs : List Nat := []
  /-- filter chain: the delay line of each stage, newest value first, in units of 2^-62 per stage passed; R126; reset empty (zeros, R130) -/
  chain : List (List (Int × Int)) := []
  /-- next converter sample that the chain takes; R128; reset 0 -/
  fed : Nat := 0
  /-- newest output of the chain, that of the block at `next` once the block is complete; R128; reset none -/
  out : Option (Int × Int) := none
  /-- converter samples from the last completed block on, kept where a block is longer than an epoch: a token that resets the lane
  restarts its chain at its boundary; R131; reset empty -/
  recent : List (Nat × Int) := []
  /-- stall 0x05: samples on their way to the history buffer; R19; reset empty -/
  histStall : RtStall LaneSample := {}
  /-- stall 0x03: samples for the envelope units, oldest first; R19; reset empty -/
  envStall : RtStall LaneSample := {}
  /-- history buffer by slot; R134; reset empty -/
  hist : Table (Option LaneSample) := []
  /-- newest stamp written to the history buffer, and the first since it was emptied; R134; reset none -/
  histNewest : Option Nat := none
  histFirst : Option Nat := none
  /-- stall 0x04: samples for the record path, oldest first; R19; reset empty -/
  recStall : RtStall LaneSample := {}
  /-- next stamp that the record path decides; R622; reset 0 -/
  recNext : Nat := 0
  /-- settings that hold below a boundary, oldest first; R138, R26; reset none -/
  recOld : List (Nat × RecSettings) := []
  /-- lane samples of the averaging block in progress with their windows and pre-window marks; R136; reset empty -/
  block : List (LaneSample × Nat × Bool) := []
  /-- open SAMPLES record; R281; reset none -/
  openRec : Option OpenRec := none
  /-- record windows; R139; reset none -/
  wins : List RecWin := []
  /-- first unserved stamp of the running history loss; R135; reset none -/
  unserved : Option Nat := none
  /-- samples of the 64-sample block that the record path reads from the history buffer, taken when the read reached it; R135; reset empty -/
  readBlock : List LaneSample := []
  /-- stamps below this one belong to a block that was overwritten before the read reached it; R135; reset 0 -/
  lostBelow : Nat := 0
  deriving DecidableEq, Repr

structure LaneState where
  /-- lanes by channel × 8 + lane; R140 -/
  lanes : Table Lane := []
  deriving DecidableEq, Repr

end Sys2Proof.Machine
end

