-- ==== Sys2Proof/Machine/SpecState.lean ====
section
/-! DEFINITION. State of the spectral engines: slots, frames in progress, averages, window stores (06_spectral_engine.md). -/

namespace Sys2Proof.Machine

/-- The settings a frame runs under (R30, R165): those of the slot and of its lane. -/
structure SlotCtx where
  lane : Nat
  fft : Nat
  hop : Nat
  window : Nat
  store : Nat
  detector : Nat
  traceLen : Nat
  traceFirst : Nat
  traceSpan : Nat
  avgMode : Nat
  avgCount : Nat
  avgExp : Nat
  format : Nat
  binsDecim : Nat
  /-- decimation exponent, NCO frequency and gain of the lane -/
  k : Nat
  nco : Nat
  gain : Nat
  gen : BitVec 32
  origin : Nat
  /-- frame number from which averaging blocks are counted (R162, R164) -/
  blockFrom : Nat
  deriving DecidableEq, Repr

/-- A spectrum with its attributes (R165-R167). -/
structure Spectrum where
  /-- channel × 4 + slot -/
  slot : Nat
  stamp : Nat
  centre : Nat
  frameNumber : Nat
  /-- spectrum flags word without averaging (R166) -/
  flags : Nat
  ctx : SlotCtx
  /-- false: the frame was not computed (R151) -/
  computed : Bool
  /-- all N bins in int16 dB -/
  bins : List Int
  /-- unaveraged detected trace in int16 dB -/
  trace : List Int
  /-- stamp of the first of the spectra lost directly before it in a stall 0x07 (R21) -/
  lost : Option Nat := none
  deriving DecidableEq, Repr

/-- A trace average (R162, R163): attributes of the frame that gives them, frames averaged and the sums or averages. -/
structure TraceAvg where
  ctx : SlotCtx
  stamp : Nat
  centre : Nat
  frameNumber : Nat
  /-- frames averaged -/
  count : Nat
  /-- flags seen -/
  flags : Nat
  /-- sums of the block, or the exponential averages; float32 values in units of 2^-149 -/
  values : List Nat
  deriving DecidableEq, Repr

structure Slot where
  /-- grid origin o; 64 bits; R148, R149; reset 0 -/
  origin : Nat := 0
  /-- frame number from which averaging blocks are counted; R164; reset 0 -/
  blockFrom : Nat := 0
  /-- the block average closes once the frames of the old context are done; R164; reset 0 -/
  partialDue : Bool := false
  /-- the grid starts at the next lane sample received; R149; reset 0 -/
  floating : Bool := false
  /-- stamp of the next frame of the active context; R148; reset 0 -/
  next : Nat := 0
  /-- frames of old contexts that are not complete: stamp and context; R28, R30; reset none -/
  old : List (Nat × SlotCtx) := []
  /-- stall 0x02: lane samples that open frames still need; R19; reset empty -/
  stall : RtStall LaneSample := {}
  /-- newest stamp that arrived, or was discarded, by lane of the channel; reset none -/
  newest : Table (Option Nat) := []
  /-- sample indices at which an SCLK pause fell; R151; reset none -/
  pauses : List Nat := []
  /-- the next output carries INPUT_GAP; R151; reset 0 -/
  gap : Bool := false
  /-- block average in progress; R162; reset none -/
  blockAvg : Option TraceAvg := none
  /-- exponential average; R163; reset none -/
  expAvg : Option TraceAvg := none
  /-- spec.x.slotn.spectra_count; 64 bits; R173; reset 0 -/
  spectraCount : BitVec 64 := 0
  /-- spec.x.slotn.frames_skipped; 32 bits; R173; reset 0 -/
  skipped : BitVec 32 := 0
  /-- spec.x.slotn.frames_abandoned; 32 bits; R173; reset 0 -/
  abandoned : BitVec 32 := 0
  /-- epoch of the last frame-skipped event; R177; reset none -/
  skipEpoch : Option Nat := none
  /-- a transform datapath parity error struck the frame in progress; R177; reset 0 -/
  parity : Bool := false
  deriving DecidableEq, Repr

structure SpecState where
  /-- slots by channel × 4 + slot; R147 -/
  slots : Table Slot := []
  /-- user window stores 0-7: coefficients in units of 2^-16; R156; reset empty -/
  windows : Table (List Int) := []
  /-- built-in windows whose ROM has failed, by channel × 8 + window code: slots that use one stand still; R177; reset none -/
  romFailed : Table Bool := []
  /-- by channel: slots that have a frame with its last lane sample in stall 0x02, one entry a frame, in the order in which those samples
  entered; R168; reset empty -/
  order : Table (List Nat) := []
  deriving DecidableEq, Repr

end Sys2Proof.Machine
end

