-- ==== Sys2Proof/Machine/DensState.lean ====
section
/-! DEFINITION. State of the density maps, the colouriser and the scan-out (09_density_and_live_view.md). -/

namespace Sys2Proof.Machine

/-- The settings of a map that a frame runs under (R245-R256). -/
structure MapCtx where
  slot : Nat
  cols : Nat
  rows : Nat
  binFirst : Nat
  binSpan : Nat
  rowBottom : Int
  rowStep : Nat
  clip : Bool
  persist : Nat
  snapEvery : Nat
  snapFormat : Nat
  colEnable : Bool
  colEvery : Nat
  colMin : Nat
  colMax : Nat
  colPalette : Nat
  colFormat : Nat
  colBuf : Nat
  colNbuf : Nat
  /-- of the source slot and lane -/
  fft : Nat
  k : Nat
  nco : Nat
  gen : BitVec 32
  deriving DecidableEq, Repr

/-- A density frame: running, or ended and draining (R245-R251). -/
structure DensFrame where
  /-- increment plane: counts by row × n_cols + column -/
  cells : Table Nat := []
  /-- spectra taken in -/
  spectra : Nat := 0
  firstStamp : Nat := 0
  lastStamp : Nat := 0
  /-- density frame flags (R252) -/
  flags : Nat := 0
  deriving DecidableEq, Repr

/-- A frame end that waits for the drain before it (R248): the flags it adds; where a token ended the frame the settings before it,
and whether the token clears the map (R249) or sets its enable. -/
structure DeferredEnd where
  flags : Nat
  settings : Option MapCtx := none
  clears : Bool := false
  renews : Bool := false
  deriving DecidableEq, Repr

/-- A completed frame that the colouriser works on (R253). -/
structure ColourWork where
  ctx : MapCtx
  /-- completed values by cell -/
  values : Table Nat
  deriving DecidableEq, Repr

structure DensMap where
  /-- stall 0x07: spectra not taken yet, oldest first; R19; reset empty -/
  stall : RtStall Spectrum := {}
  /-- frame in progress: increment plane and attributes; R245; reset empty -/
  frame : DensFrame := {}
  /-- ended frame that drains, and its settings; R246; reset none -/
  drain : Option (DensFrame × MapCtx) := none
  /-- a frame end that waits for the drain; R248; reset none -/
  deferred : Option DeferredEnd := none
  /-- the carried plane is cleared behind the running drain; R249; reset 0 -/
  wipe : Bool := false
  /-- carried plane by cell; 32 bits each; R246; reset empty -/
  carried : Table Nat := []
  /-- frame number since enable or clear; 64 bits; R251; reset 0 -/
  frameNumber : Nat := 0
  /-- CLEARED is carried by the next frame; R249; reset 0 -/
  cleared : Bool := false
  /-- dens.x.mapn.frames; 64 bits; R268; reset 0 -/
  frames : BitVec 64 := 0
  /-- dens.x.mapn.colour_dropped; 32 bits; R268; reset 0 -/
  colourDropped : BitVec 32 := 0
  /-- completed frames in stall 0x08 that the colouriser has not written, oldest first; R19, R253; reset none -/
  colour : List ColourWork := []
  /-- stall 0x08 discards until it is half empty; R21; reset 0 -/
  colourFull : Bool := false
  /-- next slot of the colour frame buffer; R256; reset 0 -/
  colourNext : Nat := 0
  /-- newest complete colour frame: handle, slot, columns, rows, format; R256, R257; reset none -/
  colourDone : Option (Nat × Nat × Nat × Nat × Nat) := none
  /-- cell saturated was raised in the frame; R273; reset 0 -/
  satEvent : Bool := false
  deriving DecidableEq, Repr

/-- Planes of a layer as DISP_COMMIT gives them (R265): buffer handle and plane offsets. -/
structure Planes where
  handle : Nat
  y : Nat
  c : Nat
  v : Nat
  alpha : Nat
  deriving DecidableEq, Repr

/-- A plane state (R263): the planes of L0 and L1, and the colour frame of L0 with a colouriser source. -/
structure PlaneState where
  l0 : Option Planes := none
  l1 : Option Planes := none
  /-- the newest DISP_COMMIT hides L0 -/
  l0Off : Bool := false
  colour : Option (Nat × Nat × Nat × Nat × Nat) := none
  deriving DecidableEq, Repr

structure DpPort where
  /-- CONNECTED; 1 bit; R270; reset 0 -/
  connected : Bool := false
  /-- TRAINED; 1 bit; R270; reset 0 -/
  trained : Bool := false
  /-- lanes: 1, 2 or 4; R270; reset 1 -/
  lanes : Nat := 1
  /-- rate; 2 bits; R270; reset 0 -/
  rate : Nat := 0
  /-- ADAPTIVE_SYNC; 1 bit; R270; reset 0 -/
  adaptive : Bool := false
  /-- highest lane count and rate of the connected sink; R262; reset 1 and 0 -/
  sinkLanes : Nat := 1
  sinkRate : Nat := 0
  deriving DecidableEq, Repr

structure DispState where
  /-- scan-out runs: firmware has started it and the device is not in SLEEP; R274; reset 0 -/
  running : Bool := false
  /-- committed plane state; R263; reset none committed -/
  committed : PlaneState := {}
  /-- latched plane state; R263; reset none -/
  latched : PlaneState := {}
  /-- active plane state; R263; reset none -/
  active : PlaneState := {}
  /-- the latch instant of the next display frame has passed; R263; reset 0 -/
  blanking : Bool := false
  /-- blanking lines before the last latch instant; R264; reset 0 -/
  blankLine : Nat := 0
  /-- new content since the last latch; R264; reset 0 -/
  newContent : Bool := false
  /-- new content has been latched for the next display frame; R264; reset 0 -/
  newLatched : Bool := false
  /-- disp.scan.frame_count; 64 bits; R270; reset 0 -/
  frameCount : BitVec 64 := 0
  /-- disp.scan.underflow_lines; 32 bits; R270; reset 0 -/
  underflowLines : BitVec 32 := 0
  /-- the underflow fault was raised in the display frame; R259; reset 0 -/
  underflowRaised : Bool := false
  /-- scan-out shows black after safe-state entry until the first latch instant after SAFE_EXIT; R272; reset 0 -/
  black : Bool := false
  /-- pixels of the line sent last: Y, Cb, Cr, or R, G, B by pixfmt, for DP0 and DP1; R258; reset none -/
  line0 : List (Nat × Nat × Nat) := []
  line1 : List (Nat × Nat × Nat) := []
  /-- DP0 and DP1; R262 -/
  ports : Table DpPort := []
  /-- palette stores 0-3: 256 entries Y, Cb, Cr each; none: the grey ramp of POR#; R254; reset the ramp -/
  palettes : Table (List (Nat × Nat × Nat)) := []
  deriving DecidableEq, Repr

structure DensState where
  /-- maps by channel × 2 + map; R241 -/
  maps : Table DensMap := []
  deriving DecidableEq, Repr

end Sys2Proof.Machine
end

