-- ==== Sys2Proof/Machine/FaultState.lean ====
section
/-! DEFINITION. State of the fault collector and of event delivery (19_faults_and_events.md). -/

namespace Sys2Proof.Machine

/-- A fault entry (R576): a first-error record, a log entry or a notice payload. -/
structure FaultEntry where
  source : Nat
  kind : Nat
  /-- class handled and class reported -/
  handled : Nat
  reported : Nat
  escalated : Bool := false
  noLonger : Bool := false
  collateral : Bool := false
  access : Nat
  master : Nat
  address : Nat
  firstTime : Nat
  sampleIndex : Nat
  count : Nat
  generation : BitVec 32
  lastTime : Nat
  detail : List Byte
  deriving DecidableEq, Repr

/-- Delivery of one event source (R590). -/
structure EventMap where
  /-- 0 off, 1 entry to a completion queue, 2 direct vector -/
  mode : Nat := 0
  target : Nat := 0
  alert : Bool := false
  codeMask : Nat := 0
  deriving DecidableEq, Repr

/-- A reset that runs (R581): the block by its first source ID, the commands that wait for it, the instant it started. -/
structure RunningReset where
  block : Nat
  waiters : List Packet
  startIndex : Nat
  deriving DecidableEq, Repr

/-- A reaction window (R582). -/
structure ReactionWindow where
  block : Nat
  openedAt : Nat
  /-- sources whose collateral kinds the window covers: (first source, last source, kind) -/
  covers : List (Nat × Nat × Nat)
  deriving DecidableEq, Repr

structure FaultState where
  /-- stall 0x27: messages on the way to the collector, at most 64; R19, R569; reset empty -/
  inbox : List FaultMsg := []
  /-- occurrences of messages that found stall 0x27 full, by source × 64 + kind; R569; reset 0 -/
  lost : Table Nat := []
  /-- CORRECTED first-error record; 64 bytes; R575; reset empty -/
  corrected : Option FaultEntry := none
  /-- CONTAINED first-error record; 64 bytes; R575; reset empty -/
  contained : Option FaultEntry := none
  /-- FATAL first-error record; 64 bytes; R575; reset empty -/
  fatal : Option FaultEntry := none
  /-- unread log entries, oldest first; R578; reset empty -/
  log : List FaultEntry := []
  /-- fault.dev.log_write; 32 bits; R592; reset 0 -/
  logWrite : BitVec 32 := 0
  /-- fault.dev.log_read; 32 bits; R592; reset 0 -/
  logRead : BitVec 32 := 0
  /-- fault.dev.log_lost; 32 bits; R592; reset 0 -/
  logLost : BitVec 32 := 0
  /-- fault.dev.escalations; 32 bits; R592; reset 0 -/
  escalations : BitVec 32 := 0
  /-- fault.dev.collateral; 32 bits; R592; reset 0 -/
  collateral : BitVec 32 := 0
  /-- live bits by source × 64 + kind, with the device time of the last message; R575; reset none live -/
  live : Table (Option Nat) := []
  /-- FATAL kinds captured since safe-state entry: (source, kind); R585; reset none -/
  fatalKinds : List (Nat × Nat) := []
  /-- kinds handled as FATAL since safe-state entry: (source, kind); R579, R585; reset none -/
  fatalHandled : List (Nat × Nat) := []
  /-- resets that run; R581; reset none -/
  resets : List RunningReset := []
  /-- open reaction windows; R582; reset none -/
  windows : List ReactionWindow := []
  /-- delivery of each event source; R590; reset: every source off -/
  eventMaps : Table EventMap := []
  /-- event pending bits; 1,024 bits; R590, R591; reset 0 -/
  eventPending : BitVec 1024 := 0
  deriving DecidableEq, Repr

end Sys2Proof.Machine
end

