-- ==== Sys2Proof/Machine/GenState.lean ====
section
/-! DEFINITION. State of the stimulus generators G0 and G1 (12_stimulus.md). Entry memory stands in the device's memory, at its
device addresses (R354). -/

namespace Sys2Proof.Machine

/-- A defined segment (R352) with its ring marks (R364). -/
structure SegDef where
  first : Nat
  count : Nat
  /-- committed: every entry written since the release, and the check passed -/
  committed : Bool
  /-- sample index at which it committed -/
  committedAt : Nat := 0
  /-- bytes written since the release: a mask of 16 bits for each entry, by offset in the range -/
  written : Table Nat
  deriving DecidableEq, Repr

/-- A step of a sequence store (R356). -/
structure SeqStep where
  segment : Nat
  next : Nat
  loops : Nat
  finish : Bool
  wait : Bool
  stream : Bool
  deriving DecidableEq, Repr

inductive GenMode where
  | stopped | playing | underrun | waiting
  deriving DecidableEq, Repr

/-- A jump request (R360, R361). -/
structure JumpRequest where
  step : Nat
  /-- sample index at which it reached the generator -/
  reached : Nat
  deferred : Bool
  packet : Option Packet
  deriving DecidableEq, Repr

/-- What the decision chose for a boundary (R359). -/
structure Choice where
  /-- first DAC sample and end -/
  start : Nat
  stop : Nat
  /-- segment, none for an idle granule -/
  segment : Option Nat
  /-- step that it belongs to, and the plays of the step up to and with this one -/
  step : Nat
  plays : Nat
  mode : GenMode
  /-- the request that this choice takes, and whether it released a WAIT step -/
  jump : Option JumpRequest
  release : Bool
  /-- the step was entered by START -/
  started : Bool
  deriving DecidableEq, Repr

/-- The end that a decision chose: boundary, stop reason and the STOP commands that it completes (R359, R362). -/
structure StopChoice where
  boundary : Nat
  reason : Nat
  packets : List Packet
  deriving DecidableEq, Repr

structure Generator where
  /-- STATE; 2 bits; R368; reset 0 STOPPED -/
  mode : GenMode := .stopped
  /-- STEP; 12 bits; R368; reset 0 -/
  step : Nat := 0
  /-- SEGMENT; 12 bits; R368; reset 0 -/
  segment : Nat := 0
  /-- plays of the current step; R358; reset 0 -/
  plays : Nat := 0
  /-- what plays now; R358; reset none -/
  current : Option Choice := none
  /-- chosen plays that follow, in order; R355, R359; reset none -/
  queue : List Choice := []
  /-- the chosen end; R359; reset none -/
  ending : Option StopChoice := none
  /-- a START that waits for its boundary; R362; reset none -/
  starting : Option (Nat × Nat) := none
  /-- decision state: step, plays, ring pointer, waiting for release; R358, R363; reset 0 -/
  nextStep : Nat := 0
  nextPlays : Nat := 0
  ringPtr : Nat := 0
  holding : Bool := false
  /-- pending jump request; R360; reset none -/
  request : Option JumpRequest := none
  /-- pending STOP commands; R360, R362; reset none -/
  stops : List Packet := []
  /-- a STOP is pending; R368; reset 0 -/
  stopPending : Bool := false
  /-- sample index at which the first pending STOP reached the generator; R359, R360; reset 0 -/
  stopAt : Nat := 0
  /-- JUMP commands ignored while a STOP is pending; R360, R362; reset none -/
  ignored : List Packet := []
  /-- acc after the sample before the current play; 48 bits; R349; reset 0 -/
  acc : Nat := 0
  /-- freq of the last sample before the current play; 47 bits; R366; reset 0 -/
  freq : Nat := 0
  /-- entries of the current play that play as idle; R373; reset none -/
  badEntries : List Nat := []
  /-- marker levels M0-M3; 4 bits; R351; reset 0 -/
  markers : Nat := 0
  /-- entry of the current play whose change point comes next; R351; reset 0 -/
  changeNext : Nat := 0
  /-- DAC sample at which the pulse of each marker ends; R351; reset none -/
  pulseEnds : Table (Option Nat) := []
  /-- segment table; 4,096 segments; R352; reset undefined -/
  segments : Table (Option SegDef) := []
  /-- sequence stores 0 and 1; 4,096 steps each; R356; reset empty -/
  stores : Table (List SeqStep) := []
  /-- under-run episode: first idle granule and granules; R366; reset none -/
  episode : Option (Nat × Nat) := none
  /-- first under-run index kept in the status reply; R366; reset 0 -/
  firstUnderrun : Nat := 0
  /-- episodes since START; R367; reset 0 -/
  episodes : Nat := 0
  /-- underrun_granules; 32 bits; R369; reset 0 -/
  underrunGranules : BitVec 32 := 0
  /-- underruns; 32 bits; R369; reset 0 -/
  underruns : BitVec 32 := 0
  /-- locked_writes; 32 bits; R369; reset 0 -/
  lockedWrites : BitVec 32 := 0
  /-- UNDERRUN; 1 bit; R368; reset 0 -/
  underrunFlag : Bool := false
  /-- LOCKED_WRITE; 1 bit; R368; reset 0 -/
  lockedWriteFlag : Bool := false
  /-- REFILL_REJECT; 1 bit; R368; reset 0 -/
  refillReject : Bool := false
  /-- JUMP_DEFERRED; 1 bit; R368; reset 0 -/
  jumpDeferred : Bool := false
  /-- JUMP_IGNORED; 1 bit; R368; reset 0 -/
  jumpIgnored : Bool := false
  deriving DecidableEq, Repr

structure GenState where
  /-- G0 and G1; R346 -/
  g0 : Generator := {}
  g1 : Generator := {}
  deriving DecidableEq, Repr

end Sys2Proof.Machine
end

