-- ==== Sys2Proof/Machine/HostState.lean ====
section
/-! DEFINITION. State of the command interface: BAR0 registers, queues, MSI-X, mailbox and tags (14_command_interface.md). -/

namespace Sys2Proof.Machine

/-- The status codes of R446. -/
inductive Status where
  | ok | pending | deferred | badOpcode | badParam | badState | budget | late | busy | noResource
  | aborted | denied | safeState | retry | timeout | notPresent
  deriving DecidableEq, Repr

/-- A completion or event entry that waits in the CP for a slot (R431, R454). -/
structure WaitingEntry where
  /-- the 32 bytes, phase bit clear -/
  bytes : List Byte
  /-- the tag that the written entry frees; none for interim and event entries -/
  frees : Option Nat
  /-- source and code of an event entry -/
  event : Option (Nat × Nat)
  deriving DecidableEq, Repr

/-- One submission queue (R423, R426-R430). -/
structure SubQueue where
  /-- EXISTS; width 1; R423; reset 0 -/
  live : Bool := false
  /-- entries of the queue; 13 bits; R427; DESIGN CHOICE 0 -/
  entries : Nat := 0
  /-- device address of entry 0; 52 bits; R427; DESIGN CHOICE 0 -/
  base : Nat := 0
  /-- completion queue; 6 bits; R423; reset 0 -/
  cq : Nat := 0
  /-- entries fetched per turn; 5 bits; R427; DESIGN CHOICE 0 -/
  weight : Nat := 0
  /-- HEAD; 12 bits; R423; reset 0 -/
  head : Nat := 0
  /-- newest valid tail; 12 bits; R429; reset 0 -/
  tail : Nat := 0
  /-- DB_ERROR; 1 bit; R423; reset 0 -/
  dbError : Bool := false
  /-- FETCH_ERROR; 1 bit; R423; reset 0 -/
  fetchError : Bool := false
  /-- the QUEUE_DELETE that waits for this queue's commands; R428; reset none -/
  deleting : Option Packet := none
  deriving DecidableEq, Repr

/-- One completion queue (R424, R427, R431, R454). -/
structure CplQueue where
  /-- EXISTS; width 1; R424; reset 0 -/
  live : Bool := false
  /-- entries of the queue; 13 bits; R427; DESIGN CHOICE 0 -/
  entries : Nat := 0
  /-- device address of slot 0; 52 bits; R427; DESIGN CHOICE 0 -/
  base : Nat := 0
  /-- VECTOR; 8 bits; R424; reset 0 -/
  vector : Nat := 0
  /-- TAIL; 12 bits; R424; reset 0 -/
  tail : Nat := 0
  /-- PHASE; 1 bit; R424; reset 1 -/
  phase : Bool := true
  /-- head the host last wrote; 12 bits; R429, R431; reset 0 -/
  head : Nat := 0
  /-- coalesce count; 8 bits; R454; DESIGN CHOICE 0 -/
  coCount : Nat := 0
  /-- coalesce time in microseconds; 16 bits; R454; DESIGN CHOICE 0 -/
  coUs : Nat := 0
  /-- entries written since the last signal; R454; reset 0 -/
  unsignalled : Nat := 0
  /-- DB_ERROR; 1 bit; R424; reset 0 -/
  dbError : Bool := false
  /-- WRITE_ERROR; 1 bit; R424; reset 0 -/
  writeError : Bool := false
  /-- entries that found no slot, oldest first; R431; reset empty -/
  waiting : List WaitingEntry := []
  deriving DecidableEq, Repr

/-- One MSI-X table entry (R417, R454; PCIe). -/
structure MsixEntry where
  /-- message address; 64 bits; R421; PRESUMED 0 (PCIe) -/
  addr : Nat := 0
  /-- message data; 32 bits; R421; PRESUMED 0 (PCIe) -/
  data : Nat := 0
  /-- Mask bit of the vector control word; 1 bit; R421; PRESUMED 1 (PCIe) -/
  masked : Bool := true
  deriving DecidableEq, Repr

/-- A command whose tag is held (R32, R33). -/
structure Flight where
  packet : Packet
  /-- member that executes a forwarded command (R434) -/
  forwardedTo : Option Nat := none
  deriving DecidableEq, Repr

/-- The command interface. -/
structure HostState where
  /-- DEV_CONTROL ENABLE; 1 bit; R421; reset 0 -/
  enable : Bool := false
  /-- DEV_STATUS ENABLED; 1 bit; R422; reset 0 -/
  enabled : Bool := false
  /-- DEV_STATUS ENABLE_ERROR; 1 bit; R422; reset 0 -/
  enableError : Bool := false
  /-- DEV_STATUS MCHECK; 1 bit; R422; reset 0 -/
  mcheck : Bool := false
  /-- SCRATCH; 32 bits; R421; reset 0 -/
  scratch : Nat := 0
  /-- ASQ_BASE; 64 bits; R421; reset 0 -/
  asqBase : Nat := 0
  /-- ACQ_BASE; 64 bits; R421; reset 0 -/
  acqBase : Nat := 0
  /-- AQ_SIZE; 32 bits; R421; reset 0 -/
  aqSize : Nat := 0
  /-- AQ_COALESCE; 32 bits; R421; reset 0 -/
  aqCoalesce : Nat := 0
  /-- BAR4_WINDOW; 64 bits; R421; reset 0 -/
  bar4Window : Nat := 0
  /-- size of BAR4 as its base-2 logarithm, 30 to 41; R417; reset 36 (64 GiB) -/
  bar4Log2 : Nat := 36
  /-- HOST_WRITE_DISCARDS; 32 bits; R421; reset 0 -/
  writeDiscards : BitVec 32 := 0
  /-- BOOT_IMAGE_ADDR; 64 bits; R421; reset 0 -/
  bootImageAddr : Nat := 0
  /-- BOOT_IMAGE_LEN; 32 bits; R421; reset 0 -/
  bootImageLen : Nat := 0
  /-- lower halves of 8-byte registers written so far, by offset; 32 bits each; R418; reset empty -/
  lowHalves : Table Nat := []
  /-- submission queues 0-63; R426; reset: none exists -/
  sqs : Table SubQueue := []
  /-- completion queues 0-63; R426; reset: none exists -/
  cqs : Table CplQueue := []
  /-- queue whose turn it is and the entries left in the turn; R430; DESIGN CHOICE 0 and 0 -/
  turn : Nat × Nat := (0, 0)
  /-- tags in flight; 4,096 tags; R32; reset none -/
  flights : Table (Option Flight) := []
  /-- commands that run to their end without entries; R425; reset none -/
  silent : List Packet := []
  /-- MSI-X table; 256 entries; R421; reset per PCIe -/
  msix : Table MsixEntry := []
  /-- MSI-X PBA; 256 bits; R421; reset 0 -/
  pba : BitVec 256 := 0
  /-- MSI-X Enable of configuration space; 1 bit; R454; PRESUMED 0 (PCIe) -/
  msixEnable : Bool := false
  /-- MSI-X Function Mask of configuration space; 1 bit; R454; PRESUMED 0 (PCIe) -/
  functionMask : Bool := false
  /-- configuration requests are answered (no retry status); 1 bit; R531; reset 0 -/
  configReady : Bool := false
  /-- last configuration answer: none is Configuration Request Retry Status; R531; DESIGN CHOICE none -/
  configAnswer : Option Nat := none
  /-- last data that a BAR2 or BAR4 read returned, and whether its TLP was poisoned; R419, R420, R572; DESIGN CHOICE empty -/
  readData : List Byte × Bool := ([], false)
  /-- PERST# asserted; 1 bit; R532; reset 1 (board holds it until deasserted) DESIGN CHOICE -/
  perst : Bool := true
  /-- host link out of reset and training or trained; 1 bit; R532, R457 PCIE_UP; reset 0 -/
  linkUp : Bool := false
  /-- MBOX_CMD; 64 bytes; R458; reset 0 -/
  mboxCmd : List Byte := List.replicate 64 0
  /-- MBOX_CPL; 32 bytes; R458; reset 0 -/
  mboxCpl : List Byte := List.replicate 32 0
  /-- MBOX_REPLY; 256 bytes; R458; reset 0 -/
  mboxReply : List Byte := List.replicate 256 0
  /-- MBOX_BUSY; 1 bit; R459; reset 0 -/
  mboxBusy : Bool := false
  /-- MBOX_DONE; 1 bit; R459; reset 0 -/
  mboxDone : Bool := false
  /-- bytes the management port shifted out last; R457; DESIGN CHOICE empty -/
  spiOut : List Byte := []
  deriving DecidableEq, Repr

end Sys2Proof.Machine
end

