-- ==== Sys2Proof/Machine/StreamState.lean ====
section
/-! DEFINITION. Stream records and the state of the 256 streams (10_stream_records.md). -/

namespace Sys2Proof.Machine

/-- A record on its way to a ring: what the source forms (R275-R280). Stream, sequence, CRC and length echo are added when it
is written. -/
structure Rec where
  type : Nat
  source : Nat
  /-- header flags (R276) -/
  flags : Nat
  firstIndex : Nat
  generation : BitVec 32
  /-- bytes between header and padding -/
  payload : List Byte
  deriving DecidableEq, Repr

/-- Records lost since the last GAP record: how many, smallest and largest first_index (R285). -/
structure Drops where
  count : Nat := 0
  first : Nat := 0
  last : Nat := 0
  /-- the source they all come from, none when they come from several -/
  source : Option Nat := none
  deriving DecidableEq, Repr

/-- An EPOCH record that is due: what the token carried at formation (R284). -/
structure EpochDue where
  epoch : Nat
  deviceTime : Nat
  generation : BitVec 32
  prevGeneration : BitVec 32
  fsclkHz : Nat
  refinHz : Nat
  exponent : Nat
  flags : Nat
  merged : Nat
  syncCount : BitVec 32
  pauseNs : Nat
  /-- R284 asks for a record of this token -/
  wanted : Bool
  /-- the stream is enabled before or behind the token (R304) -/
  enabled : Bool
  deriving DecidableEq, Repr

structure Stream where
  /-- ring_log2, 0 not open; 6 bits; R287; reset 0 -/
  ringLog2 : Nat := 0
  /-- ring_base; 52 bits; R287; reset 0 -/
  ringBase : Nat := 0
  /-- write offset W; 64 bits; R290; reset 0 -/
  writeOffset : Nat := 0
  /-- units of records written to the ring whose bytes are not all in the Yard yet, oldest first; R290; reset none -/
  inFlight : List Nat := []
  /-- next sequence number; 64 bits; R291; reset 0 -/
  nextSeq : Nat := 0
  /-- host_offset; 64 bits; R292; reset 0 -/
  hostOffset : Nat := 0
  /-- rec_offset; 64 bits; R292; reset 0 -/
  recOffset : Nat := 0
  /-- host_seq; 64 bits; R292; reset none -/
  hostSeq : Option Nat := none
  /-- dropped; 32 bits; R292; reset 0 -/
  dropped : BitVec 32 := 0
  /-- gaps; 32 bits; R292; reset 0 -/
  gaps : BitVec 32 := 0
  /-- HALTED; 1 bit; R297; reset 0 -/
  halted : Bool := false
  /-- first_index of the cause 0x09 GAP of the running halt; R285; reset 0 -/
  haltFirst : Nat := 0
  /-- records dropped in the running halt; R297; reset none -/
  haltDrops : Drops := {}
  /-- records dropped under DROP since the last write; R296; reset none -/
  ringDrops : Drops := {}
  /-- stall 0x10 of the stream: records, oldest first; R298; reset empty -/
  stall : List Rec := []
  /-- records that did not fit the stall since the last record; R298; reset none -/
  stallDrops : Drops := {}
  /-- EPOCH records that are due, oldest first; R284, R300; reset none -/
  epochDue : List EpochDue := []
  /-- the state block is to be mirrored; R292; reset 0 -/
  mirrorDue : Bool := false
  /-- device time of the last mirror of the state block; R292; reset none -/
  mirrorAt : Option Nat := none
  /-- STREAM_CLOSE that waits for the recorder; R286; reset none -/
  closing : Option Packet := none
  /-- epoch in which the ring overflow event was raised last; R305; reset none -/
  overflowEpoch : Option Nat := none
  /-- the sample index has stood still since the last EPOCH record; R284; reset 0 -/
  paused : Bool := false
  deriving DecidableEq, Repr

structure StreamState where
  /-- streams 0-255; R287; reset: none open -/
  streams : Table Stream := []
  /-- SYNCs since POR#; 32 bits; R284; reset 0 -/
  syncCount : BitVec 32 := 0
  /-- device time during which the index stood still; 64 bits; R284; reset 0 -/
  pauseNs : Nat := 0
  /-- bytes that streams 254 and 255 have taken in a second of device time, and that second; R38; reset 0 -/
  notices : Nat × Nat := (0, 0)
  /-- device time at which the running hold of the sample index began; R284; reset none -/
  pauseFrom : Option Nat := none
  deriving DecidableEq, Repr

end Sys2Proof.Machine
end

