-- ==== Sys2Proof/Machine/GroupState.lean ====
section
/-! DEFINITION. State of the Shunis ports, the group and the pair (16_groups_and_pairs.md). -/

namespace Sys2Proof.Machine

/-- A frame in stall 0x26 that has not been acknowledged (R487): a message of this device, or a frame that it forwards. A message
takes one frame. -/
structure TxFrame where
  seq : Nat
  dest : Nat
  vc : Nat
  /-- end-to-end sequence -/
  e2e : Nat
  /-- message of this device; none for a forwarded frame -/
  msg : Option Msg
  /-- source and payload of a forwarded frame -/
  source : Nat
  payload : List Byte
  /-- port that the frame is bound to; none: the route of its destination -/
  port : Option Nat := none
  deriving DecidableEq, Repr

structure ShunisPort where
  /-- powered: a far-end termination was detected; R485, R517; reset 0 -/
  powered : Bool := false
  /-- training; R485; reset 0 -/
  training : Bool := false
  /-- UP; 1 bit; R511; reset 0 -/
  up : Bool := false
  /-- lanes that trained and have not been removed; R485; reset none -/
  trained : BitVec 4 := 0
  /-- neighbour group ID; 3 bits; R511; reset none -/
  neighbour : Option Nat := none
  /-- die serial number of the neighbour; 64 bits; R485; DESIGN CHOICE 0 -/
  serial : Nat := 0
  /-- next link sequence to send; 16 bits; R486; DESIGN CHOICE 0 -/
  txSeq : Nat := 0
  /-- link sequence of the last frame received in order; 16 bits; R486; DESIGN CHOICE none -/
  rxSeq : Option Nat := none
  /-- stall 0x26: frames not acknowledged, oldest first; R19, R487; reset empty -/
  unacked : List TxFrame := []
  /-- replays of the oldest frame; R487; reset 0 -/
  replays : Nat := 0
  /-- NAKs sent and not yet answered; R487; reset 0 -/
  naks : Nat := 0
  deriving DecidableEq, Repr

/-- A group commit at its master (R65). -/
structure GroupCommit where
  packet : Packet
  epoch : Nat
  generation : BitVec 32
  mask : BitVec 8
  armed : BitVec 8
  refused : BitVec 8
  applied : BitVec 8
  deriving DecidableEq, Repr

/-- GROUP_FORM FORM in progress (R491). -/
structure FormRun where
  packet : Packet
  mask : BitVec 8
  joined : BitVec 8
  deriving DecidableEq, Repr

/-- Where a GROUP_SYNC stands at its coordinator (R494). -/
inductive SyncPhase where
  /-- step 1: the reports of the members are collected -/
  | query
  /-- step 2: the members arm -/
  | arming
  /-- the pulse has been driven, or with EXTERNAL is awaited -/
  | pulsed
  /-- step 4 has been reported by every member; PINGs run -/
  | transit
  deriving DecidableEq, Repr

/-- GROUP_SYNC at its coordinator (R494). -/
structure SyncRun where
  packet : Packet
  external : Bool
  noBus : Bool
  phase : SyncPhase
  /-- members whose report came; those that fail step 1; those that are the root -/
  reported : BitVec 8
  failing : BitVec 8
  roots : BitVec 8
  /-- members that reported ARMED -/
  armed : BitVec 8
  /-- x_k - tr_k of the members that reported step 4 -/
  captures : Table (Option Int)
  /-- members whose transit came, and the largest transit -/
  transits : BitVec 8
  transitMax : Nat
  deriving DecidableEq, Repr

/-- PAIR_FORM FORM waiting for its epoch (R500). -/
structure PairPlan where
  packet : Option Packet
  epoch : Nat
  role : Nat
  peer : Nat
  streams : BitVec 256
  /-- the shadow has answered that it can form -/
  confirmed : Bool
  deriving DecidableEq, Repr

/-- A final entry that the primary holds until the shadow confirms (R502, R504). -/
structure Unconfirmed where
  tag : Nat
  packet : Packet
  status : Status
  reply : List Byte
  deriving DecidableEq, Repr

structure GroupState where
  /-- group ID; 3 bits; R483; reset straps (DESIGN CHOICE 0 before POR# is deasserted) -/
  id : Nat := 0
  /-- members; 8 bits; R511; reset 0 -/
  members : BitVec 8 := 0
  /-- Shunis ports 0-3; R484; reset down -/
  ports : Table ShunisPort := []
  /-- neighbours of every other member, learned by FORM messages; R489; reset none -/
  neighbours : Table (Option (List (Option Nat))) := []
  /-- frames that wait for space in stall 0x26; R487, R490; reset none -/
  held : List TxFrame := []
  /-- forwarded commands that each member has not completed, at most 512; R498; reset none -/
  forwardedOut : Table Nat := []
  /-- end-to-end sequence expected by source × 4 + virtual channel; R490; DESIGN CHOICE 0 -/
  e2eRx : Table Nat := []
  /-- end-to-end sequence of the next frame by destination × 4 + virtual channel; R486; DESIGN CHOICE 0 -/
  e2eTx : Table Nat := []
  /-- frames_unroutable; 32 bits; R511; reset 0 -/
  unroutable : BitVec 32 := 0
  /-- GROUP_FORM in progress; R491; reset none -/
  forming : Option FormRun := none
  /-- device whose FORM made this one a member; R491; reset none -/
  joinedBy : Option Nat := none
  /-- group commit at its master; R65; reset none -/
  commit : Option GroupCommit := none
  /-- armed for SYNC by GROUP_SYNC; R493; reset 0 -/
  syncArmed : Bool := false
  /-- coordinator that armed this device, and whether it skips the transit measurement; R494; reset none -/
  syncMaster : Option (Nat × Bool) := none
  /-- PINGs received since the SYNC; R494; reset 0 -/
  pings : Nat := 0
  /-- GROUP_SYNC coordinated here; R494; reset none -/
  syncRun : Option SyncRun := none
  /-- sync_skew; 32 bits signed; R511; reset 0 -/
  syncSkew : Int := 0
  /-- SYNC_OUT0 and SYNC_OUT1 carry the GROUP_SYNC pulse; R492; reset low -/
  syncOut : Bool := false
  /-- bus_transit_max; 32 bits; R511; reset 0 -/
  busTransitMax : Nat := 0
  /-- true intervals of the trigger-bus lines: line, from, up to but excluding; R496; reset none -/
  busIntervals : List (Nat × Nat × Nat) := []
  /-- bus_late; 32 bits; R511; reset 0 -/
  busLate : BitVec 32 := 0
  /-- epoch of the last bus late event; R515; reset none -/
  busLateEpoch : Option Nat := none
  /-- forwarded commands executing here, at most 512; R498; reset 0 -/
  forwardedRunning : Nat := 0
  /-- pair_role: 0 none, 1 primary, 2 shadow; 2 bits; R511; reset 0 -/
  pairRole : Nat := 0
  /-- pair_status FORMED; R511; reset 0 -/
  pairFormed : Bool := false
  /-- pair_status DEGRADED; R511; reset 0 -/
  pairDegraded : Bool := false
  /-- pair_status MUTED; R511, R501; reset 0 -/
  pairMuted : Bool := false
  /-- sample index at the balls from which a new primary is no longer muted; R506; reset none -/
  unmuteAt : Option Nat := none
  /-- peer of the pair; 3 bits; R500; reset none -/
  pairPeer : Option Nat := none
  /-- mirrored streams; 256 bits; R500; reset none -/
  mirrored : BitVec 256 := 0
  /-- a pair formation that waits for T; R500; reset none -/
  pairPlan : Option PairPlan := none
  /-- PAIR_TAKEOVER that waits for T; R509; reset none -/
  takeoverAt : Option (Option Packet × Nat) := none
  /-- device time of the last heartbeat received on any route; R505, R508; reset none -/
  lastHeartbeat : Option Nat := none
  /-- port 3 heartbeats: the last one came on port 3; R505; reset 0 -/
  heartbeatPort3 : Bool := false
  /-- heartbeats sent; R505; reset 0 -/
  heartbeatsSent : Nat := 0
  /-- reorder area of the shadow: records without a key, by stream; 1 MiB per stream; R503; reset empty -/
  reorder : Table (List Rec) := []
  /-- keys without a record, by stream, oldest first; R503; reset none -/
  keys : Table (List RecKey) := []
  /-- sequence of the last record matched to a key, by stream; R508; reset 0 -/
  keySeq : Table Nat := []
  /-- mirror mismatches since formation; R508; reset 0 -/
  mismatches : Nat := 0
  /-- mirrored commands accepted since formation; R508; reset 0 -/
  mirroredCount : Nat := 0
  /-- tag of the last mirrored command accepted; R508; reset 0 -/
  lastTag : Nat := 0
  /-- final entries that wait for the shadow; R502, R504; reset none -/
  unconfirmed : List Unconfirmed := []
  /-- commands sent to the shadow that have not completed here, and whether the shadow has confirmed them; R502; reset none -/
  awaiting : List (Packet × Bool) := []
  deriving DecidableEq, Repr

end Sys2Proof.Machine
end

