-- ==== Sys2Proof/Machine/PaddockState.lean ====
section
/-! DEFINITION. State of Paddock: fuses, image, keys, sessions (18_paddock_security.md). -/

namespace Sys2Proof.Machine

/-- The fields of a verified Plynpoud image that the device keeps (R545, R546). -/
structure ImageInfo where
  approved : Bool := false
  securityVersion : Nat := 0
  microcode : Nat := 0
  patch : Nat := 0
  /-- operator entries: role and public key (R546) -/
  operators : List (Nat × List Byte) := []
  deriving DecidableEq, Repr

/-- A word of the control store, the patch RAM or the microcode as stored: 144 bits and an odd-parity bit for each 36-bit quarter
(R549). -/
structure Microword where
  bits : BitVec 144 := 0
  parity : BitVec 4 := 0b1111#4
  deriving DecidableEq, Repr

/-- What the CP fetches its microcode from (R545, R549). -/
structure MicroStore where
  /-- control store; 16,384 words; R549; DESIGN CHOICE empty before an image is loaded -/
  control : List Microword := []
  /-- patch RAM; 1,024 words; R549; DESIGN CHOICE empty -/
  patch : List Microword := []
  /-- match table; 64 entries of 32 bits: control-store address [13:0], patch RAM address [23:14], VALID [31]; R549; DESIGN CHOICE empty -/
  entries : List (BitVec 32) := []
  deriving DecidableEq, Repr

/-- A nonce issued by AUTH_CHALLENGE (R554). -/
structure Nonce where
  operator : Nat
  bytes : List Byte
  deriving DecidableEq, Repr

structure PaddockState where
  /-- fuses; R544; reset: factory values, read at POR# (DESIGN CHOICE blank before) -/
  fuses : Fuses := {}
  /-- SPI flash; R547; DESIGN CHOICE absent before POR# is deasserted -/
  flash : Flash := {}
  /-- running image; R548; reset none -/
  image : Option ImageInfo := none
  /-- control store, patch RAM and match table; R549 -/
  store : MicroStore := {}
  /-- the two copies of their content in the system region of Loft; R548; DESIGN CHOICE empty -/
  copies : List (List Byte) := []
  /-- SHA-384 digest of the loaded content; 384 bits; R548; DESIGN CHOICE 0 -/
  storeDigest : BitVec 384 := 0
  /-- owner block verified at boot; R562; reset 0 -/
  ownerVerified : Bool := false
  /-- boot_slot; 2 bits; R565; reset 0 -/
  bootSlot : Nat := 0
  /-- key slots 1-15; 256 bits each; R558; reset empty -/
  slots : Table (Option (BitVec 256)) := []
  /-- power-up self-tests passed; R562; reset 0 -/
  testsPassed : Bool := false
  /-- error state; R562; reset 0 -/
  errorState : Bool := false
  /-- jtag_mode has been 2 since POR#; R562; reset 0 -/
  debugged : Bool := false
  /-- sessions: role by submission queue, 1 Crypto Officer, 2 User; R553, R555; reset none -/
  sessions : Table Nat := []
  /-- nonces by submission queue; R554; reset none -/
  nonces : Table (Option Nonce) := []
  /-- consecutive failed responses; R554; reset 0 -/
  failures : Nat := 0
  /-- AUTH_CHALLENGE is locked out; R554; reset 0 -/
  lockedOut : Bool := false
  /-- zeroise_count; 32 bits; R565; reset 0 -/
  zeroiseCount : BitVec 32 := 0
  /-- auth_failures; 32 bits; R565; reset 0 -/
  authFailures : BitVec 32 := 0
  /-- requests served by the DRBG since its seed; R557; reset 0 -/
  drbgCount : Nat := 0
  /-- last JTAG instruction in the register; R564; PRESUMED BYPASS (IEEE 1149.1 without reset value in the spec) -/
  tap : TapInstr := .bypass
  deriving DecidableEq, Repr

end Sys2Proof.Machine
end

