-- ==== Sys2Proof/Machine/PowerState.lean ====
section
/-! DEFINITION. State of Bellows, the rails, the start-up sequence and telemetry (17_power_telemetry_startup.md). -/

namespace Sys2Proof.Machine

/-- DEV_STATUS STATE (R422). -/
inductive DevState where
  | bootRom | waitImage | loading | ready | safe | sleep | bootFailed
  deriving DecidableEq, Repr

structure PowerState where
  /-- STATE; 3 bits; R422; reset 0 BOOT_ROM -/
  state : DevState := .bootRom
  /-- BOOT_ERROR; 8 bits; R422; reset 0 -/
  bootError : Nat := 0
  /-- POR# asserted; R532; reset 1 (DESIGN CHOICE: the machine right after reset is held until POR_DEASSERT) -/
  por : Bool := true
  /-- PWR_SEQ_EXT as sampled; 1 bit; R526; reset strap (DESIGN CHOICE 0 before POR# is deasserted) -/
  extSeq : Bool := false
  /-- what the board presented at POR#; R530; reset none -/
  board : Option Board := none
  /-- managed rails that are good, in power-up order; R527; reset 0 -/
  railsGood : Nat := 0
  /-- a rail sequence runs; R527; reset 0 -/
  railsRunning : Bool := false
  /-- the converter and DAC rails are off for SLEEP; R523; reset 0 -/
  sleepRails : Bool := false
  /-- the Drone holds a rail failure; R528; reset 0 -/
  railFailure : Bool := false
  /-- the Drone holds a thermal trip; R535; reset 0 -/
  thermalTrip : Bool := false
  /-- scan-out, outputs stopped by the Drone after a control-store loss; R551; reset 0 -/
  cpHalted : Bool := false
  /-- domains; 32 bits; R539; reset 0x0000_000F -/
  domains : BitVec 32 := 0x0000000F
  /-- cap_w; 8 bits; R539; reset 230 -/
  capW : Nat := 230
  /-- throttle_level; 3 bits; R539; reset 0 -/
  throttle : Nat := 0
  /-- milliseconds since the last step down; R534; reset 0 -/
  coolMs : Nat := 0
  /-- milliseconds at level 7 above the cap; R534; reset 0 -/
  sevenMs : Nat := 0
  /-- throttle_ms; 64 bits; R539; reset 0 -/
  throttleMs : Nat := 0
  /-- power_mw; 32 bits; R539; reset 0 -/
  powerMw : Nat := 0
  /-- vdd_core_mv; 16 bits; R539; reset 750 -/
  vddCoreMv : Nat := 750
  /-- sleep_count; 32 bits; R539; reset 0 -/
  sleepCount : BitVec 32 := 0
  /-- TEMP_MAX; 32 bits signed; R458; reset 0 -/
  tempMax : Int := 0
  /-- POWER_NOW; 32 bits; R458; reset 0 -/
  powerNow : Nat := 0
  /-- last telemetry sample; R536; DESIGN CHOICE empty -/
  last : Readings := { temps := [], rails := [], pmbusError := false }
  /-- TELEMETRY records written; R536 tele_stall_div; reset 0 -/
  teleCount : Nat := 0
  /-- a die sensor was at or above tj_throttle at the last evaluation; R534, R542; reset 0 -/
  overThrottle : Bool := false
  /-- wake time of SLEEP in device time, 0 none; 64 bits; R522; reset 0 -/
  wakeTime : Nat := 0
  /-- WAKE_TRIG; R522; reset 0 -/
  wakeTrig : Bool := false
  /-- a wake runs: the WAKE command if one started it, and the device time of its acceptance; R525; reset none -/
  waking : Option (Option Packet × Nat) := none
  /-- the CP clock runs; R524; reset 1 -/
  cpClock : Bool := true
  /-- rail status words with a fault or warning bit, as last read; R529; reset 0 -/
  railStatus : List Nat := []
  deriving DecidableEq, Repr

end Sys2Proof.Machine
end

