-- ==== Sys2Proof/Machine/RecState.lean ====
section
/-! DEFINITION. State of the storage ports, the volumes, the recorder and playback (11_transfer_and_recorder.md, R324-R343). -/

namespace Sys2Proof.Machine

/-- What one LBA of a drive holds: its bytes, and the volume key and tweak under which the XTS engine wrote them (R337). -/
structure DiskBlock where
  bytes : List Byte := []
  key : Option (Nat × Nat) := none
  deriving DecidableEq, Repr

/-- NVMe commands in a queue (R325). -/
inductive NvmeCmd where
  /-- Identify and queue creation of bring-up -/
  | bringUp (d : DriveId)
  /-- Flush at the end of a recording (R334) -/
  | flush (recording : Nat)
  /-- one write of a stripe unit (R326, R332) -/
  | write (recording unit : Nat)
  deriving DecidableEq, Repr

structure StoragePort where
  /-- LINK_UP; 1 bit; R341; reset 0 -/
  linkUp : Bool := false
  /-- READY; 1 bit; R341; reset 0 -/
  ready : Bool := false
  /-- NOT_USABLE; 1 bit; R341; reset 0 -/
  notUsable : Bool := false
  /-- FAILED; 1 bit; R341; reset 0 -/
  failed : Bool := false
  /-- RETIRED; 1 bit; R341; reset 0 -/
  retired : Bool := false
  /-- pct_used; 8 bits; R341; reset 0 -/
  pctUsed : Nat := 0
  /-- critical; 8 bits; R341; reset 0 -/
  critical : Nat := 0
  /-- capacity; 64 bits; R341; reset 0 -/
  capacity : Nat := 0
  /-- largest data transfer in bytes, 0 for none; R326; reset 0 -/
  mdts : Nat := 0
  /-- stall 0x24: NVMe commands in flight, oldest first, at most 256; R19, R32, R325; reset none -/
  queue : List NvmeCmd := []
  /-- the oldest command is retried; 1 bit; R339; reset 0 -/
  retried : Bool := false
  /-- what the drive holds, by LBA; the drive's, not the device's; 4,096 bytes each; R327; DESIGN CHOICE zeros -/
  disk : Table DiskBlock := []
  deriving DecidableEq, Repr

/-- One recording of a volume, as the journal states it (R329). -/
structure Recording where
  id : Nat
  stream : Nat := 0
  startTime : Nat := 0
  firstSeq : Nat := 0
  label : List Byte := []
  /-- runs of consecutive units: first unit, count, byte offset in the recording (R328) -/
  extents : List (Nat × Nat × Nat) := []
  /-- durable length and last sequence -/
  length : Nat := 0
  lastSeq : Nat := 0
  /-- end reason of CLOSE -/
  closed : Option Nat := none
  /-- TRIM: new start offset -/
  start : Nat := 0
  /-- CHUNK_MAC: tags by chunk index (R338) -/
  macs : Table (List Byte) := []
  deriving DecidableEq, Repr

/-- An entry of the journal (R329). -/
inductive JournalEntry where
  | opened (id stream time firstSeq : Nat) (label : List Byte)
  | extent (id first count offset : Nat)
  | checkpoint (id length lastSeq head : Nat)
  | closed (id length lastSeq reason : Nat)
  | deleted (id : Nat)
  | chunkMac (id index : Nat) (tag : List Byte)
  | trim (id start firstSeq : Nat)
  deriving DecidableEq, Repr

/-- One mounted volume (R326-R330). -/
structure Volume where
  /-- port of each drive, by drive index; none: missing -/
  ports : List (Option Nat)
  stripeLog2 : Nat
  encrypted : Bool
  mac : Bool
  keySlot : Nat
  /-- XTS key pair and HMAC key, held only while mounted (R337, R560) -/
  keys : Option (Nat × Nat)
  wrapped : List Byte
  uuid : List Byte
  label : List Byte
  dataStart : Nat
  dataRows : Nat
  journalLbas : Nat
  mountCount : Nat
  /-- sequence of the next journal block -/
  jseq : Nat
  /-- first journal block that still counts -/
  jlive : Nat
  failed : Bool
  /-- drive indices that are retired (R340) -/
  retired : List Nat
  /-- next unit of the next-fit allocation (R332) -/
  head : Nat
  recordings : List Recording
  /-- freed units that wait for deallocation (R330, R340): drive index, first row, rows -/
  freed : List (Nat × Nat × Nat)
  /-- waiting parts of rec.main that the volume has taken at a stripe-unit boundary (R58, R341) -/
  mainParts : Nat := 0
  deriving DecidableEq, Repr

/-- A recording that runs (R331-R335). -/
structure RunningRec where
  id : Nat
  volume : Nat
  stream : Nat
  loop : Bool
  /-- ring offset of the recording's first byte -/
  base : Nat
  /-- bytes written to the drives -/
  written : Nat
  /-- units whose writes are in the drives' queues, oldest first (R32, R332) -/
  ahead : List Nat := []
  /-- ring offset at which it ends, once known -/
  stop : Option Nat
  /-- end reason, and the REC_STOP that waits -/
  reason : Nat
  packet : Option Packet
  /-- Flush commands of its end that are in flight; none: not yet issued -/
  flushes : Option Nat
  /-- ring offset up to which records have been walked, and the last sequence found -/
  scanned : Nat
  lastSeq : Nat
  deriving DecidableEq, Repr

/-- A REC_START or REC_STOP that waits for its epoch (R331, R334). -/
structure RecWait where
  packet : Packet
  stream : Nat
  epoch : Nat
  /-- recording ID of a REC_STOP -/
  stopOf : Option Nat
  /-- the EPOCH record of a REC_STOP was dropped: the first record at or above T ends the recording -/
  missed : Bool
  deriving DecidableEq, Repr

/-- A playback (R336). -/
structure Playback where
  packet : Packet
  volume : Nat
  recording : Nat
  stream : Nat
  /-- next byte of the recording, and the byte at which it ends -/
  next : Nat
  limit : Nat
  /-- first sequence to deliver, records delivered, record count asked for (0: to the end) -/
  firstSeq : Option Nat
  played : Nat
  count : Nat
  /-- rate limit in MB/s (0: none), bytes delivered, device time at acceptance in ns -/
  rate : Nat
  bytes : Nat
  begun : Nat
  /-- the running read is the second attempt -/
  retried : Bool
  deriving DecidableEq, Repr

structure RecState where
  /-- storage ports 0-7; R324, R345 -/
  ports : Table StoragePort := []
  /-- mounted volumes 0-7; R330, R345; reset none -/
  volumes : Table (Option Volume) := []
  /-- running recordings, at most 16; R331; reset none -/
  running : List RunningRec := []
  /-- REC_START and REC_STOP with AT_EPOCH that wait; R331, R334; reset none -/
  waits : List RecWait := []
  /-- playbacks, at most 8; R336; reset none -/
  playing : List Playback := []
  /-- volumes to mount again at WAKE: volume, ports; R343; reset none -/
  remount : List (Nat × List Nat) := []
  /-- next recording ID; 32 bits; R329; DESIGN CHOICE 1 -/
  nextId : Nat := 1
  deriving DecidableEq, Repr

end Sys2Proof.Machine
end

