-- ==== Sys2Proof/Machine/ReedBinding.lean ====
section
/-! DEFINITION. State of the Reed kernel bindings (R394-R402). The cores stand in Machine/ReedState.lean. -/

namespace Sys2Proof.Machine

/-- A batch: header values and data bytes (R396-R400). -/
structure Batch where
  firstIndex : Nat
  spacing : Nat
  gen : BitVec 32
  count : Nat
  /-- batch flags (R400) -/
  flags : Nat
  exponent : Int
  info : Nat
  data : List Byte
  /-- ring sources: sequence of the last record, and the ring offset behind it (R398) -/
  ringEnd : Option (Nat × Nat) := none
  deriving DecidableEq, Repr

inductive BindKind where
  | lane | slot | ring | memory
  deriving DecidableEq, Repr

inductive BindState where
  | running | stopped | done | error
  deriving DecidableEq, Repr

/-- One kernel binding (R394). -/
structure Binding where
  packet : Packet
  core : Nat
  port : Nat
  kind : BindKind
  batchLog2 : Nat
  /-- lane code, slot, or stream -/
  source : Nat
  xRegion : Nat
  yHdr : Nat
  memAddr : Nat
  memLen : Nat
  firstBin : Nat
  /-- stamp at which the next batch may begin; none: at the next sample, after a cut (R394, R396, R402) -/
  begins : Option Nat
  state : BindState := .running
  /-- batch in progress of a lane source -/
  partialBatch : Option Batch := none
  /-- the last sample of the batch in progress was not produced (R402) -/
  missing : Bool := false
  /-- stall 0x12 or 0x23: complete batches, oldest first, at most four -/
  stall : List Batch := []
  /-- batches dropped since the previous delivered one -/
  dropped : Nat := 0
  /-- epoch of the last batch-dropped event -/
  dropEpoch : Option Nat := none
  /-- batches delivered -/
  delivered : Nat := 0
  /-- next of the four buffers to fill -/
  nextBuffer : Nat := 0
  /-- buffers delivered and not yet obtained by bget, oldest first -/
  ready : List Nat := []
  /-- buffers that the core holds on the port, oldest first: at most two -/
  held : List Nat := []
  /-- ring position, or bytes of memory taken -/
  position : Nat := 0
  /-- sequence and end offset of the last record of each delivered ring batch, by buffer -/
  ringEnds : Table (Option (Nat × Nat)) := []
  /-- headers' first index, generation, flags and number by buffer, for bget (R400, R403) -/
  heads : Table (Option (Nat × BitVec 32 × Nat × Nat)) := []
  /-- batches dropped on the binding -/
  totalDropped : Nat := 0
  /-- output request (R405) -/
  request : Bool := false
  /-- the KERNEL_RUN UNBIND that waits -/
  unbinding : Option Packet := none
  deriving DecidableEq, Repr

end Sys2Proof.Machine
end

