-- ==== Sys2Proof/Machine/ReedState.lean ====
section
/-! DEFINITION. State of the Reed cores and their bindings (13_reed_cores.md). -/

namespace Sys2Proof.Machine

inductive CoreMode where
  | stopped | running | waiting | exception | faulted
  deriving DecidableEq, Repr

/-- The core memories (R376). -/
inductive CoreRam where
  | x | y | c
  deriving DecidableEq, Repr

/-- A write on its way to becoming visible (R387, R389). -/
inductive CoreWrite where
  | vec (phys : Nat) (v : BitVec 128)
  | acc (n : Nat) (lanes : List Int)
  /-- the accumulator as an accumulating instruction of the MAC group reads it (R384) -/
  | fwd (n : Nat) (lanes : List Int)
  | addr (n v : Nat)
  | modifier (n v : Nat)
  | ram (r : CoreRam) (a : Nat) (bytes : List Byte)
  deriving DecidableEq, Repr

/-- One level of the loop stack (R391). -/
structure LoopLevel where
  start : Nat
  stop : Nat
  count : Nat
  step : Bool
  /-- its first iteration runs, and it was the innermost level throughout it -/
  filling : Bool
  deriving DecidableEq, Repr

/-- An xfer that runs (R406, R412): window base at its issue, offsets, length, direction, RAM. -/
structure CoreXfer where
  addr : Nat
  ram : Nat
  length : Nat
  toWindow : Bool
  yRam : Bool
  deriving DecidableEq, Repr

/-- What a core waits for (R390). -/
inductive CoreWait where
  | none
  | batch (port areg : Nat)
  | xfers
  | xferSlot (x : CoreXfer)
  | outputSlot
  deriving DecidableEq, Repr

/-- A bput that has not formed its record (R390, R403). -/
structure CoreOutput where
  binding : Nat
  firstIndex : Nat
  gen : BitVec 32
  payload : List Byte
  deriving DecidableEq, Repr

structure ReedCore where
  /-- STATE; 3 bits; R409; reset 0 STOPPED -/
  mode : CoreMode := .stopped
  /-- a kernel is loaded; R409; reset 0 -/
  loaded : Bool := false
  /-- entry word address; 13 bits; R408; reset 0 -/
  entry : Nat := 0
  /-- program RAM: 8,192 instructions of 64 bits; R376, R415; reset 0 -/
  program : Table (BitVec 64) := []
  /-- X RAM: 128 KiB; R376, R415; reset 0 -/
  xRam : Table Byte := []
  /-- Y RAM: 128 KiB; R376, R415; reset 0 -/
  yRam : Table Byte := []
  /-- C RAM: 64 KiB; R376, R415; reset 0 -/
  cRam : Table Byte := []
  /-- physical vector registers 0-63; 128 bits each; R376, R393; reset 0 -/
  vec : Table (BitVec 128) := []
  /-- accumulators 0-7: 8 lanes of 40 bits, signed; R378; reset 0 -/
  acc : Table (List Int) := []
  /-- accumulators 0-7 as accumulating MAC-group instructions read them; 8 lanes of 40 bits; R384; reset 0 -/
  fwd : Table (List Int) := []
  /-- address registers a0-a7; 17 bits each; R376; reset 0 -/
  areg : Table Nat := []
  /-- modifier registers m0-m7; 23 bits each; R376; reset 0 -/
  mreg : Table Nat := []
  /-- vector ring offset; 5 bits; R393; reset 0 -/
  vro : Nat := 0
  /-- loop stack, innermost first, at most three levels; R376, R391; reset empty -/
  loops : List LoopLevel := []
  /-- body that the repeat cache holds: first and last address; R392; reset none -/
  cache : Option (Nat × Nat) := none
  /-- program counter; 13 bits; R409; reset 0 -/
  pc : Nat := 0
  /-- issue position; R387; reset 0 -/
  position : Nat := 0
  /-- writes that are not visible yet: the position at which each becomes visible, in issue order; R387-R389; reset none -/
  writes : List (Nat × CoreWrite) := []
  /-- AOV; 1 bit; R409; reset 0 -/
  aov : Bool := false
  /-- SAT; 1 bit; R409; reset 0 -/
  sat : Bool := false
  /-- EXC_CAUSE; 8 bits; R409; reset 0 -/
  excCause : Nat := 0
  /-- xfers that run, oldest first, at most four; R390, R406; reset none -/
  xfers : List CoreXfer := []
  /-- bputs that have not formed their records, oldest first, at most four; R390, R403; reset none -/
  outputs : List CoreOutput := []
  /-- the bput that waits for a place; R390; reset none -/
  heldOutput : Option CoreOutput := none
  /-- what the core waits for; R390; reset none -/
  wait : CoreWait := .none
  /-- current binding: that of the most recent bget; R403; reset none -/
  current : Option Nat := none
  /-- first_index, generation, flags and number of the current batch; R403; reset 0 -/
  batchIndex : Nat := 0
  batchGen : BitVec 32 := 0
  batchFlags : Nat := 0
  batchNumber : Nat := 0
  /-- KERNEL_RUN STOP commands that wait; R409; reset none -/
  stopping : List Packet := []
  /-- cycles_busy; 64 bits; R412; reset 0 -/
  cyclesBusy : BitVec 64 := 0
  /-- batches; 64 bits; R412; reset 0 -/
  batches : BitVec 64 := 0
  deriving DecidableEq, Repr

structure ReedState where
  /-- kernel bindings 0-127; R394; reset none -/
  bindings : Table (Option Binding) := []
  /-- cores 0-31; R376 -/
  cores : Table ReedCore := []
  /-- clusters usable: enable has been 1 for 20 us; R412, R518; reset 0 -/
  usable : Table Bool := []
  /-- reed.clusterN.dropped; 32 bits; R412; reset 0 -/
  dropped : Table (BitVec 32) := []
  deriving DecidableEq, Repr

end Sys2Proof.Machine
end

