-- ==== Sys2Proof/Machine/TiuState.lean ====
section
/-! DEFINITION. State of the interval unit (08_interval_unit.md). -/

namespace Sys2Proof.Machine

/-- One interpolator of an input (R225, R227). -/
structure Interpolator where
  /-- r1 and r2; 11 bits each; R225; DESIGN CHOICE 0 and 1,600 before the first calibration -/
  r1 : Int := 0
  r2 : Int := 1600
  /-- consecutive calibration failures; R227; reset 0 -/
  failures : Nat := 0
  /-- removed from service; R227; reset 0 -/
  removed : Bool := false
  /-- stamp of its last edge, in LSB, behind which it is busy for 2.5 ns; R224; reset none -/
  lastEdge : Option Int := none
  deriving DecidableEq, Repr

structure TiuInput where
  /-- interpolators 0 and 1; R224 -/
  interp0 : Interpolator := {}
  interp1 : Interpolator := {}
  /-- stamp of the last edge stamped, in LSB; R224; reset none -/
  lastEdge : Option Int := none
  /-- interpolators still to calibrate, the one under calibration first; R224, R226; reset none -/
  toCal : List Nat := []
  /-- both have been calibrated since POR# or WAKE; R239, R240; reset 0 -/
  calibrated : Bool := false
  /-- missed count; R224; reset 0 -/
  missed : Nat := 0
  /-- epoch of the last edge-missed event; R224; reset none -/
  missedEpoch : Option Nat := none
  /-- level at the ball; R189; reset low -/
  level : Bool := false
  deriving DecidableEq, Repr

/-- A start edge of a run. -/
structure PendStart where
  stamp : Int
  /-- r2 - r1 of the interpolator that stamped it (R235) -/
  span : Nat
  /-- instant and fraction, once the index tick behind it is known (R228) -/
  instant : Option (Nat × Nat)
  deriving DecidableEq, Repr

/-- A stop edge that a run keeps (R232). -/
structure KeptStop where
  stamp : Int
  span : Nat
  accepted : Bool
  deriving DecidableEq, Repr

/-- The active run (R230-R234). -/
structure TiuRun where
  packet : Packet
  startInput : Nat
  stopInput : Nat
  record : Bool
  atSample : Option Nat
  count : Nat
  wLo : Int
  wHi : Int
  resultAddr : Nat
  /-- edges are accepted: the calibration at run start has completed (R226) -/
  accepting : Bool
  /-- the run has ended with this end code and status and waits for the tick behind its first start (R235) -/
  ended : Option (Nat × Status)
  /-- pending starts, earliest first, at most 16 (R232) -/
  starts : List PendStart
  /-- most recent stops, latest last, at most 16, with accepted marks (R232) -/
  stops : List KeptStop
  /-- accepted intervals: count, sum, sum of squares, least and greatest -/
  n : Nat
  sum : Int
  sumSq : Nat
  least : Int
  greatest : Int
  unmatched : Nat
  rejected : Nat
  missedStart : Nat
  missedStop : Nat
  /-- first accepted start and the spans of the first start and stop -/
  first : Option PendStart
  spanStart : Nat
  spanStop : Nat
  /-- DEGRADED, CAL_STALE, SYNC_SEEN, INPUT_GAP -/
  degraded : Bool
  calStale : Bool
  syncSeen : Bool
  gap : Bool
  deriving DecidableEq, Repr

/-- An edge that waits for the index tick behind it (R228). -/
structure WaitingEdge where
  input : Nat
  rising : Bool
  stamp : Int
  deriving DecidableEq, Repr

structure TiuState where
  /-- coarse count of fabric cycles, 64 bits as written; R223; reset 0 -/
  coarse : Nat := 0
  /-- inputs 0-5; R222 -/
  inputs : Table TiuInput := []
  /-- active run; R230; reset none -/
  run : Option TiuRun := none
  /-- index ticks of the present count, newest first: sample index and stamp in LSB; R228; reset none -/
  ticks : List (Nat × Int) := []
  /-- TRIG_IN edges not converted yet, oldest first; R228; reset none -/
  waiting : List WaitingEdge := []
  deriving DecidableEq, Repr

end Sys2Proof.Machine
end

