-- ==== Sys2Proof/Machine/TrigState.lean ====
section
/-! DEFINITION. State of the trigger sequencer, its condition units, record windows and measurements (07_triggers.md). -/

namespace Sys2Proof.Machine

/-- A change of a condition source (R180): a level change or a pulse. -/
structure TrigEvent where
  source : Nat
  /-- the instant the event carries -/
  instant : Nat
  /-- the instant at which it is evaluated: the carried one unless late (R199) -/
  evalAt : Nat
  /-- fraction in 2^-16 sample periods, where the source supplies one -/
  fraction : Option Nat
  /-- none: a pulse; else the new level -/
  level : Option Bool
  /-- INPUT_GAP -/
  gap : Bool
  late : Bool
  deriving DecidableEq, Repr

/-- One envelope unit (R182-R184). -/
structure EnvUnit where
  above : Bool := false
  value : Bool := false
  /-- samples with above_a, runt reached level_b, samples below in a run -/
  width : Nat := 0
  reached : Bool := false
  below : Nat := 0
  /-- previous evaluated sample: stamp and envelope value; none after a clear or a settling run -/
  prev : Option (Nat × Int) := none
  /-- the next event carries INPUT_GAP -/
  gap : Bool := false
  /-- lane samples below this stamp have been evaluated; R182; reset 0 -/
  next : Nat := 0
  /-- boundaries of the tokens that change the unit or its lane and that the unit has not passed, oldest first; R184; reset none -/
  tokens : List Nat := []
  deriving DecidableEq, Repr

/-- One frequency unit (R185-R188). -/
structure FrqUnit where
  value : Bool := false
  above : Bool := false
  gap : Bool := false
  /-- spectra with a stamp below this one have been evaluated; R185; reset 0 -/
  next : Nat := 0
  /-- boundaries of the tokens that change the unit and that it has not passed, oldest first; R184, R219; reset none -/
  tokens : List Nat := []
  deriving DecidableEq, Repr

/-- An action on its way through stall 0x09 to the record paths or a generator (R196, R360, R622). The other actions leave the stall as they
enter it. -/
inductive SeqAction where
  | close (windows : List Nat) (t : Nat)
  | open (windows : List Nat) (t : Nat)
  | jump (g step : Nat) (due : Option Nat)
  deriving DecidableEq, Repr

/-- A measurement of a window (R209): running, or ended and not yet reported. -/
structure Meas where
  window : Nat
  /-- channel × 8 + lane -/
  lane : Nat
  /-- opening instant; the first stamp measured is the first of the lane's grid at or above it -/
  opened : Nat
  /-- first stamp -/
  start : Nat
  /-- next stamp to read -/
  next : Nat
  /-- closing instant -/
  close : Option Nat
  /-- samples read, oldest first -/
  samples : List LaneSample
  /-- CUT, DISARMED, LATE and HISTORY_SHORT -/
  cut : Bool
  disarmed : Bool
  late : Bool
  short : Bool
  /-- settings when the window opened -/
  lo : Int
  hi : Int
  k : Nat
  gain : Nat
  nco : Nat
  gen : BitVec 32
  deriving DecidableEq, Repr

/-- One record window (R206). -/
structure TrigWindow where
  isOpen : Bool := false
  openedAt : Nat := 0
  /-- instant of the automatic close -/
  autoClose : Option Nat := none
  deriving DecidableEq, Repr

/-- A TRIG_ARM or TRIG_FORCE that waits for its at_sample (R213, R214). -/
structure TrigWait where
  packet : Packet
  instant : Nat
  deriving DecidableEq, Repr

structure TrigState where
  /-- ARMED; 1 bit; R215; reset 0 -/
  armed : Bool := false
  /-- STATE; 4 bits; R215; reset 0 -/
  state : Nat := 0
  /-- entry instant E; 64 bits; R193, R215; reset 0 -/
  entry : Nat := 0
  /-- acting instant of the last ARM or REARM; R213; reset 0 -/
  armedAt : Nat := 0
  /-- first instant not yet evaluated; 64 bits; R197, R213; reset 0 -/
  evalNext : Nat := 0
  /-- an instant that is evaluated though no event falls on it: the end of a pulse, or the first instant of a state; R192, R194; reset none -/
  again : Option Nat := none
  /-- pulse sources that were true at the instant evaluated last; 48 bits; R192, R204; reset 0 -/
  pulsed : BitVec 48 := 0
  /-- after a decrease of the horizon: its boundary, and the sample index at which the instant before it was evaluated; R619; reset none -/
  catchUp : Option (Nat × Nat) := none
  /-- levels of the condition sources; 48 bits; R179; reset 0 -/
  levels : BitVec 48 := 0
  /-- combinations of the four transitions at the instant before; R192; reset 0 -/
  prevComb : Nat := 0
  /-- occurrence counts of the four transitions; 33 bits each; R192; reset 0 -/
  occ : List Nat := [0, 0, 0, 0]
  /-- the after edge of each transition has occurred; R192; reset 0 -/
  timerDone : Nat := 0
  /-- sources whose event since state entry carried INPUT_GAP; 48 bits; R205; reset 0 -/
  gaps : BitVec 48 := 0
  /-- events not evaluated yet, in order of arrival; R197, R200; reset none -/
  events : List TrigEvent := []
  /-- counters C0-C3; 32 bits each; R190; reset 0 (R221) -/
  counters : Table (BitVec 32) := []
  /-- start instants of the running timers TM0 and TM1 and their limits; R190; reset none (R221) -/
  timers : Table (Option (Nat × Nat)) := []
  /-- envelope units 0-15; R181 -/
  env : Table EnvUnit := []
  /-- stall 0x06 by slot: spectra for the frequency units, oldest first; R19; reset empty -/
  frqStalls : Table (RtStall Spectrum) := []
  /-- frequency units 0-7; R185 -/
  frq : Table FrqUnit := []
  /-- mask stores 0-15: 2,048 pairs of upper and lower limit; R186; reset empty -/
  masks : Table (List (Int × Int)) := []
  /-- stall 0x09: actions on their way, oldest first; R19; reset empty -/
  actions : List SeqAction := []
  /-- stall 0x09 discards; R21; reset 0 -/
  actionsFull : Bool := false
  /-- record windows 0-7; R206 -/
  windows : Table TrigWindow := []
  /-- running measurements; R209; reset none -/
  meas : List Meas := []
  /-- ended measurements that the engine has not reported; R212; reset none -/
  ended : List Meas := []
  /-- tokens that reset a lane and that the sequencer has not passed: lane and boundary, oldest first; R212; reset none -/
  laneCuts : List (Nat × Nat) := []
  /-- running pulses of the trigger outputs: the device time at which each ends; R202; reset none (R221) -/
  pulses : Table (Option Nat) := []
  /-- LATE; 1 bit; R215; reset 0 -/
  late : Bool := false
  /-- OUT_OF_ORDER; 1 bit; R215; reset 0 -/
  outOfOrder : Bool := false
  /-- ACTIONS_DROPPED; 1 bit; R215; reset 0 -/
  actionsDropped : Bool := false
  /-- WINDOW_RETRIG; 1 bit; R215; reset 0 -/
  windowRetrig : Bool := false
  /-- HISTORY_SHORT; 1 bit; R215; reset 0 -/
  historyShort : Bool := false
  /-- MARK_COUNT; 16 bits; R215; reset 0 -/
  markCount : BitVec 16 := 0
  /-- LATE_COUNT; 16 bits; R215; reset 0 -/
  lateCount : BitVec 16 := 0
  /-- DROPPED_ACTIONS; 32 bits; R215; reset 0 -/
  droppedActions : BitVec 32 := 0
  /-- instant of the previous MARK; R200, R205; reset none -/
  lastMark : Option Nat := none
  /-- TRIG_ARM commands that wait for their at_sample; R213; reset none -/
  armWaits : List TrigWait := []
  /-- TRIG_FORCE commands that wait for their at_sample; R214; reset none -/
  forceWaits : List TrigWait := []
  deriving DecidableEq, Repr

end Sys2Proof.Machine
end

