-- ==== Sys2Proof/Machine/XferState.lean ====
section
/-! DEFINITION. State of the transfer engine (11_transfer_and_recorder.md, R307-R323). -/

namespace Sys2Proof.Machine

inductive ChanState where
  | idle | running | waitOwn | waitReq | halted
  deriving DecidableEq, Repr

/-- The descriptor that a channel runs (R308, R313). -/
structure Descriptor where
  src : Nat
  dst : Nat
  srcLine : Nat
  srcStride : Int
  srcLines : Nat
  dstLine : Nat
  dstStride : Int
  dstLines : Nat
  next : Nat
  control : Nat
  /-- bytes to move: the source total, or the run of whole records under RING_SRC -/
  total : Nat
  /-- under RING_SRC: W has been sampled and the run is known -/
  started : Bool
  deriving DecidableEq, Repr

structure XferChan where
  /-- xfer.chN.state; 3 bits; R323; reset 0 IDLE -/
  state : ChanState := .idle
  /-- xfer.chN.desc_addr; 52 bits; R323; reset 0 -/
  descAddr : Nat := 0
  /-- the descriptor being run, or at which the channel halted; R307; reset none -/
  desc : Option Descriptor := none
  /-- prefetched descriptors with their addresses, at most 16; stall 0x22; R19, R317; reset none -/
  prefetched : List (Nat × List Byte) := []
  /-- running CRC-32C; 32 bits; R314; reset 0xFFFF_FFFF -/
  crc : BitVec 32 := 0xFFFFFFFF#32
  /-- next byte j to issue; R311; reset 0 -/
  issued : Nat := 0
  /-- bursts in flight: first byte and length, oldest first, at most 64; R320; reset none -/
  inFlight : List (Nat × Nat) := []
  /-- bytes moved before any failure; R308, R321; reset 0 -/
  done : Nat := 0
  /-- status code and cause with which the descriptor must complete; R321; reset none -/
  error : Option (Nat × Nat) := none
  /-- the channel goes IDLE after this descriptor: STOP, safe state, enable 0; R322, R323, R343; reset 0 -/
  stopping : Bool := false
  /-- the descriptor ends with ABORTED once the bursts in flight have completed; R322; reset 0 -/
  aborting : Bool := false
  /-- XFER_KICK STOP and ABORT commands that wait; R322; reset none -/
  waiters : List Packet := []
  /-- xfer.chN.bytes_total; 64 bits; R323; reset 0 -/
  bytesTotal : BitVec 64 := 0
  deriving DecidableEq, Repr

structure XferState where
  /-- channels 0-63; R307 -/
  chans : Table XferChan := []
  /-- channel whose arbitration turn it is and the bursts left in it; R320; DESIGN CHOICE 0 and 0 -/
  turn : Nat × Nat := (0, 0)
  /-- arbitration turns that have begun, modulo 8; R534; DESIGN CHOICE 0 -/
  turns : Nat := 0
  /-- bursts that each channel has issued in the eight turns that run; R534; reset none -/
  spent : Table Nat := []
  deriving DecidableEq, Repr

end Sys2Proof.Machine
end

