-- ==== Sys2Proof/Machine/YardState.lean ====
section
/-! DEFINITION. State of the Yard controller and of the Yard pool (15_yard_memory.md, R266, R286). -/

namespace Sys2Proof.Machine

/-- A read or write command in a replay buffer (R474). -/
structure DramCommand where
  addr : Nat
  /-- data of a write -/
  data : Option (List Byte)
  /-- the data of a read has arrived with good ECC -/
  arrived : Bool
  deriving DecidableEq, Repr

/-- A read in its master's order of issue (R467). -/
structure YardRead where
  /-- source ID of the master -/
  master : Nat
  /-- its 64-byte line -/
  line : Nat
  /-- what the channel read, and whether it is marked poisoned (R470) -/
  data : Option (List Byte × Bool) := none
  deriving DecidableEq, Repr

structure YardChannel where
  /-- PRESENT; 1 bit; R479; reset 0 -/
  present : Bool := false
  /-- TRAINED; 1 bit; R479; reset 0 -/
  trained : Bool := false
  /-- FAILED; 1 bit; R479; reset 0 -/
  failed : Bool := false
  /-- REFRESH_2X; 1 bit; R479; reset 0 -/
  refresh2x : Bool := false
  /-- OVER_TEMP; 1 bit; R479; reset 0 -/
  overTemp : Bool := false
  /-- SPEED: 0 4,800, 1 5,600, 2 6,400 MT/s; 2 bits; R479; reset 0 -/
  speed : Nat := 0
  /-- RANKS: number of ranks, 1 or 2; R479; reset 1 (field 0) -/
  ranks : Nat := 1
  /-- X8; 1 bit; R479; reset 0 -/
  x8 : Bool := false
  /-- capacity; 64 bits; R478; reset 0 -/
  capacity : Nat := 0
  /-- ce_count; 32 bits; R478; reset 0 -/
  ceCount : BitVec 32 := 0
  /-- ue_count; 32 bits; R478; reset 0 -/
  ueCount : BitVec 32 := 0
  /-- ca_replays; 32 bits; R478; reset 0 -/
  caReplays : BitVec 32 := 0
  /-- temp in 1/16 degree; 16 bits signed; R478; reset 0 -/
  temp : Int := 0
  /-- last_ue; 52 bits; R478; reset 0 -/
  lastUe : Nat := 0
  /-- corrected errors in the current hour; R469; reset 0 -/
  hourCount : Nat := 0
  /-- the correctable error rate event was raised this hour; R469; reset 0 -/
  hourEvent : Bool := false
  /-- consecutive MR4 polls that indicate 1x; R472; reset 0 -/
  polls1x : Nat := 0
  /-- consecutive MR4 polls back in range; R473; reset 0 -/
  pollsCool : Nat := 0
  /-- refreshes postponed, by rank; at most 4; R472; reset 0 -/
  postponed : Table Nat := []
  /-- refreshes issued since POR#; R472; reset 0 -/
  refreshes : Nat := 0
  /-- stall 0x25: waiting requests, oldest first, at most 256; R19, R466; reset empty -/
  queue : List YardReq := []
  /-- requests issued, in order, by master and address; R467; reset 0 -/
  issued : Nat := 0
  /-- the last opportunity of an over-temperature channel served a class 1 to 3 request; R473; reset 0 -/
  yielded : Bool := false
  /-- replays in progress: restarts so far, by subchannel; R474, R475; reset none -/
  replay : Table (Option Nat) := []
  /-- replay buffer: the last 64 commands, by subchannel, oldest first; R474; reset empty -/
  recent : Table (List DramCommand) := []
  /-- MR4 poll due during a replay; R481; reset none -/
  pollHeld : Option Mr4 := none
  /-- channel address of the next patrol-scrub read; R471; reset 0 -/
  scrubAddr : Nat := 0
  /-- device time in ns at which the scrub pass began; R471; reset 0 -/
  scrubFrom : Nat := 0
  /-- device time since which the patrol scrub's next read waits; R39, R466; reset none -/
  scrubSince : Option Nat := none
  /-- bytes scrubbed in the current second, and that second of device time; R466; reset 0 -/
  scrubBytes : Nat × Nat := (0, 0)
  deriving DecidableEq, Repr

/-- A buffer of YARD_ALLOC or a ring of STREAM_OPEN in the pool (R266, R286). -/
structure YardBuffer where
  base : Nat
  size : Nat
  /-- handle; none for a ring -/
  handle : Option Nat
  /-- the YARD_FREE that waits for the buffer to retire (R267) -/
  freeing : Option Packet := none
  deriving DecidableEq, Repr

structure YardState where
  /-- channels 0-11; R461; reset: none kept -/
  channels : Table YardChannel := []
  /-- kept channel numbers, ascending; R464; reset none -/
  kept : List Nat := []
  /-- capacity of one kept DIMM in bytes; R464; reset 0 -/
  dimmBytes : Nat := 0
  /-- DIMMs found at start-up, by channel; R462; reset none -/
  dimms : Table (Option Dimm) := []
  /-- allocated areas of the pool, by base; R266, R286; reset none -/
  buffers : List YardBuffer := []
  /-- the Yard is in self-refresh; R477; reset 0 -/
  selfRefresh : Bool := false
  /-- reads whose data has not been returned, in order of issue; R467; reset none -/
  reads : List YardRead := []
  /-- data last returned to each master and its poison mark; 64 bytes; R467, R470; DESIGN CHOICE empty -/
  returned : Table (List Byte × Bool) := []
  /-- scrub accesses made to each Loft bank; R38; reset 0 -/
  loftScrub : Table Nat := []
  /-- device time in ns before which the scrub leaves a Loft bank alone, by bank; R38; reset 0 -/
  loftNext : Table Nat := []
  /-- device time since which the scrub waits for a Loft bank, by bank; R39; reset none -/
  loftSince : Table (Option Nat) := []
  deriving DecidableEq, Repr

end Sys2Proof.Machine
end

