-- ==== Sys2Proof/Machine/Device.lean ====
section
/-! DEFINITION. Everything the block holds but its queue of waiting commands: one part per chapter of the spec. -/

namespace Sys2Proof.Machine

structure Device where
  /-- sample index at the output of stall 0x01; 64 bits; R24, R421; reset 0 -/
  sampleIndex : Nat := 0
  /-- device time in ns; 64 bits; 00_scope.md Shared terms, R421; reset 0 -/
  time : Nat := 0
  /-- command interface -/
  host : HostState := {}
  /-- configuration mechanism -/
  cfg : CfgState := {}
  /-- fault collector and events -/
  fault : FaultState := {}
  /-- Chanter -/
  clk : ClockState := {}
  /-- converters -/
  conv : ConvState := {}
  /-- streams and rings -/
  strm : StreamState := {}
  /-- Shunis link, group and pair -/
  group : GroupState := {}
  /-- Bellows and start-up -/
  power : PowerState := {}
  /-- Paddock -/
  pad : PaddockState := {}
  /-- Yard controller and pool -/
  yard : YardState := {}
  /-- lanes -/
  lane : LaneState := {}
  /-- spectral engines -/
  spec : SpecState := {}
  /-- trigger sequencer -/
  trig : TrigState := {}
  /-- interval unit -/
  tiu : TiuState := {}
  /-- density maps -/
  dens : DensState := {}
  /-- scan-out -/
  disp : DispState := {}
  /-- Reed cores and kernel bindings -/
  reed : ReedState := {}
  /-- transfer engine -/
  xfer : XferState := {}
  /-- NVMe recorder -/
  nvme : RecState := {}
  /-- stimulus generators -/
  gen : GenState := {}
  /-- bytes of Loft, generator entry memory, Yard and host memory that are not zero, by device address (52 bits); R16; reset none listed -/
  mem : List Host.Cell := []
  /-- poisoned 64-byte lines of the Yard and of Loft, by address; R470, R572 (R572 gives no word size: DESIGN CHOICE); reset none -/
  poison : Table Bool := []
  /-- high-water marks of the stalls, by stall ID × 2^16 + instance; 48 bits each; R23, R537; reset 0 -/
  marks : Table Nat := []
  /-- the model's own: how many free values have been taken (DESIGN CHOICE 0) -/
  fresh : Nat := 0
  deriving DecidableEq, Repr

end Sys2Proof.Machine
end

