-- ==== Sys2Proof/Machine/Fields.lean ====
section
/-! DEFINITION. The configuration field tables of every chapter (R41-R43, R69, R114, R140, R173, R216, R237, R268, R270, R287,
R323, R341, R369, R412, R478, R511, R539, R565, R592): for a key its width, range, reset value and access. -/

namespace Sys2Proof.Machine

/-- One row of a field table. -/
structure FieldSpec where
  width : Nat
  signed : Bool
  lo : Int
  hi : Int
  reset : Int
  readOnly : Bool
  /-- what the range column says beyond two bounds -/
  extra : Int → Bool

def anyValue (_ : Int) : Bool := true

def rwField (width : Nat) (signed : Bool) (lo hi reset : Int) (extra : Int → Bool) : FieldSpec :=
  { width := width, signed := signed, lo := lo, hi := hi, reset := reset, readOnly := false, extra := extra }

def roField (width : Nat) (signed : Bool) : FieldSpec :=
  { width := width, signed := signed, lo := 0, hi := 0, reset := 0, readOnly := true, extra := anyValue }

/-- A lane code channel × 8 + lane with lane 0-4 (R42). -/
def laneCodeOk (v : Nat) : Bool := v < 32 && v % 8 ≤ 4

/-- A limited-range YCbCr colour (R270 disp.scan.bg). -/
def bgOk (v : Nat) : Bool :=
  let y := v % 256
  let cb := v / 256 % 256
  let cr := v / 65536
  16 ≤ y && y ≤ 235 && 16 ≤ cb && cb ≤ 240 && 16 ≤ cr && cr ≤ 240

def sclkField (code : Nat) : Option FieldSpec :=
  match code with
  | 0x0001 => some (rwField 6 false 1 40 5 anyValue)  -- clock.sclk.ref_div (R69)
  | 0x0002 => some (rwField 12 false 160 4095 1024 anyValue)  -- clock.sclk.fb_div (R69)
  | _ => none

def loField (code : Nat) : Option FieldSpec :=
  match code with
  | 0x0001 => some (rwField 6 false 1 40 5 anyValue)  -- clock.lo.ref_div (R69)
  | 0x0002 => some (rwField 10 false 40 1000 600 anyValue)  -- clock.lo.int_div (R69)
  | 0x0003 => some (rwField 32 false 0 4294967295 0 anyValue)  -- clock.lo.frac (R69)
  | 0x0004 => some (rwField 2 false 0 3 1 anyValue)  -- clock.lo.out_div (R69)
  | 0x0005 => some (rwField 1 false 0 1 0 anyValue)  -- clock.lo.enable (R69)
  | 0x0006 => some (rwField 3 false 0 7 7 anyValue)  -- clock.lo.out_level (R69)
  | 0x0010 => some (rwField 1 false 0 1 0 anyValue)  -- clock.lo.ramp_enable (R69)
  | 0x0011 => some (rwField 2 false 0 3 0 anyValue)  -- clock.lo.ramp_store (R69)
  | 0x0012 => some (rwField 3 false 0 4 0 anyValue)  -- clock.lo.ramp_start (R69)
  | 0x0013 => some (rwField 1 false 0 1 0 anyValue)  -- clock.lo.ramp_repeat (R69)
  | _ => none

def sysField (code : Nat) : Option FieldSpec :=
  match code with
  | 0x0001 => some (rwField 32 false 10000000 500000000 100000000 anyValue)  -- clock.sys.refin_freq (R69)
  | 0x0002 => some (rwField 1 false 0 1 1 anyValue)  -- clock.sys.refout0_en (R69)
  | 0x0003 => some (rwField 1 false 0 1 1 anyValue)  -- clock.sys.refout1_en (R69)
  | 0x0004 => some (rwField 1 false 0 1 0 anyValue)  -- clock.sys.drone_src (R69)
  | _ => none

def converterField (code : Nat) : Option FieldSpec :=
  match code with
  | 0x0001 => some (rwField 1 false 0 1 1 anyValue)  -- converter.x.enable (R114)
  | 0x0002 => some (rwField 2 false 0 2 1 anyValue)  -- converter.x.cal_mode (R114)
  | 0x0003 => some (rwField 6 false 1 40 8 anyValue)  -- converter.x.temp_threshold (R114)
  | 0x0004 => some (rwField 8 true (-60) (-20) (-40) anyValue)  -- converter.x.cal_signal_min (R114)
  | 0x0005 => some (rwField 16 false 1 60000 1000 anyValue)  -- converter.x.cal_retry_ms (R114)
  | 0x0006 => some (rwField 16 false 0 65535 1 anyValue)  -- converter.x.ovr_event_count (R114)
  | _ => none

def wideLaneField (code : Nat) : Option FieldSpec :=
  match code with
  | 0x0001 => some (rwField 1 false 0 1 1 anyValue)  -- lane.x.y.enable (R140)
  | 0x0002 => some (rwField 48 false 56294995342131 84442493013197 70368744177664 anyValue)  -- lane.x.y.nco_freq (R140)
  | 0x0003 => some (rwField 16 false 0 65535 0 anyValue)  -- lane.x.y.nco_phase (R140)
  | 0x0004 => some (rwField 5 false 0 0 0 anyValue)  -- lane.x.y.decim (R140)
  | 0x0005 => some (rwField 4 false 0 8 0 anyValue)  -- lane.x.y.gain (R140)
  | 0x0006 => some (rwField 5 false 0 20 20 (fun v => v == 0 || v ≥ 10))  -- lane.x.y.hist_len (R140)
  | 0x0010 => some (rwField 2 false 0 2 0 anyValue)  -- lane.x.y.rec_mode (R140)
  | 0x0011 => some (rwField 17 false 1 65536 1 anyValue)  -- lane.x.y.rec_dec (R140)
  | 0x0012 => some (rwField 4 false 1 8 1 anyValue)  -- lane.x.y.rec_avg (R140)
  | 0x0013 => some (rwField 1 false 0 1 0 anyValue)  -- lane.x.y.rec_format (R140)
  | 0x0014 => some (rwField 1 false 0 1 0 anyValue)  -- lane.x.y.rec_gate (R140)
  | 0x0020 => some (roField 32 false)  -- lane.x.y.sat_count (R140)
  | 0x0021 => some (roField 64 false)  -- lane.x.y.reset_stamp (R140)
  | 0x0022 => some (roField 64 false)  -- lane.x.y.hist_oldest (R140)
  | _ => none

def zoomLaneField (code : Nat) : Option FieldSpec :=
  match code with
  | 0x0001 => some (rwField 1 false 0 1 1 anyValue)  -- lane.x.y.enable (R140)
  | 0x0002 => some (rwField 48 false 0 140737488355328 17592186044416 anyValue)  -- lane.x.y.nco_freq (R140)
  | 0x0003 => some (rwField 16 false 0 65535 0 anyValue)  -- lane.x.y.nco_phase (R140)
  | 0x0004 => some (rwField 5 false 1 20 1 anyValue)  -- lane.x.y.decim (R140)
  | 0x0005 => some (rwField 4 false 0 8 0 anyValue)  -- lane.x.y.gain (R140)
  | 0x0006 => some (rwField 5 false 0 20 20 (fun v => v == 0 || v ≥ 10))  -- lane.x.y.hist_len (R140)
  | 0x0010 => some (rwField 2 false 0 2 0 anyValue)  -- lane.x.y.rec_mode (R140)
  | 0x0011 => some (rwField 17 false 1 65536 1 anyValue)  -- lane.x.y.rec_dec (R140)
  | 0x0012 => some (rwField 4 false 1 8 1 anyValue)  -- lane.x.y.rec_avg (R140)
  | 0x0013 => some (rwField 1 false 0 1 0 anyValue)  -- lane.x.y.rec_format (R140)
  | 0x0014 => some (rwField 1 false 0 1 0 anyValue)  -- lane.x.y.rec_gate (R140)
  | 0x0020 => some (roField 32 false)  -- lane.x.y.sat_count (R140)
  | 0x0021 => some (roField 64 false)  -- lane.x.y.reset_stamp (R140)
  | 0x0022 => some (roField 64 false)  -- lane.x.y.hist_oldest (R140)
  | _ => none

def slotField (code : Nat) : Option FieldSpec :=
  match code with
  | 0x0001 => some (rwField 1 false 0 1 0 anyValue)  -- spec.x.slotn.enable (R173)
  | 0x0002 => some (rwField 3 false 0 4 0 anyValue)  -- spec.x.slotn.lane (R173)
  | 0x0003 => some (rwField 5 false 6 16 10 anyValue)  -- spec.x.slotn.fft_len (R173)
  | 0x0004 => some (rwField 5 false 2 24 8 anyValue)  -- spec.x.slotn.hop (R173)
  | 0x0005 => some (rwField 4 false 0 8 3 anyValue)  -- spec.x.slotn.window (R173)
  | 0x0006 => some (rwField 3 false 0 7 0 anyValue)  -- spec.x.slotn.win_store (R173)
  | 0x0007 => some (rwField 3 false 0 4 0 anyValue)  -- spec.x.slotn.detector (R173)
  | 0x0008 => some (rwField 4 false 6 14 10 anyValue)  -- spec.x.slotn.trace_len (R173)
  | 0x0009 => some (rwField 16 false 0 65535 0 anyValue)  -- spec.x.slotn.trace_first (R173)
  | 0x000A => some (rwField 17 false 0 65536 0 (fun v => v == 0 || v ≥ 64))  -- spec.x.slotn.trace_span (R173)
  | 0x000B => some (rwField 2 false 0 2 0 anyValue)  -- spec.x.slotn.avg_mode (R173)
  | 0x000C => some (rwField 17 false 1 65536 1 anyValue)  -- spec.x.slotn.avg_count (R173)
  | 0x000D => some (rwField 5 false 1 16 4 anyValue)  -- spec.x.slotn.avg_exp (R173)
  | 0x000E => some (rwField 1 false 0 1 0 anyValue)  -- spec.x.slotn.out_format (R173)
  | 0x000F => some (rwField 17 false 1 65536 1 anyValue)  -- spec.x.slotn.bins_decim (R173)
  | 0x0020 => some (roField 64 false)  -- spec.x.slotn.spectra_count (R173)
  | 0x0021 => some (roField 32 false)  -- spec.x.slotn.frames_skipped (R173)
  | 0x0022 => some (roField 32 false)  -- spec.x.slotn.frames_abandoned (R173)
  | _ => none

def envField (f : Nat) : Option FieldSpec :=
  match f with
  | 0x0 => some (rwField 5 false 0 31 0 (fun v => laneCodeOk v.toNat))  -- trig.seq.envu.lane (R216)
  | 0x1 => some (rwField 3 false 0 5 0 anyValue)  -- trig.seq.envu.type (R216)
  | 0x2 => some (rwField 16 true (-32767) 32767 (-2560) anyValue)  -- trig.seq.envu.level_a (R216)
  | 0x3 => some (rwField 16 true (-32767) 32767 0 anyValue)  -- trig.seq.envu.level_b (R216)
  | 0x4 => some (rwField 10 false 0 1023 128 anyValue)  -- trig.seq.envu.hyst (R216)
  | 0x5 => some (rwField 1 false 0 1 0 anyValue)  -- trig.seq.envu.sense (R216)
  | 0x6 => some (rwField 32 false 1 4294967295 1 anyValue)  -- trig.seq.envu.t_min (R216)
  | 0x7 => some (rwField 32 false 0 4294967295 0 anyValue)  -- trig.seq.envu.t_max (R216)
  | _ => none

def frqField (f : Nat) : Option FieldSpec :=
  match f with
  | 0x0 => some (rwField 4 false 0 15 0 anyValue)  -- trig.seq.frqu.slot (R216)
  | 0x1 => some (rwField 2 false 0 3 0 anyValue)  -- trig.seq.frqu.type (R216)
  | 0x2 => some (rwField 3 false 0 7 0 anyValue)  -- trig.seq.frqu.mask (R216)
  | 0x3 => some (rwField 16 true (-32767) 32767 (-2560) anyValue)  -- trig.seq.frqu.level (R216)
  | 0x4 => some (rwField 10 false 0 1023 128 anyValue)  -- trig.seq.frqu.hyst (R216)
  | 0x5 => some (rwField 1 false 0 1 0 anyValue)  -- trig.seq.frqu.sense (R216)
  | 0x6 => some (rwField 16 false 0 65535 0 anyValue)  -- trig.seq.frqu.first (R216)
  | 0x7 => some (rwField 16 false 0 65535 0 anyValue)  -- trig.seq.frqu.last (R216)
  | 0x8 => some (rwField 10 false 0 1023 0 anyValue)  -- trig.seq.frqu.row_lo (R216)
  | 0x9 => some (rwField 10 false 0 1023 0 anyValue)  -- trig.seq.frqu.row_hi (R216)
  | 0xA => some (rwField 17 false 1 65536 1 anyValue)  -- trig.seq.frqu.min_count (R216)
  | 0xB => some (rwField 1 false 0 1 0 anyValue)  -- trig.seq.frqu.dens_map (R216)
  | _ => none

def winField (f : Nat) : Option FieldSpec :=
  match f with
  | 0x0 => some (rwField 20 false 0 1048575 0 anyValue)  -- trig.seq.winw.lanes (R216)
  | 0x1 => some (rwField 32 false 0 4294967295 0 anyValue)  -- trig.seq.winw.pre_len (R216)
  | 0x2 => some (rwField 48 false 0 281474976710655 0 anyValue)  -- trig.seq.winw.post_len (R216)
  | 0x3 => some (rwField 1 false 0 1 0 anyValue)  -- trig.seq.winw.retrig (R216)
  | 0x4 => some (rwField 1 false 0 1 0 anyValue)  -- trig.seq.winw.meas_enable (R216)
  | 0x5 => some (rwField 5 false 0 31 0 (fun v => laneCodeOk v.toNat))  -- trig.seq.winw.meas_lane (R216)
  | 0x6 => some (rwField 16 true (-32767) 32767 (-7680) anyValue)  -- trig.seq.winw.meas_lo (R216)
  | 0x7 => some (rwField 16 true (-32767) 32767 (-1280) anyValue)  -- trig.seq.winw.meas_hi (R216)
  | _ => none

def seqField (code : Nat) : Option FieldSpec :=
  if 0x1000 ≤ code ∧ code < 0x1100 then envField (code % 16)
  else if 0x2000 ≤ code ∧ code < 0x2080 then frqField (code % 16)
  else if 0x3000 ≤ code ∧ code < 0x3080 then winField (code % 16)
  else match code with
  | 0x0001 => some (rwField 1 false 0 1 0 anyValue)  -- trig.seq.mode (R216)
  | 0x0002 => some (rwField 32 false 0 4294967295 65536 anyValue)  -- trig.seq.horizon (R216)
  | 0x0003 => some (rwField 4 false 0 10 0 anyValue)  -- trig.seq.epoch_div (R216)
  | 0x0010 => some (rwField 16 false 1 65535 16 anyValue)  -- trig.seq.tout_0.width (R216)
  | 0x0011 => some (rwField 16 false 1 65535 16 anyValue)  -- trig.seq.tout_1.width (R216)
  | 0x0012 => some (rwField 16 false 1 65535 16 anyValue)  -- trig.seq.tout_2.width (R216)
  | 0x0013 => some (rwField 16 false 1 65535 16 anyValue)  -- trig.seq.tout_3.width (R216)
  | 0x0014 => some (rwField 1 false 0 1 0 anyValue)  -- trig.seq.tout_0.polarity (R216)
  | 0x0015 => some (rwField 1 false 0 1 0 anyValue)  -- trig.seq.tout_1.polarity (R216)
  | 0x0016 => some (rwField 1 false 0 1 0 anyValue)  -- trig.seq.tout_2.polarity (R216)
  | 0x0017 => some (rwField 1 false 0 1 0 anyValue)  -- trig.seq.tout_3.polarity (R216)
  | 0x0018 => some (rwField 16 false 0 65535 0 anyValue)  -- trig.seq.tout_0.state_mask (R216)
  | 0x0019 => some (rwField 16 false 0 65535 0 anyValue)  -- trig.seq.tout_1.state_mask (R216)
  | 0x001A => some (rwField 16 false 0 65535 0 anyValue)  -- trig.seq.tout_2.state_mask (R216)
  | 0x001B => some (rwField 16 false 0 65535 0 anyValue)  -- trig.seq.tout_3.state_mask (R216)
  | 0x0020 => some (rwField 1 false 0 1 0 anyValue)  -- trig.seq.tin_0.enable (R216)
  | 0x0021 => some (rwField 1 false 0 1 0 anyValue)  -- trig.seq.tin_1.enable (R216)
  | 0x0022 => some (rwField 1 false 0 1 0 anyValue)  -- trig.seq.tin_2.enable (R216)
  | 0x0023 => some (rwField 1 false 0 1 0 anyValue)  -- trig.seq.tin_3.enable (R216)
  | 0x0024 => some (rwField 1 false 0 1 0 anyValue)  -- trig.seq.tin_0.standard (R216)
  | 0x0025 => some (rwField 1 false 0 1 0 anyValue)  -- trig.seq.tin_1.standard (R216)
  | 0x0026 => some (rwField 1 false 0 1 0 anyValue)  -- trig.seq.tin_2.standard (R216)
  | 0x0027 => some (rwField 1 false 0 1 0 anyValue)  -- trig.seq.tin_3.standard (R216)
  | 0x0028 => some (rwField 1 false 0 1 0 anyValue)  -- trig.seq.tin_0.polarity (R216)
  | 0x0029 => some (rwField 1 false 0 1 0 anyValue)  -- trig.seq.tin_1.polarity (R216)
  | 0x002A => some (rwField 1 false 0 1 0 anyValue)  -- trig.seq.tin_2.polarity (R216)
  | 0x002B => some (rwField 1 false 0 1 0 anyValue)  -- trig.seq.tin_3.polarity (R216)
  | 0x0030 => some (rwField 32 false 0 4294967295 0 anyValue)  -- trig.seq.ctr_0.compare (R216)
  | 0x0031 => some (rwField 32 false 0 4294967295 0 anyValue)  -- trig.seq.ctr_1.compare (R216)
  | 0x0032 => some (rwField 32 false 0 4294967295 0 anyValue)  -- trig.seq.ctr_2.compare (R216)
  | 0x0033 => some (rwField 32 false 0 4294967295 0 anyValue)  -- trig.seq.ctr_3.compare (R216)
  | 0x0034 => some (rwField 32 false 0 4294967295 0 anyValue)  -- trig.seq.ctr_0.load (R216)
  | 0x0035 => some (rwField 32 false 0 4294967295 0 anyValue)  -- trig.seq.ctr_1.load (R216)
  | 0x0036 => some (rwField 32 false 0 4294967295 0 anyValue)  -- trig.seq.ctr_2.load (R216)
  | 0x0037 => some (rwField 32 false 0 4294967295 0 anyValue)  -- trig.seq.ctr_3.load (R216)
  | 0x0038 => some (rwField 40 false 1 1099511627775 1280 anyValue)  -- trig.seq.tmr_0.length (R216)
  | 0x0039 => some (rwField 40 false 1 1099511627775 1280 anyValue)  -- trig.seq.tmr_1.length (R216)
  | 0x0041 => some (rwField 7 false 0 127 0 anyValue)  -- trig.seq.reed_0.binding (R216)
  | 0x0042 => some (rwField 7 false 0 127 0 anyValue)  -- trig.seq.reed_1.binding (R216)
  | 0x0043 => some (rwField 3 false 0 7 0 anyValue)  -- trig.seq.mk_0.select (R216)
  | 0x0044 => some (rwField 3 false 0 7 0 anyValue)  -- trig.seq.mk_1.select (R216)
  | _ => none

def maskField (code : Nat) : Option FieldSpec :=
  match code with
  | 0x0001 => some (rwField 4 false 0 15 0 anyValue)  -- trig.maskn.store (R216)
  | 0x0002 => some (rwField 16 true (-32768) 32767 0 anyValue)  -- trig.maskn.offset (R216)
  | _ => none

def stateField (code : Nat) : Option FieldSpec :=
  if code < 0x0100 ∨ code ≥ 0x0500 then none
  else match code % 0x0100 with
  | 0x00 => some (rwField 32 false 0 4294967295 0 anyValue)  -- trig.sN.tt.cond (R216)
  | 0x01 => some (rwField 1 false 0 1 0 anyValue)  -- trig.sN.tt.combine (R216)
  | 0x02 => some (rwField 33 false 1 4294967296 1 anyValue)  -- trig.sN.tt.occ (R216)
  | 0x03 => some (rwField 2 false 0 2 0 anyValue)  -- trig.sN.tt.timer_mode (R216)
  | 0x04 => some (rwField 40 false 1 1099511627775 1 anyValue)  -- trig.sN.tt.timer_len (R216)
  | 0x05 => some (rwField 4 false 0 15 0 anyValue)  -- trig.sN.tt.next (R216)
  | 0x06 => some (rwField 9 false 0 511 0 anyValue)  -- trig.sN.tt.actions (R216)
  | 0x07 => some (rwField 8 false 0 255 0 anyValue)  -- trig.sN.tt.tag (R216)
  | 0x08 => some (rwField 8 false 0 255 0 anyValue)  -- trig.sN.tt.open_mask (R216)
  | 0x09 => some (rwField 8 false 0 255 0 anyValue)  -- trig.sN.tt.close_mask (R216)
  | 0x0A => some (rwField 4 false 0 15 0 anyValue)  -- trig.sN.tt.tout_mask (R216)
  | 0x0B => some (rwField 8 false 0 255 0 anyValue)  -- trig.sN.tt.bus_mask (R216)
  | 0x0C => some (rwField 14 false 0 16383 0 (fun v => v / 4096 % 2 == 0))  -- trig.sN.tt.gen_jump (R216)
  | 0x0D => some (rwField 8 false 0 255 0 anyValue)  -- trig.sN.tt.ctr_op (R216)
  | 0x0E => some (rwField 8 false 0 255 0 anyValue)  -- trig.sN.tt.dens_mask (R216)
  | 0x0F => some (rwField 1 false 0 1 0 anyValue)  -- trig.sN.tt.enable (R216)
  | 0x10 => some (rwField 1 false 0 1 0 anyValue)  -- trig.sN.tt.entry_edge (R216)
  | _ => none

def tiuUnitField (code : Nat) : Option FieldSpec :=
  match code with
  | 0x0001 => some (rwField 16 false 0 60000 1000 anyValue)  -- tiu.unit.recal_ms (R237)
  | _ => none

def tiuInField (code : Nat) : Option FieldSpec :=
  match code with
  | 0x0001 => some (rwField 2 false 0 2 0 anyValue)  -- tiu.inN.edge (R237)
  | 0x0002 => some (rwField 20 true (-524288) 524287 0 anyValue)  -- tiu.inN.delay_comp (R237)
  | _ => none

def tiuIn5Only (code : Nat) : Option FieldSpec :=
  match code with
  | 0x0003 => some (rwField 4 false 0 13 0 anyValue)  -- tiu.in5.loop_sel (R237)
  | _ => none

def densField (code : Nat) : Option FieldSpec :=
  match code with
  | 0x0001 => some (rwField 1 false 0 1 0 anyValue)  -- dens.x.mapn.enable (R268)
  | 0x0002 => some (rwField 2 false 0 3 0 anyValue)  -- dens.x.mapn.slot (R268)
  | 0x0003 => some (rwField 4 false 6 11 10 anyValue)  -- dens.x.mapn.cols (R268)
  | 0x0004 => some (rwField 4 false 6 10 9 anyValue)  -- dens.x.mapn.rows (R268)
  | 0x0005 => some (rwField 16 false 0 65535 0 anyValue)  -- dens.x.mapn.bin_first (R268)
  | 0x0006 => some (rwField 17 false 0 65536 0 (fun v => v == 0 || v ≥ 64))  -- dens.x.mapn.bin_span (R268)
  | 0x0007 => some (rwField 16 true (-32767) 32767 (-12800) anyValue)  -- dens.x.mapn.row_bottom (R268)
  | 0x0008 => some (rwField 10 false 1 1023 25 anyValue)  -- dens.x.mapn.row_step (R268)
  | 0x0009 => some (rwField 1 false 0 1 1 anyValue)  -- dens.x.mapn.clip (R268)
  | 0x000A => some (rwField 1 false 0 1 1 anyValue)  -- dens.x.mapn.frame_mode (R268)
  | 0x000B => some (rwField 25 false 1 16777216 65536 anyValue)  -- dens.x.mapn.frame_spectra (R268)
  | 0x000C => some (rwField 13 false 1 4096 326 anyValue)  -- dens.x.mapn.frame_epochs (R268)
  | 0x000D => some (rwField 4 false 0 15 4 anyValue)  -- dens.x.mapn.persist (R268)
  | 0x000E => some (rwField 16 false 0 65535 0 anyValue)  -- dens.x.mapn.snap_every (R268)
  | 0x000F => some (rwField 1 false 0 1 0 anyValue)  -- dens.x.mapn.snap_format (R268)
  | 0x0010 => some (rwField 1 false 0 1 0 anyValue)  -- dens.x.mapn.col_enable (R268)
  | 0x0011 => some (rwField 16 false 1 65535 1 anyValue)  -- dens.x.mapn.col_every (R268)
  | 0x0012 => some (rwField 32 false 1 2147483647 1 anyValue)  -- dens.x.mapn.col_min (R268)
  | 0x0013 => some (rwField 32 false 2 4294967295 65536 anyValue)  -- dens.x.mapn.col_max (R268)
  | 0x0014 => some (rwField 2 false 0 3 0 anyValue)  -- dens.x.mapn.col_palette (R268)
  | 0x0015 => some (rwField 2 false 0 2 0 anyValue)  -- dens.x.mapn.col_format (R268)
  | 0x0016 => some (rwField 12 false 0 4095 0 anyValue)  -- dens.x.mapn.col_buf (R268)
  | 0x0017 => some (rwField 3 false 2 4 3 anyValue)  -- dens.x.mapn.col_nbuf (R268)
  | 0x0020 => some (roField 64 false)  -- dens.x.mapn.frames (R268)
  | 0x0021 => some (roField 32 false)  -- dens.x.mapn.colour_dropped (R268)
  | _ => none

def scanField (code : Nat) : Option FieldSpec :=
  match code with
  | 0x0001 => some (rwField 3 false 0 5 1 anyValue)  -- disp.scan.mode (R270)
  | 0x0002 => some (rwField 1 false 0 1 0 anyValue)  -- disp.scan.timing (R270)
  | 0x0003 => some (rwField 14 false 0 16383 0 anyValue)  -- disp.scan.vrr_max (R270)
  | 0x0004 => some (rwField 4 false 0 8 0 anyValue)  -- disp.scan.l0_source (R270)
  | 0x0005 => some (rwField 2 false 0 2 0 anyValue)  -- disp.scan.l0_format (R270)
  | 0x0006 => some (rwField 12 false 64 3840 1024 (fun v => v % 2 == 0))  -- disp.scan.l0_width (R270)
  | 0x0007 => some (rwField 12 false 64 2160 512 (fun v => v % 2 == 0))  -- disp.scan.l0_height (R270)
  | 0x0008 => some (rwField 14 false 64 16320 1024 (fun v => v % 64 == 0))  -- disp.scan.l0_stride (R270)
  | 0x0009 => some (rwField 12 false 0 3839 0 anyValue)  -- disp.scan.l0_x (R270)
  | 0x000A => some (rwField 12 false 0 2159 0 anyValue)  -- disp.scan.l0_y (R270)
  | 0x000B => some (rwField 3 false 1 4 1 anyValue)  -- disp.scan.l0_hscale (R270)
  | 0x000C => some (rwField 3 false 1 4 1 anyValue)  -- disp.scan.l0_vscale (R270)
  | 0x0010 => some (rwField 2 false 0 2 0 anyValue)  -- disp.scan.l1_format (R270)
  | 0x0011 => some (rwField 12 false 64 3840 1920 (fun v => v % 2 == 0))  -- disp.scan.l1_width (R270)
  | 0x0012 => some (rwField 12 false 64 2160 1080 (fun v => v % 2 == 0))  -- disp.scan.l1_height (R270)
  | 0x0013 => some (rwField 14 false 64 16320 1920 (fun v => v % 64 == 0))  -- disp.scan.l1_stride (R270)
  | 0x0014 => some (rwField 12 false 0 3839 0 anyValue)  -- disp.scan.l1_x (R270)
  | 0x0015 => some (rwField 12 false 0 2159 0 anyValue)  -- disp.scan.l1_y (R270)
  | 0x0020 => some (rwField 24 false 0 16777215 8421392 (fun v => bgOk v.toNat))  -- disp.scan.bg (R270)
  | 0x0030 => some (roField 64 false)  -- disp.scan.frame_count (R270)
  | 0x0031 => some (roField 32 false)  -- disp.scan.underflow_lines (R270)
  | _ => none

def dpField (code : Nat) : Option FieldSpec :=
  match code with
  | 0x0001 => some (rwField 1 false 0 1 1 anyValue)  -- disp.dpn.enable (R270)
  | 0x0002 => some (rwField 1 false 0 1 0 anyValue)  -- disp.dpn.pixfmt (R270)
  | 0x0003 => some (rwField 2 false 0 3 3 anyValue)  -- disp.dpn.max_rate (R270)
  | 0x0004 => some (rwField 1 false 0 1 1 anyValue)  -- disp.dpn.ssc (R270)
  | 0x0020 => some (roField 16 false)  -- disp.dpn.status (R270)
  | _ => none

def streamField (code : Nat) : Option FieldSpec :=
  if 0x0100 ≤ code ∧ code < 0x0120 then some (rwField 32 false 0 0xFFFFFFFF 0 anyValue)  -- stream.n.sub_j (R287)
  else   match code with
  | 0x0001 => some (rwField 1 false 0 1 0 anyValue)  -- stream.n.enable (R287)
  | 0x0002 => some (rwField 1 false 0 1 0 anyValue)  -- stream.n.policy (R287)
  | 0x0003 => some (rwField 2 false 0 3 1 anyValue)  -- stream.n.consumers (R287)
  | 0x0004 => some (rwField 4 false 0 12 1 anyValue)  -- stream.n.epoch_rec (R287)
  | 0x0005 => some (rwField 12 false 0 4095 16 anyValue)  -- stream.n.event_rate (R287)
  | 0x0006 => some (rwField 52 false 0 4503599627370495 0 (fun v => v == 0 || (v % 64 == 0 && v ≥ 0x8000000000000)))  -- stream.n.state_addr (R287)
  | 0x0020 => some (roField 6 false)  -- stream.n.ring_log2 (R287)
  | 0x0021 => some (roField 52 false)  -- stream.n.ring_base (R287)
  | 0x0022 => some (roField 64 false)  -- stream.n.write_offset (R287)
  | 0x0023 => some (roField 64 false)  -- stream.n.next_seq (R287)
  | 0x0024 => some (roField 32 false)  -- stream.n.dropped (R287)
  | _ => none

def xferField (code : Nat) : Option FieldSpec :=
  match code with
  | 0x0001 => some (rwField 1 false 0 1 0 anyValue)  -- xfer.chN.enable (R323)
  | 0x0002 => some (rwField 4 false 1 15 1 anyValue)  -- xfer.chN.weight (R323)
  | 0x0003 => some (rwField 4 false 6 12 12 anyValue)  -- xfer.chN.max_burst (R323)
  | 0x0004 => some (rwField 16 false 0 65535 0 anyValue)  -- xfer.chN.poll_us (R323)
  | 0x0005 => some (rwField 32 false 0 4294967295 0 anyValue)  -- xfer.chN.req_timeout_us (R323)
  | 0x0010 => some (rwField 2 false 0 3 0 anyValue)  -- xfer.chN.line_src (R323)
  | 0x0011 => some (rwField 8 false 0 255 0 anyValue)  -- xfer.chN.line_inst (R323)
  | 0x0012 => some (rwField 6 false 6 39 20 anyValue)  -- xfer.chN.line_thr (R323)
  | 0x0020 => some (roField 3 false)  -- xfer.chN.state (R323)
  | 0x0021 => some (roField 52 false)  -- xfer.chN.desc_addr (R323)
  | 0x0022 => some (roField 64 false)  -- xfer.chN.bytes_total (R323)
  | _ => none

def recMainField (code : Nat) : Option FieldSpec :=
  match code with
  | 0x0001 => some (rwField 16 false 10 10000 100 anyValue)  -- rec.main.checkpoint_ms (R341)
  | 0x0002 => some (rwField 16 false 10 60000 2000 anyValue)  -- rec.main.cmd_timeout_ms (R341)
  | 0x0003 => some (rwField 8 false 50 254 95 anyValue)  -- rec.main.wear_retire (R341)
  | _ => none

def recPortField (code : Nat) : Option FieldSpec :=
  match code with
  | 0x0001 => some (rwField 2 false 0 3 0 anyValue)  -- rec.portN.width (R341)
  | 0x0002 => some (rwField 2 false 0 3 3 anyValue)  -- rec.portN.max_gen (R341)
  | 0x0003 => some (rwField 17 false 0 112000 0 anyValue)  -- rec.portN.write_limit (R341)
  | 0x0004 => some (rwField 32 false 1 4294967294 1 anyValue)  -- rec.portN.nsid (R341)
  | 0x0020 => some (roField 16 false)  -- rec.portN.status (R341)
  | 0x0021 => some (roField 8 false)  -- rec.portN.pct_used (R341)
  | 0x0022 => some (roField 8 false)  -- rec.portN.critical (R341)
  | 0x0023 => some (roField 64 false)  -- rec.portN.capacity (R341)
  | _ => none

def genField (code : Nat) : Option FieldSpec :=
  match code with
  | 0x0001 => some (rwField 1 false 0 1 0 anyValue)  -- gen.gX.enable (R369)
  | 0x0002 => some (rwField 1 false 0 1 0 anyValue)  -- gen.gX.seq_store (R369)
  | 0x0003 => some (rwField 12 false 0 4095 0 anyValue)  -- gen.gX.ring_first (R369)
  | 0x0004 => some (rwField 12 false 0 4095 0 (fun v => v == 0 || v ≥ 2))  -- gen.gX.ring_len (R369)
  | 0x0005 => some (rwField 16 false 1 65535 256 anyValue)  -- gen.gX.mk_width (R369)
  | 0x0006 => some (rwField 10 false 0 1023 0 anyValue)  -- gen.gX.delay (R369)
  | 0x0007 => some (rwField 8 false 0 255 0 anyValue)  -- gen.gX.fine_delay (R369)
  | 0x0020 => some (roField 2 false)  -- gen.gX.state (R369)
  | 0x0021 => some (roField 32 false)  -- gen.gX.underrun_granules (R369)
  | 0x0022 => some (roField 32 false)  -- gen.gX.underruns (R369)
  | 0x0023 => some (roField 32 false)  -- gen.gX.locked_writes (R369)
  | 0x0024 => some (roField 12 false)  -- gen.gX.ring_committed (R369)
  | 0x0008 => some (rwField 8 false 0 255 0 anyValue)  -- gen.gX.mk_0.delay (R369)
  | 0x0009 => some (rwField 8 false 0 255 0 anyValue)  -- gen.gX.mk_1.delay (R369)
  | 0x000A => some (rwField 8 false 0 255 0 anyValue)  -- gen.gX.mk_2.delay (R369)
  | 0x000B => some (rwField 8 false 0 255 0 anyValue)  -- gen.gX.mk_3.delay (R369)
  | 0x000C => some (rwField 1 false 0 1 0 anyValue)  -- gen.gX.mk_0.polarity (R369)
  | 0x000D => some (rwField 1 false 0 1 0 anyValue)  -- gen.gX.mk_1.polarity (R369)
  | 0x000E => some (rwField 1 false 0 1 0 anyValue)  -- gen.gX.mk_2.polarity (R369)
  | 0x000F => some (rwField 1 false 0 1 0 anyValue)  -- gen.gX.mk_3.polarity (R369)
  | _ => none

def coreField (code : Nat) : Option FieldSpec :=
  match code with
  | 0x0001 => some (rwField 32 false 0 4294967295 0 (fun v => v == 0 || v ≥ 1024))  -- reed.coreN.wdog (R412)
  | 0x0020 => some (roField 3 false)  -- reed.coreN.state (R412)
  | 0x0021 => some (roField 64 false)  -- reed.coreN.cycles_busy (R412)
  | 0x0022 => some (roField 64 false)  -- reed.coreN.batches (R412)
  | 0x0010 => some (rwField 52 false 0 4503599627370495 0 (fun v => v % 64 == 0))  -- reed.coreN.win_0.base (R412)
  | 0x0011 => some (rwField 52 false 0 4503599627370495 0 (fun v => v % 64 == 0))  -- reed.coreN.win_1.base (R412)
  | 0x0012 => some (rwField 52 false 0 4503599627370495 0 (fun v => v % 64 == 0))  -- reed.coreN.win_2.base (R412)
  | 0x0013 => some (rwField 52 false 0 4503599627370495 0 (fun v => v % 64 == 0))  -- reed.coreN.win_3.base (R412)
  | 0x0014 => some (rwField 33 false 0 4294967296 0 (fun v => v % 64 == 0))  -- reed.coreN.win_0.size (R412)
  | 0x0015 => some (rwField 33 false 0 4294967296 0 (fun v => v % 64 == 0))  -- reed.coreN.win_1.size (R412)
  | 0x0016 => some (rwField 33 false 0 4294967296 0 (fun v => v % 64 == 0))  -- reed.coreN.win_2.size (R412)
  | 0x0017 => some (rwField 33 false 0 4294967296 0 (fun v => v % 64 == 0))  -- reed.coreN.win_3.size (R412)
  | 0x0018 => some (rwField 2 false 0 3 0 anyValue)  -- reed.coreN.win_0.perm (R412)
  | 0x0019 => some (rwField 2 false 0 3 0 anyValue)  -- reed.coreN.win_1.perm (R412)
  | 0x001A => some (rwField 2 false 0 3 0 anyValue)  -- reed.coreN.win_2.perm (R412)
  | 0x001B => some (rwField 2 false 0 3 0 anyValue)  -- reed.coreN.win_3.perm (R412)
  | _ => none

def clusterField (code : Nat) : Option FieldSpec :=
  match code with
  | 0x0001 => some (rwField 1 false 0 1 0 anyValue)  -- reed.clusterN.enable (R412)
  | 0x0020 => some (roField 32 false)  -- reed.clusterN.dropped (R412)
  | _ => none

def yardCtlField (code : Nat) : Option FieldSpec :=
  match code with
  | 0x0001 => some (rwField 2 false 0 3 0 anyValue)  -- yard.ctl.speed (R478)
  | 0x0002 => some (rwField 1 false 0 1 1 anyValue)  -- yard.ctl.scrub_enable (R478)
  | 0x0003 => some (rwField 20 false 600 604800 86400 anyValue)  -- yard.ctl.scrub_pass_s (R478)
  | 0x0004 => some (rwField 1 false 0 1 0 anyValue)  -- yard.ctl.refresh_mode (R478)
  | 0x0005 => some (rwField 16 false 1 65535 64 anyValue)  -- yard.ctl.ce_threshold (R478)
  | 0x0010 => some (rwField 16 false 1 65535 20 anyValue)  -- yard.ctl.age_1 (R478)
  | 0x0011 => some (rwField 16 false 1 65535 100 anyValue)  -- yard.ctl.age_2 (R478)
  | 0x0012 => some (rwField 16 false 1 65535 2000 anyValue)  -- yard.ctl.age_3 (R478)
  | _ => none

def yardChField (code : Nat) : Option FieldSpec :=
  match code with
  | 0x0020 => some (roField 16 false)  -- yard.chN.status (R478)
  | 0x0021 => some (roField 64 false)  -- yard.chN.capacity (R478)
  | 0x0022 => some (roField 32 false)  -- yard.chN.ce_count (R478)
  | 0x0023 => some (roField 32 false)  -- yard.chN.ue_count (R478)
  | 0x0024 => some (roField 32 false)  -- yard.chN.ca_replays (R478)
  | 0x0025 => some (roField 16 true)  -- yard.chN.temp (R478)
  | 0x0026 => some (roField 64 false)  -- yard.chN.last_ue (R478)
  | _ => none

def groupField (code : Nat) : Option FieldSpec :=
  match code with
  | 0x0001 => some (rwField 5 false 16 26 20 anyValue)  -- group.dev.epoch_exp (R511)
  | 0x0002 => some (rwField 1 false 0 1 0 anyValue)  -- group.dev.sync_mode (R511)
  | 0x0003 => some (rwField 2 false 0 2 0 anyValue)  -- group.dev.sync_out (R511)
  | 0x0004 => some (rwField 20 true (-524288) 524287 0 anyValue)  -- group.dev.sync_trace (R511)
  | 0x0005 => some (rwField 24 false 1 16777215 131072 anyValue)  -- group.dev.bus_delay (R511)
  | 0x0006 => some (rwField 32 false 0 4294967295 65536 anyValue)  -- group.dev.bus_horizon (R511)
  | 0x0007 => some (rwField 16 false 1 65535 256 anyValue)  -- group.dev.bus_hold (R511)
  | 0x0008 => some (rwField 8 false 0 255 0 anyValue)  -- group.dev.bus_enable (R511)
  | 0x0009 => some (rwField 10 false 5 1000 20 anyValue)  -- group.dev.pair_match_us (R511)
  | 0x000A => some (rwField 8 false 10 255 50 anyValue)  -- group.dev.pair_lead_us (R511)
  | 0x0020 => some (roField 3 false)  -- group.dev.id (R511)
  | 0x0021 => some (roField 8 false)  -- group.dev.members (R511)
  | 0x0022 => some (roField 2 false)  -- group.dev.pair_role (R511)
  | 0x0023 => some (roField 8 false)  -- group.dev.pair_status (R511)
  | 0x0024 => some (roField 32 true)  -- group.dev.sync_skew (R511)
  | 0x0025 => some (roField 32 false)  -- group.dev.bus_transit_max (R511)
  | 0x0026 => some (roField 32 false)  -- group.dev.bus_late (R511)
  | 0x0027 => some (roField 32 false)  -- group.dev.frames_unroutable (R511)
  | 0x0030 => some (roField 16 false)  -- group.dev.port_0 (R511)
  | 0x0031 => some (roField 16 false)  -- group.dev.port_1 (R511)
  | 0x0032 => some (roField 16 false)  -- group.dev.port_2 (R511)
  | 0x0033 => some (roField 16 false)  -- group.dev.port_3 (R511)
  | _ => none

def powerField (code : Nat) : Option FieldSpec :=
  match code with
  | 0x0001 => some (rwField 10 false 1 1000 10 anyValue)  -- power.dev.tele_period_ms (R539)
  | 0x0002 => some (rwField 3 false 0 7 3 anyValue)  -- power.dev.tele_sections (R539)
  | 0x0003 => some (rwField 8 false 1 255 10 anyValue)  -- power.dev.tele_stall_div (R539)
  | 0x0004 => some (rwField 7 false 80 105 100 anyValue)  -- power.dev.tj_throttle (R539)
  | 0x0005 => some (rwField 1 false 0 1 0 anyValue)  -- power.dev.pmbus_fast (R539)
  | 0x0006 => some (rwField 3 false 0 6 0 anyValue)  -- power.dev.sleep_tele_log2 (R539)
  | 0x0020 => some (roField 2 false)  -- power.dev.state (R539)
  | 0x0021 => some (roField 32 false)  -- power.dev.domains (R539)
  | 0x0022 => some (roField 8 false)  -- power.dev.cap_w (R539)
  | 0x0023 => some (roField 3 false)  -- power.dev.throttle_level (R539)
  | 0x0024 => some (roField 32 false)  -- power.dev.power_mw (R539)
  | 0x0025 => some (roField 16 false)  -- power.dev.vdd_core_mv (R539)
  | 0x0026 => some (roField 1 false)  -- power.dev.ext_seq (R539)
  | 0x0027 => some (roField 64 false)  -- power.dev.throttle_ms (R539)
  | 0x0028 => some (roField 32 false)  -- power.dev.sleep_count (R539)
  | _ => none

def faultField (code : Nat) : Option FieldSpec :=
  match code with
  | 0x0001 => some (rwField 5 false 10 16 12 anyValue)  -- fault.dev.log_log2 (R592)
  | 0x0002 => some (rwField 3 false 0 7 6 anyValue)  -- fault.dev.alert_mask (R592)
  | 0x0003 => some (rwField 3 false 0 7 7 anyValue)  -- fault.dev.notice_mask (R592)
  | 0x0004 => some (rwField 1 false 0 1 1 anyValue)  -- fault.dev.auto_reset (R592)
  | 0x0005 => some (rwField 8 false 10 250 250 anyValue)  -- fault.dev.window_us (R592)
  | 0x0020 => some (roField 32 false)  -- fault.dev.log_write (R592)
  | 0x0021 => some (roField 32 false)  -- fault.dev.log_read (R592)
  | 0x0022 => some (roField 32 false)  -- fault.dev.log_lost (R592)
  | 0x0023 => some (roField 32 false)  -- fault.dev.escalations (R592)
  | 0x0024 => some (roField 32 false)  -- fault.dev.collateral (R592)
  | _ => none

def paddockField (code : Nat) : Option FieldSpec :=
  match code with
  | 0x0001 => some (rwField 2 false 0 2 0 anyValue)  -- paddock.dev.jtag_mode (R565)
  | 0x0002 => some (rwField 8 false 0 168 24 anyValue)  -- paddock.dev.selftest_period_h (R565)
  | 0x0003 => some (rwField 4 false 3 15 8 anyValue)  -- paddock.dev.auth_fail_limit (R565)
  | 0x0004 => some (rwField 16 false 100 60000 1000 anyValue)  -- paddock.dev.auth_lockout_ms (R565)
  | 0x0020 => some (roField 7 false)  -- paddock.dev.security_version (R565)
  | 0x0021 => some (roField 2 false)  -- paddock.dev.owner_state (R565)
  | 0x0022 => some (roField 16 false)  -- paddock.dev.slots_loaded (R565)
  | 0x0023 => some (roField 2 false)  -- paddock.dev.boot_slot (R565)
  | 0x0024 => some (roField 32 false)  -- paddock.dev.zeroise_count (R565)
  | 0x0025 => some (roField 32 false)  -- paddock.dev.auth_failures (R565)
  | _ => none

/-- A configuration key: block code, instance, field code (R41). -/
def cfgKey (block inst code : Nat) : Nat := block * 16777216 + inst * 65536 + code

/-- The row of a field by block code, instance and field code; none where R41 or R42 lists no such key. -/
def fieldAt (block inst code : Nat) : Option FieldSpec :=
  match block with
  | 0x01 => if inst == 0 then sclkField code else if inst == 1 then loField code else if inst == 2 then sysField code else none
  | 0x02 => if inst < 4 then converterField code else none
  | 0x03 => if inst < 32 then (if inst % 8 == 0 then wideLaneField code else if inst % 8 ≤ 4 then zoomLaneField code else none) else none
  | 0x04 => if inst < 16 then slotField code else none
  | 0x05 => if inst == 0 then seqField code else if 0x10 ≤ inst ∧ inst < 0x20 then stateField code
            else if 0x40 ≤ inst ∧ inst < 0x48 then maskField code else none
  | 0x06 => if inst == 0 then tiuUnitField code
            else if inst ≤ 6 then (if inst == 6 ∧ code == 3 then tiuIn5Only code else tiuInField code) else none
  | 0x07 => if inst < 8 then densField code else none
  | 0x08 => if inst == 0 then scanField code else if inst ≤ 2 then dpField code else none
  | 0x09 => if inst < 256 then streamField code else none
  | 0x0A => if inst < 64 then xferField code else none
  | 0x0B => if inst == 0 then recMainField code else if 0x10 ≤ inst ∧ inst < 0x18 then recPortField code else none
  | 0x0C => if inst < 2 then genField code else none
  | 0x0D => if inst < 32 then coreField code else if 0x80 ≤ inst ∧ inst < 0x84 then clusterField code else none
  | 0x0E => if inst == 0 then yardCtlField code else if 0x10 ≤ inst ∧ inst < 0x1C then yardChField code else none
  | 0x0F => if inst == 0 then groupField code else none
  | 0x10 => if inst == 0 then powerField code else none
  | 0x11 => if inst == 0 then faultField code else none
  | 0x12 => if inst == 0 then paddockField code else none
  | _ => none

/-- The row of a 32-bit key. -/
def fieldOf (key : Nat) : Option FieldSpec :=
  if key < 2 ^ 32 then fieldAt (key / 16777216) (key / 65536 % 256) (key % 65536) else none

/-- The reset value of a field; enable of streams 254 and 255 resets to 1 (R287). -/
def fieldReset (key : Nat) : Int :=
  if key == cfgKey 0x09 254 1 || key == cfgKey 0x09 255 1 then 1
  else match fieldOf key with
    | some f => f.reset
    | none => 0

/-- Of streams 254 and 255 only consumers and state_addr are writable (R287). -/
def streamWritable (key : Nat) : Bool :=
  let inst := key / 65536 % 256
  key / 16777216 != 9 || inst < 254 || key % 65536 == 3 || key % 65536 == 6

/-- The field may be written (R46). -/
def fieldWritable (key : Nat) : Bool :=
  match fieldOf key with
  | some f => !f.readOnly && streamWritable key
  | none => false

/-- A 64-bit value as the field reads it (R43): none where the bits above its width are wrong. -/
def fieldDecode (f : FieldSpec) (raw : Nat) : Option Int :=
  if f.signed then
    let v := signed 64 raw
    if -(2 ^ (f.width - 1) : Int) ≤ v ∧ v < (2 ^ (f.width - 1) : Int) then some v else none
  else if raw < 2 ^ f.width then some (raw : Int) else none

/-- The value lies in the range of the field table (R43, R46). -/
def fieldValueOk (key : Nat) (v : Int) : Bool :=
  match fieldOf key with
  | some f => decide (f.lo ≤ v) && decide (v ≤ f.hi) && f.extra v
  | none => false

end Sys2Proof.Machine
end

