-- ==== Sys2Proof/Machine/Ops.lean ====
section
/-! DEFINITION. The named operations that every meaning is built from: memory (R16, R17), configuration values (R45), time
and frequency (R67), queue entries and completions (R431-R443), MSI-X and events (R453, R454, R590), fault messages (R568),
Shunis messages (R488-R490), and the acceptance of a command packet (R436). -/

namespace Sys2Proof.Machine

/-! ### Status codes and device state -/

/-- R446. -/
def statusCode : Status → Nat
  | .ok => 0x00 | .pending => 0x01 | .deferred => 0x02 | .badOpcode => 0x10 | .badParam => 0x11 | .badState => 0x12
  | .budget => 0x13 | .late => 0x14 | .busy => 0x15 | .noResource => 0x16 | .aborted => 0x17 | .denied => 0x18
  | .safeState => 0x19 | .retry => 0x1A | .timeout => 0x1B | .notPresent => 0x1C

/-- STATE of DEV_STATUS (R422). -/
def devStateCode : DevState → Nat
  | .bootRom => 0 | .waitImage => 1 | .loading => 2 | .ready => 3 | .safe => 4 | .sleep => 5 | .bootFailed => 6

/-- The CP runs and serves commands (R459: not in STATE 0 to 2 or 6; R551: not halted). -/
def cpRuns (d : Device) : Bool :=
  !d.power.cpHalted && (d.power.state == .ready || d.power.state == .safe || d.power.state == .sleep)

/-- One nanosecond of device time (00_scope.md Shared terms). -/
def tickDevice (d : Device) : Device := { d with time := (d.time + 1) % 2 ^ 64 }

/-- The block reset of the block with this first source ID runs (R581). -/
def resetRuns (d : Device) (block : Nat) : Bool := d.fault.resets.any (fun r => r.block == block)

def takeFresh (d : Device) : Device := { d with fresh := d.fresh + 1 }

/-! ### High-water marks (R23) -/

/-- Key of a stall instance: stall ID and instance. -/
def markKey (s : Nat × Nat) : Nat := s.1 * 65536 + s.2

/-- The high-water mark of a stall instance rises to an occupancy of `n` units. -/
def noteMark (id i n : Nat) (d : Device) : Device :=
  if tget 0 d.marks (markKey (id, i)) < n then { d with marks := tset 0 d.marks (markKey (id, i)) n } else d

/-! ### Configuration values -/

/-- Active value of a field (R45, R49). -/
def cfgVal (d : Device) (key : Nat) : Int :=
  match tget none d.cfg.active key with
  | some v => v
  | none => fieldReset key

def cfgInt (d : Device) (block inst code : Nat) : Int := cfgVal d (cfgKey block inst code)

def cfgN (d : Device) (block inst code : Nat) : Nat := (cfgInt d block inst code).toNat

def cfgOn (d : Device) (block inst code : Nat) : Bool := cfgN d block inst code == 1

/-- A value table with one field set; an entry that equals the reset value is not listed. -/
def cfgPut (t : Table (Option Int)) (key : Nat) (v : Int) : Table (Option Int) :=
  tset none t key (if v == fieldReset key then none else some v)

def setActive (key : Nat) (v : Int) (d : Device) : Device :=
  { d with cfg := { d.cfg with active := cfgPut d.cfg.active key v } }

/-- Epoch exponent e (R511). -/
def epochExp (d : Device) : Nat := cfgN d 0x0F 0 1

/-- Epoch index at the output of stall 0x01 (R24). -/
def epochIndex (d : Device) : Nat := d.sampleIndex / 2 ^ epochExp d

/-- The sample index: the index of the next sampling instant at the input balls, which the samples still inside the converters lie
below (R95). No sample has been taken before the first one is delivered (R85). -/
def ballIndex (d : Device) : Nat := if d.sampleIndex == 0 then 0 else d.sampleIndex + 1184

/-- The pair mutes the outputs of this device (R501): a new primary until the next granule boundary (R506). -/
def pairMutes (d : Device) : Bool :=
  d.group.pairMuted && (match d.group.unmuteAt with
    | some b => decide (ballIndex d < b)
    | none => true)

/-- First sample index of an epoch. -/
def epochStart (d : Device) (t : Nat) : Nat := t * 2 ^ epochExp d

/-- Epoch of the next token to form (R24, R493). -/
def nextToken (d : Device) : Nat := if d.cfg.tokenZero then 0 else d.cfg.lastToken + 1

/-- A token that has not been adopted stands before index `i` in a block's input (R25, R26). -/
def tokenWaits (d : Device) (block i : Nat) : Bool :=
  d.cfg.genAt.any (fun e => decide (tget 0 d.cfg.adopted block < e.1) && decide (epochStart d e.1 ≤ i))

/-- Value of a field in the context of epoch `t`: what its block replaced at later tokens is taken back, and the parts that wait for
tokens up to `t` are counted (R26, R201). -/
def valueIn (d : Device) (t key : Nat) : Int :=
  let base := match d.cfg.undo.find? (fun e => e.2.1 == key && decide (t < e.1)) with
    | some e => e.2.2
    | none => cfgVal d key
  (d.cfg.parts.filter (fun p => decide (p.epoch ≤ t))).foldl (fun v p =>
    match p.changes.reverse.find? (fun e => e.1 == key) with
    | some e => e.2
    | none => v) base

/-- The same of a field in the context that a token block works under. -/
def valueBehind (d : Device) (block key : Nat) : Int := valueIn d (tget 0 d.cfg.adopted block) key

/-- Key bits [31:16] of a token block (R42). -/
def tokenBlockKey : TokenBlock → Nat
  | .converter ch => 0x0200 + ch.val
  | .lane ch l => 0x0300 + ch.val * 8 + l.val
  | .slot ch n => 0x0400 + ch.val * 4 + n.val
  | .trig => 0x0500
  | .map m => 0x0700 + m.val
  | .stream n => 0x0900 + n.val

/-- Generation under which a token block works (R24, R26). -/
def blockGeneration (d : Device) (b : Nat) : BitVec 32 := tget 0 d.cfg.blockGen b

/-! ### Frequency (R67) -/

/-- Numerator and denominator of f_SCLK in Hz. -/
def fsclkFrac (d : Device) : Nat × Nat :=
  let v := d.clk.sclk.inForce
  (v.refinHz * v.intDiv, v.refDiv)

/-- f_sclk_hz: the exact quotient rounded to nearest, ties to even (R67). -/
def fsclkHz (d : Device) : Nat :=
  let q := fsclkFrac d
  (roundHalfEven (q.1 : Int) q.2).toNat

/-- Sample periods in a time of microseconds at the present f_SCLK (R8). -/
def usToSamples (d : Device) (us : Nat) : Nat := us * fsclkHz d / 1000000

/-! ### Memory (R16, R17) -/

/-- What an unlisted address reads as. -/
def emptyByte : Byte := 0

def memByte (m : List Host.Cell) (a : Nat) : Byte := tget emptyByte m a

def writeCell (m : List Host.Cell) (a : Nat) (b : Byte) : List Host.Cell := tset emptyByte m a b

/-- The bytes written one after the other, rising addresses. -/
def writeCells : List Host.Cell → Nat → List Byte → List Host.Cell
  | m, _, [] => m
  | m, a, b :: bs => writeCells (writeCell m a b) (a + 1) bs

/-- The real-time and system regions of Loft hold the buffers and stores of the blocks at places that the spec does not give (R16,
R419): a byte read there is a free value. Elsewhere a byte is what was written last. -/
def readByte (d : Device) (a : Nat) : Byte := if a < 0xF000000 then Config.loftByte d.fresh a else memByte d.mem a

def memRead (d : Device) (a n : Nat) : List Byte := (List.range n).map (fun i => readByte d (a + i))

/-- Bytes of Loft without a given layout have been read: a later read may find others. -/
def freshLoft (a : Nat) (d : Device) : Device := if a < 0xF000000 then takeFresh d else d

def memNat (d : Device) (a n : Nat) : Nat := leNat (memRead d a n)

/-- The canonical form of memory. -/
def memoryWf (m : List Host.Cell) : Bool := tableWf emptyByte m

/-- Lines of 64 bytes that a full write replaces lose their poison (R470, R572). -/
def clearPoison (t : Table Bool) (a n : Nat) : Table Bool :=
  t.filter (fun e => !(decide (a ≤ e.1) && decide (e.1 + 64 ≤ a + n)))

def memWrite (a : Nat) (bs : List Byte) (d : Device) : Device :=
  { d with mem := writeCells d.mem a bs, poison := clearPoison d.poison a bs.length }

/-- A line of the range is poisoned. -/
def poisoned (d : Device) (a n : Nat) : Bool :=
  d.poison.any (fun e => e.2 && decide (e.1 < a + n) && decide (a < e.1 + 64))

/-- Memory as a reader that takes a poisoned 64-byte line for zeros reads it (R470). -/
def cleanRead (d : Device) (a n : Nat) : List Byte :=
  if poisoned d a n then
    (List.range (ceilDiv n 64)).flatMap (fun i =>
      let k := min 64 (n - 64 * i)
      if poisoned d (a + 64 * i) k then zeroBytes k else memRead d (a + 64 * i) k)
  else memRead d a n

def setPoison (line : Nat) (d : Device) : Device := { d with poison := tset false d.poison line true }

/-- Base of the Yard window and of host memory (R16). -/
def yardBase : Nat := 0x40000000000
def hostBase : Nat := 0x8000000000000
def addressEnd : Nat := 0x10000000000000

/-- Populated Yard bytes: n × C (R464). -/
def yardBytes (d : Device) : Nat := d.yard.kept.length * d.yard.dimmBytes

/-- The regions of R16. -/
inductive Region where
  | realtime | system | reed | g0 | g1 | yard | host | unmapped
  deriving DecidableEq, Repr

def regionOf (a : Nat) : Region :=
  if a ≤ 0xDFFFFFF then .realtime
  else if a ≤ 0xEFFFFFF then .system
  else if a ≤ 0xFFFFFFF then .reed
  else if 0x18000000 ≤ a ∧ a ≤ 0x18FFFFFF then .g0
  else if 0x19000000 ≤ a ∧ a ≤ 0x19FFFFFF then .g1
  else if yardBase ≤ a ∧ a ≤ 0x7FFFFFFFFFF then .yard
  else if hostBase ≤ a ∧ a < addressEnd then .host
  else .unmapped

/-- The masters of R16. -/
inductive Master where
  | cp | xfer | reedBatch | reedWindow | device
  deriving DecidableEq, Repr

/-- What a master reaches by reads and by writes (R16). The `device` master stands for the stream gatherer, the density
writers and scan-out, which reach the Yard and host memory only. -/
def reaches (m : Master) (write : Bool) : Region → Bool
  | .realtime => !write && (m == .cp || m == .xfer || m == .reedBatch)
  | .system => m == .cp
  | .reed => m == .cp || m == .xfer || m == .reedWindow
  | .g0 => write && (m == .cp || m == .xfer)
  | .g1 => write && (m == .cp || m == .xfer)
  | .yard => true
  | .host => true
  | .unmapped => false

/-- The whole range lies in one region that the master reaches, and within populated memory (R16, R17). -/
def reachable (d : Device) (m : Master) (write : Bool) (a n : Nat) : Bool :=
  let r := regionOf a
  decide (0 < n) && regionOf (a + (n - 1)) == r && reaches m write r &&
    (r != .yard || decide (a + n ≤ yardBase + yardBytes d))

/-! ### Parameters of a packet (R432) -/

def pByte (p : Packet) (i : Nat) : Nat := getLe p.params i 1
def p16 (p : Packet) (i : Nat) : Nat := getLe p.params i 2
def p32 (p : Packet) (i : Nat) : Nat := getLe p.params i 4
def p64 (p : Packet) (i : Nat) : Nat := getLe p.params i 8

/-- Every byte of the parameter area outside the listed (start, length) ranges is zero (R10, R435). -/
def reservedZero (p : Packet) (used : List (Nat × Nat)) : Bool :=
  (List.range p.params.length).all (fun i =>
    used.any (fun u => decide (u.1 ≤ i) && decide (i < u.1 + u.2)) || getLe p.params i 1 == 0)

def flagSet (p : Packet) (i : Nat) : Bool := bit p.flags.toNat i

def atEpochFlag (p : Packet) : Bool := flagSet p 0
def groupFlag (p : Packet) : Bool := flagSet p 1

/-- The unit field of the target (R434). -/
def unitOf (p : Packet) : Nat := bits p.target.toNat 0 12
def targetDevice (p : Packet) : Nat := bits p.target.toNat 12 4

def isQueue (p : Packet) : Bool :=
  match p.src with
  | .queue _ => true
  | _ => false

/-! ### MSI-X (R454) -/

def msixEntry (d : Device) (v : Nat) : MsixEntry := tget {} d.host.msix v

def setPba (v : Nat) (on : Bool) (d : Device) : Device :=
  { d with host := { d.host with
      pba := if on then d.host.pba ||| ((1 : BitVec 256) <<< v) else d.host.pba &&& ~~~ ((1 : BitVec 256) <<< v) } }

/-- The message of a vector: its data written to its address in host memory. -/
def sendMsix (v : Nat) (d : Device) : Device :=
  let e := msixEntry d v
  memWrite (hostBase + e.addr % 2 ^ 51) (leBytes 4 e.data) d

/-- Signal a vector: send its message, or set its PBA bit while MSI-X is off or the vector masked. -/
def signalVector (v : Nat) (d : Device) : Device :=
  if (msixEntry d v).masked || !d.host.msixEnable || d.host.functionMask then setPba v true d
  else sendMsix v d

/-! ### Queue entries (R431, R437-R440, R453, R454) -/

def subQueue (d : Device) (q : Nat) : SubQueue := tget {} d.host.sqs q
def cplQueue (d : Device) (c : Nat) : CplQueue := tget {} d.host.cqs c

def setSubQueue (q : Nat) (v : SubQueue) (d : Device) : Device :=
  { d with host := { d.host with sqs := tset {} d.host.sqs q v } }

def setCplQueue (c : Nat) (v : CplQueue) (d : Device) : Device :=
  { d with host := { d.host with cqs := tset {} d.host.cqs c v } }

/-- A slot that the host has released exists: (TAIL + 1) mod n differs from head (R431). -/
def slotFree (c : CplQueue) : Bool := c.entries != 0 && (c.tail + 1) % c.entries != c.head

/-- The entry with its phase bit. -/
def withPhase (bs : List Byte) (phase : Bool) : List Byte :=
  bs.set 3 (BitVec.ofNat 8 (bits (getLe bs 3 1) 1 7 * 2 + boolN phase))

/-- Count an entry toward the coalescing of R454 and signal where it is due. -/
def countEntry (ci : Nat) (d : Device) : Device :=
  let c := cplQueue d ci
  let n := c.unsignalled + 1
  if c.coCount == 0 || c.coCount ≤ n then
    signalVector c.vector (setCplQueue ci { c with unsignalled := 0 } d)
  else setCplQueue ci { c with unsignalled := n } d

/-- Write one entry into slot TAIL, advance TAIL and the phase, and count it (R440, R444, R454). -/
def writeSlot (ci : Nat) (bs : List Byte) (d : Device) : Device :=
  let c := cplQueue d ci
  let t := (c.tail + 1) % c.entries
  let d := memWrite (c.base + 32 * c.tail) (withPhase bs c.phase) d
  let d := setCplQueue ci { c with tail := t, phase := if t == 0 then !c.phase else c.phase } d
  countEntry ci d

def dropFlight (t : Nat) (d : Device) : Device :=
  { d with host := { d.host with flights := tset none d.host.flights t none } }

def dropFlightOpt (t : Option Nat) (d : Device) : Device :=
  match t with
  | some t => dropFlight t d
  | none => d

/-- Merge an event entry into the waiting one of the same source and code (R454): its count rises by one. -/
def mergeEvent (ws : List WaitingEntry) (e : WaitingEntry) : Option (List WaitingEntry) :=
  match ws with
  | [] => none
  | w :: ws =>
    if w.event.isSome && w.event == e.event then
      let n := min 65535 (getLe w.bytes 4 2 + 1)
      some ({ w with bytes := w.bytes.take 4 ++ leBytes 2 n ++ w.bytes.drop 6 } :: ws)
    else (mergeEvent ws e).map (w :: ·)

/-- Write an entry, or let it wait in the CP where no released slot exists (R431). -/
def postRaw (ci : Nat) (e : WaitingEntry) (d : Device) : Device :=
  let c := cplQueue d ci
  if !c.live then dropFlightOpt e.frees d
  else if c.waiting.isEmpty && !c.writeError && slotFree c then dropFlightOpt e.frees (writeSlot ci e.bytes d)
  else match mergeEvent c.waiting e with
    | some ws => setCplQueue ci { c with waiting := ws } d
    | none => setCplQueue ci { c with waiting := c.waiting ++ [e] } d

/-- The completion entry (R437), phase bit clear. -/
def completionBytes (tag status flags sq head replyLen origin : Nat) (reply : List Byte) : List Byte :=
  leBytes 2 tag ++ leBytes 1 status ++ leBytes 1 flags ++ leBytes 2 sq ++ leBytes 2 head ++ leBytes 2 replyLen
    ++ leBytes 1 origin ++ leBytes 1 0 ++ padTo reply 20

/-- Group ID of this device, 0xFF outside a group (R437). -/
def originId (d : Device) : Nat := if d.group.members == 0 then 0xFF else d.group.id

def queueOf (p : Packet) : Nat :=
  match p.src with
  | .queue q => q
  | .forwarded _ q _ => q
  | .mailbox | .mirrored => 0

/-- Final or interim entry of a queue command: the reply block first (R439, R443), then the entry. -/
def postCompletion (p : Packet) (st : Status) (reply : List Byte) (origin : Nat) (interim frees : Bool) (d : Device) :
    Device :=
  let q := queueOf p
  let sq := subQueue d q
  let long := decide (20 < reply.length)
  let written := long && p.replyAddr != 0
  let d := if written then memWrite p.replyAddr (padTo reply 256) d else d
  let flags := 2 * boolN (long && !written) + 4 * boolN written + 8 * boolN interim
  postRaw sq.cq
    { bytes := completionBytes p.tag.toNat (statusCode st) flags q sq.head reply.length origin reply
      frees := if frees then some (p.tag.toNat % 4096) else none
      event := none } d

/-- Submission queues whose QUEUE_DELETE waits and of which no command is in flight (R428). -/
def deletable (d : Device) : List (Nat × Packet) :=
  d.host.sqs.filterMap (fun e =>
    match e.2.deleting with
    | some p =>
      if d.host.flights.any (fun f => match f.2 with
        | some fl => fl.packet.src == .queue e.1
        | none => false) then none
      else some (e.1, p)
    | none => none)

/-- Deleted submission queues vanish, their sessions end (R555), and their QUEUE_DELETE completes (R428). -/
def settleDeletes (d : Device) : Device :=
  (deletable d).foldl (fun d e =>
    let d := setSubQueue e.1 {} d
    let d := { d with pad := { d.pad with
      sessions := tset 0 d.pad.sessions e.1 0, nonces := tset none d.pad.nonces e.1 none } }
    postCompletion e.2 .ok [] (originId d) false true d) d

/-- The mailbox result (R459). -/
def mailboxResult (p : Packet) (st : Status) (reply : List Byte) (d : Device) : Device :=
  let bs := completionBytes p.tag.toNat (statusCode st) (4 * boolN (decide (20 < reply.length))) 0 0 reply.length
    (originId d) reply
  { d with host := { d.host with
      mboxCpl := bs, mboxReply := padTo reply 256, mboxBusy := false, mboxDone := true } }

/-! ### Shunis messages (R488-R490) -/

def shunisPort (d : Device) (n : Nat) : ShunisPort := tget {} d.group.ports n

def setShunisPort (n : Nat) (v : ShunisPort) (d : Device) : Device :=
  { d with group := { d.group with ports := tset {} d.group.ports n v } }

/-- Lane count code of a Shunis port (R485, R511): four lanes, lanes 0-1 or 2-3, one lane, or none. -/
def laneCode (trained : BitVec 4) : Nat :=
  let t := trained.toNat
  if t == 15 then 3 else if t % 4 == 3 || t / 4 == 3 then 2 else if t != 0 then 1 else 0

/-- Virtual channel of a message (R488). -/
def msgVc : Msg → Nat
  | .busAssert .. | .ping _ | .pong _ => 0
  | .heartbeat .. | .fence | .fatalNotice .. => 1
  | .cmd .. | .cpl .. | .prepare .. | .armed | .refused _ | .abort | .applied | .form _ | .syncCtl _ => 2
  | .keyLog _ | .ackMirror .. | .cmdMirror _ | .memMirror _ => 3

/-- Neighbours of a member as this device knows them. -/
def neighboursOf (d : Device) (n : Nat) : List Nat :=
  if n == d.group.id then
    (List.range 4).filterMap (fun i => let p := shunisPort d i; if p.up then p.neighbour else none)
  else match tget none d.group.neighbours n with
    | some l => l.filterMap id
    | none => []

/-- Members reached from a set in at most `k` hops. -/
def reachSet (d : Device) : Nat → List Nat → List Nat
  | 0, l => l
  | k + 1, l => reachSet d k ((l ++ l.flatMap (neighboursOf d)).eraseDups)

/-- Hops between two members, none when more than seven or no route (R489). -/
def hops (d : Device) (a b : Nat) : Option Nat :=
  (List.range 8).find? (fun k => (reachSet d k [a]).contains b)

/-- Port 3 of a pair member carries only frames between the two members (R489). -/
def portCarries (d : Device) (port dest : Nat) : Bool :=
  port != 3 || d.group.pairRole == 0 || d.group.pairPeer == some dest

/-- Outgoing port of the shortest route; among equal ones the lowest port (R489). -/
def routePort (d : Device) (dest : Nat) : Option Nat :=
  let cands := (List.range 4).filterMap (fun i =>
    let p := shunisPort d i
    match p.neighbour with
    | some nb =>
      if p.up && portCarries d i dest then (hops d nb dest).map (fun h => (h, i)) else none
    | none => none)
  match cands with
  | [] => none
  | c :: cs => some (cs.foldl (fun b x => if x.1 < b.1 then x else b) c).2

/-- A frame placed into stall 0x26 of a port, with the next link sequence. -/
def queueFrame (port : Nat) (f : TxFrame) (d : Device) : Device :=
  let p := shunisPort d port
  setShunisPort port { p with txSeq := (p.txSeq + 1) % 65536, unacked := p.unacked ++ [{ f with seq := p.txSeq }] } d

/-- Port that a frame takes: the one it is bound to, while that is up, or that of its route (R489). -/
def framePort (d : Device) (f : TxFrame) : Option Nat :=
  match f.port with
  | some port => if (shunisPort d port).up then some port else none
  | none => routePort d f.dest

/-- The frame carries a command to a member (R498). -/
def carriesCommand (f : TxFrame) : Bool :=
  match f.msg with
  | some (.cmd ..) => true
  | _ => false

/-- A command of this device is on its way to a member (R498). -/
def countForwarded (f : TxFrame) (d : Device) : Device :=
  if carriesCommand f then
    { d with group := { d.group with forwardedOut := tset 0 d.group.forwardedOut f.dest (tget 0 d.group.forwardedOut f.dest + 1) } }
  else d

/-- A frame waits: stall 0x26 of its port is full (R487), or its command would be the 513th that the member executes (R498). -/
def frameWaits (d : Device) (port : Nat) (f : TxFrame) : Bool :=
  decide (128 ≤ (shunisPort d port).unacked.length)
    || (carriesCommand f && decide (512 ≤ tget 0 d.group.forwardedOut f.dest))

/-- A frame is sent over its port, or waits. Without a port it is dropped, and counted on virtual channels 0 and 1 (R487, R490). -/
def sendFrame (f : TxFrame) (d : Device) : Device :=
  match framePort d f with
  | some port =>
    if frameWaits d port f then { d with group := { d.group with held := d.group.held ++ [f] } }
    else queueFrame port f (countForwarded f d)
  | none =>
    if f.vc ≤ 1 then { d with group := { d.group with unroutable := d.group.unroutable + 1 } } else d

/-- Send a message of this device, with the next end-to-end sequence of its route (R486). -/
def sendMsg (dest : Nat) (m : Msg) (d : Device) : Device :=
  let i := dest * 4 + msgVc m
  let e := tget 0 d.group.e2eTx i
  sendFrame { seq := 0, dest := dest, vc := msgVc m, e2e := e, msg := some m, source := d.group.id, payload := [] }
    { d with group := { d.group with e2eTx := tset 0 d.group.e2eTx i ((e + 1) % 65536) } }

/-- The other members of the group. -/
def otherMembers (d : Device) : List Nat :=
  (List.range 8).filter (fun n => bit d.group.members.toNat n && n != d.group.id)

/-- Frames that waited for stall 0x26 are sent, in the priority of R488, oldest first. -/
def flushHeld (d : Device) : Device :=
  let hs := (List.range 4).flatMap (fun v => d.group.held.filter (fun f => f.vc == v))
  hs.foldl (fun d f => sendFrame f d) { d with group := { d.group with held := [] } }

def broadcast (m : Msg) (d : Device) : Device := (otherMembers d).foldl (fun d n => sendMsg n m d) d

/-! ### Completion of a command -/

/-- The commands that a pair mirrors (R502): by opcode, GEN_JUMP and KERNEL_RUN but for their STATUS ops. A group commit reaches the shadow
by PREPARE instead. -/
def mirroredClass (p : Packet) : Bool :=
  let o := p.opcode
  o == 0x0100 || o == 0x0101 || (o == 0x0104 && !groupFlag p) || o == 0x0105 || o == 0x0200 || o == 0x0202 || o == 0x0500 || o == 0x0501
    || o == 0x0803 || o == 0x0600 || o == 0x0601 || o == 0x0900 || o == 0x0800 || o == 0x0801 || o == 0x0B00 || o == 0x0B01
    || (o == 0x0B02 && pByte p 0 != 3) || o == 0x0C00 || (o == 0x0C01 && pByte p 0 != 4) || o == 0x0A00 || o == 0x0A01
    || o == 0x0A02 || o == 0x0A04

/-- This device is the primary of a pair that mirrors commands (R502, R505). -/
def mirroring (d : Device) : Bool := d.group.pairFormed && d.group.pairRole == 1 && !d.group.pairDegraded

/-- A command that the primary of a pair accepts from a queue of its own or of another member. -/
def mirrorSource (p : Packet) : Bool :=
  match p.src with
  | .queue _ | .forwarded .. => true
  | .mailbox | .mirrored => false

/-- The blocks that a mirrored command reads, by address and length (R502). -/
def blocksRead (p : Packet) : List (Nat × Nat) :=
  match p.opcode with
  | 0x0100 => [(p64 p 0, 16 * p32 p 8)]
  | 0x0101 => [(p64 p 8, 16 * p32 p 16)]
  | 0x0202 => [(p64 p 8, 16 * p16 p 2)]
  | 0x0500 => [(p64 p 8, 8192)]
  | 0x0501 => [(p64 p 8, 4 * 2 ^ pByte p 1)]
  | 0x0803 => [(p64 p 8, 1024)]
  | 0x0B00 => if pByte p 1 == 1 then [(p64 p 16, 16 * p32 p 8)] else []
  | 0x0B01 => [(p64 p 8, 16 * p32 p 4)]
  | 0x0C00 => [(p64 p 8, p32 p 4)]
  | _ => []

/-- The instant that the primary gives to a command with an immediate acting instant (R502): TRIG_ARM and TRIG_FORCE without at_sample,
and GEN_JUMP START without an index. -/
def actingInstant (d : Device) (p : Packet) : Option Nat :=
  let lead := ballIndex d + usToSamples d (cfgN d 0x0F 0 0x0A)
  if (p.opcode == 0x0600 || p.opcode == 0x0601) && !bit (pByte p 2) 1 then some lead
  else if p.opcode == 0x0B02 && pByte p 0 == 1 && pByte p 4 == 0 then some lead
  else none

/-- The packet with an explicit instant. -/
def actAtInstant (p : Packet) (at_ : Option Nat) : Packet :=
  match at_ with
  | none => p
  | some i =>
    let b := if p.opcode == 0x0B02 then p.params.set 4 1 else p.params.set 2 (BitVec.ofNat 8 (pByte p 2 + 2))
    { p with params := b.take 8 ++ leBytes 8 i ++ b.drop 16 }

/-- CMD_MIRROR of an accepted command (R502), which runs here as `own`. -/
def sendMirror (own p : Packet) (at_ : Option Nat) (d : Device) : Device :=
  match d.group.pairPeer with
  | some peer =>
    let d := { d with group := { d.group with awaiting := d.group.awaiting ++ [(own, false)] } }
    sendMsg peer (.cmdMirror (.command p at_ ((blocksRead p).map (fun r => (r.1, memRead d r.1 r.2))))) d
  | none => d

/-- The final entry (R437), wherever the command came from: its queue, the mailbox, or the member that forwarded it. -/
def finish (p : Packet) (st : Status) (reply : List Byte) (d : Device) : Device :=
  match p.src with
  | .mailbox => mailboxResult p st reply d
  | .forwarded dev _ _ =>
    sendMsg dev (.cpl p.tag.toNat (statusCode st) reply)
      { d with group := { d.group with forwardedRunning := d.group.forwardedRunning - 1 } }
  | .mirrored => d
  | .queue _ =>
    if d.host.silent.contains p then { d with host := { d.host with silent := d.host.silent.erase p } }
    else settleDeletes (postCompletion p st reply (originId d) false true d)

/-- A command completes. A mirrored command of a primary waits for the shadow's confirmation (R502). -/
def complete (p : Packet) (st : Status) (reply : List Byte) (d : Device) : Device :=
  match d.group.awaiting.find? (fun x => x.1 == p) with
  | none => finish p st reply d
  | some x =>
    let g := { d.group with awaiting := d.group.awaiting.erase x }
    if x.2 then finish p st reply { d with group := g }
    else { d with group := { g with
        unconfirmed := g.unconfirmed ++ [{ tag := p.tag.toNat, packet := p, status := st, reply := reply }] } }

def completeOpt (p : Option Packet) (st : Status) (reply : List Byte) (d : Device) : Device :=
  match p with
  | some p => complete p st reply d
  | none => d

/-- A command that does not complete at acceptance parks: with NOTIFY_ACCEPT its interim entry is written (R437). -/
def park (p : Packet) (d : Device) : Device :=
  if flagSet p 4 && isQueue p && !d.host.silent.contains p then
    postCompletion p .pending [] (originId d) true false d
  else d

/-! ### Faults and events -/

/-- A fault message enters stall 0x27; where the stall is full, only its count is kept (R19, R569). -/
def raiseFault (m : FaultMsg) (d : Device) : Device :=
  if d.fault.inbox.length < 64 then { d with fault := { d.fault with inbox := d.fault.inbox ++ [m] } }
  else
    let i := m.source * 64 + m.kind
    { d with fault := { d.fault with lost := tset 0 d.fault.lost i (tget 0 d.fault.lost i + 1) } }

/-- A fault of a source without address, master and access (R568: master 0x3FD none). -/
def plainFault (source kind cls address : Nat) : FaultMsg :=
  { source := source, kind := kind, cls := cls, address := address, master := 0x3FD, access := 0, detail := zeroBytes 16 }

/-- The source reports a condition absent: its live bit falls, and the record of it is marked (R575). -/
def clearLive (source kind : Nat) (d : Device) : Device :=
  let mark (r : Option FaultEntry) : Option FaultEntry :=
    r.map (fun e => if e.source == source && e.kind == kind then { e with noLonger := true } else e)
  { d with fault := { d.fault with
      live := tset none d.fault.live (source * 64 + kind) none
      corrected := mark d.fault.corrected, contained := mark d.fault.contained, fatal := mark d.fault.fatal } }

def eventMap (d : Device) (source : Nat) : EventMap := tget {} d.fault.eventMaps source

def eventPendingBit (d : Device) (source : Nat) : Bool := d.fault.eventPending.getLsbD source

def setEventPending (source : Nat) (d : Device) : Device :=
  { d with fault := { d.fault with eventPending := d.fault.eventPending ||| ((1 : BitVec 1024) <<< source) } }

/-- The event entry (R453, R589), phase bit clear. -/
def eventBytes (source code time index qualifier : Nat) : List Byte :=
  leBytes 2 source ++ leBytes 1 code ++ leBytes 1 16 ++ leBytes 2 1 ++ zeroBytes 2 ++ leBytes 8 time
    ++ leBytes 8 index ++ leBytes 8 qualifier

/-- An event of a source (R453, R454, R590, R591): dropped where its code is masked; else delivered by the source's mode, its
pending bit set in mode 2 and where the source is mapped with alert. -/
def raiseEvent (source code index qualifier : Nat) (d : Device) : Device :=
  let m := eventMap d source
  if !bit m.codeMask code then d
  else
    let was := eventPendingBit d source
    let d := if m.alert || m.mode == 2 then setEventPending source d else d
    if m.mode == 1 then
      postRaw m.target { bytes := eventBytes source code d.time index qualifier, frees := none,
                         event := some (source, code) } d
    else if m.mode == 2 && !was then signalVector m.target d
    else d

/-! ### Acceptance of a command packet (R436) -/

/-- What R433, R434, R451, R459 and R556 say of an opcode. -/
structure CmdSpec where
  /-- AT_EPOCH and GROUP accepted -/
  atEpoch : Bool := false
  group : Bool := false
  /-- the unit field has a meaning -/
  unit : Bool := false
  /-- accepted in the safe state, in SLEEP, by the mailbox -/
  safeOk : Bool := false
  sleepOk : Bool := false
  mbox : Bool := false
  /-- only submission queue 0 (R426) -/
  admin : Bool := false

/-- The opcodes of R447 and what their rules say. -/
def cmdSpec (opcode : Nat) : Option CmdSpec :=
  match opcode with
  | 0x0000 => some { sleepOk := true, mbox := true }
  | 0x0001 => some { sleepOk := true, mbox := true }
  | 0x0002 => some { safeOk := true, sleepOk := true, mbox := true }
  | 0x0003 => some { mbox := true }
  | 0x0004 => some { sleepOk := true, mbox := true }
  | 0x0005 => some { unit := true, safeOk := true, mbox := true }
  | 0x0006 => some { safeOk := true, mbox := true }
  | 0x0008 => some { admin := true }
  | 0x0009 => some { admin := true }
  | 0x0100 | 0x0101 | 0x0102 => some {}
  | 0x0103 | 0x0104 => some { atEpoch := true, group := true }
  | 0x0105 => some {}
  | 0x0200 | 0x0201 | 0x0202 => some {}
  | 0x0300 | 0x0301 | 0x0302 => some {}
  | 0x0500 | 0x0501 => some {}
  | 0x0600 | 0x0601 | 0x0602 => some {}
  | 0x0700 => some {}
  | 0x0800 | 0x0801 | 0x0802 | 0x0803 => some {}
  | 0x0900 | 0x0901 | 0x0902 => some {}
  | 0x0A00 | 0x0A01 | 0x0A02 | 0x0A03 | 0x0A04 => some {}
  | 0x0B00 | 0x0B01 | 0x0B02 => some {}
  | 0x0C00 | 0x0C01 => some {}
  | 0x0D00 | 0x0D01 | 0x0D02 | 0x0D03 => some {}
  | 0x0E00 | 0x0E01 | 0x0E03 => some { safeOk := true, sleepOk := opcode != 0x0E03, mbox := true }
  | 0x0E02 => some {}
  | 0x0F00 | 0x0F01 | 0x0F02 | 0x0F03 | 0x0F05 | 0x0F06 => some {}
  | 0x0F04 => some { safeOk := true, sleepOk := true, mbox := true }
  | 0x1000 => some { sleepOk := true, mbox := true }
  | 0x1001 => some { mbox := true }
  | _ => none

/-- Role that the command needs: 0 none, 1 Crypto Officer, 2 User (R556). -/
def roleNeeded (p : Packet) : Nat :=
  if p.opcode == 0x0F04 then (if bit (pByte p 0) 0 then 1 else 0)
  else if p.opcode == 0x0F03 then (if pByte p 0 < 4 then 1 else 0)
  else if p.opcode == 0x0F06 then (if pByte p 0 < 2 then 1 else 0)
  else if p.opcode == 0x0A00 then (if pByte p 0 == 0 && bit (pByte p 4) 0 then 2 else 0)
  else 0

/-- Role that the issuer holds (R450, R498). For a mirrored command the primary has judged the role. -/
def roleHeld (d : Device) (p : Packet) : Nat :=
  match p.src with
  | .queue q => tget 0 d.pad.sessions q
  | .forwarded _ _ r => r
  | .mailbox => 0
  | .mirrored => 1

/-- The Crypto Officer holds every permission of the User (R553). -/
def roleOk (held need : Nat) : Bool := need == 0 || held == 1 || held == need

/-- Header fields that check 2 of R436 judges (R432-R434). -/
def headerOk (d : Device) (c : CmdSpec) (p : Packet) : Bool :=
  let dev := targetDevice p
  (p.tag.toNat < 4096 || !isQueue p)
    && (dev < 8 || dev == 15)
    && (c.unit || unitOf p == 0)
    && (c.atEpoch || !flagSet p 0) && (c.group || !flagSet p 1) && bits p.flags.toNat 5 11 == 0
    && (!isQueue p || p.replyAddr == 0
        || (p.replyAddr % 64 == 0 && reachable d .cp true p.replyAddr 256))
    && decide (48 ≤ p.params.length) && decide (p.params.length ≤ 4096) && p.params.length % 16 == 0

/-- The target is this device (R434): 0xF, or the group ID that its balls give it, in a group or not (R483). -/
def targetsSelf (d : Device) (p : Packet) : Bool := targetDevice p == 15 || targetDevice p == d.group.id

def tagInFlight (d : Device) (t : Nat) : Bool := (tget none d.host.flights t).isSome

def holdTag (p : Packet) (member : Option Nat) (d : Device) : Device :=
  { d with host := { d.host with
      flights := tset none d.host.flights p.tag.toNat (some { packet := p, forwardedTo := member }) } }

/-- A command that fails a check before its tag is held: its final entry frees no tag (R33). -/
def rejectEarly (p : Packet) (st : Status) (d : Device) : Device :=
  match p.src with
  | .mailbox => mailboxResult p st [] d
  | .forwarded .. | .mirrored => finish p st [] d
  | .queue _ => postCompletion p st [] (originId d) false false d

/-- Checks 5 and 6 of R436, at the executing device. -/
def executeCheck (d : Device) (c : CmdSpec) (p : Packet) : Option Status :=
  if d.power.state == .safe && !c.safeOk then some .safeState
  else if d.power.state == .sleep && !c.sleepOk then some .badState
  else if p.src == .mailbox && !c.mbox then some .denied
  else if c.admin && p.src != .queue 0 then some .denied
  else if !roleOk (roleHeld d p) (roleNeeded p) then some .denied
  else if d.group.pairRole == 2 && mirroredClass p && isQueue p then some .denied
  else none

/-- The op byte of a command with several rows is a reserved encoding (R10, R213, R286, R322, R330, R353, R362, R394, R491, R500, R552,
R559, R586). That of CFG_WRITE_OVERLAY is among the command's own checks (R48). -/
def opReserved (p : Packet) : Bool :=
  match p.opcode with
  | 0x0600 | 0x0900 | 0x0A00 | 0x0D00 | 0x0D02 | 0x0F06 => decide (2 < pByte p 0)
  | 0x0902 | 0x0B02 | 0x0E01 => decide (3 < pByte p 0)
  | 0x0B00 => decide (2 < pByte p 1)
  | 0x0C01 | 0x0F03 => decide (4 < pByte p 0)
  | _ => false

/-- Block whose command port (stall 0x21, by the block codes of R42) takes the commands of an opcode; 0: the CP executes them itself.
DEDUCED from the chapters that define the commands. -/
def portOf (op : Nat) : Nat :=
  match op with
  | 0x0003 | 0x0004 | 0x1000 | 0x1001 => 0x10
  | 0x0005 | 0x0006 => 0x11
  | 0x0500 => 0x05
  | 0x0501 => 0x04
  | 0x0800 | 0x0801 => 0x0E
  | 0x0802 => 0x08
  | 0x0803 => 0x07
  | 0x0900 | 0x0901 => 0x09
  | 0x0902 => 0x0A
  | _ => match op / 256 with
    | 0x02 => 0x01
    | 0x03 => 0x02
    | 0x06 => 0x05
    | 0x07 => 0x06
    | 0x0A => 0x0B
    | 0x0B => 0x0C
    | 0x0C => 0x0D
    | 0x0D => 0x0F
    | 0x0E => 0x11
    | 0x0F => 0x12
    | _ => 0

/-- The CP hands a command to its block through stall 0x21, which the block empties at once (R19, R23). -/
def toPort (p : Packet) (d : Device) : Device := if portOf p.opcode == 0 then d else noteMark 0x21 (portOf p.opcode) 1 d

/-- The status with which a command ends at once, if it does. -/
def endsWith (p : Packet) (body : Packet → Device → Device) (d : Device) : Option Status :=
  let e := body p { d with group := { d.group with awaiting := [(p, false)], unconfirmed := [] } }
  (e.group.unconfirmed.find? (fun u => u.packet == p)).map (·.status)

/-- The primary mirrors a command that it does not refuse at once (R10, R502). -/
def mirrors (p : Packet) (body : Packet → Device → Device) (d : Device) : Bool :=
  p.opcode != 0x0104 && ((endsWith p body d).all (fun st => st == .ok))

/-- GET_STATUS while the CP does not run: the Drone answers it from the mailbox (R459). -/
def droneStatus (p : Packet) (body : Packet → Device → Device) (d : Device) : Device :=
  let good := match cmdSpec p.opcode with
    | some c => headerOk d c p && targetsSelf d p && !opReserved p
    | none => false
  if p.opcode == 0x0002 then (if good then body p d else mailboxResult p .badParam [] d) else mailboxResult p .badState [] d

/-- Acceptance (R436): the checks in their order, then the tag is held and the command's own part runs. While the CP does not
run, the Drone answers the mailbox (R459) and no queue is served; during the restart after a machine check every command completes
with RETRY (R455). The primary of a pair mirrors what it accepts (R502); CFG_COMMIT sends its mirror once T is chosen. -/
def accept (p : Packet) (body : Packet → Device → Device) (d : Device) : Device :=
  if !cpRuns d then
    (if p.src == .mailbox then droneStatus p body d else d)
  else if d.host.mcheck then rejectEarly p .retry d
  else match cmdSpec p.opcode with
    | none => rejectEarly p .badOpcode d
    | some c =>
      if !headerOk d c p then rejectEarly p .badParam d
      else if isQueue p && tagInFlight d p.tag.toNat then rejectEarly p .badState d
      else if !targetsSelf d p && p.src == .mailbox then rejectEarly p .badParam d
      else if !targetsSelf d p && isQueue p then
        (if !bit d.group.members.toNat (targetDevice p) || (routePort d (targetDevice p)).isNone then rejectEarly p .notPresent d
         else sendMsg (targetDevice p) (.cmd p (roleHeld d p)) (holdTag p (some (targetDevice p)) d))
      else match executeCheck d c p with
        | some st => rejectEarly p st d
        | none =>
          if opReserved p then complete p .badParam [] (if isQueue p then holdTag p none d else d) else
          let mirror := mirroring d && mirroredClass p && mirrorSource p
          let i := if mirror then actingInstant d p else none
          let q := actAtInstant p i
          let d := toPort p (if isQueue p then holdTag q none d else d)
          body q (if mirror && mirrors q body d then sendMirror q p i d else d)

end Sys2Proof.Machine
end

