-- ==== Sys2Proof/Machine/Stalls.lean ====
section
/-! DEFINITION. Occupancy and high-water marks of the stalls (R19, R23, R537). The occupancy is taken behind each command. -/

namespace Sys2Proof.Machine

/-- Decimation block D_k (R123). -/
def blockOf (k : Nat) : Nat := 2 ^ (k + 1)

/-- Credit units of `size` samples that a stall holds: a unit is the samples of one aligned group of the lane's grid (R19). A stamp that was
not produced takes no room. -/
def rtUnits (k size : Nat) (items : List LaneSample) : Nat :=
  ((items.filter (·.present)).foldl (fun (s : Nat × Option Nat) y =>
    let u := y.stamp / (blockOf k * size)
    if s.2 == some u then s else (s.1 + 1, some u)) (0, none)).1

/-- Units of the samples of a lane, under the lane's active decimation. -/
def laneUnits (d : Device) (lane size : Nat) (items : List LaneSample) : Nat := rtUnits (cfgN d 3 lane 4) size items

/-- Units of stall 0x02 of a slot: its samples may come from more than one lane. -/
def slotUnits (d : Device) (items : List LaneSample) : Nat :=
  ((items.map (·.lane)).eraseDups.map (fun l => laneUnits d l 64 (items.filter (fun x => x.lane == l)))).foldl (· + ·) 0

def recordLines (r : Rec) : Nat := ceilDiv (40 + r.payload.length) 64

/-- Lines of a ring that a consumer has not released (R294). -/
def ringLines (d : Device) (n : Nat) (s : Stream) : Nat :=
  let w := s.writeOffset + 64 * s.inFlight.foldl (· + ·) 0
  let c := cfgN d 9 n 3
  let a := if bit c 0 then s.hostOffset else w
  let b := if bit c 1 && d.nvme.running.any (fun r => r.stream == n) then s.recOffset else w
  (w - min a b) / 64

/-- Units of 64 KiB of the completed frames of a map. -/
def colourUnits (m : DensMap) : Nat :=
  (m.colour.map (fun w => ceilDiv (4 * (2 ^ w.ctx.cols * 2 ^ w.ctx.rows)) 65536)).foldl (· + ·) 0

/-- Occupancy of instance `i` of a stall. A unit that a stall passes on within one command shows in its high-water mark. -/
def stallOccupancy (d : Device) (id i : Nat) : Nat :=
  match id with
  | 0x01 => (tget ({} : Converter) d.conv.channels i).stall.length
  | 0x02 => slotUnits d (tget ({} : Slot) d.spec.slots i).stall.items
  | 0x03 => laneUnits d i 8 (tget ({} : Lane) d.lane.lanes i).envStall.items
  | 0x04 => laneUnits d i 64 (tget ({} : Lane) d.lane.lanes i).recStall.items
  | 0x05 => laneUnits d i 64 (tget ({} : Lane) d.lane.lanes i).histStall.items
  | 0x06 => ((tget ({} : RtStall Spectrum) d.trig.frqStalls i).items.filter (·.computed)).length
  | 0x07 => ((tget ({} : DensMap) d.dens.maps i).stall.items.filter (·.computed)).length
  | 0x08 => colourUnits (tget ({} : DensMap) d.dens.maps i)
  | 0x09 => d.trig.actions.length
  | 0x10 => ((tget ({} : Stream) d.strm.streams i).stall.map recordLines).foldl (· + ·) 0
  | 0x11 => ringLines d i (tget {} d.strm.streams i)
  | 0x12 | 0x23 => match tget none d.reed.bindings i with
    | some b => b.stall.length
    | none => 0
  | 0x20 =>
    let q := tget ({} : SubQueue) d.host.sqs i
    if q.entries == 0 then 0 else (q.tail + q.entries - q.head) % q.entries
  | 0x22 => (tget ({} : XferChan) d.xfer.chans i).prefetched.length
  | 0x24 => (tget ({} : StoragePort) d.nvme.ports i).queue.length
  | 0x25 => (tget ({} : YardChannel) d.yard.channels i).queue.length
  | 0x26 => (tget ({} : ShunisPort) d.group.ports i).unacked.length
  | 0x27 => d.fault.inbox.length
  | _ => 0

/-- A binding that takes batches through stall 0x12 (lane and slot sources) rather than 0x23 (R20). -/
def lossyBinding (b : Binding) : Bool := b.kind == .lane || b.kind == .slot

/-- Instances that exist, ascending by stall ID (R537). -/
def stallInstances (d : Device) (id : Nat) : List Nat :=
  let lanes := (List.range 20).map (fun n => n / 5 * 8 + n % 5)
  let opened := (d.strm.streams.filter (fun e => e.2.ringLog2 != 0)).map (·.1)
  let bound (p : Binding → Bool) : List Nat := (d.reed.bindings.filter (fun e => e.2.any p)).map (·.1)
  match id with
  | 0x01 => List.range 4
  | 0x02 | 0x06 => List.range 16
  | 0x03 | 0x04 | 0x05 => lanes
  | 0x07 | 0x08 => List.range 8
  | 0x09 | 0x27 => [0]
  | 0x10 | 0x11 => opened
  | 0x12 => bound lossyBinding
  | 0x23 => bound (fun b => !lossyBinding b)
  | 0x20 => (d.host.sqs.filter (fun e => e.2.live)).map (·.1)
  | 0x21 => (List.range 18).map (· + 1)
  | 0x22 => (List.range 64).filter (fun c => cfgN d 0x0A c 1 == 1)
  | 0x24 => (List.range 8).filter (fun p => cfgN d 0x0B (0x10 + p) 1 != 0)
  | 0x25 => List.range 12
  | 0x26 => List.range 4
  | _ => []

def stallIds : List Nat :=
  [0x01, 0x02, 0x03, 0x04, 0x05, 0x06, 0x07, 0x08, 0x09, 0x10, 0x11, 0x12, 0x20, 0x21, 0x22, 0x23, 0x24, 0x25, 0x26, 0x27]

/-- Every existing instance of every stall, by ID × 2^16 + instance. -/
def allStalls (d : Device) : List (Nat × Nat) := stallIds.flatMap (fun id => (stallInstances d id).map (fun i => (id, i)))

/-- The high-water marks behind a command. -/
def noteMarks (d : Device) : Device :=
  { d with marks := (allStalls d).foldl (fun t s =>
      let n := stallOccupancy d s.1 s.2
      if tget 0 t (markKey s) < n then tset 0 t (markKey s) n else t) d.marks }

/-- The high-water mark of one instance, where a unit that has just entered it leaves it within the same command. -/
def noteStall (id i : Nat) (d : Device) : Device := noteMark id i (stallOccupancy d id i) d

/-- The stall section of R537: ID, instance, occupancy and mark. -/
def stallSection (d : Device) : List Byte :=
  (allStalls d).flatMap (fun s =>
    let n := stallOccupancy d s.1 s.2
    leBytes 1 s.1 ++ zeroBytes 1 ++ leBytes 2 s.2 ++ leBytes 6 n ++ leBytes 6 (max n (tget 0 d.marks (markKey s))))

end Sys2Proof.Machine
end

