-- ==== Sys2Proof/Machine/State.lean ====
section
/-! DEFINITION. The whole state of the block: the device and the queue of commands that wait; the reasons a step can stop;
the state right after reset. -/

namespace Sys2Proof.Machine

/-- The device and the commands that wait, first in, first out. -/
structure State where
  dev : Device := {}
  /-- commands that wait, the front first; the model's own input queue; reset empty -/
  pending : List Instr := []
  deriving DecidableEq, Repr

/-- No command stops the block with a fault: the faults that the spec names are messages to the fault collector (R568). -/
inductive Fault where
  deriving DecidableEq, Repr

inductive Refusal where
  /-- Raised by an arm of `exec` that has no meaning yet. Safe: nothing can be proved of the command. -/
  | notModelled (mnemonic : String)
  /-- Raised by TAP_INSTRUCTION for a Mehrik debug instruction that jtag_mode 2 permits: R564 names them and gives no effect.
  Safe: the model stops where the device goes on. -/
  | mehrikDebug
  deriving DecidableEq, Repr

/-- Right after reset: POR# asserted, every field at its reset value, no command waiting (R12, R50, R532). -/
def State.reset : State := {}

end Sys2Proof.Machine
end

