-- ==== Sys2Proof/Machine/Operands.lean ====
section
/-! DEFINITION. Operand forms: how a meaning acts on the state, and how the lists, addresses and indices that a command names
are read (R45, R80, R432, R435). -/

namespace Sys2Proof.Machine

/-- What a command does, as a step outcome: the device changes, the high-water marks of the stalls follow (R23), the queue stays. -/
def act (f : Device → Device) (s : State) : Host.Outcome State Fault Refusal := .next { s with dev := noteMarks (f s.dev) }

end Sys2Proof.Machine
end

