-- ==== Sys2Proof/Machine/Records.lean ====
section
/-! DEFINITION. Forming stream records and placing them into stall 0x10 of every stream that subscribes to their source
(R18, R275-R280, R285, R298, R304). -/

namespace Sys2Proof.Machine

/-- A configuration as a function from key to value. -/
abbrev Values := Nat → Int

def vN (c : Values) (block inst code : Nat) : Nat := (c (cfgKey block inst code)).toNat

def stream (d : Device) (n : Nat) : Stream := tget {} d.strm.streams n

def setStream (n : Nat) (v : Stream) (d : Device) : Device :=
  { d with strm := { d.strm with streams := tset {} d.strm.streams n v } }

/-- Streams that are open, ascending. -/
def openStreams (d : Device) : List Nat :=
  (d.strm.streams.filter (fun e => e.2.ringLog2 != 0)).map (·.1)

def streamEnabled (d : Device) (n : Nat) : Bool := cfgOn d 0x09 n 1

/-- Source code and type mask of subscription field `j` of a stream; mask 0 where it is unused (R287). -/
def subscriptionAt (c : Values) (n j : Nat) : Nat × Nat :=
  let v := vN c 0x09 n (0x0100 + j)
  (v % 65536, v / 65536)

/-- The used subscriptions of a stream: source code and type mask (R287). Streams 254 and 255 carry the fault notices and the
telemetry of the device (10_stream_records.md, Streams and subscriptions). -/
def subscriptions (c : Values) (n : Nat) : List (Nat × Nat) :=
  if n == 254 then [(0xA000, 2 ^ 0x0C)]
  else if n == 255 then [(0x9000, 2 ^ 0x0A)]
  else ((List.range 32).map (subscriptionAt c n)).filter (fun s => s.2 != 0)

def subscribesType (c : Values) (n source type : Nat) : Bool :=
  (subscriptions c n).any (fun s => s.1 == source && bit s.2 type)

def subscribesSource (c : Values) (n source : Nat) : Bool := (subscriptions c n).any (fun s => s.1 == source)

/-- Source codes of R279. -/
def laneSource (ch l : Nat) : Nat := 0x1000 + ch * 8 + l
def slotSource (ch n : Nat) : Nat := 0x2000 + ch * 4 + n
def mapSource (m : Nat) : Nat := 0x3000 + m
def markSource : Nat := 0x4000
def windowSource (w : Nat) : Nat := 0x5000 + w
def intervalSource : Nat := 0x6000
def generatorSource (g : Nat) : Nat := 0x7000 + g
def bindingSource (b : Nat) : Nat := 0x8000 + b
def telemetrySource : Nat := 0x9000
def faultSource : Nat := 0xA000

/-- Record length in 64-byte units: header, payload, padding, trailer (R275, R277). -/
def recUnits (r : Rec) : Nat := ceilDiv (40 + r.payload.length) 64

/-- Longest record in units that a subscription can produce (R298): TRACE, BINS and DENSITY_FRAME may exceed 1,024 lines. -/
def longestOf (c : Values) (s : Nat × Nat) : Nat :=
  let inst := s.1 % 4096
  if s.1 / 4096 == 2 then
    let size := if vN c 0x04 inst 0x0E == 1 then 4 else 2
    let n := 2 ^ vN c 0x04 inst 0x03
    let span := vN c 0x04 inst 0x0A
    let trace := if bit s.2 2 then ceilDiv (88 + 2 ^ vN c 0x04 inst 0x08 * size) 64 else 0
    let bins := if bit s.2 3 then ceilDiv (88 + (if span == 0 then n else span) * size) 64 else 0
    max trace bins
  else if s.1 / 4096 == 3 then
    ceilDiv (104 + 2 ^ vN c 0x07 inst 0x03 * 2 ^ vN c 0x07 inst 0x04 * (if vN c 0x07 inst 0x0F == 1 then 2 else 4)) 64
  else 0

def longestRecord (c : Values) (n : Nat) : Nat := ((subscriptions c n).map (longestOf c)).foldl max 0

/-- Values after a list of changes, the later entry of a key counts (R56). -/
def withChanges (c : Values) (l : List (Nat × Int)) : Values :=
  l.foldl (fun c e => fun k => if k == e.1 then e.2 else c k) c

/-- Pending commits in the order in which they take effect: by epoch, then by acceptance (R60). -/
def commitsInOrder (d : Device) : List Commit := sortBy (·.epoch) d.cfg.pendingCommits

/-- The active values with every part received and not swapped in, and the first `k` pending commits in the order in which they take
effect. -/
def valuesAfter (d : Device) (k : Nat) : Values :=
  let c := d.cfg.parts.foldl (fun c p => withChanges c p.changes) (cfgVal d)
  ((commitsInOrder d).take k).foldl (fun c m => withChanges c m.content) c

/-- The active context and every pending one (R44, R286): after each part received and after each pending commit, in the order of the
epochs. -/
def contexts (d : Device) : List Values :=
  let received (k : Nat) : Values := (d.cfg.parts.take k).foldl (fun c p => withChanges c p.changes) (cfgVal d)
  let pending (k : Nat) : Values := ((commitsInOrder d).take k).foldl (fun c m => withChanges c m.content) (received d.cfg.parts.length)
  cfgVal d :: ((List.range d.cfg.parts.length).map (fun k => received (k + 1))
    ++ (List.range d.cfg.pendingCommits.length).map (fun k => pending (k + 1)))

/-- Newest committed value of a field (R47): the commit that takes effect last, by epoch and then by acceptance, names it. -/
def newestCommitted (d : Device) (key : Nat) : Int :=
  let cs := d.cfg.pendingCommits.filterMap (fun m =>
    match (m.content.reverse.find? (fun e => e.1 == key)) with
    | some e => some (m.epoch, e.2)
    | none => none)
  match cs with
  | [] => valuesAfter d 0 key
  | c :: rest => (rest.foldl (fun b x => if b.1 ≤ x.1 then x else b) c).2

/-- Staged value of a field (R47). -/
def stagedVal (d : Device) (key : Nat) : Int :=
  match tget none d.cfg.dirty key with
  | some v => v
  | none => newestCommitted d key

/-- Write a staged value and mark the field dirty (R47). -/
def stage (key : Nat) (v : Int) (d : Device) : Device :=
  { d with cfg := { d.cfg with dirty := tset none d.cfg.dirty key (some v) } }

/-- Depth of a stream's instance of stall 0x10 in lines, over the active and every pending context (R19, R298). -/
def stallDepth (d : Device) (n : Nat) : Nat :=
  let cs := (List.range (d.cfg.pendingCommits.length + 1)).map (fun k => longestRecord (valuesAfter d k) n)
  max 1024 (cs.foldl max (longestRecord (cfgVal d) n))

def addDrop (x : Drops) (first source : Nat) : Drops :=
  if x.count == 0 then { count := 1, first := first, last := first, source := some source }
  else { count := x.count + 1, first := min x.first first, last := max x.last first,
         source := if x.source == some source then x.source else none }

def stallLines (s : Stream) : Nat := (s.stall.map recUnits).foldl (· + ·) 0

/-- GAP payload (R285). -/
def gapPayload (cause lost span last : Nat) : List Byte :=
  leBytes 1 cause ++ zeroBytes 3 ++ leBytes 4 lost ++ leBytes 8 span ++ leBytes 8 last

/-- Header flags at the instant a record is formed (R276). -/
def headerFlags (d : Device) (channels : List Nat) : Nat :=
  boolN d.clk.phaseUnverified +
    2 * boolN (channels.any (fun ch => (tget ({} : Converter) d.conv.channels ch).degraded))

/-- A GAP record (R285): last_index is first + span - 1 where a span is lost, first otherwise. -/
def gapRec (d : Device) (source cause first span lost : Nat) (gen : BitVec 32) (channels : List Nat) : Rec :=
  { type := 0x09, source := source, flags := headerFlags d channels, firstIndex := first, generation := gen,
    payload := gapPayload cause lost span (if span == 0 then first else first + span - 1) }

/-- The GAP record for records dropped: causes 0x07, 0x08 and 0x0A (R285). -/
def dropsRec (d : Device) (cause : Nat) (x : Drops) : Rec :=
  { type := 0x09, source := x.source.getD 0, flags := headerFlags d [], firstIndex := x.first, generation := d.cfg.generation,
    payload := gapPayload cause x.count 0 x.last }

/-- Bytes that streams 254 and 255 have taken in the current second (R38). -/
def noticeSpent (d : Device) : Nat := if d.strm.notices.2 == d.time / 1000000000 then d.strm.notices.1 else 0

/-- Streams 254 and 255 keep within 0.1 GB/s together (R38). -/
def noticeRoom (d : Device) (n lines : Nat) : Bool := decide (n < 254) || decide (noticeSpent d + 64 * lines ≤ 100000000)

def noteNotice (n lines : Nat) (d : Device) : Device :=
  if n < 254 then d
  else { d with strm := { d.strm with notices := (noticeSpent d + 64 * lines, d.time / 1000000000) } }

/-- A record enters stall 0x10 of one stream: preceded by the GAP of cause 0x07 for earlier drops, or dropped and counted where
its lines do not fit (R298) or the share of streams 254 and 255 is spent (R38). -/
def pushStall (n : Nat) (r : Rec) (d : Device) : Device :=
  let s := stream d n
  let pre := if s.stallDrops.count == 0 then [] else [dropsRec d 0x07 s.stallDrops]
  let need := recUnits r + pre.length
  if stallLines s + need ≤ stallDepth d n ∧ noticeRoom d n need then
    noteNotice n need (setStream n { s with stall := s.stall ++ pre ++ [r], stallDrops := {} } d)
  else setStream n { s with stallDrops := addDrop s.stallDrops r.firstIndex r.source } d

/-- Token block that feeds a source: lane, slot, map, sequencer (R279). -/
def sourceBlock (s : Nat) : Option Nat :=
  match s / 4096 with
  | 1 => some (0x0300 + s % 4096)
  | 2 => some (0x0400 + s % 4096)
  | 3 => some (0x0700 + s % 4096)
  | 4 => some 0x0500
  | 5 => some 0x0500
  | _ => none

/-- Stream settings that a record of a source follows (R304): behind a token of its source, those of that token. -/
def streamVals (d : Device) (n source : Nat) : Values :=
  match sourceBlock source with
  | none => cfgVal d
  | some b =>
    (d.cfg.parts.filter (fun p => p.block == 0x0900 + n && decide (p.epoch ≤ tget 0 d.cfg.adopted b))).foldl
      (fun c p => withChanges c p.changes) (cfgVal d)

def streamTakes (d : Device) (n source : Nat) (types : Nat → Bool) : Bool :=
  let c := streamVals d n source
  vN c 9 n 1 == 1 && (subscriptions c n).any (fun s => s.1 == source && types s.2)

/-- A record reaches every open, enabled stream that subscribes to its source and type. -/
def emitRec (r : Rec) (d : Device) : Device :=
  (openStreams d).foldl (fun d n => if streamTakes d n r.source (fun m => bit m r.type) then pushStall n r d else d) d

/-- Sources that meet a test among those a stream takes records of. -/
def takenSources (d : Device) (n : Nat) (p : Nat → Bool) : List Nat :=
  (((subscriptions (cfgVal d) n ++ subscriptions (valuesAfter d 0) n).map (·.1)).filter (fun s =>
    p s && streamTakes d n s (fun _ => true))).eraseDups

/-- Open, enabled streams with a subscription to a source that meets a test. -/
def streamsWith (d : Device) (p : Nat → Bool) : List Nat := (openStreams d).filter (fun n => !(takenSources d n p).isEmpty)

/-- Header source of a GAP record (R285): the one source of the stream whose data was lost, or 0 for several. -/
def gapSource : List Nat → Nat
  | [s] => s
  | _ => 0

/-- A GAP record into each of the listed streams. -/
def emitGap (r : Rec) (ns : List Nat) (d : Device) : Device := ns.foldl (fun d n => pushStall n r d) d

/-- Sources of class 0x1 to 0x3 (R285 causes 0x02, 0x0C, 0x0E). -/
def realTimeSource (s : Nat) : Bool := decide (1 ≤ s / 4096) && decide (s / 4096 ≤ 3)

/-- Sources fed from one channel: its lanes, slots and maps (R21). -/
def channelSource (ch s : Nat) : Bool :=
  let c := s / 4096
  let i := s % 4096
  (c == 1 && i / 8 == ch) || (c == 2 && i / 4 == ch) || (c == 3 && i / 2 == ch)

/-- Sources fed from one lane: the lane, the slots bound to it and the maps of those slots. -/
def laneFedSource (d : Device) (ch l s : Nat) : Bool :=
  let c := s / 4096
  let i := s % 4096
  (c == 1 && i == ch * 8 + l) || (c == 2 && i / 4 == ch && cfgN d 0x04 i 2 == l)
    || (c == 3 && i / 2 == ch && cfgN d 0x04 (ch * 4 + cfgN d 0x07 i 2) 2 == l)

/-- A GAP record into every stream that subscribes to a source fed from the path that lost data. -/
def gapFor (cause first span : Nat) (gen : BitVec 32) (channels : List Nat) (p : Nat → Bool) (d : Device) : Device :=
  (openStreams d).foldl (fun e n => match takenSources d n p with
    | [] => e
    | ss => pushStall n (gapRec d (gapSource ss) cause first span 0 gen channels) e) d

end Sys2Proof.Machine
end

