-- ==== Sys2Proof/Machine/Clocks.lean ====
section
/-! DEFINITION. Chanter: CLK_SET, CLK_STATUS, LO_RAMP_LOAD and the clock events (03_clocks.md). LOCK_DETECT stands in
Machine/Relock.lean, because the end of an SCLK relock acts on other blocks. -/

namespace Sys2Proof.Machine

def synth (d : Device) : Synth → Synthesiser
  | .sclk => d.clk.sclk
  | .lo => d.clk.lo

def setSynth (y : Synth) (v : Synthesiser) (d : Device) : Device :=
  match y with
  | .sclk => { d with clk := { d.clk with sclk := v } }
  | .lo => { d with clk := { d.clk with lo := v } }

/-- Event and fault source of a synthesiser (R89). -/
def synthSource : Synth → Nat
  | .sclk => 0x040
  | .lo => 0x041

def synthInst : Synth → Nat
  | .sclk => 0
  | .lo => 1

/-- Divider values of the active context and the declared reference (R67, R69). -/
def activeDividers (d : Device) : Synth → Dividers
  | .sclk => { refDiv := cfgN d 1 0 1, intDiv := cfgN d 1 0 2, frac := 0, outDiv := 0, refinHz := cfgN d 1 2 1 }
  | .lo => { refDiv := cfgN d 1 1 1, intDiv := cfgN d 1 1 2, frac := cfgN d 1 1 3, outDiv := cfgN d 1 1 4,
             refinHz := cfgN d 1 2 1 }

def relocking (y : Synthesiser) : Bool :=
  y.relock == .waitRef || y.relock == .search || y.relock == .closing

/-- The sample index stands still (R75, R86): its hold begins. -/
def holdIndex (d : Device) : Device :=
  match d.strm.pauseFrom with
  | some _ => d
  | none => { d with strm := { d.strm with pauseFrom := some d.time } }

/-- The hold of the sample index ends: pause_ns grows and every stream notes PAUSED for its next EPOCH record (R284). -/
def resumeIndex (d : Device) : Device :=
  match d.strm.pauseFrom with
  | none => d
  | some t =>
    { d with strm := { d.strm with
        pauseFrom := none, pauseNs := d.strm.pauseNs + (d.time - t),
        streams := d.strm.streams.map (fun e => (e.1, { e.2 with paused := true })) } }

/-- Stop a running ramp (R82). -/
def stopRamp (d : Device) : Device :=
  let was := d.clk.ramp.active
  let d := { d with clk := { d.clk with ramp := {} } }
  if was then raiseEvent 0x043 2 (ballIndex d) 0 d else d

/-- Step 1 of a relock (R72, R73, R76, R82, R88): the output is muted or gated, the dividers are loaded, and the search
begins where REFIN is qualified. -/
def startRelock (y : Synth) (again : Bool) (d : Device) : Device :=
  let v := synth d y
  let dv := activeDividers d y
  let d := { d with clk := { d.clk with
      relockCount := d.clk.relockCount + 1,
      phaseUnverified := d.clk.phaseUnverified || dv.refDiv != v.alignedRef } }
  let d := setSynth y { v with
      locked := false, gated := true, repeated := again, alignedRef := dv.refDiv,
      relock := if d.clk.refPresent then .search else .waitRef } d
  let d := match y with
    | .sclk => holdIndex d
    | .lo => stopRamp d
  { d with clk := { d.clk with slewing := d.clk.slewing && !(relocking d.clk.sclk && relocking d.clk.lo) } }

/-- LO_MUTED: the LO_OUT output stage is off (R71, R73, R81, R82, R85, R87, R501). -/
def loMuted (d : Device) : Bool :=
  d.clk.lo.gated || d.clk.loHeld || !cfgOn d 1 1 5 || d.clk.ramp.crossing || d.power.state == .safe || d.power.state == .sleep
    || d.power.cpHalted || pairMutes d

/-! ### Ramp generator (R80, R81) -/

def rampProfile (d : Device) : List RampSegment := tget [] d.clk.rampStores (cfgN d 1 1 0x11)

def committedWord (d : Device) : Int := cfgInt d 1 1 2 * 4294967296 + cfgInt d 1 1 3

/-- Enter segment `k` of the profile: RESTART and WAIT_TRIG act before its first step. With ramp_start 0 no edge exists and
WAIT_TRIG does not wait; with another ramp_start a first segment with WAIT_TRIG waits for an edge of its own after the one that
starts the ramp (DESIGN CHOICE). -/
def enterSegment (k : Nat) (d : Device) : Device :=
  match (rampProfile d)[k]? with
  | none => d
  | some g =>
    let r := d.clk.ramp
    { d with clk := { d.clk with ramp := { r with
        segment := k, step := 0,
        word := if g.restart then committedWord d else r.word,
        waiting := g.waitTrig && cfgN d 1 1 0x12 != 0 } } }

/-- The ramp starts from the committed word at segment 0 (R81), and the event is raised. With a store that holds no profile nothing
starts (DESIGN CHOICE). -/
def startRamp (d : Device) : Device :=
  if (rampProfile d).isEmpty then d
  else
    let d := { d with clk := { d.clk with ramp := { d.clk.ramp with
      active := true, waiting := false, word := committedWord d, crossing := false } } }
    raiseEvent 0x043 1 (ballIndex d) 0 (enterSegment 0 d)

/-- A commit has set ramp_enable to 1: the ramp starts, or waits for its TRIG_IN edge (R81). -/
def armRamp (d : Device) : Device :=
  if cfgN d 1 1 0x12 == 0 then startRamp d
  else { d with clk := { d.clk with ramp := { ({} : Ramp) with waiting := true } } }

/-- The rising edge of TRIG_IN `n` releases a waiting ramp (R81). -/
def rampTrigger (n : Nat) (d : Device) : Device :=
  if cfgN d 1 1 0x10 == 1 && cfgN d 1 1 0x12 == n + 1 && d.clk.ramp.waiting then
    if d.clk.ramp.active then { d with clk := { d.clk with ramp := { d.clk.ramp with waiting := false } } }
    else startRamp d
  else d

/-- One step: delta is added to the feedback word; after the last step of a segment the next one is entered, after the last
segment the ramp restarts at segment 0 from the frequency reached or stops and holds it (R81). In a profile without LAST the end of
the loaded list is the last segment (DESIGN CHOICE). -/
def rampStep (crossing : Option (Nat × Nat)) (d : Device) : Device :=
  let r := d.clk.ramp
  let prof := rampProfile d
  match prof[r.segment]? with
  | none => d
  | some g =>
    if !r.active || r.waiting then d
    else
      let d := { d with clk := { d.clk with ramp := { r with word := r.word + g.delta, step := r.step + 1 } } }
      let d := match crossing with
        | none => d
        | some (core, band) =>
          raiseEvent 0x041 3 (ballIndex d) 0 { d with clk := { d.clk with
            ramp := { d.clk.ramp with crossing := true },
            lo := { d.clk.lo with core := core % 4, band := band % 64 } } }
      if r.step + 1 < g.count then d
      else if !g.last && decide (r.segment + 1 < prof.length) then enterSegment (r.segment + 1) d
      else if cfgOn d 1 1 0x13 then enterSegment 0 d
      else raiseEvent 0x043 2 (ballIndex d) 0
        { d with clk := { d.clk with ramp := { d.clk.ramp with active := false } } }

/-! ### Commands -/

/-- The SCLK divider set: the smallest ref_div for which the target is an exact multiple within R68 (R70). -/
def sclkDividers (refin target : Nat) : Option (Nat × Nat) :=
  ((List.range 40).map (· + 1)).findSome? (fun r =>
    let fb := target * r / (refin * 1000)
    if refin * 1000 * fb == target * r && decide (160 ≤ fb) && decide (fb ≤ 4095)
        && decide (5000000 * r ≤ refin) && decide (refin ≤ 100000000 * r)
        && decide (16000000000000 ≤ target) && decide (target ≤ 20480000000000)
    then some (r, fb) else none)

/-- The LO divider set for a target in mHz and a ref_div: out_div, then the feedback word rounded to nearest even (R70). -/
def loDividers (refin refDiv target : Nat) : Option (Nat × Nat) :=
  if target < 2000000000000 ∨ target > 20000000000000 ∨ refin < 10000000 * refDiv ∨ refin > 250000000 * refDiv then none
  else
    match (List.range 4).find? (fun o => decide (10000000000000 ≤ target * 2 ^ o) && decide (target * 2 ^ o ≤ 20000000000000)) with
    | none => none
    | some o =>
      let word := (roundHalfEven ((target * 2 ^ o * refDiv * 4294967296 : Nat) : Int) (refin * 1000)).toNat
      let i := word / 4294967296
      if 40 ≤ i ∧ i ≤ 1000 then some (o, word) else none

/-- Achieved less requested frequency of the LO in mHz, exact and rounded to nearest even (R70). -/
def loError (refin refDiv outDiv word target : Nat) : Int :=
  let den := 4294967296 * refDiv * 2 ^ outDiv
  roundHalfEven (((refin * 1000 * word : Nat) : Int) - ((target * den : Nat) : Int)) den

def clkSet (p : Packet) (d : Device) : Device :=
  let refin := (stagedVal d (cfgKey 1 2 1)).toNat
  let target := p64 p 8
  if !reservedZero p [(0, 1), (8, 8)] || decide (1 < pByte p 0) then complete p .badParam [] d
  else if pByte p 0 == 0 then
    match sclkDividers refin target with
    | none => complete p .badParam [] d
    | some (r, fb) =>
      complete p .ok (leInt 8 0 ++ leBytes 1 r ++ leBytes 1 0 ++ leBytes 2 fb ++ leBytes 4 0)
        (stage (cfgKey 1 0 2) fb (stage (cfgKey 1 0 1) r d))
  else
    let r := (stagedVal d (cfgKey 1 1 1)).toNat
    match loDividers refin r target with
    | none => complete p .badParam [] d
    | some (o, word) =>
      complete p .ok (leInt 8 (loError refin r o word target) ++ leBytes 1 r ++ leBytes 1 o
          ++ leBytes 2 (word / 4294967296) ++ leBytes 4 (word % 4294967296))
        (stage (cfgKey 1 1 4) o (stage (cfgKey 1 1 3) ((word % 4294967296 : Nat) : Int)
          (stage (cfgKey 1 1 2) ((word / 4294967296 : Nat) : Int) d)))

/-- The clock status word (R71). -/
def clockStatus (d : Device) : Nat :=
  let c := d.clk
  boolN c.sclk.locked + 2 * boolN c.lo.locked + 4 * boolN c.refPresent + 8 * boolN c.holdover + 16 * boolN c.slewing
    + 32 * boolN c.phaseUnverified + 64 * boolN c.ramp.active + 128 * boolN (loMuted d) + 256 * boolN c.sclk.unlock
    + 512 * boolN c.lo.unlock + 1024 * boolN c.refLost + 2048 * boolN c.droneFallback + 4096 * boolN c.lockFail
    + 8192 * boolN c.syncIgnored + c.sclk.core * 2 ^ 16 + c.sclk.band * 2 ^ 18 + c.lo.core * 2 ^ 24 + c.lo.band * 2 ^ 26
    + c.relockCount.toNat * 2 ^ 32

/-- Every W1C bit whose mask bit is 1 is cleared (R71). -/
def clearClockBits (m : Nat) (d : Device) : Device :=
  let c := d.clk
  { d with clk := { c with
      sclk := { c.sclk with unlock := c.sclk.unlock && !bit m 8 },
      lo := { c.lo with unlock := c.lo.unlock && !bit m 9 },
      refLost := c.refLost && !bit m 10, droneFallback := c.droneFallback && !bit m 11,
      lockFail := c.lockFail && !bit m 12, syncIgnored := c.syncIgnored && !bit m 13 } }

def clkStatus (p : Packet) (d : Device) : Device :=
  if !reservedZero p [(0, 8)] then complete p .badParam [] d
  else complete p .ok (leBytes 8 (clockStatus d)) (clearClockBits (p64 p 0) d)

/-- One ramp segment of 16 bytes; none where a field is out of range or a reserved bit set (R80). -/
def readSegment (bs : List Byte) : Option RampSegment :=
  let fl := getLe bs 11 1
  if getLe bs 6 2 == 0 || getLe bs 8 3 == 0 || decide (7 < fl) || getLe bs 12 4 != 0 then none
  else some { delta := signed 48 (getLe bs 0 6), interval := getLe bs 6 2, count := getLe bs 8 3,
              last := bit fl 0, waitTrig := bit fl 1, restart := bit fl 2 }

/-- `n` entries of `size` bytes from address `a`. -/
def readEntries (d : Device) (a size n : Nat) : List (List Byte) :=
  (List.range n).map (fun i => memRead d (a + size * i) size)

/-- All entries decoded, none where one fails. -/
def decodeAll (f : List Byte → Option α) : List (List Byte) → Option (List α)
  | [] => some []
  | b :: bs => match f b, decodeAll f bs with
    | some x, some xs => some (x :: xs)
    | _, _ => none

/-- The ramp store is in use by some context (R44). -/
def rampStoreBusy (d : Device) (s : Nat) : Bool :=
  (contexts d).any (fun c => vN c 1 1 0x10 == 1 && vN c 1 1 0x11 == s)

def loRampLoad (p : Packet) (d : Device) : Device :=
  let n := p16 p 2
  let a := p64 p 8
  if !reservedZero p [(0, 1), (2, 2), (8, 8)] || decide (3 < pByte p 0) || n == 0 || decide (1024 < n)
      || !reachable d .cp false a (16 * n) then complete p .badParam [] d
  else match decodeAll readSegment (readEntries d a 16 n) with
    | none => complete p .badParam [] d
    | some g =>
      if rampStoreBusy d (pByte p 0) then complete p .busy [] d
      else complete p .ok [] { d with clk := { d.clk with rampStores := tset [] d.clk.rampStores (pByte p 0) g } }

/-! ### Events -/

/-- Modulo 2^32, the fraction times the LO PFD periods since the last SYNC: the preload of the LO modulator (R76). -/
def preload (d : Device) : BitVec 32 := BitVec.ofNat 32 ((activeDividers d .lo).frac * d.clk.loPeriods)

/-- R72 steps 2 and 3: the search ends and the loop closes, `periods` LO PFD periods after the last count of them. For the LO the
modulator accumulator is preloaded. -/
def bandSearchDone (y : Synth) (core band periods : Nat) (d : Device) : Device :=
  let v := synth d y
  let d := { d with clk := { d.clk with loPeriods := d.clk.loPeriods + periods } }
  if v.relock == .search && d.clk.refPresent then
    let d := setSynth y { v with relock := .closing, core := core % 4, band := band % 64 } d
    match y with
    | .sclk => d
    | .lo => { d with clk := { d.clk with loAccumulator := preload d } }
  else d

/-- R74: LOCK_FAIL, the fault, and one repeat from step 1. -/
def relockTimeout (y : Synth) (d : Device) : Device :=
  let v := synth d y
  if (v.relock == .search || v.relock == .closing) && d.clk.refPresent then
    let d := raiseFault (plainFault (synthSource y) 1 1 0) { d with clk := { d.clk with lockFail := true } }
    if v.repeated then setSynth y { synth d y with relock := .failed } d
    else startRelock y true d
  else d

/-- R78: loss of lock with REFIN present. -/
def lossOfLock (y : Synth) (d : Device) : Device :=
  let v := synth d y
  if v.locked && d.clk.refPresent then
    raiseEvent (synthSource y) 2 (ballIndex d) 0
      (setSynth y { v with locked := false, unlock := true } { d with clk := { d.clk with phaseUnverified := true } })
  else d

/-- A measured frequency lies within 1,000 ppm of the declared one (R77, R620). -/
def refinAgrees (d : Device) (hz : Nat) : Bool :=
  let f := cfgN d 1 2 1
  decide (hz * 1000 ≤ f * 1001) && decide (f * 999 ≤ hz * 1000)

/-- R77, R78, R88: no edge has come within 1 µs, or the measured frequency `hz` lies off the declared one. Both synthesisers coast; a
running relock suspends. -/
def referenceLost (hz : Option Nat) (d : Device) : Device :=
  if !d.clk.refPresent || hz.any (refinAgrees d) then d
  else
    let coast (v : Synthesiser) : Synthesiser :=
      { v with locked := false, relock := if relocking v then .waitRef else v.relock }
    raiseEvent 0x042 1 (ballIndex d) 0 { d with clk := { d.clk with
      refPresent := false, refLost := true, holdover := true, slewing := false, phaseUnverified := true,
      sclk := coast d.clk.sclk, lo := coast d.clk.lo } }

/-- A synthesiser that has never locked, or whose relock waits for REFIN, starts from step 1 (R85, R88). -/
def wantsLock (d : Device) (v : Synthesiser) : Bool := v.relock == .waitRef || (d.clk.started && v.relock == .idle && v.gated)

/-- R77, R79, R85, R88: REFIN is qualified, at the measured frequency `hz`. -/
def referenceQualified (hz : Nat) (d : Device) : Device :=
  if d.clk.refPresent || !refinAgrees d hz then d
  else
    let coasting := d.clk.holdover && (!d.clk.sclk.gated || !d.clk.lo.gated)
    let d := { d with clk := { d.clk with refPresent := true, holdover := false, slewing := coasting } }
    let d := raiseEvent 0x042 2 (ballIndex d) 0 d
    let d := if wantsLock d d.clk.sclk then startRelock .sclk d.clk.sclk.repeated d else d
    if wantsLock d d.clk.lo then startRelock .lo d.clk.lo.repeated d else d

/-- R79: the slewed phase error is inside the lock window. -/
def slewComplete (d : Device) : Device :=
  if !d.clk.slewing then d
  else
    let lock (v : Synthesiser) : Synthesiser := { v with locked := v.locked || (!v.gated && !relocking v) }
    raiseEvent 0x042 3 (ballIndex d) 0 { d with clk := { d.clk with
      slewing := false, loHeld := d.clk.loHeld && d.clk.lo.gated, sclk := lock d.clk.sclk, lo := lock d.clk.lo } }

/-- R83. -/
def droneFallback (d : Device) : Device :=
  if d.clk.onRc || cfgOn d 1 2 4 then d
  else raiseEvent 0x045 1 0 0 { d with clk := { d.clk with onRc := true, droneFallback := true } }

def execClkSet (p : Packet) (s : State) : Host.Outcome State Fault Refusal := act (accept p clkSet) s
def execClkStatus (p : Packet) (s : State) : Host.Outcome State Fault Refusal := act (accept p clkStatus) s
def execLoRampLoad (p : Packet) (s : State) : Host.Outcome State Fault Refusal := act (accept p loRampLoad) s
def execBandSearchDone (syn : Synth) (found : FoundBand) (periods : Nat) (s : State) : Host.Outcome State Fault Refusal :=
  act (bandSearchDone syn found.vco found.band periods) s
def execRelockTimeout (syn : Synth) (s : State) : Host.Outcome State Fault Refusal := act (relockTimeout syn) s
def execLossOfLock (syn : Synth) (s : State) : Host.Outcome State Fault Refusal := act (lossOfLock syn) s
def execReferenceLost (s : State) (hz : Option Nat := none) : Host.Outcome State Fault Refusal := act (referenceLost hz) s
def execReferenceQualified (s : State) (hz : Nat := 100000000) : Host.Outcome State Fault Refusal := act (referenceQualified hz) s
def execSlewComplete (s : State) : Host.Outcome State Fault Refusal := act slewComplete s
def execRampStep (crossing : Option (Nat × Nat)) (s : State) : Host.Outcome State Fault Refusal := act (rampStep crossing) s
/-- R81: the VCO band change completes and LO_OUT resumes at the current profile point. -/
def execBandCrossingMuteEnd (s : State) : Host.Outcome State Fault Refusal :=
  act (fun d => { d with clk := { d.clk with ramp := { d.clk.ramp with crossing := false } } }) s
def execDroneFallback (s : State) : Host.Outcome State Fault Refusal := act droneFallback s
/-- R84. -/
def execSystemClockFailure (s : State) : Host.Outcome State Fault Refusal :=
  act (fun d => raiseFault (plainFault 0x044 1 2 0) { d with clk := { d.clk with sysPll := false } }) s

/-! ### Check 1 of R51 for the clock block (R68, R620) -/

/-- Reference that R68 uses for a synthesiser: the new value where the commit relocks it, else the one in force (R620). -/
def checkRefin (d : Device) (c : Values) (writes : Nat → Bool) (y : Synth) : Nat :=
  let keys := match y with
    | .sclk => [cfgKey 1 0 1, cfgKey 1 0 2]
    | .lo => [cfgKey 1 1 1, cfgKey 1 1 2, cfgKey 1 1 3, cfgKey 1 1 4]
  if keys.any writes then vN c 1 2 1 else (synth d y).inForce.refinHz

/-- A feedback word lies within the LO limits (R68): VCO 10 to 20 GHz, output 2 to 20 GHz. -/
def loWordOk (refin refDiv outDiv : Nat) (word : Int) : Bool :=
  let f := (refin : Int) * word
  let one := ((4294967296 * refDiv : Nat) : Int)
  decide (10000000000 * one ≤ f) && decide (f ≤ 20000000000 * one)
    && decide (2000000000 * (2 ^ outDiv : Nat) * one ≤ f) && decide (f ≤ 20000000000 * (2 ^ outDiv : Nat) * one)

/-- The words reached at the ends of the segments; within a segment the word moves linearly, so its ends bound it. -/
def rampEnds (start word : Int) : List RampSegment → List Int
  | [] => []
  | g :: gs =>
    let w0 := if g.restart then start else word
    let w1 := w0 + g.delta * g.count
    w0 :: w1 :: (if g.last then [] else rampEnds start w1 gs)

/-- The segments that a ramp runs: up to the first with LAST (R81). -/
def rampRun : List RampSegment → List RampSegment
  | [] => []
  | g :: gs => if g.last then [g] else g :: rampRun gs

/-- Every point of a ramp that starts at `start` lies within the limits (R68). A repeated ramp starts each pass from the frequency
reached (R81): with a RESTART every pass ends where the first does, without one the frequency may not drift. -/
def rampOk (ok : Int → Bool) (start : Int) (again : Bool) (gs : List RampSegment) : Bool :=
  let run := rampRun gs
  let one := rampEnds start start run
  let reached := one.getLastD start
  one.all ok && (!again || (if run.any (·.restart) then (rampEnds start reached run).all ok else reached == start))

/-- First key of the clock block whose cross-field rule fails. -/
def checkClock (d : Device) (c : Values) (writes : Nat → Bool) : Option Nat :=
  let r0 := checkRefin d c writes .sclk
  let q0 := vN c 1 0 1
  let fb := vN c 1 0 2
  if !(decide (5000000 * q0 ≤ r0) && decide (r0 ≤ 100000000 * q0)) then some (cfgKey 1 0 1)
  else if !(decide (16000000000 * q0 ≤ r0 * fb) && decide (r0 * fb ≤ 20480000000 * q0)) then some (cfgKey 1 0 2)
  else
    let r1 := checkRefin d c writes .lo
    let q1 := vN c 1 1 1
    let word := c (cfgKey 1 1 2) * 4294967296 + c (cfgKey 1 1 3)
    let od := vN c 1 1 4
    if !(decide (10000000 * q1 ≤ r1) && decide (r1 ≤ 250000000 * q1)) then some (cfgKey 1 1 1)
    else if !loWordOk r1 q1 od word then some (cfgKey 1 1 2)
    else if vN c 1 1 0x10 == 1 && !rampOk (loWordOk r1 q1 od) word (vN c 1 1 0x13 == 1) (tget [] d.clk.rampStores (vN c 1 1 0x11))
      then some (cfgKey 1 1 0x11)
    else none

end Sys2Proof.Machine
end

