-- ==== Sys2Proof/Machine/Converters.lean ====
section
/-! DEFINITION. The converters: calibration passes, health, code sets, sample delivery (04_converters.md). -/

namespace Sys2Proof.Machine

def converter (d : Device) (ch : Nat) : Converter := tget {} d.conv.channels ch

def setConverter (ch : Nat) (v : Converter) (d : Device) : Device :=
  { d with conv := { d.conv with channels := tset {} d.conv.channels ch v } }

/-- Base source ID of a channel (R122). -/
def convSource (ch : Nat) : Nat := 0x080 + 0x20 * ch

def convEnabled (d : Device) (ch : Nat) : Bool := cfgOn d 2 ch 1
def calMode (d : Device) (ch : Nat) : Nat := cfgN d 2 ch 2

def sliceAt (c : Converter) (n : Nat) : Slice := c.slices.getD n {}

def setSlice (c : Converter) (n : Nat) (v : Slice) : Converter := { c with slices := c.slices.set n v }

/-- Slices in a state: 0 active, 1 spare, 2 retired; ascending. -/
def slicesIn (c : Converter) (st : Nat) : List Nat := (List.range 68).filter (fun n => (sliceAt c n).state == st)

/-- The active slice that holds a position. -/
def holderOf (c : Converter) (pos : Nat) : Option Nat :=
  (List.range 68).find? (fun n => (sliceAt c n).state == 0 && (sliceAt c n).position == pos)

/-! ### What the calibration sequencer does (R99, R107) -/

def stageOf (c : Converter) (s : Nat) : Option CalStage := tget none c.stages s

def setStage (c : Converter) (s : Nat) (v : Option CalStage) : Converter := { c with stages := tset none c.stages s v }

/-- The activity serves a suspect slice. -/
def stageSuspect : CalStage → Bool
  | .calibrate w => w.suspect
  | .verify _ _ b | .handOver _ b => b

/-- The slice is calibrated, or it is a spare that is verified or about to take a position. -/
def busySlice (c : Converter) (n : Nat) : Bool :=
  c.stages.any (fun e => match e.2 with
    | some (.calibrate w) => w.slice == n
    | some (.verify m _ _) | some (.handOver m _) => m == n
    | none => false)

/-- Spares that are available: a suspect slice is none until its calibration has ended (R107, R109). -/
def availableSpares (c : Converter) : List Nat :=
  (slicesIn c 1).filter (fun n => match stageOf c n with
    | some (.calibrate w) => !w.suspect
    | _ => true)

/-- A suspect slice or its spare may still join the spare queue. -/
def spareComing (c : Converter) : Bool := c.stages.any (fun e => (e.2.map stageSuspect).getD false)

/-- Spares that are idle and in no queue join it in ascending order: after a pass is abandoned every spare waits again. -/
def requeue (c : Converter) : Converter :=
  { c with spareQueue := c.spareQueue ++ (slicesIn c 1).filter (fun n => !c.spareQueue.contains n && !busySlice c n) }

/-- The visit of slice `s` begins, or goes on: the first spare of the queue that has not been tried is verified (R99, R103). -/
def beginVerify (c : Converter) (s : Nat) (tried : List Nat) (suspect : Bool) : Option Converter :=
  match c.spareQueue.filter (fun n => !tried.contains n) with
  | [] => none
  | n :: _ => some (setStage { c with spareQueue := c.spareQueue.erase n } s (some (.verify n tried suspect)))

def beginCalibrate (c : Converter) (s pos : Nat) (suspect : Bool) : Converter :=
  let w := sliceAt c s
  setStage c s (some (.calibrate { slice := s, position := pos, run := 1, step := 1, blocks := 0, sums := {}, before := w, first := w,
                                   now := w, beyond := false, suspect := suspect }))

/-- Waiting suspect slices take spares from the head of the queue, the oldest first (R107, R121). -/
def serveSuspects (c : Converter) : Converter :=
  c.suspects.foldl (fun c s =>
    if (sliceAt c s).state != 0 || (stageOf c s).isSome then { c with suspects := c.suspects.erase s }
    else (beginVerify { c with suspects := c.suspects.erase s } s [] true).getD c) c

/-- The slices that a pass still has to visit: the first that is active and not being replaced begins its visit. Where no spare is in
the queue the visit waits for one that may come, else it is skipped. True: nothing is left, the pass has completed. -/
def passVisits (c : Converter) (p : CalPass) : List Nat → Converter × Bool
  | [] => ({ c with pass := some { p with spares := [], visits := [], current := none } }, true)
  | s :: rest =>
    if (sliceAt c s).state != 0 || (stageOf c s).isSome then passVisits c p rest
    else match beginVerify c s [] false with
      | some c' => ({ c' with pass := some { p with spares := [], visits := rest, current := some s } }, false)
      | none =>
        if spareComing c then ({ c with pass := some { p with spares := [], visits := s :: rest, current := none } }, false)
        else passVisits c p rest

/-- Phase 1: the next slice that was spare at the start of the pass, and still is, is calibrated (R99). -/
def passSpares (c : Converter) (p : CalPass) : List Nat → Converter × Bool
  | [] => passVisits c p p.visits
  | s :: rest =>
    if (sliceAt c s).state != 1 || busySlice c s then passSpares c p rest
    else
      (beginCalibrate { c with pass := some { p with spares := rest, current := some s }, spareQueue := c.spareQueue.erase s } s (s % 64)
        false, false)

/-- The next work of the pass while it does nothing. -/
def passWork (c : Converter) : Converter × Bool :=
  match c.pass with
  | none => (c, false)
  | some p => if p.current.isSome then (c, false) else passSpares c p p.spares

/-! ### Commands that wait for passes (R116) -/

/-- The channels a CAL_RUN named, from its mask byte. -/
def maskChannels (m : Nat) : List Nat := (List.range 4).filter (fun ch => bit m ch)

/-- The CAL_RUN reply: four numbers for each channel. -/
def calResultBytes (rs : List (Nat × Nat × Nat × Nat)) : List Byte :=
  rs.flatMap (fun r => leBytes 1 r.1 ++ leBytes 1 r.2.1 ++ leBytes 1 r.2.2.1 ++ leBytes 1 r.2.2.2)

/-- Present results of the channels named; the others have not started. -/
def calResults (d : Device) (chs : List Nat) : List (Nat × Nat × Nat × Nat) :=
  (List.range 4).map (fun ch => if chs.contains ch then (converter d ch).result else (0, 0, 0, 3))

/-- A waiting CAL_RUN notes the result of a channel whose pass has ended. -/
def noteResult (d : Device) (ch : Nat) (failed : Bool) (w : CalWaiter) : CalWaiter :=
  if w.channels.contains ch then
    { w with channels := w.channels.erase ch, results := w.results.set ch (converter d ch).result, failed := w.failed || failed }
  else w

/-- A pass of a channel has ended: waiting CAL_RUN commands complete when their last one ends, OK if every pass completed,
TIMEOUT if one ended under R106. -/
def passEnded (ch : Nat) (failed : Bool) (d : Device) : Device :=
  let ws := d.conv.waiters.map (noteResult d ch failed)
  let done := ws.filter (fun w => w.channels.isEmpty)
  let d := { d with conv := { d.conv with waiters := ws.filter (fun w => !w.channels.isEmpty) } }
  done.foldl (fun d w => complete w.packet (if w.failed then .timeout else .ok) (calResultBytes w.results) d) d

/-- CAL_RUN commands that wait for an abandoned pass end with ABORTED (R446: a newer request, SLEEP or reset), with what each channel has
reached. -/
def abortCalWaiters (ch : Nat) (d : Device) : Device :=
  let done := d.conv.waiters.filter (fun w => w.channels.contains ch)
  let now (w : CalWaiter) : CalWaiter := w.channels.foldl (fun w c => noteResult d c true w) w
  let d := { d with conv := { d.conv with waiters := d.conv.waiters.filter (fun w => !w.channels.contains ch) } }
  done.foldl (fun d w => complete w.packet .aborted (calResultBytes (now w).results) d) d

/-! ### Passes (R98, R99, R106) -/

/-- The running pass ends without completing: its activity is dropped, and its slice keeps the codes it held before its run. Suspect
slices go on. -/
def abandonPass (ch : Nat) (d : Device) : Device :=
  let c := converter d ch
  match c.pass with
  | none => d
  | some p =>
    let c := match p.current with
      | some s => setStage c s none
      | none => c
    abortCalWaiters ch (setConverter ch (requeue { c with
      pass := none, result := (c.result.1, c.result.2.1, c.result.2.2.1, 2) }) d)

/-- The temperature condition of R98; T_ref is a free value while it is undefined (R118). -/
def tempExceeds (d : Device) (ch : Nat) : Bool :=
  let c := converter d ch
  let r := c.tRef.getD (Config.undefinedTRef ch)
  !c.sensorFailed && decide (((cfgN d 2 ch 3 * 4 : Nat) : Int) < ((c.temp - r).natAbs : Int))

/-- f_SCLK in MHz as a code set holds it (R111). DESIGN CHOICE: a fraction of a megahertz is cut off. -/
def sclkMhz (d : Device) : Nat := fsclkHz d / 1000000

/-- The code set was obtained at another f_SCLK (R113). -/
def sclkDiffers (d : Device) (ch : Nat) : Bool := (converter d ch).sclkMhz * 1000000 != fsclkHz d

/-- A starting condition still holds when a failed pass may start again (R106): temperature, continuous mode, changed f_SCLK, or no
valid codes (R118). -/
def startCondition (d : Device) (ch : Nat) : Bool :=
  tempExceeds d ch || calMode d ch == 2 || !(converter d ch).codesValid || sclkDiffers d ch

/-- A pass starts on an enabled channel whose cal_mode is not 0, with a spare, while none runs (R98, R109). -/
def startPass (ch cause : Nat) (d : Device) : Device :=
  let c := converter d ch
  if !convEnabled d ch || calMode d ch == 0 || c.pass.isSome || (availableSpares c).isEmpty then d
  else
    let c := { c with
      pass := some { startTemp := c.temp, spares := slicesIn c 1, visits := slicesIn c 0, current := none, done := [] }
      retry := false, result := (0, 0, 0, 1) }
    let d := raiseEvent (convSource ch) 1 (ballIndex d) (Config.passCause cause) d
    setConverter ch (passWork (serveSuspects c)).1 d

/-- R98 evaluated: the temperature condition, or continuous mode with no pass running. -/
def evaluateStart (ch : Nat) (d : Device) : Device :=
  if tempExceeds d ch then startPass ch 1 d else if calMode d ch == 2 then startPass ch 5 d else d

/-- A pass completes (R98, R99): T_ref and the count, the event, then the temperature condition is tested again. A slice that the pass
skipped did not disagree in it (R108). -/
def completePass (ch : Nat) (d : Device) : Device :=
  let c := converter d ch
  match c.pass with
  | none => d
  | some p =>
    let d := setConverter ch { c with
      pass := none, tRef := some p.startTemp, passCount := c.passCount + 1, codesValid := true, sclkMhz := sclkMhz d,
      disagreements := c.disagreements.filter (fun e => p.done.contains e.1)
      result := (c.result.1, c.result.2.1, c.result.2.2.1, 0) } d
    evaluateStart ch (passEnded ch false (raiseEvent (convSource ch) 2 (ballIndex d) 0 d))

/-- The sequencer takes up what waits: suspect slices first, then the next work of the pass; or the pass completes. -/
def continueWork (ch : Nat) (d : Device) : Device :=
  let r := passWork (serveSuspects (converter d ch))
  let d := setConverter ch r.1 d
  if r.2 then completePass ch d else d

/-- A suspect slice that no spare can replace stays in service (R109). -/
def unserviceable (ch s : Nat) (d : Device) : Device :=
  let c := converter d ch
  raiseFault (plainFault (convSource ch + 1) 5 1 s) (setConverter ch { c with degraded := true, suspects := c.suspects.erase s } d)

/-- The last spare has been retired or taken into service (R109): also for the suspect slices that wait for one. -/
def noSpareLeft (ch : Nat) (d : Device) : Device :=
  if (availableSpares (converter d ch)).isEmpty then
    (converter d ch).suspects.foldl (fun d s => unserviceable ch s d) (raiseFault (plainFault (convSource ch + 1) 4 1 0) d)
  else d

/-- A slice is retired (R108, R109). -/
def retireSlice (ch s : Nat) (d : Device) : Device :=
  let c := converter d ch
  let c := setSlice c s { sliceAt c s with state := 2 }
  let c := { c with
    sliceRetired := true, spareQueue := c.spareQueue.erase s,
    result := (c.result.1, c.result.2.1, c.result.2.2.1 + 1, c.result.2.2.2) }
  noSpareLeft ch (raiseFault (plainFault (convSource ch + 1) 3 0 s) (setConverter ch c d))

/-! ### One calibration step (R101) -/

/-- Taylor sum of exp (a / b) to eight terms, as a fraction over b^8 × 8!. -/
def expNum (a : Int) (b : Nat) : Int :=
  let bb : Int := b
  40320 * bb ^ 8 + 40320 * a * bb ^ 7 + 20160 * a ^ 2 * bb ^ 6 + 6720 * a ^ 3 * bb ^ 5 + 1680 * a ^ 4 * bb ^ 4
    + 336 * a ^ 5 * bb ^ 3 + 56 * a ^ 6 * bb ^ 2 + 8 * a ^ 7 * bb + a ^ 8

/-- num / den lies above exp (0.00046875 × (2 j + 1) / 2) = exp (3 (2 j + 1) / 12800). -/
def aboveGainStep (num den : Nat) (j : Int) : Bool :=
  decide (expNum (3 * (2 * j + 1)) 12800 * (den : Int) < (num : Int) * (40320 * 12800 ^ 8))

/-- round_even (0.5 ln (num / den) / 0.000234375), clamped to -8 .. 8 (R101). -/
def gainSteps (num den : Nat) : Int :=
  (((List.range 16).filter (fun (i : Nat) => aboveGainStep num den ((i : Int) - 8))).length : Int) - 8

/-- Index of the smallest element, the lowest index on ties. -/
def argMin : List Nat → Nat
  | [] => 0
  | x :: xs => (xs.foldl (fun (s : Nat × Nat × Nat) y =>
      if y < s.2.1 then (s.2.2, y, s.2.2 + 1) else (s.1, s.2.1, s.2.2 + 1)) (0, x, 1)).1

def calN : Nat := 262144

/-- Quotient rounded to nearest even for a divisor of either sign. -/
def roundQuot (a b : Int) : Int := if b < 0 then roundHalfEven (-a) b.natAbs else roundHalfEven a b.natAbs

/-- A block qualifies (R100): rms of at least cal_signal_min dBFS (a full-scale sine has a mean square of 2^21), nothing over-range, no
pause. -/
def blockQualifies (level : Int) (b : CalSums) : Bool :=
  !b.overrange && !b.paused && decide ((4096 * 2 ^ 21) ^ 10 ≤ b.s2.natAbs ^ 10 * 10 ^ level.natAbs)

def addSums (a b : CalSums) : CalSums :=
  { s1 := a.s1 + b.s1, s2 := a.s2 + b.s2, e1 := a.e1 + b.e1, e2 := a.e2 + b.e2, cm := a.cm + b.cm, cp := a.cp + b.cp
    dis := (a.dis.zip b.dis).map (fun x => x.1 + x.2) }

/-- One more block of the step: counted where it qualifies. The second part says that the last block tested did not. A step that has 64
blocks tests no more. -/
def testBlock (level : Int) (st : CalWork × Bool) (b : CalSums) : CalWork × Bool :=
  if st.1.blocks == 64 then st
  else if blockQualifies level b then ({ st.1 with blocks := st.1.blocks + 1, sums := addSums st.1.sums b }, false)
  else (st.1, true)

/-- The codes after one step, whether an end of a span stops a code that still points beyond it, and whether a free value was
taken. -/
def calStep (w : CalWork) (fresh : Nat) : Slice × Bool × Bool :=
  let q := w.sums
  let e1 := q.e1.tdiv 64
  let e2 := q.e2.tdiv 64
  let lim : Int := if w.step ≤ 4 then 8 else 1
  let eo := roundHalfEven (4 * (q.s1 - e1)) calN
  let vs := q.s2 - (q.s1 * q.s1).tdiv calN
  let ve := e2 - (e1 * e1).tdiv calN
  let gainOpen := decide (vs ≤ 0) || decide (ve ≤ 0)
  let eg := if gainOpen then Config.calCorrection fresh else gainSteps vs.toNat ve.toNat
  let timeOpen := q.cp + q.cm == 0
  let er := if timeOpen then Config.calCorrection (fresh + 1) else roundQuot (64 * (q.cp - q.cm)) (q.cp + q.cm)
  let s := w.now
  let offset := clampInt 0 127 ((s.offset : Int) - clampInt (-lim) lim eo)
  let ladder := clampInt 0 255 ((s.ladder : Int) - clampInt (-lim) lim eg)
  let delay := clampInt 0 63 ((s.delay : Int) - clampInt (-lim) lim er)
  let sgnR := if q.cp + q.cm < 0 then q.cm - q.cp else q.cp - q.cm
  let beyond := (offset == 0 && decide (e1 < q.s1)) || (offset == 127 && decide (q.s1 < e1))
    || (ladder == 0 && decide (ve < vs)) || (ladder == 255 && decide (vs < ve))
    || (delay == 0 && decide (0 < sgnR)) || (delay == 63 && decide (sgnR < 0))
  ({ s with
      offset := offset.toNat, ladder := ladder.toNat, delay := delay.toNat,
      comp := if w.step == 1 then argMin (q.dis.take 4) else s.comp }, beyond, gainOpen || timeOpen)

/-- CALIBRATION_STEP_END: the blocks tested for the slice since the last such row; the step ends with its 64th qualifying block (R100,
R101). -/
def calibrationStepEnd (ch s : Nat) (bs : List CalSums) (d : Device) : Device :=
  let c := converter d ch
  match stageOf c s with
  | some (.calibrate w) =>
    if 8 < w.step then d
    else
      let t := bs.foldl (testBlock (cfgInt d 2 ch 4)) (w, c.signalLow)
      let c := { c with signalLow := t.2 }
      if t.1.blocks != 64 then setConverter ch (setStage c s (some (.calibrate t.1))) d
      else
        let r := calStep t.1 d.fresh
        setConverter ch (setStage c s (some (.calibrate { t.1 with
          now := r.1, beyond := r.2.1, step := w.step + 1, blocks := 0, sums := {} }))) (if r.2.2 then takeFresh (takeFresh d) else d)
  | _ => d

/-- The results of the two runs agree (R102). -/
def runsAgree (a b : Slice) : Bool :=
  let near (x y n : Nat) : Bool := decide (x ≤ y + n) && decide (y ≤ x + n)
  near a.delay b.delay 1 && near a.offset b.offset 1 && near a.ladder b.ladder 2 && a.comp == b.comp

/-- The slice is the one that the running pass calibrates or visits. -/
def ofPass (c : Converter) (s : Nat) : Bool :=
  match c.pass with
  | some p => p.current == some s
  | none => false

/-- The pass has done with a slice; `done` says that it was calibrated. -/
def passLeaves (c : Converter) (s : Nat) (done : Bool) : Converter :=
  if ofPass c s then
    { c with pass := c.pass.map (fun p => { p with current := none, done := if done then p.done ++ [s] else p.done }) }
  else c

/-- The second run of a slice has ended (R102, R107, R108): it takes its codes or keeps the old ones, and joins the queue or is
retired. A calibration within a pass counts toward the three consecutive passes of R108. -/
def finishSlice (ch : Nat) (w : CalWork) (d : Device) : Device :=
  let c := converter d ch
  let own := ofPass c w.slice
  let agree := runsAgree w.first w.now
  let n := if agree then 0 else tget 0 c.disagreements w.slice + 1
  let old := sliceAt c w.slice
  let c := setSlice c w.slice { (if agree then w.now else w.before) with position := old.position, state := old.state }
  let c := passLeaves (setStage { c with
    disagree := c.disagree || !agree
    disagreements := if own then tset 0 c.disagreements w.slice n else c.disagreements
    result := (c.result.1 + boolN own, c.result.2.1 + boolN (own && !agree), c.result.2.2.1, c.result.2.2.2) } w.slice none) w.slice true
  let d := setConverter ch c d
  let d := if agree then d else raiseFault (plainFault (convSource ch) 1 0 w.slice) d
  let retire := (w.suspect && (!agree || w.beyond)) || (own && decide (3 ≤ n))
  let d := if retire then retireSlice ch w.slice d
    else setConverter ch { converter d ch with
      spareQueue := (converter d ch).spareQueue ++ [w.slice], degraded := false } d
  continueWork ch d

/-- A run ends: the first starts the second from the codes before the first; the second decides (R101, R102). -/
def calibrationRunEnd (ch s : Nat) (d : Device) : Device :=
  let c := converter d ch
  match stageOf c s with
  | some (.calibrate w) =>
    if w.step ≤ 8 then d
    else if w.run == 1 then
      setConverter ch (setStage c s (some (.calibrate { w with run := 2, step := 1, first := w.now, now := w.before }))) d
    else finishSlice ch w d
  | _ => d

/-- The position meets the three ensemble limits (Slice health and retirement, before R107). -/
def healthOk (q : HealthSums) : Bool :=
  decide ((64 * q.sumPos - q.sumAll).natAbs ≤ 8 * 64 * 65536)
    && decide ((64 * q.sqPos) ^ 10 ≤ 10 * q.sqAll ^ 10) && decide (q.sqAll ^ 10 ≤ 10 * (64 * q.sqPos) ^ 10)
    && (decide (q.codesAll < 256) || decide (16 ≤ q.codesPos))

/-- R103: mean within ±0.5 LSB and rms at most 2.0 LSB over 2^16 instants, or the spare meets the ensemble limits and the slice
does not; a suspect's spare is judged against the ensemble only (R107). -/
def verifyPasses (q : VerifySums) (suspect : Bool) : Bool :=
  if suspect then healthOk q.spare
  else (decide (q.diff.natAbs ≤ 32768) && decide (q.diffSq ≤ 262144)) || (healthOk q.spare && !healthOk q.active)

/-- The spare failed: it goes to the tail, a waiting suspect takes the head (R121), then the next spare is tried. With none left an
active slice is skipped, or its visit waits for a spare that comes; a suspect one stays in service (R103, R109). -/
def verificationFailed (ch s n : Nat) (tried : List Nat) (suspect : Bool) (d : Device) : Device :=
  let d := raiseFault (plainFault (convSource ch) 2 0 n) d
  let c := converter d ch
  let c := serveSuspects (setStage { c with handoverFail := true, spareQueue := c.spareQueue ++ [n] } s none)
  match beginVerify c s (n :: tried) suspect with
  | some c' => setConverter ch c' d
  | none =>
    let wait := spareComing c && ofPass c s
    let c := passLeaves c s false
    let c := if wait then { c with pass := c.pass.map (fun p => { p with visits := s :: p.visits }) } else c
    let d := setConverter ch c d
    continueWork ch (if suspect then unserviceable ch s d else d)

def verificationEnd (ch s : Nat) (q : VerifySums) (d : Device) : Device :=
  let c := converter d ch
  match stageOf c s with
  | some (.verify n tried suspect) =>
    if verifyPasses q suspect then setConverter ch (setStage c s (some (.handOver n suspect))) d
    else verificationFailed ch s n tried suspect d
  | _ => d

/-- The hand-over instant (R104): the position comes from the spare, and the old slice begins shadowing and is calibrated. A suspect
slice that gave its position to the last spare leaves the channel without one (R109). -/
def handOver (ch s : Nat) (d : Device) : Device :=
  let c := converter d ch
  match stageOf c s with
  | some (.handOver n suspect) =>
    let old := sliceAt c s
    let c := setSlice c n { sliceAt c n with state := 0, position := old.position }
    let c := setSlice c s { old with state := 1 }
    let d := setConverter ch (beginCalibrate c s old.position suspect) d
    if suspect then noSpareLeft ch d else d
  | _ => d

/-- R106: the run is abandoned, the slice keeps its codes, the pass ends incomplete. The run of a suspect slice that no pass calibrates
ends no pass: the slice joins the queue. -/
def runTimeout (ch s : Nat) (d : Device) : Device :=
  let c := converter d ch
  match stageOf c s with
  | some (.calibrate _) =>
    let c := setStage { c with signalLow := true } s none
    if ofPass c s then
      let c := requeue { c with
        pass := none, incomplete := true, retry := true, result := (c.result.1, c.result.2.1, c.result.2.2.1, 2) }
      continueWork ch (passEnded ch true (raiseEvent (convSource ch) 3 (ballIndex d) 0 (setConverter ch c d)))
    else continueWork ch (setConverter ch { requeue c with degraded := false } d)
  | _ => d

/-- R106: a new pass where the starting condition still holds. -/
def calibrationRetry (ch : Nat) (d : Device) : Device :=
  let c := converter d ch
  if !c.retry then d
  else
    let d := setConverter ch { c with retry := false } d
    if startCondition d ch then startPass ch 1 d else d

/-- A slice is being replaced already. -/
def inReplacement (c : Converter) (s : Nat) : Bool :=
  c.suspects.contains s || ((stageOf c s).map stageSuspect).getD false

/-- A slice whose visit has begun turns out to be suspect: its spare is judged against the ensemble only, and its calibration may retire
it (R107). -/
def markSuspect : CalStage → CalStage
  | .verify n tried _ => .verify n tried true
  | .handOver n _ => .handOver n true
  | .calibrate w => .calibrate { w with suspect := true }

/-- R107, R109: an active slice beyond the limits is suspect; without a spare it stays in service and the channel is degraded. -/
def healthCheck (ch pos : Nat) (q : HealthSums) (d : Device) : Device :=
  let c := converter d ch
  if !convEnabled d ch || healthOk q then d
  else match holderOf c pos with
    | none => d
    | some s =>
      if inReplacement c s then d
      else if (availableSpares c).isEmpty then unserviceable ch s d
      else match stageOf c s with
        | some g => setConverter ch (setStage c s (some (markSuspect g))) d
        | none => continueWork ch (setConverter ch { c with suspects := c.suspects ++ [s] } d)

/-- The temperature of R98; while a pass waits under R106 no trigger starts one (R117 PASS_PENDING). -/
def temperatureSample (ch : Nat) (t : Int) (d : Device) : Device :=
  let d := setConverter ch { converter d ch with temp := t } d
  if tempExceeds d ch && !(converter d ch).retry then startPass ch 1 d else d

/-! ### Commands -/

def calRun (p : Packet) (d : Device) : Device :=
  let m := pByte p 0
  let o := pByte p 1
  let chs := maskChannels m
  if !reservedZero p [(0, 2)] || decide (15 < m) || decide (3 < o) then complete p .badParam [] d
  else if chs.any (fun ch => (converter d ch).pass.isSome) && !bit o 0 then complete p .busy [] d
  else if chs.any (fun ch => calMode d ch == 0 || !convEnabled d ch) then complete p .badState [] d
  else if chs.any (fun ch => (availableSpares (converter d ch)).isEmpty) then complete p .noResource [] d
  else
    let d := chs.foldl (fun d ch => startPass ch 2 (abandonPass ch d)) d
    if bit o 1 && !chs.isEmpty then
      park p { d with conv := { d.conv with
        waiters := d.conv.waiters ++ [{ packet := p, channels := chs, results := calResults d chs, failed := false }] } }
    else complete p .ok (calResultBytes (calResults d chs)) d

/-- A slice word (R110). -/
def sliceWord (s : Slice) : Nat :=
  s.delay + s.ladder * 2 ^ 6 + s.offset * 2 ^ 14 + s.comp * 2 ^ 21 + s.position * 2 ^ 24 + s.state * 2 ^ 30

def readSlice (w : Nat) : Slice :=
  { delay := bits w 0 6, ladder := bits w 6 8, offset := bits w 14 7, comp := bits w 21 2, position := bits w 24 6,
    state := bits w 30 2 }

/-- A code set with its CRC (R111). -/
def codeSet (ch flags : Nat) (tRef : Int) (mhz passes : Nat) (sl : List Slice) : List Byte :=
  let head := leBytes 2 1 ++ leBytes 1 ch ++ leBytes 1 flags ++ leInt 2 tRef ++ leBytes 2 mhz ++ leBytes 4 passes
  let body := sl.flatMap (fun s => leBytes 4 (sliceWord s))
  head ++ leBytes 4 (crc32c (head ++ body)).toNat ++ body

def codeSetInUse (d : Device) (ch : Nat) : List Byte :=
  let c := converter d ch
  codeSet ch (boolN c.codesValid) (c.tRef.getD (Config.undefinedTRef ch)) c.sclkMhz c.passCount.toNat c.slices

/-- The channel status word (R117). -/
def channelStatus (d : Device) (ch : Nat) : Nat :=
  let c := converter d ch
  boolN c.pass.isSome + 2 * boolN (c.retry && startCondition d ch) + 4 * boolN c.signalLow + 8 * boolN c.codesValid
    + 16 * boolN c.degraded + 256 * boolN c.disagree + 512 * boolN c.handoverFail + 1024 * boolN c.incomplete
    + 2048 * boolN c.overrange + 4096 * boolN c.sliceRetired + 2 ^ 16 * (availableSpares c).length
    + 2 ^ 32 * (c.passCount.toNat % 65536) + 2 ^ 48 * unsigned 16 c.temp

def clearChannelBits (ch m : Nat) (d : Device) : Device :=
  let c := converter d ch
  setConverter ch { c with
    disagree := c.disagree && !bit m 8, handoverFail := c.handoverFail && !bit m 9,
    incomplete := c.incomplete && !bit m 10, overrange := c.overrange && !bit m 11,
    sliceRetired := c.sliceRetired && !bit m 12 } d

def calRead (p : Packet) (d : Device) : Device :=
  let ch := pByte p 0
  let a := p64 p 8
  if !reservedZero p [(0, 2), (8, 16)] || decide (3 < ch) || decide (1 < pByte p 1) || a % 64 != 0
      || !reachable d .cp true a 288 then complete p .badParam [] d
  else
    let st := leBytes 8 (channelStatus d ch)
    if pByte p 1 == 0 then
      complete p .ok st (clearChannelBits ch (p64 p 16) (memWrite a (codeSetInUse d ch) d))
    else match (converter d ch).pendingSet with
      | none => complete p .badState [] d
      | some q => complete p .ok st (clearChannelBits ch (p64 p 16) (memWrite a q.bytes d))

/-- The set of CAL_WRITE is valid (R113). -/
def codeSetOk (ch : Nat) (bs : List Byte) : Bool :=
  let sl := (List.range 68).map (fun i => getLe bs (16 + 4 * i) 4)
  let act := (sl.map readSlice).filter (fun s => s.state == 0)
  getLe bs 12 4 == (crc32c (bs.take 12 ++ bs.drop 16)).toNat && getLe bs 0 2 == 1 && getLe bs 2 1 == ch
    && decide (getLe bs 3 1 < 2) && sl.all (fun w => !bit w 23 && bits w 30 2 != 3)
    && act.length == 64 && (act.map (·.position)).eraseDups.length == 64

/-- At the set hand-over instant the whole set is applied and CAL_WRITE completes (R113). -/
def applySet (ch : Nat) (d : Device) : Device :=
  let c := converter d ch
  match c.pendingSet with
  | none => d
  | some q =>
    let d := abandonPass ch d
    let c := converter d ch
    let c := { c with
      slices := q.slices, suspects := [], stages := [], retry := false, disagreements := [],
      tRef := some q.tRef, passCount := BitVec.ofNat 32 q.passCount, sclkMhz := q.sclkMhz, codesValid := true,
      degraded := c.degraded && !q.slices.any (fun s => s.state == 1), pendingSet := none, spareQueue := [] }
    let d := setConverter ch (requeue c) d
    let d := complete q.packet .ok (leBytes 8 q.applyAt) d
    if q.startPass || sclkDiffers d ch then startPass ch 6 d else evaluateStart ch d

def calWrite (p : Packet) (d : Device) : Device :=
  let ch := pByte p 0
  let a := p64 p 8
  if !reservedZero p [(0, 2), (8, 8)] || decide (3 < ch) || decide (1 < pByte p 1) || a % 64 != 0
      || !reachable d .cp false a 288 then complete p .badParam [] d
  else
    let bs := memRead d a 288
    if !codeSetOk ch bs then complete p .badParam [] d
    else
      let d := continueWork ch (abandonPass ch d)
      let d := match (converter d ch).pendingSet with
        | some q => complete q.packet .aborted [] d
        | none => d
      let at' := if d.clk.sclk.gated then ballIndex d else ceilDiv (ballIndex d + 65536) 64 * 64
      let c := { converter d ch with pendingSet := some {
        packet := p, slices := (List.range 68).map (fun i => readSlice (getLe bs (16 + 4 * i) 4)),
        tRef := signed 16 (getLe bs 4 2), sclkMhz := getLe bs 6 2, passCount := getLe bs 8 4, applyAt := at',
        startPass := pByte p 1 == 1, bytes := bs } }
      let d := setConverter ch c d
      if d.clk.sclk.gated then applySet ch d else park p d

/-! ### Sample delivery (R92, R95, R115, R21) -/

/-- The converters deliver: the sample clock runs and the device is not in SLEEP (R73, R75, R86). -/
def converting (d : Device) : Bool :=
  !d.clk.sclk.gated && d.strm.pauseFrom.isNone && (d.power.state == .ready || d.power.state == .safe)

def isOverrange (b : BitVec 12) : Bool := b == 0x800#12 || b == 0x7FF#12

/-- Lanes of a channel that run (R140 enable). -/
def runningLanes (d : Device) (ch : Nat) : List Nat := (List.range 5).filter (fun l => cfgOn d 3 (ch * 8 + l) 1)

/-- Count over-range samples of an epoch and raise the event when the count reaches ovr_event_count (R92, R114, R122). -/
def countOverrange (ch first : Nat) (codes : List (BitVec 12)) (d : Device) : Device :=
  let c := converter d ch
  let n := (codes.filter isOverrange).length
  let e := first / 2 ^ epochExp d
  let before := if c.ovrEpoch == e then c.ovrCount else 0
  let lim := cfgN d 2 ch 6
  let d := setConverter ch { c with ovrCount := before + n, ovrEpoch := e, overrange := c.overrange || n != 0 } d
  if lim != 0 && decide (before < lim) && decide (lim ≤ before + n) then
    raiseEvent (convSource ch + 2) 1 first 0 d
  else d

/-- A run, a shadow or a verification window begins again (R96). -/
def restartStage : CalStage → CalStage
  | .calibrate w => .calibrate { w with step := 1, now := w.before, beyond := false, blocks := 0, sums := {} }
  | .handOver n suspect => .verify n [] suspect
  | .verify n tried suspect => .verify n tried suspect

/-- The current step begins again; a verification window or an alignment wait does so without a trace (R120). -/
def repeatStep : CalStage → CalStage
  | .calibrate w => .calibrate { w with blocks := 0, sums := {} }
  | g => g

def mapStages (f : CalStage → CalStage) (c : Converter) : Converter :=
  { c with stages := c.stages.map (fun e => (e.1, e.2.map f)) }

/-- R96: at SYNC the index restarts and a run or verification window begins again. -/
def convSync (d : Device) : Device :=
  (List.range 4).foldl (fun d ch =>
    setConverter ch { mapStages restartStage (converter d ch) with
      next := 0, stall := [], discarding := none, ovrCount := 0, ovrEpoch := 0, zeroBelow := 0 } d) d

/-- The channel stops (R121: SLEEP entry, enable 0): the running pass is abandoned, and no slice is under calibration any more. -/
def stopCalibration (ch : Nat) (d : Device) : Device :=
  let d := abandonPass ch d
  setConverter ch (requeue { converter d ch with stages := [], suspects := [], retry := false }) d

/-- BLOCK_RESET of a converter (R120): the running pass is abandoned, the code set kept, the stall contents discarded; the calibration
of a suspect slice begins again. -/
def resetConverter (ch : Nat) (d : Device) : Device :=
  let d := abandonPass ch d
  setConverter ch { mapStages restartStage (converter d ch) with stall := [], discarding := none } d

def execCalRun (p : Packet) (s : State) : Host.Outcome State Fault Refusal := act (accept p calRun) s
def execCalRead (p : Packet) (s : State) : Host.Outcome State Fault Refusal := act (accept p calRead) s
def execCalWrite (p : Packet) (s : State) : Host.Outcome State Fault Refusal := act (accept p calWrite) s
def execTemperatureSample (ch : Fin 4) (t : Int) (s : State) : Host.Outcome State Fault Refusal :=
  act (temperatureSample ch.val t) s
def execCalibrationStepEnd (work : SliceOf) (blocks : List CalSums) (s : State) : Host.Outcome State Fault Refusal :=
  act (calibrationStepEnd work.ch.val work.slice.val blocks) s
def execCalibrationRunEnd (work : SliceOf) (s : State) : Host.Outcome State Fault Refusal :=
  act (calibrationRunEnd work.ch.val work.slice.val) s
def execVerificationEnd (work : SliceOf) (sums : VerifySums) (s : State) : Host.Outcome State Fault Refusal :=
  act (verificationEnd work.ch.val work.slice.val sums) s
def execHandOver (work : SliceOf) (s : State) : Host.Outcome State Fault Refusal := act (handOver work.ch.val work.slice.val) s
def execRunTimeout (work : SliceOf) (s : State) : Host.Outcome State Fault Refusal :=
  act (runTimeout work.ch.val work.slice.val) s
def execCalibrationRetry (ch : Fin 4) (s : State) : Host.Outcome State Fault Refusal := act (calibrationRetry ch.val) s
def execHealthCheck (ch : Fin 4) (pos : Fin 64) (sums : HealthSums) (s : State) : Host.Outcome State Fault Refusal :=
  act (healthCheck ch.val pos.val sums) s
def execSetHandOver (ch : Fin 4) (s : State) : Host.Outcome State Fault Refusal := act (applySet ch.val) s

end Sys2Proof.Machine
end

