-- ==== Sys2Proof/Machine/Numbers.lean ====
section
/-! DEFINITION. Exact arithmetic for levels in dB (R158), for binary32 values (held as numbers of units of 2^-149), for the
logarithmic palette index (R253), and for phasors and angles in fixed point (R124, R157, R209). -/

namespace Sys2Proof.Machine

/-- Binary digits of a number, at most `fuel`. -/
def bitLen : Nat → Nat → Nat
  | 0, _ => 0
  | f + 1, v => if v == 0 then 0 else 1 + bitLen f (v / 2)

/-- Units of 2^-149 in one. -/
def f32One : Nat := 2 ^ 149

/-- The binary32 value nearest to `n / m` units, ties to even, as units (no upper bound: see f32Bits). -/
def f32Round (n m : Nat) : Nat :=
  let q := n / m
  let l := bitLen 4096 q
  if l ≤ 24 then (roundHalfEven (n : Int) m).toNat
  else (roundHalfEven (n : Int) (m * 2 ^ (l - 24))).toNat * 2 ^ (l - 24)

/-- IEEE 754 binary32 encoding of a value in units; beyond the largest finite value it is infinity. -/
def f32Bits (v : Nat) : Nat :=
  if v < 2 ^ 23 then v
  else
    let l := bitLen 4096 v
    let e := l - 23
    if 255 ≤ e then 0x7F800000 else e * 2 ^ 23 + (v / 2 ^ (l - 24) - 2 ^ 23)

/-- Round an integer number of units of either sign. -/
def f32RoundInt (v : Int) (m : Nat) : Int :=
  if v < 0 then -((f32Round v.natAbs m : Nat) : Int) else ((f32Round v.natAbs m : Nat) : Int)

/-- Levels per decade, doubled (R158). -/
def dbScale : Nat := 2560

/-- The value n / m lies at or above the lower edge of level q: 10^((2 q - 1) / 2560) (R158). The two are never equal, because
that power is irrational. -/
def dbAtLeast (n m : Nat) (q : Int) : Bool :=
  let e := 2 * q - 1
  if e < 0 then decide (m ^ dbScale ≤ n ^ dbScale * 10 ^ e.natAbs) else decide (m ^ dbScale * 10 ^ e.natAbs ≤ n ^ dbScale)

/-- Largest level of `lo .. lo + 2^k - 1` that a monotone test admits, `lo` when it admits none. -/
def levelSearch (test : Int → Bool) : Nat → Int → Int
  | 0, lo => lo
  | k + 1, lo => if test (lo + (2 ^ k : Nat)) then levelSearch test k (lo + (2 ^ k : Nat)) else levelSearch test k lo

/-- int16 dB of n / m (R158): round_even (1,280 log10 (n / m)) saturated to ±32,767, and -32,768 for zero. -/
def dbOf (n m : Nat) : Int :=
  if n == 0 then -32768 else min 32767 (levelSearch (dbAtLeast n m) 16 (-32767))

/-- int16 dB of a binary32 power given in units. -/
def dbOfF32 (v : Nat) : Int := dbOf v f32One

/-- Integer square root by digits, for numbers below 4^fuel. -/
def isqrt : Nat → Nat → Nat
  | 0, _ => 0
  | f + 1, v =>
    let r := 2 * isqrt f (v / 4)
    if (r + 1) * (r + 1) ≤ v then r + 1 else r

/-- Binary32 square root of n / m, in units: correctly rounded, with a sticky bit below the rounding position. -/
def f32Sqrt (n m : Nat) : Nat :=
  let r := isqrt 400 (n * 2 ^ 598 / m)
  f32Round (2 * r + boolN (r * r * m != n * 2 ^ 598)) (2 ^ 151)

/-- v / 2^149 lies at or below 10^(x / d). -/
def atMostPow10 (v : Nat) (x : Int) (d : Nat) : Bool :=
  if x < 0 then decide (v ^ d * 10 ^ x.natAbs ≤ f32One ^ d) else decide (v ^ d ≤ f32One ^ d * 10 ^ x.natAbs)

/-- Greatest v below 2^k, built from the top bit, at or below 10^(x / d) in units of 2^-149. -/
def pow10Floor (x : Int) (d : Nat) : Nat → Nat → Nat
  | 0, acc => acc
  | k + 1, acc => if atMostPow10 (acc + 2 ^ k) x d then pow10Floor x d k (acc + 2 ^ k) else pow10Floor x d k acc

/-- Binary32 value of 10^(x / d) in units: floor with a sticky bit, rounded (exact powers of ten keep their value). -/
def f32Pow10 (x : Int) (d : Nat) : Nat :=
  let v := pow10Floor x d 260 0
  f32Round (2 * v + boolN (x % (d : Int) != 0 || decide (x < 0))) 2

/-! ### Phasors -/

/-- Fraction bits of a phasor component. -/
def phasorBits : Nat := 160

def phasorOne : Int := ((2 ^ phasorBits : Nat) : Int)

/-- Product of two complex numbers of units of 2^-160. -/
def phasorMul (x y : Int × Int) : Int × Int :=
  ((x.1 * y.1 - x.2 * y.2) / phasorOne, (x.1 * y.2 + x.2 * y.1) / phasorOne)

/-- Cosine and sine of half an angle of the first quadrant. -/
def halfAngle (x : Int × Int) : Int × Int :=
  let c : Int := (isqrt 400 ((phasorOne + x.1).toNat * 2 ^ (phasorBits - 1)) : Nat)
  (c, x.2 * phasorOne / (2 * c))

/-- exp (j 2 pi / 2^i) for i = 2 .. n + 1. -/
def halfAngles : Nat → Int × Int → List (Int × Int)
  | 0, _ => []
  | n + 1, x => x :: halfAngles n (halfAngle x)

/-- exp (j 2 pi / 2^i) for i = 1 .. 48. -/
def unitAngles : List (Int × Int) := (-phasorOne, 0) :: halfAngles 47 (0, phasorOne)

/-- exp (j 2 pi w / 2^48): the product over the bits of `w`, the top bit first. -/
def phasor (w : Nat) : Int × Int :=
  (unitAngles.zip (List.range 48)).foldl (fun acc a => if bit w (47 - a.2) then phasorMul acc a.1 else acc) (phasorOne, 0)

/-- Angle of a vector as a fraction of a turn, in units of 2^-i at the `i`-th angle: turned back by each angle that leaves it in the
upper half plane. The vector has its imaginary part at or above zero. -/
def turnsUpper : List (Int × Int) → Nat → Int × Int → Nat
  | [], _, _ => 0
  | a :: as, w, v =>
    let t := (v.1 * a.1 + v.2 * a.2, v.2 * a.1 - v.1 * a.2)
    if 0 ≤ t.2 then w + turnsUpper as (w / 2) (t.1 / phasorOne, t.2 / phasorOne)
    else turnsUpper as (w / 2) v

/-- arg (x + j y) / (2 pi) as a number of units of 2^-120, in (-1/2, 1/2]; 0 for zero. -/
def argTurns (x y : Int) : Int :=
  let up (x y : Int) : Int :=
    if y == 0 && 0 ≤ x then 0
    else if y == 0 then ((2 ^ 119 : Nat) : Int)
    else (turnsUpper (halfAngles 118 (0, phasorOne)) (2 ^ 118) (x * phasorOne, y * phasorOne) : Nat)
  if 0 ≤ y then up x y else -(up x (-y))

/-- lg v = floor (256 log2 v) for v at least 1 (R253). -/
def lg256 (v : Nat) : Nat := bitLen 16384 (v ^ 256) - 1

end Sys2Proof.Machine
end

