-- ==== Sys2Proof/Machine/Lanes.lean ====
section
/-! DEFINITION. Sample delivery into stall 0x01 and the lanes: grid, reset points, history buffer (R21, R92, R95,
05_lanes.md). The record path stands in Machine/RecordPath.lean, the delivery of lane samples to their consumers in
Machine/LaneFlow.lean. -/

namespace Sys2Proof.Machine

def laneKey (ch l : Nat) : Nat := ch * 8 + l

def laneAt (d : Device) (ch l : Nat) : Lane := tget {} d.lane.lanes (laneKey ch l)

def setLane (ch l : Nat) (v : Lane) (d : Device) : Device :=
  { d with lane := { d.lane with lanes := tset {} d.lane.lanes (laneKey ch l) v } }

def laneN (d : Device) (ch l code : Nat) : Nat := cfgN d 3 (laneKey ch l) code

/-- Filter span S_k and stamp offset G_k (R123). -/
def spanOf (k : Nat) : Nat := 84 * 2 ^ k - 21
def offsetOf (k : Nat) : Nat := 40 * 2 ^ k - 10

def laneK (d : Device) (ch l : Nat) : Nat := laneN d ch l 4
def laneD (d : Device) (ch l : Nat) : Nat := blockOf (laneK d ch l)

/-- Fault and event source of a lane (R145). -/
def laneFault (ch l : Nat) : Nat := 0x100 + 0x20 * ch + l

def laneEnabled (d : Device) (ch l : Nat) : Bool := laneN d ch l 1 == 1

/-- NCO phase word (R124). -/
def ncoPhase (freq phase i : Nat) : Nat := (freq * i + phase * 2 ^ 32) % 2 ^ 48

def recSettings (d : Device) (ch l : Nat) : RecSettings :=
  { mode := laneN d ch l 0x10, dec := laneN d ch l 0x11, avg := laneN d ch l 0x12, format := laneN d ch l 0x13,
    gate := laneN d ch l 0x14, hist := laneN d ch l 6, k := laneK d ch l }

/-- A lane sample meets a real-time stall of `depth` units of `size` samples (R18, R21): the stall behind it; the first lost index where a
run of discarded units ends; whether the stall has just filled. A unit whose first sample found a credit is taken whole; the stall
accepts again from a unit boundary, once half of it is free. -/
def rtPush (k size depth : Nat) (x : LaneSample) (s : RtStall LaneSample) : RtStall LaneSample × Option Nat × Bool :=
  let u (y : LaneSample) : Nat := y.stamp / (blockOf k * size)
  let occ := rtUnits k size s.items
  match s.discarding with
  | some f =>
    if x.stamp / blockOf k % size == 0 && decide (occ ≤ depth / 2) then ({ items := s.items ++ [x], discarding := none }, some f, false)
    else (s, none, false)
  | none =>
    let inside := match s.items.getLast? with
      | some y => y.present && u y == u x
      | none => false
    if !x.present || inside || decide (occ < depth) then ({ s with items := s.items ++ [x] }, none, false)
    else ({ s with discarding := some x.stamp }, none, true)

/-! ### The filter chain (R124-R126, R128, R130) -/

/-- The coefficients of the lanes. -/
def laneTaps : LaneTaps :=
  match Config.laneTaps with
  | some t => t.1
  | none => { stage0 := [], half := [] }

/-- The taps of the stages of a lane: stage 0, then k half-band stages (R126). -/
def laneStages (k : Nat) : List (List Int) := (List.range (k + 1)).map laneTaps.stage

/-- Mixer output for converter sample `x` at a phase word (R124), in units of 2^-62: the factor is cut to 62 fraction bits. -/
def mixSample (w : Nat) (x : Int) : Int × Int :=
  if x == 0 then (0, 0)
  else
    let p := phasor w
    (x * (p.1 / 2 ^ 98), -(x * (p.2 / 2 ^ 98)))

/-- One output of a stage: newest value first, values before the reset point are zero. -/
def firOutput (h : List Int) (line : List (Int × Int)) : Int × Int :=
  (h.zip line).foldl (fun acc e => (acc.1 + e.1 * e.2.1, acc.2 + e.1 * e.2.2)) (0, 0)

/-- The value with index `i` at the rate of the first of the stages enters it; a stage gives one output for every second value. The last
part is the output of the last stage, where one comes out. -/
def chainStep : List (List Int) → List (List (Int × Int)) → Nat → Int × Int → List (List (Int × Int)) × Option (Int × Int)
  | [], _, _, x => ([], some x)
  | h :: hs, lines, i, x =>
    let line := (x :: lines.headD []).take h.length
    if i % 2 == 1 then
      let r := chainStep hs lines.tail (i / 2) (firOutput h line)
      (line :: r.1, r.2)
    else (line :: lines.tail, none)

/-- Converter sample `i` enters the lane: behind a pause or a lost run the chain starts anew (R130). -/
def feedSample (stages : List (List Int)) (freq phase keep : Nat) (v : Lane) (i : Nat) (x : Int) : Lane :=
  let lines := if v.lost.any (fun r => r.2 == i) then [] else v.chain
  let r := chainStep stages lines i (mixSample (ncoPhase freq phase i) x)
  { v with
    chain := r.1, fed := i + 1, out := r.2.orElse (fun _ => v.out)
    recent := if keep == 0 then [] else v.recent.filter (fun e => decide (v.next ≤ e.1 + keep)) ++ [(i, x)] }

/-- Converter samples that a lane can take: those it kept, then those in stall 0x01, by index. -/
def samplesFor (c : Converter) (v : Lane) (lim : Nat) : List (Nat × Int) :=
  let beats := (c.stall.filter (fun b => decide (v.fed < b.1 + 16) && decide (b.1 < lim))).flatMap (fun b =>
    ((List.range 16).zip b.2).map (fun e => (b.1 + e.1, e.2.toInt)))
  let kept := v.recent.filter (fun e => decide (v.fed ≤ e.1) && decide (e.1 < lim))
  kept ++ beats.filter (fun e => decide (v.fed ≤ e.1) && decide (e.1 < lim) && !kept.any (fun x => x.1 == e.1))

/-- The lane takes samples into its filter while its block is incomplete and no token stands before the block. -/
def feedLane (ch l : Nat) (d : Device) : Device :=
  let v := laneAt d ch l
  if !laneEnabled d ch l || tokenWaits d (0x0300 + laneKey ch l) v.next || resetRuns d (laneFault ch l) then d
  else
    let k := laneK d ch l
    let keep := if 2 ^ epochExp d < blockOf k then blockOf k else 0
    let xs := samplesFor (converter d ch) v (v.next + blockOf k)
    let st := laneStages k
    setLane ch l (xs.foldl (fun v e => feedSample st (laneN d ch l 2) (laneN d ch l 3) keep v e.1 e.2) v) d

/-! ### Stall 0x01 (R19, R21) -/

/-- Boundary of the first token that a block has not adopted and that may change it. -/
def firstWaiting (d : Device) (block : Nat) : Option Nat :=
  (d.cfg.genAt.find? (fun e => decide (tget 0 d.cfg.adopted block < e.1))).map (fun e => epochStart d e.1)

/-- Up to where a lane has done with the samples of stall 0x01: what its filter has taken; a lane that is off needs those behind a token
that may switch it on. -/
def laneTaken (d : Device) (ch l : Nat) : Nat :=
  if laneEnabled d ch l && !resetRuns d (laneFault ch l) then max (laneAt d ch l).fed (laneAt d ch l).resetPoint
  else (firstWaiting d (0x0300 + laneKey ch l)).getD (2 ^ 65)

/-- Beats leave stall 0x01 once every lane of the channel has taken their samples. -/
def trimBeats (ch : Nat) (d : Device) : Device :=
  let d := (List.range 5).foldl (fun d l => feedLane ch l d) d
  let c := converter d ch
  let lim := listMin (2 ^ 65) ((List.range 5).map (laneTaken d ch))
  setConverter ch { c with stall := c.stall.dropWhile (fun b => decide (b.1 + 16 ≤ lim)) } d

/-- A run of converter samples is lost to every lane of the channel (R130). -/
def loseRun (ch first stop : Nat) (d : Device) : Device :=
  (runningLanes d ch).foldl (fun d l =>
    let v := laneAt d ch l
    setLane ch l { v with lost := v.lost ++ [(first, stop)] } d) d

/-- A beat enters stall 0x01, or is discarded while an overrun lasts (R21). The fault names the first running lane of the channel
as consumer. -/
def pushBeat (ch first : Nat) (codes : List (BitVec 12)) (d : Device) : Device :=
  let c := converter d ch
  if resetRuns d (convSource ch) then d else
  if (List.range 5).all (fun l => laneTaken d ch l == 2 ^ 65) then setConverter ch { c with stall := [], discarding := none } d
  else
    let l := (runningLanes d ch).headD 0
    match c.discarding with
    | some lost =>
      if c.stall.length ≤ 32 then
        let d := loseRun ch lost first (setConverter ch { c with discarding := none, stall := c.stall ++ [(first, codes)] } d)
        gapFor 0x01 lost (first - lost) d.cfg.generation [ch] (channelSource ch) d
      else d
    | none =>
      if c.stall.length < 64 then noteStall 0x01 ch (setConverter ch { c with stall := c.stall ++ [(first, codes)] } d)
      else raiseFault (plainFault (laneFault ch l) 1 1 0x01) (setConverter ch { c with discarding := some first } d)

/-- The beat at `first` lies behind a token that has not formed, or that the converter has not adopted (R24-R26). -/
def tokenDue (d : Device) (ch first : Nat) : Bool :=
  decide (epochStart d (nextToken d) ≤ first) || tokenWaits d (0x0200 + ch) first

/-- SAMPLE_DELIVERY: a beat of 16 samples (R95), zero codes on a disabled channel or below the start of R115. -/
def sampleDelivery (ch : Nat) (codes : List (BitVec 12)) (d : Device) : Device :=
  if !converting d || codes.length != 16 || tokenDue d ch (converter d ch).next then d
  else
    let c := converter d ch
    let first := c.next
    let zero := !convEnabled d ch || decide (first < c.zeroBelow)
    let cs := if zero then List.replicate 16 0 else codes
    let d := setConverter ch { c with next := (first + 16) % 2 ^ 64 } d
    let d := if zero then d else countOverrange ch first cs d
    let d := trimBeats ch (pushBeat ch first cs (trimBeats ch d))
    { d with sampleIndex := max d.sampleIndex (first + 16) % 2 ^ 64 }

/-! ### History buffer (R134, R142) -/

def histWrite (k m : Nat) (x : LaneSample) (v : Lane) : Lane :=
  if m == 0 then v
  else { v with
    hist := tset none v.hist (x.stamp / blockOf k % 2 ^ m) (some x),
    histNewest := some x.stamp, histFirst := some (v.histFirst.getD x.stamp) }

def emptyHist (v : Lane) : Lane := { v with hist := [], histNewest := none, histFirst := none }

/-- hist_oldest: the stamp of the oldest retained sample, none when the buffer is empty. -/
def histOldest (k m : Nat) (v : Lane) : Option Nat :=
  match v.histNewest, v.histFirst with
  | some n, some f => if m == 0 then none else some (max f (n - (2 ^ m - 1) * blockOf k))
  | _, _ => none

/-- A retained sample. -/
def histAt (k m : Nat) (v : Lane) (s : Nat) : Option LaneSample :=
  match histOldest k m v, v.histNewest with
  | some o, some n => if o ≤ s ∧ s ≤ n then tget none v.hist (s / blockOf k % 2 ^ m) else none
  | _, _ => none

/-! ### The sample grid (R128, R130, R131) -/

/-- Smallest multiple of D_k at or above an index. -/
def gridUp (k i : Nat) : Nat := ceilDiv i (blockOf k) * blockOf k

/-- The lane takes index `p` as its reset point (R130): samples before it count as zero, and the next lane sample is the first after
it. -/
def laneReset (k p : Nat) (v : Lane) : Lane :=
  { v with next := gridUp k p, resetPoint := p, resetStamp := gridUp k p, cut := some p,
           lost := v.lost.filter (fun r => decide (p < r.2)), chain := [], fed := p, out := none,
           recent := v.recent.filter (fun e => decide (p ≤ e.1)) }

/-- The stamp is not produced: it lies below the end of a lost run and its block reaches into the run (R130). -/
def inLostRun (d : Device) (ch : Nat) (v : Lane) (dk s : Nat) : Bool :=
  v.lost.any (fun r => decide (s < r.2) && decide (r.1 < s + dk))
    || (match (converter d ch).discarding with
        | some f => decide (f < s + dk)
        | none => false)

/-- The lane has the converter samples of its next block, and no token stands before them. -/
def laneReady (d : Device) (ch l : Nat) : Bool :=
  let v := laneAt d ch l
  laneEnabled d ch l && decide (v.next + laneD d ch l ≤ (converter d ch).next) && !tokenWaits d (0x0300 + laneKey ch l) v.next
    && d.power.state != .sleep && !resetRuns d (laneFault ch l)

/-- Value of one component (R132): v = y × 16 × 2^gain rounded to nearest even and saturated; y is given in units of 2^-62 for the
mixer and for each stage. -/
def laneScale (k gain : Nat) (y : Int) : Int × Bool :=
  let v := roundHalfEven (y * 16 * (2 ^ gain : Nat)) (2 ^ (62 * (k + 2)))
  (clampInt (-32768) 32767 v, decide (v < -32768) || decide (32767 < v))

/-- Count a saturated sample (R132, R133) and raise the event at the first one of an epoch (R145). Epochs below the record path are
forgotten. -/
def countSaturation (ch l stamp : Nat) (d : Device) : Device :=
  let v := laneAt d ch l
  let e := stamp / 2 ^ epochExp d
  let old := min v.recNext v.next / 2 ^ epochExp d
  let d := setLane ch l { v with
    satCount := v.satCount + 1
    satEpochs := if v.satEpochs.contains e then v.satEpochs else v.satEpochs.filter (fun x => decide (old ≤ x)) ++ [e] } d
  if v.satEpochs.contains e then d else raiseEvent (laneFault ch l) 1 stamp 0 d

/-- The next sample of a lane (R128-R132) and the lane behind it: a placeholder where the stamp is not produced. -/
def computeSample (ch l : Nat) (d : Device) : LaneSample × Device :=
  let d := feedLane ch l d
  let v := laneAt d ch l
  let k := laneK d ch l
  let s := v.next
  let gen := blockGeneration d (0x0300 + laneKey ch l)
  if inLostRun d ch v (blockOf k) s then
    ({ lane := laneKey ch l, stamp := s, i := 0, q := 0, settling := false, saturated := false, present := false, cut := none
       gain := laneN d ch l 5, gen := gen },
      setLane ch l { v with next := s + blockOf k, out := none } d)
  else
    let passed := v.lost.filter (fun r => decide (r.2 ≤ s))
    let point := (passed.map (·.2)).foldl max v.resetPoint
    let settling := decide (s + blockOf k < spanOf k + point)
    let y := v.out.getD (0, 0)
    let g := laneN d ch l 5
    let i := laneScale k g y.1
    let q := laneScale k g y.2
    let sat := i.2 || q.2
    let d := setLane ch l { v with
      next := s + blockOf k, lost := v.lost.filter (fun r => decide (s < r.2)), resetPoint := point,
      resetStamp := if passed.isEmpty then v.resetStamp else s, cut := none, out := none } d
    ({ lane := laneKey ch l, stamp := s, i := i.1, q := q.1, settling := settling, saturated := sat, present := true,
       cut := if passed.isEmpty then v.cut else some point, gain := g, gen := gen },
      if sat then countSaturation ch l s d else d)

def execSampleDelivery (ch : Fin 4) (codes : List (BitVec 12)) (s : State) : Host.Outcome State Fault Refusal :=
  act (sampleDelivery ch.val codes) s

end Sys2Proof.Machine
end

