-- ==== Sys2Proof/Machine/RecordPath.lean ====
section
/-! DEFINITION. The record path of a lane: deciding stamps, averaging, SAMPLES records, record windows, and what a token does to a
lane (R131, R133, R135-R139, R142, R281, R282, R622). -/

namespace Sys2Proof.Machine

/-- A value of the trigger sequencer's main instance (R216). -/
def trigN (d : Device) (code : Nat) : Nat := cfgN d 5 0 code

/-- lat_env of a lane (R198). -/
def latEnv (k : Nat) : Nat := offsetOf k + 2 * blockOf k + 1183 + 16 * (56 + 2 * k)

/-- H_eff (R208). -/
def effHorizon (d : Device) (k : Nat) : Nat := if trigN d 1 == 0 then trigN d 2 else latEnv k

def winN (d : Device) (w f : Nat) : Nat := trigN d (0x3000 + 0x10 * w + f)

/-- The lane is in the lanes mask of a window (R216). -/
def winHasLane (d : Device) (w ch l : Nat) : Bool := bit (winN d w 0) (ch * 5 + l)

/-- L of R622: 0 without a history buffer. -/
def decisionLag (d : Device) (ch l : Nat) (r : RecSettings) : Nat :=
  if r.gate == 1 && r.hist != 0 then
    effHorizon d r.k + ((List.range 8).map (fun w => if winHasLane d w ch l then winN d w 1 else 0)).foldl max 0
  else 0

/-- Settings under which a stamp is decided. -/
def settingsAt (d : Device) (ch l s : Nat) : RecSettings :=
  match (laneAt d ch l).recOld.find? (fun e => decide (s < e.1)) with
  | some e => e.2
  | none => recSettings d ch l

/-- Spacing of record-path samples (R137). -/
def recSpacing (r : RecSettings) : Nat := blockOf r.k * (if r.mode == 2 then 2 ^ r.avg else r.dec)

/-! ### SAMPLES records (R281, R282) -/

/-- One sample in the record format (R133). -/
def pointBytes (format : Nat) (p : RecPoint) : List Byte :=
  if format == 1 then leBytes 3 (unsigned 12 p.i + unsigned 12 p.q * 4096) else leInt 2 p.i ++ leInt 2 p.q

/-- Groups of 64 samples that hold a saturated one. -/
def satGroups (ps : List RecPoint) : Nat :=
  maskOf 64 (fun g => ((ps.drop (64 * g)).take 64).any (·.saturated))

/-- Payload of a SAMPLES record (R282). -/
def samplesPayload (o : OpenRec) : List Byte :=
  let r := o.settings
  let n := o.points.length
  let zero : RecPoint := { stamp := 0, i := 0, q := 0, settling := false, saturated := false, windows := 0, pre := false }
  leBytes 1 r.format ++ leBytes 1 r.mode ++ leBytes 1 r.k ++ leBytes 1 (if r.mode == 2 then r.avg else 0)
    ++ leBytes 4 n ++ leBytes 8 o.spacing ++ leBytes 2 (o.points.takeWhile (·.settling)).length
    ++ leBytes 2 (boolN (o.points.any (·.settling)) + 2 * boolN (o.points.any (·.saturated)) + 4 * r.gate
        + 8 * boolN (o.points.any (·.pre)))
    ++ leBytes 1 ((o.points.map (·.windows)).foldl (· ||| ·) 0) ++ zeroBytes 3 ++ leBytes 8 (satGroups o.points)
    ++ (o.points ++ List.replicate (ceilDiv n 64 * 64 - n) zero).flatMap (pointBytes r.format)

/-- The open SAMPLES record closes and is emitted. -/
def closeRecord (ch l : Nat) (d : Device) : Device :=
  let v := laneAt d ch l
  match v.openRec with
  | none => d
  | some o =>
    let d := setLane ch l { v with openRec := none } d
    match o.points with
    | [] => d
    | p :: _ =>
      emitRec { type := 0x01, source := laneSource ch l, flags := headerFlags d [ch], firstIndex := p.stamp,
                generation := o.gen, payload := samplesPayload o } d

/-- A component as the record holds it (R133): packed values are rounded and saturated again. -/
def packValue (format : Nat) (v : Int) : Int × Bool :=
  if format == 1 then
    let q := roundHalfEven v 16
    (clampInt (-2048) 2047 q, decide (2047 < q) || decide (q < -2048))
  else (v, false)

/-- A record-path sample joins the open record, or a new one where it does not follow it (R281). -/
def addPoint (ch l : Nat) (r : RecSettings) (gen : BitVec 32) (p : RecPoint) (d : Device) : Device :=
  let i := packValue r.format p.i
  let q := packValue r.format p.q
  let sat := i.2 || q.2
  let d := if sat then countSaturation ch l p.stamp d else d
  let p := { p with i := i.1, q := q.1, saturated := p.saturated || sat }
  let sp := recSpacing r
  let follows := match (laneAt d ch l).openRec with
    | some o => o.gen == gen && o.settings == r &&
        (match o.points.getLast? with
         | some x => x.stamp + sp == p.stamp
         | none => false)
    | none => false
  let d := if follows then d else closeRecord ch l d
  let v := laneAt d ch l
  let o := v.openRec.getD { settings := r, spacing := sp, gen := gen, points := [] }
  let o := { o with points := o.points ++ [p] }
  let n := o.points.length
  let d := setLane ch l { v with openRec := some o } d
  if n == 4096 || (n % 64 == 0 && decide (65536 ≤ n * sp)) then closeRecord ch l d else d

/-- The partial averaging block is discarded, with the GAP record of cause 0x05 at a token (R138). -/
def cutBlock (ch l : Nat) (gap : Bool) (d : Device) : Device :=
  let v := laneAt d ch l
  match v.block with
  | [] => d
  | x :: _ =>
    let span := v.block.length * blockOf (settingsAt d ch l x.1.stamp).k
    let d := setLane ch l { v with block := [] } d
    if gap then
      gapFor 0x05 x.1.stamp span x.1.gen [ch] (fun s => s == laneSource ch l) d
    else d

/-! ### Deciding a stamp (R136, R139, R622) -/

/-- Windows that cover a stamp, and whether every one of them was opened after it. -/
def coverOf (v : Lane) (s : Nat) : Nat × Bool :=
  let ws := v.wins.filter (fun w => decide (w.start ≤ s) && (match w.stop with
    | some t => decide (s < t)
    | none => true))
  (maskOf 8 (fun n => ws.any (fun w => w.window == n)), !ws.isEmpty && ws.all (fun w => decide (s < w.opened)))

/-- The averaging block has all its lane samples: one record-path sample (R136, R137, R139). -/
def finishBlock (ch l : Nat) (r : RecSettings) (d : Device) : Device :=
  let v := laneAt d ch l
  match v.block with
  | [] => d
  | x :: _ =>
    let b := v.block
    let d := setLane ch l { v with block := [] } d
    let mask := (b.map (·.2.1)).foldl (· ||| ·) 0
    if r.gate == 1 && mask == 0 then d
    else
      addPoint ch l r x.1.gen
        { stamp := x.1.stamp,
          i := roundHalfEven ((b.map (·.1.i)).foldl (· + ·) 0) (2 ^ r.avg),
          q := roundHalfEven ((b.map (·.1.q)).foldl (· + ·) 0) (2 ^ r.avg),
          settling := b.any (·.1.settling), saturated := b.any (·.1.saturated), windows := mask,
          pre := b.any (·.2.2) } d

/-- A produced lane sample reaches the record path: kept, averaged or left out (R136, R139). -/
def takeSample (ch l : Nat) (r : RecSettings) (x : LaneSample) (d : Device) : Device :=
  let d := if x.cut.isSome then cutBlock ch l false (closeRecord ch l d) else d
  let v := laneAt d ch l
  let c := coverOf v x.stamp
  let g := x.stamp / blockOf r.k
  let pre := c.2 && r.gate == 1 && r.hist != 0
  if r.mode == 1 then
    if g % r.dec == 0 && (r.gate == 0 || c.1 != 0) then
      addPoint ch l r x.gen { stamp := x.stamp, i := x.i, q := x.q, settling := x.settling, saturated := x.saturated,
                              windows := c.1, pre := pre } d
    else d
  else
    let at0 := g % 2 ^ r.avg == 0
    let follows := match v.block.getLast? with
      | some y => y.1.stamp + blockOf r.k == x.stamp
      | none => false
    if at0 then
      setLane ch l { v with block := [(x, c.1, pre)] } d
    else if follows then
      let b := v.block ++ [(x, c.1, pre)]
      let d := setLane ch l { v with block := b } d
      if b.length == 2 ^ r.avg then finishBlock ch l r d else d
    else setLane ch l { v with block := [] } d

/-- Samples asked for that were no longer retained: one GAP record and the event (R135, R208). -/
def flushUnserved (ch l : Nat) (d : Device) : Device :=
  let v := laneAt d ch l
  match v.unserved with
  | none => d
  | some u =>
    let d := setLane ch l { v with unserved := none } d
    let d := { d with trig := { d.trig with historyShort := true } }
    let d := gapFor 0x04 u (v.recNext - u) (blockGeneration d (0x0300 + laneKey ch l)) [ch]
      (fun s => s == laneSource ch l) d
    raiseEvent 0x1C3 2 u 0 (raiseEvent (laneFault ch l) 2 u 0 d)

/-- The record path passes the boundaries that lie at or below its next stamp (R138): the partial block is cut, the record ends. -/
def crossTokens (ch l : Nat) : Nat → Device → Device
  | 0, d => d
  | n + 1, d =>
    let v := laneAt d ch l
    match v.recOld with
    | [] => d
    | (b, _) :: rest =>
      if v.recNext < b then d
      else
        let d := cutBlock ch l true (closeRecord ch l d)
        let d := setLane ch l { laneAt d ch l with recOld := rest } d
        let k := (settingsAt d ch l b).k
        let d := setLane ch l { laneAt d ch l with recNext := gridUp k b } d
        crossTokens ch l n d

/-- The open record ends where the record-path sample that would follow it has been decided and is not there: at a window edge or a
lost run (R281). -/
def endRecord (ch l : Nat) (d : Device) : Device :=
  let v := laneAt d ch l
  match v.openRec with
  | none => d
  | some o => match o.points.getLast? with
    | none => d
    | some x =>
      let last := if o.settings.mode == 2 then o.spacing else blockOf o.settings.k
      if x.stamp + o.spacing + last ≤ v.recNext then closeRecord ch l d else d

/-- Advance past the stamp just decided; windows that ended below it are forgotten. -/
def passStamp (ch l : Nat) (r : RecSettings) (d : Device) : Device :=
  let v := laneAt d ch l
  let n := v.recNext + blockOf r.k
  endRecord ch l (setLane ch l { v with recNext := n, wins := v.wins.filter (fun w => match w.stop with
    | some t => decide (n < t)
    | none => true) } d)

/-- Aligned 64-sample block of a stamp (R135). -/
def histBlock (k s : Nat) : Nat := s / (blockOf k * 64)

/-- The read reaches stamp `s` (R134, R135): the sample, from the block taken when the read reached it, else from the buffer; with it the
samples of its block that are retained are taken. -/
def readHist (r : RecSettings) (v : Lane) (s : Nat) : Option LaneSample × Lane :=
  if s < v.lostBelow then (none, v)
  else match v.readBlock.find? (fun x => x.stamp == s) with
    | some x => (some x, v)
    | none =>
      match histAt r.k r.hist v s with
      | some x =>
        let block := (List.range 64).filterMap (fun j => histAt r.k r.hist v (s + j * blockOf r.k))
        (some x, { v with readBlock := block.filter (fun y => histBlock r.k y.stamp == histBlock r.k s) })
      | none =>
        -- a read that has served the stamp before finds the block overwritten: the whole block is lost
        let reading := v.readBlock.any (fun x => x.stamp + blockOf r.k == s)
        (none, { v with readBlock := [], lostBelow := if reading then (histBlock r.k s + 1) * blockOf r.k * 64 else v.lostBelow })

/-- Decide the next stamp from the history buffer (R134, R135). -/
def decideHistory (ch l : Nat) (r : RecSettings) (d : Device) : Device :=
  let s := (laneAt d ch l).recNext
  let x := readHist r (laneAt d ch l) s
  let v := x.2
  let d := setLane ch l v d
  match x.1 with
  | none =>
    let d := if (coverOf v s).1 != 0 then setLane ch l { v with unserved := some (v.unserved.getD s) } d
      else flushUnserved ch l d
    passStamp ch l r d
  | some x =>
    let d := flushUnserved ch l d
    passStamp ch l r (if x.present then takeSample ch l r x d else d)

/-- Decide the next stamp from stall 0x04: a stamp that is not there was lost. -/
def decideStall (ch l : Nat) (r : RecSettings) (d : Device) : Device :=
  let v := laneAt d ch l
  match v.recStall.items with
  | [] => if v.recStall.discarding.isSome then d else passStamp ch l r d
  | x :: rest =>
    if x.stamp == v.recNext then
      let d := setLane ch l { v with recStall := { v.recStall with items := rest } } d
      passStamp ch l r (if x.present then takeSample ch l r x d else d)
    else if x.stamp < v.recNext then setLane ch l { v with recStall := { v.recStall with items := rest } } d
    else passStamp ch l r d

/-- STAMP_DECIDE: the next stamp, once the lane has advanced by L (R622). -/
def stampDecide (ch l : Nat) (d : Device) : Device :=
  if resetRuns d (laneFault ch l) then d else
  let d := crossTokens ch l (laneAt d ch l).recOld.length d
  let v := laneAt d ch l
  let r := settingsAt d ch l v.recNext
  let lag := decisionLag d ch l r
  if laneEnabled d ch l && decide (v.next < v.recNext + lag + blockOf r.k) then d
  else if v.next ≤ v.recNext then d
  else if r.mode == 0 then
    let stop := match v.recOld with
      | (b, _) :: _ => max v.recNext (min v.next b)
      | [] => v.next
    setLane ch l { v with recNext := stop, wins := v.wins.filter (fun w => match w.stop with
      | some t => decide (stop < t)
      | none => true) } d
  else if r.gate == 1 && r.hist != 0 then decideHistory ch l r d
  else decideStall ch l r d

/-! ### Window actions (R206, R622) -/

/-- A RECORD_OPEN for instant `t` reaches the record path of a lane. -/
def openOnLane (w t ch l : Nat) (d : Device) : Device :=
  let v := laneAt d ch l
  let r := settingsAt d ch l v.recNext
  let bound := t - winN d w 1
  let d := setLane ch l { v with wins := v.wins ++ [{ window := w, start := max bound v.recNext, opened := t, stop := none }] } d
  if bound < v.recNext && r.mode != 0 && r.hist != 0 && r.gate == 1 then
    gapFor 0x0D bound (v.recNext - bound) (blockGeneration d (0x0300 + laneKey ch l)) [ch]
      (fun s => s == laneSource ch l) d
  else d

/-- A RECORD_CLOSE at instant `t` reaches the record path of a lane: the window ends there, or at the first stamp not decided. -/
def closeOnLane (w t ch l : Nat) (d : Device) : Device :=
  let v := laneAt d ch l
  setLane ch l { v with wins := v.wins.map (fun x =>
    if x.window == w && x.stop.isNone then { x with stop := some (max t v.recNext) } else x) } d

def allLanes : List (Nat × Nat) := (List.range 4).flatMap (fun ch => (List.range 5).map (fun l => (ch, l)))

/-- ACTION_ARRIVAL: the oldest window action in stall 0x09 reaches the record paths. -/
def actionArrival (d : Device) : Device :=
  match d.trig.actions.find? (fun a => match a with
    | .jump .. => false
    | _ => true) with
  | none => d
  | some a =>
    let rest := d.trig.actions.erase a
    let d := { d with trig := { d.trig with
      actions := rest, actionsFull := d.trig.actionsFull && decide (128 < rest.length) } }
    match a with
    | .open ws t => ws.foldl (fun d w =>
        (allLanes.filter (fun x => winHasLane d w x.1 x.2)).foldl (fun d x => openOnLane w t x.1 x.2 d) d) d
    | .close ws t => ws.foldl (fun d w => allLanes.foldl (fun d x => closeOnLane w t x.1 x.2 d) d) d
    | .jump .. => d

/-! ### Tokens and resets -/

/-- SYNC (R96, R138, R493): open records end, partial blocks are dropped, the count restarts at 0 and the buffer is empty. -/
def laneSync (ch l : Nat) (d : Device) : Device :=
  let d := cutBlock ch l false (closeRecord ch l d)
  let v := laneAt d ch l
  setLane ch l (emptyHist { v with
    next := 0, resetPoint := 0, resetStamp := 0, cut := none, lost := [], chain := [], fed := 0, out := none, recent := []
    histStall := {}, envStall := {}, recStall := {}, recNext := 0, recOld := [], wins := [], unserved := none, readBlock := []
    lostBelow := 0, satEpochs := [] }) d

/-- The lane adopts a token for boundary `b` (R131, R138, R142): `codes` are the field codes that change, `old` the record-path
settings before it. Active values are the new ones already. -/
def laneAdopt (ch l b : Nat) (old : RecSettings) (codes : List Nat) (d : Device) : Device :=
  if codes.isEmpty then d
  else
    let v := laneAt d ch l
    let v := { v with recOld := v.recOld ++ [(b, old)] }
    let v := if codes.any (fun c => c == 6 || c == 4 || c == 1) then emptyHist v else v
    let v := if codes.any (fun c => c == 1 || c == 2 || c == 3 || c == 4) then laneReset (laneK d ch l) b v
      else { v with cut := some b }
    setLane ch l v d

/-- A pre-window read of the history buffer ends: the stamps asked for that the lane has produced are unserved (R135, R144). -/
def endHistoryRead (ch l : Nat) (d : Device) : Device :=
  let v := laneAt d ch l
  let r := settingsAt d ch l v.recNext
  if r.mode == 0 || r.gate != 1 || r.hist == 0 || v.next ≤ v.recNext then d
  else
    let asked := ((List.range ((v.next - v.recNext) / blockOf r.k)).map (fun j => v.recNext + j * blockOf r.k)).find?
      (fun s => (coverOf v s).1 != 0)
    let first := v.unserved.orElse (fun _ => asked)
    flushUnserved ch l (setLane ch l { v with unserved := first, recNext := v.next, readBlock := [] } d)

/-- A stall that feeds the envelope units is discarded: what stands for its samples says that they are lost. -/
def dropEnvStall (s : RtStall LaneSample) : RtStall LaneSample :=
  { items := (s.items.take 1).map (fun x => { x with present := false, cut := none }) }

/-- BLOCK_RESET of a lane (R34, R144): its output stalls are discarded and a pre-window read ends; the history buffer stays. -/
def resetLaneBlock (ch l : Nat) (d : Device) : Device :=
  let d := endHistoryRead ch l (cutBlock ch l false (closeRecord ch l d))
  let v := laneAt d ch l
  setLane ch l { v with recStall := {}, histStall := {}, envStall := dropEnvStall v.envStall, chain := [], out := none, recent := [] } d

def execStampDecide (ch : Fin 4) (lane : Fin 5) (s : State) : Host.Outcome State Fault Refusal :=
  act (stampDecide ch.val lane.val) s
def execActionArrival (s : State) : Host.Outcome State Fault Refusal := act actionArrival s

end Sys2Proof.Machine
end

