-- ==== Sys2Proof/Machine/Spectral.lean ====
section
/-! DEFINITION. The spectral engine: frames, detectors, averages, TRACE and BINS records, WINDOW_LOAD
(06_spectral_engine.md). -/

namespace Sys2Proof.Machine

def slotKey (ch n : Nat) : Nat := ch * 4 + n

def slotAt (d : Device) (key : Nat) : Slot := tget {} d.spec.slots key

def setSlot (key : Nat) (v : Slot) (d : Device) : Device :=
  { d with spec := { d.spec with slots := tset {} d.spec.slots key v } }

def slotN (d : Device) (key code : Nat) : Nat := cfgN d 4 key code

def slotEnabled (d : Device) (key : Nat) : Bool := slotN d key 1 == 1

/-- Event and fault source of a slot (R177). -/
def slotFault (key : Nat) : Nat := 0x108 + 0x20 * (key / 4) + key % 4

/-- The settings of a slot and of its lane as they stand (R30). -/
def slotCtx (d : Device) (key : Nat) : SlotCtx :=
  let l := slotN d key 2
  let behind (code : Nat) : Nat := (valueBehind d (0x0400 + key) (cfgKey 3 (key / 4 * 8 + l) code)).toNat
  { lane := l, fft := slotN d key 3, hop := slotN d key 4, window := slotN d key 5, store := slotN d key 6,
    detector := slotN d key 7, traceLen := slotN d key 8, traceFirst := slotN d key 9, traceSpan := slotN d key 0xA,
    avgMode := slotN d key 0xB, avgCount := slotN d key 0xC, avgExp := slotN d key 0xD, format := slotN d key 0xE,
    binsDecim := slotN d key 0xF, k := behind 4, nco := behind 2, gain := behind 5,
    gen := blockGeneration d (0x0400 + key), origin := (slotAt d key).origin, blockFrom := (slotAt d key).blockFrom }

/-- Bins of the trace span (R160). -/
def traceBins (c : SlotCtx) : Nat := if c.traceSpan == 0 then 2 ^ c.fft else c.traceSpan

/-- Stamp distance of consecutive frames, and of the first and last sample of a frame (R148). -/
def hopLen (c : SlotCtx) : Nat := 2 ^ c.hop * blockOf c.k
def frameLen (c : SlotCtx) : Nat := (2 ^ c.fft - 1) * blockOf c.k

def frameNumber (c : SlotCtx) (f : Nat) : Nat := (f - c.origin) / hopLen c

def frameCentre (c : SlotCtx) (f : Nat) : Nat := f + 2 ^ (c.fft - 1) * blockOf c.k - offsetOf c.k

/-! ### Stall 0x02 -/

/-- A lane sample that an open frame, or a frame still to open, needs; one behind a token that the slot has not adopted is needed by the
new context. -/
def slotKeeps (d : Device) (key : Nat) (v : Slot) (x : LaneSample) : Bool :=
  v.old.any (fun f => f.2.lane == x.lane % 8 && decide (f.1 ≤ x.stamp) && decide (x.stamp ≤ f.1 + frameLen f.2))
    || (slotEnabled d key && slotN d key 2 == x.lane % 8 && decide (v.next ≤ x.stamp))
    || tokenWaits d (0x0400 + key) x.stamp

def trimSlot (d : Device) (key : Nat) (v : Slot) : Slot :=
  { v with
    stall := { v.stall with items := v.stall.items.filter (slotKeeps d key v) }
    pauses := v.pauses.filter (fun p => decide (listMin v.next (v.old.map (·.1)) ≤ p)) }

/-- Frames of a slot whose last lane sample has stamp `t` and comes from lane `l`: those of old contexts, and one of the present grid. -/
def framesEnding (d : Device) (key l t : Nat) : Nat :=
  let v := slotAt d key
  let c := slotCtx d key
  let started := decide (v.next + frameLen c ≤ t) && (t - frameLen c - v.next) % hopLen c == 0
  (v.old.filter (fun f => f.2.lane == l && f.1 + frameLen f.2 == t)).length
    + boolN (slotEnabled d key && !v.floating && c.lane == l && started && !tokenWaits d (0x0400 + key) (t - frameLen c))

/-- Frames become complete: the engine takes them in this order (R168). -/
def noteComplete (key n : Nat) (d : Device) : Device :=
  { d with spec := { d.spec with order := tmod [] d.spec.order (key / 4) (fun l => l ++ List.replicate n (key % 4)) } }

/-- The frames of a slot have left the engine's order. -/
def forgetComplete (key : Nat) (d : Device) : Device :=
  { d with spec := { d.spec with order := tmod [] d.spec.order (key / 4) (fun l => l.filter (fun x => x != key % 4)) } }

/-- A lane sample reaches stall 0x02 of a slot (R147). After WAKE or a reset of the engine the grid starts at the first lane sample that
is received (R149). -/
def feedSlot (key : Nat) (x : LaneSample) (d : Device) : Device :=
  if resetRuns d (0x108 + 0x20 * (key / 4)) then d else
  let v := slotAt d key
  let v := if v.floating && x.present && slotEnabled d key && slotN d key 2 == x.lane % 8 then { v with origin := x.stamp, next := x.stamp, blockFrom := 0, floating := false } else v
  let v := trimSlot d key { v with newest := tset none v.newest (x.lane % 8) (some x.stamp) }
  let d := setSlot key v d
  if !slotKeeps d key v x || v.floating then d
  else
    let r := rtPush (laneK d (key / 4) (x.lane % 8)) 64 3072 x v.stall
    let d := setSlot key { v with stall := r.1 } d
    let d := match r.2.1 with
      | some f => gapFor 0x01 f (x.stamp - f) d.cfg.generation [key / 4]
          (fun s => s == slotSource (key / 4) (key % 4)
            || (s / 4096 == 3 && s % 4096 / 2 == key / 4 && cfgN d 7 (s % 4096) 2 == key % 4)) d
      | none => d
    let d := if r.2.2 then raiseFault (plainFault (slotFault key) 1 1 0x02) d else d
    noteComplete key (framesEnding d key (x.lane % 8) x.stamp) d

/-- A slot reads a lane at a stamp: bound to it by its active context, by one whose frames are not done, or by that of the stamp's epoch. -/
def slotReads (d : Device) (key l stamp : Nat) : Bool :=
  let e := stamp / 2 ^ epochExp d
  (slotEnabled d key && slotN d key 2 == l) || (slotAt d key).old.any (fun f => f.2.lane == l)
    || (valueIn d e (cfgKey 4 key 1) == 1 && (valueIn d e (cfgKey 4 key 2)).toNat == l)

/-- Slots that a sample of a lane reaches. -/
def boundSlots (d : Device) (ch l stamp : Nat) : List Nat := ((List.range 4).map (slotKey ch)).filter (fun key => slotReads d key l stamp)

/-- A spectrum meets a real-time stall of `depth` spectra (R18, R21), as a lane sample does one of lane samples. A spectrum that was not
computed takes no room. -/
def spectrumPush (depth : Nat) (x : Spectrum) (s : RtStall Spectrum) : RtStall Spectrum × Option Nat × Bool :=
  let occ := (s.items.filter (·.computed)).length
  match s.discarding with
  | some f => if occ ≤ depth / 2 then ({ items := s.items ++ [x], discarding := none }, some f, false) else (s, none, false)
  | none =>
    if !x.computed || decide (occ < depth) then ({ s with items := s.items ++ [x] }, none, false)
    else ({ s with discarding := some x.stamp }, none, true)

/-! ### Windows (R153, R154) -/

/-- exp (-n / m) for n at most 4 m, in units of 2^-160: eighty terms of the series. -/
def expMinus (n m : Nat) : Int :=
  ((List.range 80).foldl (fun (s : Int × Int) i => (s.1 + s.2, -(s.2 * (n : Int) / ((m * (i + 1) : Nat) : Int)))) (0, phasorOne)).1

/-- I0 (2 sqrt (n / m)), in units of 2^-160: the sum of (n / m)^i / (i!)^2 to a hundred terms. -/
def besselI0 (n m : Nat) : Nat :=
  ((List.range 100).foldl (fun (s : Nat × Nat) i => (s.1 + s.2, s.2 * n / (m * (i + 1) ^ 2))) (0, 2 ^ phasorBits)).1

/-- Cosine series of R153: terms a_m cos (2 pi m n / N) with a_m in units of 10^-9; the coefficient rounded to 2^-16. -/
def cosineWindow (as : List Int) (lg n : Nat) : Int :=
  let cosTerm (m : Nat) : Int := (phasor (m * n * 2 ^ (48 - lg) % 2 ^ 48)).1
  roundHalfEven ((((List.range as.length).zip as).map (fun e => e.2 * cosTerm e.1)).foldl (· + ·) 0 * 65536)
    (1000000000 * 2 ^ phasorBits)

/-- Coefficient n of a built-in window for N = 2^lg, in units of 2^-16 (R153, R154): rounded to nearest, ties to even. -/
def builtinCoefficient (code lg n : Nat) : Int :=
  let size : Nat := 2 ^ lg
  -- |2 n - N|: x = 2 n / N - 1 in units of 1 / N
  let x : Nat := (((2 * n : Nat) : Int) - ((2 ^ lg : Nat) : Int)).natAbs
  match code with
  | 0 => 65536
  | 1 => cosineWindow [500000000, -500000000] lg n
  | 2 => cosineWindow [540000000, -460000000] lg n
  | 3 => cosineWindow [358750000, -488290000, 141280000, -11680000] lg n
  | 4 => cosineWindow [215578950, -416631580, 277263158, -83578947, 6947368] lg n
  | 5 => roundHalfEven (expMinus (25 * x ^ 2) (8 * size ^ 2) * 65536) (2 ^ phasorBits)
  | 6 => roundHalfEven ((besselI0 (9 * (size ^ 2 - x ^ 2)) (size ^ 2) * 65536 : Nat) : Int) (besselI0 9 1)
  | _ => roundHalfEven ((besselI0 (169 * (size ^ 2 - x ^ 2)) (4 * size ^ 2) * 65536 : Nat) : Int) (besselI0 169 4)

/-- The N coefficients of the slot's window: built-in, or the user table that win_store selects. -/
def windowOf (d : Device) (c : SlotCtx) : List Int :=
  if c.window == 8 then tget [] d.spec.windows c.store else (List.range (2 ^ c.fft)).map (builtinCoefficient c.window c.fft)

def sumInt (l : List Int) : Int := l.foldl (· + ·) 0

def sumSquares (l : List Int) : Nat := (l.map (fun x => x.natAbs ^ 2)).foldl (· + ·) 0

/-- 2^16 × ENBW of coefficients, rounded to nearest even (R156, R161). -/
def enbwUnits (w : List Int) : Nat := (roundHalfEven ((65536 * w.length * sumSquares w : Nat) : Int) ((sumInt w).natAbs ^ 2)).toNat

/-- E of R161: 2^16 × ENBW of the slot's window at its N. -/
def enbwOf (d : Device) (c : SlotCtx) : Nat := enbwUnits (windowOf d c)

/-! ### Transform (R157, R159) -/

/-- Elements at even places. -/
def evens : List α → List α
  | [] => []
  | [x] => [x]
  | x :: _ :: l => x :: evens l

/-- Discrete Fourier transform of 2^m values: bin k is the sum of z[n] exp (-j 2 pi n k / 2^m), in units of 2^-160 where the values are. -/
def dft : Nat → List (Int × Int) → List (Int × Int)
  | 0, l => l
  | m + 1, l =>
    let e := dft m (evens l)
    let o := dft m (evens l.tail)
    let t := ((List.range (2 ^ m)).zip o).map (fun x => phasorMul (phasor ((2 ^ 48 - x.1 * 2 ^ (47 - m)) % 2 ^ 48)) x.2)
    (e.zip t).map (fun x => (x.1.1 + x.2.1, x.1.2 + x.2.2)) ++ (e.zip t).map (fun x => (x.1.1 - x.2.1, x.1.2 - x.2.2))

/-- The exact complex bins C of R157 in units of 2^-149, bin 0 at -f_lane / 2. -/
def exactBins (c : SlotCtx) (w : List Int) (xs : List LaneSample) : List (Int × Int) :=
  let z := (w.zip xs).map (fun e => (e.1 * e.2.i * phasorOne, e.1 * e.2.q * phasorOne))
  let x := dft c.fft z
  let a : Int := 16384 * 2 ^ c.gain * sumInt w * 2 ^ 11
  (x.drop (2 ^ (c.fft - 1)) ++ x.take (2 ^ (c.fft - 1))).map (fun v => (v.1 / a, v.2 / a))

/-- Greatest amplitude error, 0.005 dB, as a number of units of 2^-40 of the amplitude (10^(0.005 / 20) - 1 = 5.758 × 10^-4), and greatest
error of a component: -165 dB of full scale, 10^(-8.25) / sqrt 2 = 3.976 × 10^-9, in units of 2^-149 (R159). -/
def amplitudeBound : Int := 632500000
def noiseBound : Int := 3976 * 2 ^ 149 / 1000000000000

/-- A bin as the engine's arithmetic gives it: the exact one, changed by no more than R159 allows. -/
def arithmeticBin (fresh b : Nat) (x : Int × Int) : Int × Int :=
  let e := Config.transformError fresh b
  let g := 2 ^ 40 + clampInt (-amplitudeBound) amplitudeBound e.1
  (x.1 * g / 2 ^ 40 + clampInt (-noiseBound) noiseBound e.2.1, x.2 * g / 2 ^ 40 + clampInt (-noiseBound) noiseBound e.2.2)

/-- The complex bins of a frame. -/
def spectrumBins (fresh : Nat) (c : SlotCtx) (w : List Int) (xs : List LaneSample) : List (Int × Int) :=
  let l := exactBins c w xs
  ((List.range l.length).zip l).map (fun e => arithmeticBin fresh e.1 e.2)

/-! ### Detectors (R160, R161) -/

/-- P of each bin in binary32 units, from the complex bins. -/
def binPower (c : Int × Int) : Nat := f32Round (c.1.natAbs ^ 2 + c.2.natAbs ^ 2) f32One

def sumF32 (l : List Nat) : Nat := l.foldl (fun a x => f32Round (a + x) 1) 0

/-- A sum or power divided by enbw = E × 2^-16 (R161). -/
def divEnbw (v e : Nat) : Nat := f32Round (v * 65536) (f32Round e 1)

/-- One trace point from the powers of its bins. -/
def detectPoint (det e : Nat) (ps : List Nat) : Nat :=
  match det with
  | 0 => ps.foldl max 0
  | 1 => listMin (ps.headD 0) ps
  | 2 => f32Round (sumF32 ps) ps.length
  | 3 => ps.getD (ps.length / 2) 0
  | _ => divEnbw (sumF32 ps) e

/-- First bin of trace point `p` (R160). -/
def pointBin (c : SlotCtx) (p : Nat) : Nat := c.traceFirst + p * traceBins c / 2 ^ c.traceLen

/-- The detected trace of M points. -/
def detectTrace (c : SlotCtx) (e : Nat) (ps : List Nat) : List Nat :=
  (List.range (2 ^ c.traceLen)).map (fun p =>
    detectPoint c.detector e ((ps.drop (pointBin c p)).take (pointBin c (p + 1) - pointBin c p)))

/-! ### TRACE and BINS records (R165, R166, R283) -/

def spectrumFlags (settling saturated gap gapped part : Bool) (det window format : Nat) : Nat :=
  boolN settling + 2 * boolN saturated + 4 * boolN gap + 8 * boolN gapped + 16 * boolN part + 32 * det + 256 * window
    + 4096 * format

def valueBytes (format : Nat) (v : Nat) : List Byte := if format == 1 then leBytes 4 (f32Bits v) else leInt 2 (dbOfF32 v)

/-- The 48-byte prefix and the values. -/
def tracePayload (c : SlotCtx) (centre number averaged flags : Nat) (vals : List Nat) : List Byte :=
  leBytes 8 centre ++ leBytes 8 number ++ leBytes 2 averaged ++ leBytes 2 flags ++ leBytes 4 vals.length
    ++ leBytes 2 c.traceFirst ++ leBytes 1 c.fft ++ leBytes 1 c.k ++ leBytes 1 c.hop ++ zeroBytes 3 ++ leBytes 6 c.nco
    ++ zeroBytes 10 ++ vals.flatMap (valueBytes c.format)

def emitSpectral (key type stamp : Nat) (gen : BitVec 32) (payload : List Byte) (d : Device) : Device :=
  emitRec { type := type, source := slotSource (key / 4) (key % 4), flags := headerFlags d [key / 4], firstIndex := stamp,
            generation := gen, payload := payload } d

/-- A trace leaves the slot: its flags are those seen, with the detector and, where given, PARTIAL and INPUT_GAP. -/
def emitTrace (key : Nat) (a : TraceAvg) (vals : List Nat) (gap part : Bool) (d : Device) : Device :=
  let fl := a.flags % 16 + (if gap && !bit a.flags 2 then 4 else 0) + 16 * boolN part + 32 * a.ctx.detector
    + 256 * a.ctx.window + 4096 * a.ctx.format
  emitSpectral key 0x02 a.stamp a.ctx.gen (tracePayload a.ctx a.centre a.frameNumber (min a.count 65535) fl vals) d

/-- Two frames ran under settings between which no average carries over (R163). -/
def expKeeps (a b : SlotCtx) : Bool :=
  a.detector == b.detector && a.window == b.window && a.store == b.store && a.traceFirst == b.traceFirst
    && a.traceSpan == b.traceSpan && a.traceLen == b.traceLen && a.avgExp == b.avgExp && a.origin == b.origin
    && a.lane == b.lane && a.fft == b.fft && a.hop == b.hop && a.k == b.k && a.nco == b.nco && a.gain == b.gain

def blockMean (a : TraceAvg) : List Nat := a.values.map (fun v => f32Round v a.count)

/-- The block average closes: K frames at its end, or PARTIAL at a token (R162, R164). -/
def closeBlock (key : Nat) (part : Bool) (d : Device) : Device :=
  let v := slotAt d key
  match v.blockAvg with
  | none => d
  | some a =>
    emitTrace key a (blockMean a) (decide (a.count < a.ctx.avgCount)) part (setSlot key { v with blockAvg := none } d)

/-- The trace of a computed frame, by averaging mode (R162, R163). -/
def averageTrace (key : Nat) (f : TraceAvg) (d : Device) : Device :=
  let v := slotAt d key
  match f.ctx.avgMode with
  | 0 => emitTrace key f f.values false false d
  | 1 =>
    let a := match v.blockAvg with
      | none => f
      | some a => { a with count := a.count + 1, flags := a.flags ||| f.flags, values := List.zipWith (· + ·) a.values f.values }
    setSlot key { v with blockAvg := some a } d
  | _ =>
    let a := match v.expAvg with
      | some a =>
        if expKeeps a.ctx f.ctx then
          { f with
            count := min 65535 (a.count + 1),
            values := List.zipWith (fun (x t : Nat) =>
              (f32RoundInt ((x : Int) + f32RoundInt (f32RoundInt ((t : Int) - (x : Int)) 1) (2 ^ f.ctx.avgExp)) 1).toNat)
              a.values f.values }
        else f
      | none => f
    emitTrace key a a.values false false (setSlot key { v with expAvg := some a } d)

/-- The last frame of a block has been computed or skipped: the block is emitted unless it is empty (R162). -/
def blockEnd (key : Nat) (c : SlotCtx) (f : Nat) (d : Device) : Device :=
  if c.avgMode == 1 && (frameNumber c f - c.blockFrom) % c.avgCount == c.avgCount - 1 then closeBlock key false d else d

/-! ### One frame (R151, R152, R168) -/

/-- The next frame of a slot: one of an old context first, else the next of the grid. -/
def nextFrame (d : Device) (key : Nat) : Option (Nat × SlotCtx) :=
  let v := slotAt d key
  match v.old with
  | x :: _ => some x
  | [] =>
    if slotEnabled d key && !v.floating && !tokenWaits d (0x0400 + key) v.next then some (v.next, slotCtx d key) else none

/-- A window ROM error stops the slots that use the window (R177). -/
def romStops (d : Device) (key : Nat) (c : SlotCtx) : Bool := c.window != 8 && tget false d.spec.romFailed (key / 4 * 8 + c.window)

/-- The last lane sample of the frame has arrived. -/
def frameComplete (v : Slot) (c : SlotCtx) (f : Nat) : Bool :=
  match tget none v.newest c.lane with
  | some n => decide (f + frameLen c ≤ n)
  | none => false

/-- The engine takes the slot's frame next: of the complete frames of the channel it is the one whose last lane sample came first, apart
from slots that a window ROM error stops (R168, R177). -/
def frameTurn (d : Device) (key : Nat) : Bool :=
  (tget [] d.spec.order (key / 4)).find? (fun n => match nextFrame d (key / 4 * 4 + n) with
    | some (_, c) => !romStops d (key / 4 * 4 + n) c
    | none => true) == some (key % 4)

def frameSamples (v : Slot) (c : SlotCtx) (f : Nat) : List LaneSample :=
  v.stall.items.filter (fun x => x.lane % 8 == c.lane && decide (f ≤ x.stamp) && decide (x.stamp ≤ f + frameLen c))

/-- Every sample of the frame is there, and no pause falls inside it (R151). -/
def frameWhole (v : Slot) (c : SlotCtx) (f : Nat) : Bool :=
  let xs := frameSamples v c f
  xs.length == 2 ^ c.fft && xs.all (·.present)
    && !v.pauses.any (fun p => decide (f < p) && decide (p ≤ f + frameLen c)) && !v.parity

/-- The frame is done: it leaves the engine's order, its samples are released, and a block whose context has ended is closed (R164). -/
def advanceFrame (key : Nat) (c : SlotCtx) (d : Device) : Device :=
  let d := { d with spec := { d.spec with order := tmod [] d.spec.order (key / 4) (fun l => l.erase (key % 4)) } }
  let v := slotAt d key
  let v := match v.old with
    | _ :: rest => { v with old := rest }
    | [] => { v with next := v.next + hopLen c }
  let d := setSlot key (trimSlot d key { v with parity := false }) d
  if v.partialDue && v.old.isEmpty then
    let d := closeBlock key true d
    setSlot key { slotAt d key with partialDue := false } d
  else d

/-- GAPPED (R150). -/
def frameGap (c : SlotCtx) : Bool := decide (c.fft < c.hop)

/-- The spectrum word of the frame without computation (R151). -/
def skippedSpectrum (key : Nat) (c : SlotCtx) (f : Nat) : Spectrum :=
  { slot := key, stamp := f, centre := frameCentre c f, frameNumber := frameNumber c f,
    flags := spectrumFlags false false true (frameGap c) false 0 c.window c.format, ctx := c, computed := false,
    bins := [], trace := [] }

/-- A frame that is not computed (R151): counted, INPUT_GAP on the next output, the exponential average resets. -/
def skipFrame (key : Nat) (c : SlotCtx) (f : Nat) (d : Device) : Device :=
  let v := slotAt d key
  let e := f / 2 ^ epochExp d
  let d := setSlot key { v with skipped := v.skipped + 1, gap := true, expAvg := none, skipEpoch := some e } d
  let d := if v.skipEpoch == some e then d else raiseEvent (slotFault key) 1 f 0 d
  advanceFrame key c (blockEnd key c f d)

/-- A computed frame: its bins, spectrum and TRACE and BINS records. -/
def computeFrame (key : Nat) (c : SlotCtx) (f : Nat) (d : Device) : Spectrum × List (Int × Int) × Device :=
  let v := slotAt d key
  let xs := frameSamples v c f
  let w := windowOf d c
  let cs := spectrumBins d.fresh c w xs
  let ps := cs.map binPower
  let tr := detectTrace c (enbwUnits w) ps
  let flags := spectrumFlags (xs.any (·.settling)) (xs.any (·.saturated)) v.gap (frameGap c) false 0 c.window c.format
  let sp : Spectrum :=
    { slot := key, stamp := f, centre := frameCentre c f, frameNumber := frameNumber c f, flags := flags, ctx := c,
      computed := true, bins := ps.map dbOfF32, trace := tr.map dbOfF32 }
  let d := setSlot key { v with spectraCount := v.spectraCount + 1, gap := false } (takeFresh d)
  let d := averageTrace key { ctx := c, stamp := f, centre := sp.centre, frameNumber := sp.frameNumber, count := 1,
                              flags := flags, values := tr } d
  let d := blockEnd key c f d
  let d := if sp.frameNumber % c.binsDecim == 0 then
      emitSpectral key 0x03 f c.gen
        (tracePayload c sp.centre sp.frameNumber 1 flags ((ps.drop c.traceFirst).take (traceBins c))) d
    else d
  (sp, cs, advanceFrame key c d)

/-! ### Tokens and resets (R30, R149, R164, R175, R178) -/

/-- Frames that start before boundary `b` and are not done: those of old contexts and those of the present grid. -/
def openFrames (v : Slot) (c : SlotCtx) (b : Nat) : List (Nat × SlotCtx) :=
  v.old ++ (if v.floating then []
    else (List.range (ceilDiv (b - v.next) (hopLen c))).map (fun j => (v.next + j * hopLen c, c)))

/-- Open frames are abandoned (R175, R178). -/
def abandonFrames (key n : Nat) (d : Device) : Device :=
  let v := slotAt d key
  if n == 0 then d
  else raiseEvent (slotFault key) 2 (ballIndex d) n
    (setSlot key { v with abandoned := v.abandoned + BitVec.ofNat 32 n, gap := true, expAvg := none } d)

/-- The engine's order for a slot follows its frames anew: those that are complete already, oldest first. -/
def reorderSlot (key : Nat) (d : Device) : Device :=
  let d := forgetComplete key d
  let v := slotAt d key
  let c := slotCtx d key
  let done := (v.old.filter (fun f => frameComplete v f.2 f.1)).length
  let grid := match tget none v.newest c.lane with
    | some n =>
      if slotEnabled d key && !v.floating && v.next + frameLen c ≤ n then (n - frameLen c - v.next) / hopLen c + 1 else 0
    | none => 0
  noteComplete key (done + grid) d

/-- The slot adopts the token of boundary `b`: `c` is the context before it, `codes` and `laneCodes` the fields of the slot and of
its lane that change. The values that it works under are the new ones already. -/
def slotAdopt (key b : Nat) (c : SlotCtx) (wasOn : Bool) (codes laneCodes : List Nat) (d : Device) : Device :=
  let v := slotAt d key
  let started := if wasOn then openFrames v c b else []
  let laneCut := laneCodes.any (fun x => x == 1 || x == 2 || x == 3 || x == 4 || x == 5)
  let regrid := laneCut || codes.any (fun x => x == 1 || x == 2 || x == 3 || x == 4)
  -- a frame that has all its lane samples below the boundary is complete
  let lost := if laneCut then started.filter (fun x => decide (b ≤ x.1 + frameLen x.2)) else []
  let kept := if laneCut then started.filter (fun x => decide (x.1 + frameLen x.2 < b)) else started
  let dk := (slotCtx d key).k
  let v := if regrid then
      { v with old := kept, origin := gridUp dk b, next := gridUp dk b, blockFrom := 0, floating := false }
    else if wasOn && !v.floating then
      let n := v.next + ceilDiv (b - v.next) (hopLen c) * hopLen c
      { v with old := kept, next := n,
               blockFrom := if codes.isEmpty && laneCodes.isEmpty then v.blockFrom else frameNumber c n }
    else v
  let v := if codes.isEmpty && laneCodes.isEmpty then v else { v with partialDue := true }
  let v := if regrid || codes.any (fun x => x == 7 || x == 5 || x == 6 || x == 9 || x == 0xA || x == 8 || x == 0xD) then
      { v with expAvg := if kept.isEmpty then none else v.expAvg } else v
  let d := reorderSlot key (abandonFrames key lost.length (setSlot key v d))
  if v.partialDue && kept.isEmpty then
    let d := closeBlock key true d
    setSlot key { slotAt d key with partialDue := false } d
  else d

/-- Frames of a slot that have begun and lack lane samples: of old contexts, and of the present grid up to the newest sample. -/
def begunFrames (d : Device) (key : Nat) : Nat :=
  let v := slotAt d key
  let c := slotCtx d key
  let grid := match tget none v.newest c.lane with
    | some m => if slotEnabled d key && !v.floating && v.next ≤ m then (m - v.next) / hopLen c + 1 else 0
    | none => 0
  (v.old.filter (fun x => decide (x.1 ≤ (tget none v.newest x.2.lane).getD 0))).length + grid

/-- SYNC: the grid origin becomes 0 (R149). The frames that span it are not computed (R151, R176). -/
def slotSync (key : Nat) (d : Device) : Device :=
  let n := begunFrames d key
  let v := slotAt d key
  let d := setSlot key { v with
    origin := 0, next := 0, old := [], stall := {}, newest := [], pauses := [], blockFrom := 0, floating := false,
    expAvg := none, blockAvg := none, partialDue := false, skipEpoch := none
    skipped := v.skipped + BitVec.ofNat 32 n, gap := v.gap || n != 0 } (forgetComplete key d)
  if n == 0 then d else raiseEvent (slotFault key) 1 v.next 0 d

/-- BLOCK_RESET of the engine of a channel, and its end at WAKE (R149, R178). -/
def resetSlot (key : Nat) (d : Device) : Device :=
  let d := abandonFrames key (begunFrames d key) d
  let v := slotAt d key
  setSlot key { v with
    old := [], stall := {}, newest := [], floating := true, blockFrom := 0, expAvg := none, blockAvg := none, partialDue := false,
    parity := false } (forgetComplete key d)

/-- The lane samples in stall 0x02 are discarded (R34): the frames that hold one are not computed. -/
def dropSlotStall (key : Nat) (d : Device) : Device :=
  setSlot key { slotAt d key with stall := {} } d

/-! ### WINDOW_LOAD (R156) -/

/-- A context holds the store: an enabled slot selects it (R44). -/
def windowStoreBusy (d : Device) (s : Nat) : Bool :=
  (contexts d).any (fun c => (List.range 16).any (fun key => vN c 4 key 1 == 1 && vN c 4 key 5 == 8 && vN c 4 key 6 == s))

/-- A 32-bit word that is the sign extension of its low 18 bits. -/
def readCoefficient (bs : List Byte) : Option Int :=
  let v := signed 32 (leNat bs)
  if -131072 ≤ v ∧ v ≤ 131071 then some v else none

def windowLoad (p : Packet) (d : Device) : Device :=
  let lg := pByte p 1
  let a := p64 p 8
  if !reservedZero p [(0, 2), (8, 8)] || decide (7 < pByte p 0) || decide (lg < 6) || decide (16 < lg) || a % 4 != 0
      || !reachable d .cp false a (4 * 2 ^ lg) then complete p .badParam [] d
  else match decodeAll readCoefficient (readEntries d a 4 (2 ^ lg)) with
    | none => complete p .badParam [] d
    | some w =>
      let s := sumInt w
      if s ≤ 0 then complete p .badParam [] d
      else if windowStoreBusy d (pByte p 0) then complete p .busy [] d
      else
        complete p .ok (leInt 8 s ++ leInt 4 (roundHalfEven s (2 ^ lg)) ++ leBytes 4 (enbwUnits w))
          { d with spec := { d.spec with windows := tset [] d.spec.windows (pByte p 0) w } }

def execWindowLoad (p : Packet) (s : State) : Host.Outcome State Fault Refusal := act (accept p windowLoad) s

end Sys2Proof.Machine
end

