-- ==== Sys2Proof/Machine/Density.lean ====
section
/-! DEFINITION. Density maps and the colouriser: intake, frame ends, drain, snapshots, colour frames, PALETTE_LOAD
(09_density_and_live_view.md). The scan-out stands in Machine/Display.lean. -/

namespace Sys2Proof.Machine

def densMap (d : Device) (m : Nat) : DensMap := tget {} d.dens.maps m

def setMap (m : Nat) (v : DensMap) (d : Device) : Device :=
  { d with dens := { d.dens with maps := tset {} d.dens.maps m v } }

def mapN (d : Device) (m code : Nat) : Nat := cfgN d 7 m code

/-- Source ID of a map (R273). -/
def mapFault (m : Nat) : Nat := 0x180 + m

/-- The settings of a map, its source slot and lane as they stand. -/
def mapCtx (d : Device) (m : Nat) : MapCtx :=
  let key := slotKey (m / 2) (mapN d m 2)
  let behind (k : Nat) : Nat := (valueBehind d (0x0700 + m) k).toNat
  let l := m / 2 * 8 + behind (cfgKey 4 key 2)
  { slot := mapN d m 2, cols := mapN d m 3, rows := mapN d m 4, binFirst := mapN d m 5, binSpan := mapN d m 6,
    rowBottom := cfgInt d 7 m 7, rowStep := mapN d m 8, clip := mapN d m 9 == 1, persist := mapN d m 0xD,
    snapEvery := mapN d m 0xE, snapFormat := mapN d m 0xF, colEnable := mapN d m 0x10 == 1, colEvery := mapN d m 0x11,
    colMin := mapN d m 0x12, colMax := mapN d m 0x13, colPalette := mapN d m 0x14, colFormat := mapN d m 0x15,
    colBuf := mapN d m 0x16, colNbuf := mapN d m 0x17, fft := behind (cfgKey 4 key 3),
    k := behind (cfgKey 3 l 4), nco := behind (cfgKey 3 l 2), gen := blockGeneration d (0x0700 + m) }

def mapSpan (c : MapCtx) (n : Nat) : Nat := if c.binSpan == 0 then n else c.binSpan

/-- Column and row of bin `b` with value `q` among `n` bins; none where the bin counts nowhere (R242). -/
def cellOf (c : MapCtx) (n b : Nat) (q : Int) : Option (Nat × Nat) :=
  let span := mapSpan c n
  if b < c.binFirst ∨ c.binFirst + span ≤ b then none
  else
    let col := (b - c.binFirst) * 2 ^ c.cols / span
    let r : Int := if q == -32768 then -1 else (q - c.rowBottom) / (c.rowStep : Int)
    if r < 0 then (if c.clip then some (col, 0) else none)
    else if ((2 ^ c.rows : Nat) : Int) ≤ r then (if c.clip then some (col, 2 ^ c.rows - 1) else none)
    else some (col, r.toNat)

def maxCell : Nat := 4294967295

/-- One increment, saturating (R243): the plane and whether a cell was full. -/
def addCell (c : MapCtx) (s : Table Nat × Bool) (cell : Nat × Nat) : Table Nat × Bool :=
  let i := cell.2 * 2 ^ c.cols + cell.1
  let v := tget 0 s.1 i
  if v == maxCell then (s.1, true) else (tset 0 s.1 i (v + 1), s.2)

def addSpectrum (c : MapCtx) (bins : List Int) (cells : Table Nat) : Table Nat × Bool :=
  ((List.range bins.length).filterMap (fun b => cellOf c bins.length b (bins.getD b 0))).foldl (addCell c) (cells, false)

/-- Stall 0x07 of a map takes a spectrum (R167); behind lost ones it brings their first stamp. -/
def feedMap (m : Nat) (x : Spectrum) (d : Device) : Device :=
  if resetRuns d (mapFault m) then d else
  let v := densMap d m
  let r := spectrumPush 16 x v.stall
  let items := if r.2.1.isSome then r.1.items.dropLast ++ [{ x with lost := r.2.1 }] else r.1.items
  let d := setMap m { v with stall := { r.1 with items := items } } d
  let d := match r.2.1 with
    | some f => gapFor 0x01 f (x.stamp - f) d.cfg.generation [m / 2] (fun s => s == mapSource m) d
    | none => d
  if r.2.2 then raiseFault (plainFault (mapFault m) 1 1 0x07) d else d

/-- Spectra of a stall 0x07 were lost before stamp `b`. -/
def lostBefore (s : RtStall Spectrum) (b : Nat) : Bool :=
  s.discarding.any (fun f => decide (f < b)) || (s.items.head?.bind (·.lost)).any (fun f => decide (f < b))

/-- The last spectrum lost directly before `x` belongs to the frame in progress, which began at the token that the map adopted last or
behind a spectrum that it has taken. -/
def lostHere (d : Device) (m : Nat) (x : Spectrum) : Bool :=
  x.lost.isSome && decide (epochStart d (tget 0 d.cfg.adopted (0x0700 + m)) ≤ x.stamp - 2 ^ x.ctx.hop * blockOf x.ctx.k)

/-- Planes swap and the drain of the ended frame starts (R246). -/
def startDrain (m flags : Nat) (c : MapCtx) (d : Device) : Device :=
  let v := densMap d m
  setMap m { v with
    drain := some ({ v.frame with flags := v.frame.flags ||| flags ||| (if v.cleared then 0x20 else 0) }, c),
    frame := {}, cleared := false, satEvent := false } d

/-- The carried plane is cleared behind the drain of the ended frame, and the frame numbers start again (R249, R274). -/
def wipeMap (m : Nat) (flag : Bool) (d : Device) : Device :=
  let v := densMap d m
  let v := { v with cleared := v.cleared || flag }
  setMap m (if v.drain.isSome then { v with wipe := true } else { v with carried := [], frameNumber := 0 }) d

/-- The drain starts, and what the token that ended the frame does to the map follows (R249, R274). -/
def settleEnd (m : Nat) (c : MapCtx) (e : DeferredEnd) (d : Device) : Device :=
  let d := startDrain m e.flags c d
  let d := if e.clears then wipeMap m true d else d
  if e.renews then wipeMap m false d else d

/-- The frame ends, or its end is deferred behind the running drain; a deferred end counts for those that follow it (R245, R248). -/
def endFrame (m : Nat) (c : MapCtx) (e : DeferredEnd) (d : Device) : Device :=
  let v := densMap d m
  match v.drain, v.deferred with
  | some _, some w =>
    setMap m { v with deferred := some {
      flags := w.flags ||| e.flags, settings := w.settings.orElse (fun _ => e.settings), clears := w.clears || e.clears
      renews := w.renews || e.renews } } d
  | some _, none =>
    raiseEvent (mapFault m) 1 (ballIndex d) 0 (setMap m { v with deferred := some { e with flags := e.flags ||| 0x40 } } d)
  | none, _ => settleEnd m c e d

/-- The attributes that a spectrum adds to a frame (R250). -/
def takenFlags (x : Spectrum) : Nat := boolN (bit x.flags 2) + 2 * boolN (bit x.flags 0) + 4 * boolN (bit x.flags 1)
  + 8 * boolN (bit x.flags 3)

/-- A scheduled frame end stands before stamp `i`: an epoch that is a multiple of frame_epochs and not adopted (R245). -/
def scheduledWaits (d : Device) (m i : Nat) : Bool :=
  let fe := mapN d m 0xC
  let t := min (i / 2 ^ epochExp d) d.cfg.lastToken / fe * fe
  mapN d m 0xA == 1 && decide (tget 0 d.cfg.adopted (0x0700 + m) < t)

/-- SPECTRUM_INTAKE (R242-R245, R250): the oldest spectrum of stall 0x07 that stands before the next token. Behind a token that ended
its frame under other settings the map takes none until the deferred end is done (DESIGN CHOICE). -/
def spectrumIntake (m : Nat) (d : Device) : Device :=
  let v := densMap d m
  match v.stall.items with
  | [] => d
  | x :: rest =>
    if mapN d m 1 != 1 then setMap m { v with stall := { v.stall with items := [] } } d
    else if tokenWaits d (0x0700 + m) x.stamp || scheduledWaits d m x.stamp || v.deferred.any (·.settings.isSome) then d
    else
      let c := mapCtx d m
      let st := { v.stall with items := rest }
      let v := if lostHere d m x then { v with frame := { v.frame with flags := v.frame.flags ||| 1 } } else v
      if !x.computed then
        setMap m { v with stall := st, frame := { v.frame with flags := v.frame.flags ||| 1 } } d
      else
        let r := addSpectrum c x.bins v.frame.cells
        let f : DensFrame := { cells := r.1, spectra := v.frame.spectra + 1,
                               firstStamp := if v.frame.spectra == 0 then x.stamp else v.frame.firstStamp,
                               lastStamp := x.stamp,
                               flags := v.frame.flags ||| takenFlags x ||| (if r.2 then 0x80 else 0) }
        let d := setMap m { v with stall := st, frame := f, satEvent := v.satEvent || r.2 } d
        let d := if r.2 && !v.satEvent then raiseEvent (mapFault m) 2 x.stamp 0 d else d
        if mapN d m 0xA == 0 && decide (mapN d m 0xB ≤ f.spectra) then endFrame m c { flags := 0 } d else d

/-- DENS_SNAP (R245): the frame ends behind the last spectrum taken. A frame that has ended behind the same spectrum, and drains, is the
one that carries FORCED (R272). -/
def densSnap (m : Nat) (d : Device) : Device :=
  let v := densMap d m
  if mapN d m 1 != 1 then d
  else match v.drain, v.deferred with
    | some (f, c), none =>
      if v.frame.spectra == 0 then setMap m { v with drain := some ({ f with flags := f.flags ||| 0x200 }, c) } d
      else endFrame m (mapCtx d m) { flags := 0x200 } d
    | _, _ => endFrame m (mapCtx d m) { flags := 0x200 } d

/-! ### Drain, snapshot, colour (R246, R251, R253-R256) -/

/-- The decay of a carried count (R246). -/
def decay (v p : Nat) : Nat :=
  if p == 0 then 0
  else
    let s := v / 2 ^ p
    v - (if s == 0 && decide (0 < v) then 1 else s)

/-- Completed value of a cell. -/
def completed (p carried inc : Nat) : Nat := min maxCell (decay carried p + inc)

/-- The carried plane after a drain: every listed cell of either plane. -/
def drainPlane (p : Nat) (carried inc : Table Nat) : Table Nat :=
  let idx := (carried.map (·.1) ++ inc.map (·.1)).eraseDups
  idx.foldl (fun t i => tset 0 t i (completed p (tget 0 carried i) (tget 0 inc i))) []

def cellCount (c : MapCtx) : Nat := 2 ^ c.cols * 2 ^ c.rows

/-- Units of 64 KiB that a completed frame takes in stall 0x08 (R19). -/
def frameUnits (c : MapCtx) : Nat := ceilDiv (4 * cellCount c) 65536

/-- DENSITY_FRAME payload (R251, R252). -/
def densPayload (m : Nat) (c : MapCtx) (f : DensFrame) (number : Nat) (out : Table Nat) : List Byte :=
  let clip := c.snapFormat == 1 && out.any (fun e => decide (65535 < e.2))
  leBytes 1 m ++ leBytes 1 c.snapFormat ++ leBytes 2 (f.flags + (if clip then 0x100 else 0)) ++ leBytes 1 c.cols
    ++ leBytes 1 c.rows ++ leBytes 1 c.persist ++ leBytes 1 (slotKey (m / 2) c.slot) ++ leBytes 8 number ++ leBytes 4 f.spectra
    ++ leBytes 4 ((out.map (·.2)).foldl max 0) ++ leBytes 8 f.lastStamp ++ leInt 2 c.rowBottom ++ leBytes 2 c.rowStep
    ++ leBytes 2 c.binFirst ++ leBytes 4 (mapSpan c (2 ^ c.fft)) ++ leBytes 1 c.fft ++ leBytes 1 c.k ++ zeroBytes 4
    ++ leBytes 8 c.nco ++ zeroBytes 8
    ++ (List.range (cellCount c)).flatMap (fun i =>
        if c.snapFormat == 1 then leBytes 2 (min 65535 (tget 0 out i)) else leBytes 4 (tget 0 out i))

/-- A deferred frame end takes effect once the drain is done (R248). -/
def takeDeferred (m : Nat) (c : MapCtx) (d : Device) : Device :=
  let v := densMap d m
  match v.deferred with
  | none => d
  | some e => settleEnd m (e.settings.getD c) e (setMap m { v with deferred := none } d)

/-- Stamps of the first and the last spectrum of a frame: free where it took none. -/
def frameStamps (d : Device) (f : DensFrame) : DensFrame :=
  if f.spectra == 0 then { f with firstStamp := Config.emptyFrame d.fresh, lastStamp := Config.emptyFrame (d.fresh + 1) } else f

/-- DRAIN_COMPLETE (R246, R247, R251, R253): the carried plane, the snapshot, the colouriser's work, which takes the frames whose number
is a multiple of col_every (DEDUCED); where stall 0x08 fills, or has
filled and is not yet half empty, snapshot and colour frame are dropped whole (R21, R272). -/
def drainComplete (m : Nat) (d : Device) : Device :=
  let v := densMap d m
  match v.drain with
  | none => d
  | some (f, c) =>
    let f := frameStamps d f
    let d := takeFresh (takeFresh d)
    let out := drainPlane c.persist v.carried f.cells
    let n := v.frameNumber
    let held := (v.colour.map (fun w => frameUnits w.ctx)).foldl (· + ·) 0
    let full := if v.colourFull then decide (64 < held) else decide (128 < held + frameUnits c)
    let snap := c.snapEvery != 0 && n % c.snapEvery == 0
    let col := c.colEnable && n % c.colEvery == 0
    let d := setMap m { v with
      drain := none, carried := if v.wipe then [] else out, frameNumber := if v.wipe then 0 else n + 1, wipe := false, frames := v.frames + 1, colourFull := full,
      colour := if col && !full then v.colour ++ [{ ctx := c, values := out }] else v.colour } d
    let d := noteMark 0x08 m (if full then held else held + frameUnits c) d
    let d := if full && !v.colourFull then raiseFault (plainFault (mapFault m) 1 1 0x08) d else d
    let d := if snap && !full then
        emitRec { type := 0x04, source := mapSource m, flags := headerFlags d [m / 2], firstIndex := f.firstStamp,
                  generation := c.gen, payload := densPayload m c f n out } d
      else if snap then
        emitGap (gapRec d (mapSource m) 0x0B f.firstStamp 0 1 c.gen [m / 2]) (streamsWith d (fun s => s == mapSource m)) d
      else d
    takeDeferred m (mapCtx d m) d

/-- Palette index of a count (R253). -/
def paletteIndex (c : MapCtx) (v : Nat) : Nat :=
  if v < c.colMin then 0
  else if c.colMax ≤ v then 255
  else 1 + 254 * (lg256 v - lg256 c.colMin) / (lg256 c.colMax - lg256 c.colMin)

/-- The grey ramp that a store holds after POR# (R254). -/
def greyRamp : List (Nat × Nat × Nat) := (List.range 256).map (fun i => (16 + 219 * i / 255, 128, 128))

def palette (d : Device) (s : Nat) : List (Nat × Nat × Nat) :=
  match tget [] d.disp.palettes s with
  | [] => greyRamp
  | p => p

/-- Pixel (x, line) of a colour frame: line 0 shows the highest row (R255). -/
def colourPixel (w : ColourWork) (pal : List (Nat × Nat × Nat)) (x y : Nat) : Nat × Nat × Nat :=
  pal.getD (paletteIndex w.ctx (tget 0 w.values ((2 ^ w.ctx.rows - 1 - y) * 2 ^ w.ctx.cols + x))) (16, 128, 128)

def meanOf (l : List Nat) : Nat := (roundHalfEven (((l.foldl (· + ·) 0 : Nat) : Int)) l.length).toNat

/-- The chroma of the pixels that one chroma sample covers: 2 × 1 or 2 × 2 (R255). -/
def chromaAt (w : ColourWork) (pal : List (Nat × Nat × Nat)) (tall : Bool) (x y : Nat) : Nat × Nat :=
  let px := if tall then [colourPixel w pal (2 * x) (2 * y), colourPixel w pal (2 * x + 1) (2 * y),
      colourPixel w pal (2 * x) (2 * y + 1), colourPixel w pal (2 * x + 1) (2 * y + 1)]
    else [colourPixel w pal (2 * x) y, colourPixel w pal (2 * x + 1) y]
  (meanOf (px.map (·.2.1)), meanOf (px.map (·.2.2)))

/-- The bytes of a colour frame, plane by plane (R255). -/
def colourBytes (w : ColourWork) (pal : List (Nat × Nat × Nat)) : List Byte :=
  let nx := 2 ^ w.ctx.cols
  let ny := 2 ^ w.ctx.rows
  let luma := (List.range ny).flatMap (fun y => (List.range nx).map (fun x => BitVec.ofNat 8 (colourPixel w pal x y).1))
  let tall := w.ctx.colFormat != 1
  let rows := if tall then ny / 2 else ny
  let chroma := (List.range rows).map (fun y => (List.range (nx / 2)).map (fun x => chromaAt w pal tall x y))
  if w.ctx.colFormat == 2 then
    luma ++ chroma.flatMap (·.map (fun c => BitVec.ofNat 8 c.1)) ++ chroma.flatMap (·.map (fun c => BitVec.ofNat 8 c.2))
  else luma ++ chroma.flatMap (·.flatMap (fun c => [BitVec.ofNat 8 c.1, BitVec.ofNat 8 c.2]))

/-- F, the slot of a colour frame of n pixels in a format (R255, R256). -/
def colourSlotOf (n fmt : Nat) : Nat := ceilDiv (if fmt == 1 then 2 * n else 3 * n / 2) 4096 * 4096
def colourSlot (c : MapCtx) : Nat := colourSlotOf (cellCount c) c.colFormat

/-- The plane states that hold buffers (R267): what leaves the active state retires at the latch instant, when scan-out has read
its last line. -/
def holdingStates (d : Device) : List PlaneState :=
  if d.disp.blanking then [d.disp.committed, d.disp.latched] else [d.disp.committed, d.disp.latched, d.disp.active]

/-- A plane state names slot `j` of buffer `h` (R267). -/
def colourHeld (d : Device) (h j : Nat) : Bool :=
  (holdingStates d).any (fun p => match p.colour with
    | some x => x.1 == h && x.2.1 == j
    | none => false)

def bufferOf (d : Device) (h : Nat) : Option YardBuffer := d.yard.buffers.find? (fun b => b.handle == some h)

/-- COLOUR_FRAME_COMPLETE (R256): the oldest waiting frame goes into the next slot that is not held, or is dropped. -/
def colourFrameComplete (m : Nat) (d : Device) : Device :=
  let v := densMap d m
  match v.colour with
  | [] => d
  | w :: rest =>
    let d := setMap m { v with colour := rest } d
    let n := w.ctx.colNbuf
    let free := ((List.range n).map (fun j => (v.colourNext + j) % n)).find? (fun j => !colourHeld d w.ctx.colBuf j)
    match free, bufferOf d w.ctx.colBuf with
    | some j, some b =>
      let d := memWrite (b.base + j * colourSlot w.ctx) (colourBytes w (palette d w.ctx.colPalette)) d
      let d := setMap m { densMap d m with
        colourNext := (j + 1) % n, colourDone := some (w.ctx.colBuf, j, w.ctx.cols, w.ctx.rows, w.ctx.colFormat) } d
      if cfgN d 8 0 4 == m + 1 then { d with disp := { d.disp with newContent := true } } else d
    | _, _ =>
      let v := densMap d m
      raiseEvent 0x188 1 (ballIndex d) 0 (setMap m { v with colourDropped := v.colourDropped + 1 } d)

/-! ### Tokens and resets (R245, R249, R274) -/

/-- The map adopts the token of epoch `t`: `c` are the settings before it; `own` the map fields that change, `fed` whether the
source slot or its lane changes under R245. -/
def mapAdopt (m t : Nat) (c : MapCtx) (wasOn : Bool) (own : List Nat) (fed : Bool) (d : Device) : Device :=
  let clears := fed || own.any (fun x => x == 2 || x == 3 || x == 4 || x == 5 || x == 6 || x == 7 || x == 8 || x == 9)
  let lost := boolN (lostBefore (densMap d m).stall (epochStart d t))
  if wasOn && (fed || !own.isEmpty) then
    endFrame m c { flags := 0x10 ||| lost, settings := some c, clears := clears && !own.contains 1, renews := own.contains 1 } d
  else if wasOn && mapN d m 0xA == 1 && t % mapN d m 0xC == 0 then endFrame m c { flags := lost } d
  else if own.contains 1 then wipeMap m false (setMap m { densMap d m with frame := {}, cleared := false } d)
  else d

/-- BLOCK_RESET of a map (R274): planes cleared, frame number 0. -/
def resetMap (m : Nat) (d : Device) : Device :=
  let v := densMap d m
  setMap m { v with
    stall := {}, frame := {}, drain := none, deferred := none, wipe := false, carried := [], frameNumber := 0, cleared := true,
    colour := [], colourFull := false, colourNext := 0, satEvent := false } d

/-! ### PALETTE_LOAD (R254) -/

def readColour (bs : List Byte) : Option (Nat × Nat × Nat) :=
  let y := getLe bs 0 1
  let cb := getLe bs 1 1
  let cr := getLe bs 2 1
  if getLe bs 3 1 == 0 && decide (16 ≤ y) && decide (y ≤ 235) && decide (16 ≤ cb) && decide (cb ≤ 240)
      && decide (16 ≤ cr) && decide (cr ≤ 240) then some (y, cb, cr) else none

def paletteBusy (d : Device) (s : Nat) : Bool :=
  (contexts d).any (fun c => (List.range 8).any (fun m => vN c 7 m 1 == 1 && vN c 7 m 0x10 == 1 && vN c 7 m 0x14 == s))

def paletteLoad (p : Packet) (d : Device) : Device :=
  let a := p64 p 8
  if !reservedZero p [(0, 1), (8, 8)] || decide (3 < pByte p 0) || !reachable d .cp false a 1024 then complete p .badParam [] d
  else match decodeAll readColour (readEntries d a 4 256) with
    | none => complete p .badParam [] d
    | some pal =>
      if paletteBusy d (pByte p 0) then complete p .busy [] d
      else complete p .ok [] { d with disp := { d.disp with palettes := tset [] d.disp.palettes (pByte p 0) pal } }

def execPaletteLoad (p : Packet) (s : State) : Host.Outcome State Fault Refusal := act (accept p paletteLoad) s
def execSpectrumIntake (map : Fin 8) (s : State) : Host.Outcome State Fault Refusal := act (spectrumIntake map.val) s
def execDrainComplete (map : Fin 8) (s : State) : Host.Outcome State Fault Refusal := act (drainComplete map.val) s
def execColourFrameComplete (map : Fin 8) (s : State) : Host.Outcome State Fault Refusal :=
  act (colourFrameComplete map.val) s

end Sys2Proof.Machine
end

