-- ==== Sys2Proof/Machine/Rates.lean ====
section
/-! DEFINITION. Rates that the admission checks count, as functions of a configuration: lanes, spectra, densities and streams
(R143, R170, R247, R252, R289, R342). -/

namespace Sys2Proof.Machine

/-- f_SCLK of a configuration in Hz (R67). -/
def rateSclk (c : Values) : Rat := (vN c 1 2 1 : Rat) * vN c 1 0 2 / vN c 1 0 1

/-- f_lane; `lane` is the lane's instance (R123). -/
def laneRate (c : Values) (lane : Nat) : Rat := rateSclk c / blockOf (vN c 3 lane 4)

/-- Record-path spacing of a lane in sample periods (R137). -/
def laneSpacing (c : Values) (lane : Nat) : Nat :=
  blockOf (vN c 3 lane 4) * (if vN c 3 lane 0x10 == 2 then 2 ^ vN c 3 lane 0x12 else vN c 3 lane 0x11)

/-- Samples in a full record (R281). -/
def fullRecord (spacing : Nat) : Nat := min 4096 (64 * ceilDiv 65536 (64 * spacing))

def samplesRate (c : Values) (lane : Nat) : Rat :=
  if vN c 3 lane 0x10 == 0 then 0
  else
    let sp := laneSpacing c lane
    let n := fullRecord sp
    let b := if vN c 3 lane 0x13 == 1 then 3 else 4
    rateSclk c / sp / n * (64 * ceilDiv (72 + n * b) 64 : Nat)

/-- Lane instance to which a slot is bound. -/
def slotLane (c : Values) (slot : Nat) : Nat := slot / 4 * 8 + vN c 4 slot 2

def spectrumRate (c : Values) (slot : Nat) : Rat := laneRate c (slotLane c slot) / (2 ^ vN c 4 slot 4 : Nat)

/-- Spectral load of a slot in points per second (R170). -/
def spectralLoad (c : Values) (slot : Nat) : Rat := spectrumRate c slot * (2 ^ vN c 4 slot 3 : Nat)

def slotSpan (c : Values) (slot : Nat) : Nat := if vN c 4 slot 0x0A == 0 then 2 ^ vN c 4 slot 3 else vN c 4 slot 0x0A

def spectralRecordRate (c : Values) (slot count : Nat) : Rat :=
  let size := if vN c 4 slot 0x0E == 1 then 4 else 2
  spectrumRate c slot * (64 * ceilDiv (88 + count * size) 64 : Nat)

/-- Slot instance that feeds a map. -/
def mapSlot (c : Values) (m : Nat) : Nat := m / 2 * 4 + vN c 7 m 2

def mapCells (c : Values) (m : Nat) : Nat := 2 ^ vN c 7 m 3 * 2 ^ vN c 7 m 4

/-- Length of a density frame in sample periods (R247). -/
def frameLength (c : Values) (m : Nat) : Nat :=
  if vN c 7 m 0x0A == 0 then
    vN c 7 m 0x0B * 2 ^ vN c 4 (mapSlot c m) 4 * blockOf (vN c 3 (slotLane c (mapSlot c m)) 4)
  else vN c 7 m 0x0C * 2 ^ vN c 0x0F 0 1

/-- Snapshot bytes per second of a map (R252). -/
def snapshotRate (c : Values) (m : Nat) : Rat :=
  let every := vN c 7 m 0x0E
  if every == 0 then 0
  else rateSclk c / (every * frameLength c m : Nat)
    * (64 * ceilDiv (104 + mapCells c m * (if vN c 7 m 0x0F == 1 then 2 else 4)) 64 : Nat)

/-- Rate of one subscription (R289); a source that is off puts nothing out. -/
def subscriptionRate (c : Values) (s : Nat × Nat) : Rat :=
  let i := s.1 % 4096
  match s.1 / 4096 with
  | 1 => if vN c 3 i 1 == 1 && bit s.2 1 then samplesRate c i else 0
  | 2 => if vN c 4 i 1 == 0 then 0 else (if bit s.2 2 then spectralRecordRate c i (2 ^ vN c 4 i 8) else 0)
      + (if bit s.2 3 then spectralRecordRate c i (slotSpan c i) else 0)
  | 3 => if vN c 7 i 1 == 1 && bit s.2 4 then snapshotRate c i else 0
  | _ => 0

/-- Worst-case rate of a stream in bytes per second (R52, R289). -/
def streamRate (c : Values) (n : Nat) : Rat :=
  ((subscriptions c n).map (subscriptionRate c)).sum + vN c 9 n 5 * 1000000

end Sys2Proof.Machine
end

