-- ==== Sys2Proof/Machine/Conditions.lean ====
section
/-! DEFINITION. The condition units of the trigger sequencer: envelope units (R181-R184), frequency units (R185-R188), MASK_LOAD,
and the events they send (R179, R180, R199). -/

namespace Sys2Proof.Machine

/-- First instant not yet evaluated (R213): aligned, the instant t for which the converter samples t + horizon now; fast, the
sample index at the input balls. -/
def firstUnevaluated (d : Device) : Nat :=
  if trigN d 1 == 0 then max d.trig.evalNext (ballIndex d - trigN d 2) else ballIndex d

/-! ### Latency bounds (R198) -/

/-- Latency bound of an envelope unit. -/
def unitLatency (c : Values) (lane : Nat) : Nat := latEnv (vN c 3 lane 4)

/-- Latency bound of a frequency unit of a slot. -/
def freqLatency (c : Values) (slot : Nat) : Nat :=
  let k := vN c 3 (slotLane c slot) 4
  let n := 2 ^ vN c 4 slot 3
  let sum := ((List.range 4).map (fun i => slot / 4 * 4 + i)).foldl
    (fun a s => if vN c 4 s 1 == 1 then a + 2 ^ vN c 4 s 3 else a) 0
  n / 2 * blockOf k + offsetOf k + 1183 + 16 * (2776 + 2 * k + sum / 32 + n / 32)

/-- lat_bus (R497). -/
def busLatency (d : Device) (c : Values) : Nat := vN c 0x0F 0 6 + 512 + d.group.busTransitMax - vN c 0x0F 0 5

/-- Latency bound of a source; a Reed event source has none. -/
def sourceLatency (d : Device) (s : Nat) : Option Nat :=
  let c := cfgVal d
  if s < 16 then some (unitLatency c (trigN d (0x1000 + 0x10 * s)))
  else if s < 24 then some (freqLatency c (trigN d (0x2000 + 0x10 * (s - 16))))
  else if s < 28 then some 384
  else if s < 36 then some (busLatency d c)
  else if s == 42 || s == 43 then none
  else some 0

/-- Value of a field of the trig or lane blocks for the data of stamp `s` (R26, R201). -/
def valueFor (d : Device) (s key : Nat) : Int := valueIn d (s / 2 ^ epochExp d) key

/-- An event reaches the sequencer. In aligned mode one whose instant has been evaluated is late (R199): it is evaluated at the next
instant, counted, and the event raised. -/
def postEvent (x : TrigEvent) (d : Device) : Device :=
  let t := d.trig
  if trigN d 1 == 0 && decide (x.instant < t.evalNext) then
    raiseEvent 0x1C0 2 x.instant 0 { d with trig := { t with
      late := true, lateCount := t.lateCount + 1,
      events := t.events ++ [{ x with late := true, evalAt := t.evalNext }] } }
  else { d with trig := { t with events := t.events ++ [{ x with late := false, evalAt := x.instant }] } }

def levelEvent (source instant : Nat) (fraction : Option Nat) (v gap : Bool) : TrigEvent :=
  { source := source, instant := instant, evalAt := instant, fraction := fraction, level := some v, gap := gap, late := false }

def pulseEvent (source instant : Nat) (fraction : Option Nat) (gap : Bool) : TrigEvent :=
  { source := source, instant := instant, evalAt := instant, fraction := fraction, level := none, gap := gap, late := false }

/-! ### Envelope units -/

def envUnit (d : Device) (u : Nat) : EnvUnit := tget {} d.trig.env u

def setEnv (u : Nat) (v : EnvUnit) (d : Device) : Device :=
  { d with trig := { d.trig with env := tset {} d.trig.env u v } }

/-- Field `f` of envelope unit `u` for stamp `s`. -/
def envFor (d : Device) (s u f : Nat) : Int := valueFor d s (cfgKey 5 0 (0x1000 + 0x10 * u + f))

/-- Lane that a unit is bound to for stamp `s`. -/
def envLane (d : Device) (s u : Nat) : Nat := (envFor d s u 0).toNat

/-- Envelope units that read a lane at a stamp (R181). -/
def boundEnv (d : Device) (ch l stamp : Nat) : List Nat :=
  (List.range 16).filter (fun u => envFor d stamp u 1 != 0 && envLane d stamp u == laneKey ch l)

/-- Stall 0x03 of a lane takes a sample. Where it fills, what stands for the discarded run clears the units at its first stamp (R21,
R184); the fault names the lowest unit that reads the lane. -/
def feedEnv (ch l : Nat) (units : List Nat) (x : LaneSample) (d : Device) : Device :=
  if units.isEmpty || resetRuns d 0x1C0 then d
  else
    let v := laneAt d ch l
    let r := rtPush (laneK d ch l) 8 32 x v.envStall
    let st := if r.2.2 then { r.1 with items := r.1.items ++ [{ x with present := false, cut := none }] } else r.1
    let d := setLane ch l { v with envStall := st } d
    let d := match r.2.1 with
      | some f => gapFor 0x01 f (x.stamp - f) d.cfg.generation [ch] (fun s => s == markSource) d
      | none => d
    if r.2.2 then raiseFault (plainFault 0x1C1 1 1 (0x03 + 256 * units.headD 0)) d else d

/-- Envelope value of a sample (R181). -/
def envelopeOf (x : LaneSample) : Int := dbOf (x.i.natAbs ^ 2 + x.q.natAbs ^ 2) (2 ^ (28 + 2 * x.gain))

/-- Instant and fraction of the crossing of a level between the previous sample and this one (R183). -/
def crossing (k stamp : Nat) (prev : Option (Nat × Int)) (q level : Int) : Nat × Option Nat :=
  let base : Int := (stamp : Int) - (offsetOf k : Int)
  match prev with
  | none => (base.toNat, none)
  | some (_, p) =>
    if p == q then (base.toNat, none)
    else
      let dk : Int := blockOf k
      let t := (base - dk) * 65536 + (dk * 65536 * (level - p) * (q - p).sign) / ((q - p).natAbs : Int)
      ((t / 65536).toNat, some (t % 65536).toNat)

/-- The unit's state is cleared; a true value falls at the given instant (R184). -/
def clearEnv (u instant : Nat) (gap : Bool) (d : Device) : Device :=
  let v := envUnit d u
  let d := if v.value then postEvent (levelEvent u instant none false gap) d else d
  setEnv u { v with above := false, value := false, width := 0, reached := false, below := 0, prev := none,
                    gap := v.gap || gap } d

/-- The value of a level or window unit changes or stays (R182). -/
def setEnvValue (u k stamp : Nat) (q level : Int) (now : Bool) (d : Device) : Device :=
  let v := envUnit d u
  if now == v.value then d
  else
    let c := crossing k stamp v.prev q level
    setEnv u { v with value := now, gap := false } (postEvent (levelEvent u c.1 c.2 now v.gap) d)

def envPulse (u instant : Nat) (fraction : Option Nat) (d : Device) : Device :=
  let v := envUnit d u
  setEnv u { v with gap := false } (postEvent (pulseEvent u instant fraction v.gap) d)

/-- Type 2 (R182): inside the window, or outside it with sense 1. -/
def windowValue (sense was : Bool) (a b h q : Int) : Bool :=
  if sense then
    (if was then decide (q < a + h) || decide (b - h < q) else decide (q < a) || decide (b < q))
  else (if was then decide (a - h ≤ q) && decide (q ≤ b + h) else decide (a ≤ q) && decide (q ≤ b))

/-- The previous sample lies below a level; without one the crossing is taken from below. -/
def cameFromBelow (prev : Option (Nat × Int)) (level : Int) : Bool :=
  match prev with
  | some (_, p) => decide (p < level)
  | none => true

/-- The level of a window that decides a change to `now` (R182, R183). -/
def windowLevel (sense now : Bool) (a b h : Int) (prev : Option (Nat × Int)) (q : Int) : Int :=
  match sense, now with
  | false, true => if cameFromBelow prev a then a else b
  | false, false => if q < a - h then a - h else b + h
  | true, true => if q < a then a else b
  | true, false => if cameFromBelow prev (a + h) then a + h else b - h

/-- One evaluated sample of a unit (R182, R183). -/
def evaluateEnv (u : Nat) (x : LaneSample) (k type : Nat) (a b h : Int) (sense : Bool) (tMin tMax : Nat) (d : Device) : Device :=
  let v := envUnit d u
  let q := envelopeOf x
  let sg : Int := if sense then -1 else 1
  let qs := sg * q
  let as := sg * a
  let bs := sg * b
  let above := if v.above then decide (as - h ≤ qs) else decide (as ≤ qs)
  let rising := above && !v.above
  let falling := !above && v.above
  let down := crossing k x.stamp v.prev q (sg * (as - h))
  let d := setEnv u { v with
    above := above, width := if above then v.width + 1 else 0,
    reached := (v.reached && !rising) || (above && decide (bs ≤ qs)),
    below := if above then 0 else v.below + 1 } d
  let d := match type with
    | 1 => setEnvValue u k x.stamp q (if above then a else sg * (as - h)) above d
    | 2 =>
      let now := windowValue sense v.value a b h q
      setEnvValue u k x.stamp q (windowLevel sense now a b h v.prev q) now d
    | 3 => if falling && decide (tMin ≤ v.width) && (tMax == 0 || decide (v.width ≤ tMax)) then envPulse u down.1 down.2 d else d
    | 4 => if falling && !v.reached then envPulse u down.1 down.2 d else d
    | 5 => if !above && v.below + 1 == tMin then
        envPulse u ((x.stamp : Int) - (offsetOf k : Int)).toNat none d else d
    | _ => d
  setEnv u { envUnit d u with prev := some (x.stamp, q) } d

/-- The unit evaluates this sample: it is bound to its lane at its stamp, and has not come to it (R181). -/
def envTakes (d : Device) (u : Nat) (x : LaneSample) : Bool :=
  decide ((envUnit d u).next ≤ x.stamp) && envFor d x.stamp u 1 != 0 && envLane d x.stamp u == x.lane

/-- The next lane sample of a unit: the oldest one that stalls 0x03 hold for it. -/
def envItem (d : Device) (u : Nat) : Option LaneSample :=
  (d.lane.lanes.filterMap (fun e => e.2.envStall.items.find? (envTakes d u))).foldl (fun b x => match b with
    | none => some x
    | some y => if x.stamp < y.stamp then some x else b) none

/-- Samples that no unit still needs leave stall 0x03. -/
def trimEnv (ch l : Nat) (d : Device) : Device :=
  let v := laneAt d ch l
  setLane ch l { v with envStall := { v.envStall with
    items := v.envStall.items.dropWhile (fun x => !(List.range 16).any (fun u => envTakes d u x)) } } d

/-- Everything below a boundary has come to the unit: its lane has delivered it, and the unit has evaluated it. -/
def envPasses (d : Device) (u b : Nat) : Bool :=
  let key := envLane d (b - 1) u
  let v := laneAt d (key / 8) (key % 8)
  (envFor d (b - 1) u 1 == 0 || !laneEnabled d (key / 8) (key % 8) || decide (b ≤ v.next))
    && (match envItem d u with
        | some x => decide (b ≤ x.stamp)
        | none => true)

/-- The unit passes the boundaries that stand next: its state is cleared at each (R184). -/
def passEnv (u : Nat) : Nat → Device → Device
  | 0, d => d
  | n + 1, d =>
    match (envUnit d u).tokens with
    | [] => d
    | b :: rest =>
      if envPasses d u b then
        let d := clearEnv u b false d
        passEnv u n (setEnv u { envUnit d u with tokens := rest, next := max (envUnit d u).next b } d)
      else d

/-- One lane sample in a unit: it is evaluated, or what it stands for clears the unit (R184). -/
def takeEnv (u : Nat) (x : LaneSample) (d : Device) : Device :=
  let d := match x.cut with
    | some b => clearEnv u b false d
    | none => d
  let f (n : Nat) : Int := envFor d x.stamp u n
  let k := (valueFor d x.stamp (cfgKey 3 x.lane 4)).toNat
  if !x.present then clearEnv u (((x.stamp : Int) - (offsetOf k : Int)).toNat) true d
  else if x.settling then setEnv u { envUnit d u with prev := none } d
  else evaluateEnv u x k (f 1).toNat (f 2) (f 3) (f 4) (f 5 == 1) (f 6).toNat (f 7).toNat d

/-- ENVELOPE_EVALUATE (R182-R184): the boundaries that stand before it, and the oldest lane sample of the unit. -/
def envelopeEvaluate (u : Nat) (d : Device) : Device :=
  let d := passEnv u (envUnit d u).tokens.length d
  match envItem d u with
  | none => d
  | some x =>
    if (envUnit d u).tokens.any (fun b => decide (b ≤ x.stamp)) then d
    else
      let d := takeEnv u x d
      let d := trimEnv (x.lane / 8) (x.lane % 8) (setEnv u { envUnit d u with next := x.stamp + 1 } d)
      passEnv u (envUnit d u).tokens.length d

/-! ### Frequency units -/

def frqUnit (d : Device) (u : Nat) : FrqUnit := tget {} d.trig.frq u

def setFrq (u : Nat) (v : FrqUnit) (d : Device) : Device :=
  { d with trig := { d.trig with frq := tset {} d.trig.frq u v } }

def frqFor (d : Device) (s u f : Nat) : Int := valueFor d s (cfgKey 5 0 (0x2000 + 0x10 * u + f))

/-- Frequency units that read a slot at a stamp (R185). -/
def boundFrq (d : Device) (key stamp : Nat) : List Nat :=
  (List.range 8).filter (fun u => frqFor d stamp u 1 != 0 && frqFor d stamp u 0 == (key : Int))

def frqStall (d : Device) (key : Nat) : RtStall Spectrum := tget {} d.trig.frqStalls key

def setFrqStall (key : Nat) (v : RtStall Spectrum) (d : Device) : Device :=
  { d with trig := { d.trig with frqStalls := tset {} d.trig.frqStalls key v } }

/-- Stall 0x06 of a slot takes a spectrum for the units that read the slot; where it fills, a spectrum that is not computed stands for the
discarded run (R21, R185). -/
def feedFrq (key : Nat) (units : List Nat) (x : Spectrum) (d : Device) : Device :=
  if units.isEmpty || resetRuns d 0x1C0 then d
  else
    let r := spectrumPush 16 x (frqStall d key)
    let st := if r.2.2 then { r.1 with items := r.1.items ++ [{ x with computed := false, bins := [], trace := [] }] } else r.1
    let d := setFrqStall key st d
    let d := match r.2.1 with
      | some f => gapFor 0x01 f (x.stamp - f) d.cfg.generation [key / 4] (fun s => s == markSource) d
      | none => d
    if r.2.2 then raiseFault (plainFault 0x1C2 1 1 0x06) d else d

/-- Violating points of a mask unit (R185). -/
def maskCount (mask : List (Int × Int)) (offset : Int) (first last : Nat) (trace : List Int) : Nat :=
  let m := trace.length
  ((List.range (last + 1 - first)).filter (fun j =>
    let p := first + j
    let c := mask.getD ((2 * p + 1) * 2048 / (2 * m)) (32767, -32768)
    let q := trace.getD p 0
    (c.1 != 32767 && decide (c.1 + offset < q)) || (c.2 != -32768 && decide (q < c.2 + offset)))).length

/-- Power of a band in dB (R187). -/
def bandPower (e : Nat) (bins : List Int) : Int :=
  dbOfF32 (divEnbw (sumF32 (bins.map (fun q => if q == -32768 then 0 else f32Pow10 q 1280))) e)

/-- Bins inside a region of a map's cells (R188). -/
def regionCount (c : MapCtx) (colLo colHi rowLo rowHi : Nat) (bins : List Int) : Nat :=
  ((List.range bins.length).filter (fun b => match cellOf c bins.length b (bins.getD b 0) with
    | some x => decide (colLo ≤ x.1) && decide (x.1 ≤ colHi) && decide (rowLo ≤ x.2) && decide (x.2 ≤ rowHi)
    | none => false)).length

def setFrqValue (u instant : Nat) (now gap : Bool) (d : Device) : Device :=
  let v := frqUnit d u
  if now == v.value then d
  else setFrq u { v with value := now, gap := false } (postEvent (levelEvent (16 + u) instant none now (v.gap || gap)) d)

/-- The unit evaluates this spectrum. -/
def frqTakes (d : Device) (u : Nat) (x : Spectrum) : Bool :=
  decide ((frqUnit d u).next ≤ x.stamp) && frqFor d x.stamp u 1 != 0 && frqFor d x.stamp u 0 == (x.slot : Int)

/-- The next spectrum of a unit: the oldest one that stalls 0x06 hold for it. -/
def frqItem (d : Device) (u : Nat) : Option Spectrum :=
  (d.trig.frqStalls.filterMap (fun e => e.2.items.find? (frqTakes d u))).foldl (fun b x => match b with
    | none => some x
    | some y => if x.stamp < y.stamp then some x else b) none

/-- Spectra that no unit still needs leave stall 0x06. -/
def trimFrq (key : Nat) (d : Device) : Device :=
  let v := frqStall d key
  setFrqStall key { v with items := v.items.dropWhile (fun x => !(List.range 8).any (fun u => frqTakes d u x)) } d

/-- Every spectrum of the unit below a boundary has come and has been evaluated. -/
def frqPasses (d : Device) (u b : Nat) : Bool :=
  let key := (frqFor d (b - 1) u 0).toNat
  let old := (slotAt d key).old.any (fun f => decide (f.1 < b)) || (slotEnabled d key && decide ((slotAt d key).next < b))
  (frqFor d (b - 1) u 1 == 0 || !old)
    && (match frqItem d u with
        | some x => decide (b ≤ x.stamp)
        | none => true)

/-- The unit passes the boundaries that stand next: a true value falls at each (R184, R219). -/
def passFrq (u : Nat) : Nat → Device → Device
  | 0, d => d
  | n + 1, d =>
    match (frqUnit d u).tokens with
    | [] => d
    | b :: rest =>
      if frqPasses d u b then
        let d := setFrqValue u b false false d
        passFrq u n (setFrq u { frqUnit d u with tokens := rest, next := max (frqUnit d u).next b, above := false } d)
      else d

/-- One spectrum in a unit (R185-R188, R242). -/
def takeFrq (u : Nat) (x : Spectrum) (d : Device) : Device :=
  let f (n : Nat) : Int := frqFor d x.stamp u n
  let sense := f 5 == 1
  if !x.computed then
    (let d := setFrqValue u x.centre false true d
     setFrq u { frqUnit d u with gap := true, above := false } d)
  else if f 1 == 2 then
    let q := bandPower (enbwOf d x.ctx) ((x.bins.drop (f 6).toNat).take ((f 7).toNat + 1 - (f 6).toNat))
    let sg : Int := if sense then -1 else 1
    let w := frqUnit d u
    let above := if w.above then decide (sg * f 3 - f 4 ≤ sg * q) else decide (sg * f 3 ≤ sg * q)
    setFrqValue u x.centre above false (setFrq u { w with above := above } d)
  else
    let n := if f 1 == 1 then
        let m := 0x40 + (f 2).toNat
        maskCount (tget [] d.trig.masks (valueFor d x.stamp (cfgKey 5 m 1)).toNat) (valueFor d x.stamp (cfgKey 5 m 2))
          (f 6).toNat (f 7).toNat x.trace
      else regionCount (mapCtx d (x.slot / 4 * 2 + (f 11).toNat)) (f 6).toNat (f 7).toNat (f 8).toNat (f 9).toNat x.bins
    setFrqValue u x.centre (decide (f 10 ≤ (n : Int)) != sense) false d

/-- FREQUENCY_UNIT_EVALUATE: the boundaries that stand before it, and the oldest spectrum of the unit. -/
def frequencyEvaluate (u : Nat) (d : Device) : Device :=
  let d := passFrq u (frqUnit d u).tokens.length d
  match frqItem d u with
  | none => d
  | some x =>
    if (frqUnit d u).tokens.any (fun b => decide (b ≤ x.stamp)) then d
    else
      let d := takeFrq u x d
      let d := trimFrq x.slot (setFrq u { frqUnit d u with next := x.stamp + 1 } d)
      passFrq u (frqUnit d u).tokens.length d

/-! ### Tokens (R184, R219) -/

/-- Token `t` changes the unit or the lane that it is bound to. -/
def envChanges (d : Device) (t u : Nat) : Bool :=
  let own := (List.range 8).any (fun f => valueIn d (t - 1) (cfgKey 5 0 (0x1000 + 0x10 * u + f)) != valueIn d t (cfgKey 5 0 (0x1000 + 0x10 * u + f)))
  let l := (valueIn d (t - 1) (cfgKey 5 0 (0x1000 + 0x10 * u))).toNat
  own || (List.range 0x15).any (fun c => valueIn d (t - 1) (cfgKey 3 l c) != valueIn d t (cfgKey 3 l c))

def frqChanges (d : Device) (t u : Nat) : Bool :=
  (List.range 12).any (fun f => valueIn d (t - 1) (cfgKey 5 0 (0x2000 + 0x10 * u + f)) != valueIn d t (cfgKey 5 0 (0x2000 + 0x10 * u + f)))

/-- The condition units note a token that changes them. -/
def noteUnits (t : Nat) (d : Device) : Device :=
  let b := epochStart d t
  let d := ((List.range 16).filter (envChanges d t)).foldl (fun d u =>
    let v := envUnit d u
    setEnv u { v with tokens := v.tokens ++ [b] } d) d
  ((List.range 8).filter (frqChanges d t)).foldl (fun d u =>
    let v := frqUnit d u
    setFrq u { v with tokens := v.tokens ++ [b] } d) d

/-- Every unit passes the boundaries that nothing stands before. -/
def passUnits (d : Device) : Device :=
  let d := (List.range 16).foldl (fun d u => passEnv u (envUnit d u).tokens.length d) d
  (List.range 8).foldl (fun d u => passFrq u (frqUnit d u).tokens.length d) d

/-! ### MASK_LOAD (R186) -/

def maskStoreBusy (d : Device) (s : Nat) : Bool :=
  (contexts d).any (fun c => (List.range 8).any (fun u =>
    vN c 5 0 (0x2001 + 0x10 * u) == 1 && vN c 5 (0x40 + vN c 5 0 (0x2002 + 0x10 * u)) 1 == s))

def readLimits (bs : List Byte) : Option (Int × Int) :=
  let u := signed 16 (getLe bs 0 2)
  let l := signed 16 (getLe bs 2 2)
  if u < l then none else some (u, l)

def maskLoad (p : Packet) (d : Device) : Device :=
  let a := p64 p 8
  if !reservedZero p [(0, 1), (8, 8)] || decide (15 < pByte p 0) || a % 4 != 0 || !reachable d .cp false a 8192 then
    complete p .badParam [] d
  else match decodeAll readLimits (readEntries d a 4 2048) with
    | none => complete p .badParam [] d
    | some m =>
      if maskStoreBusy d (pByte p 0) then complete p .busy [] d
      else complete p .ok [] { d with trig := { d.trig with masks := tset [] d.trig.masks (pByte p 0) m } }

def execMaskLoad (p : Packet) (s : State) : Host.Outcome State Fault Refusal := act (accept p maskLoad) s
def execEnvelopeEvaluate (unit : Fin 16) (s : State) : Host.Outcome State Fault Refusal := act (envelopeEvaluate unit.val) s
def execFrequencyUnitEvaluate (unit : Fin 8) (s : State) : Host.Outcome State Fault Refusal :=
  act (frequencyEvaluate unit.val) s

end Sys2Proof.Machine
end

