-- ==== Sys2Proof/Machine/Swap.lean ====
section
/-! DEFINITION. The swap points of the blocks (R58): the parts of formed commits that a block instance has received become its
active values, and the commits that wait for adoption complete (R59). -/

namespace Sys2Proof.Machine

/-- Reply of a CFG_COMMIT that has taken effect (R59, R447). -/
def commitReply (t : Nat) (g : BitVec 32) (mask : Nat) : List Byte := leBytes 8 t ++ leBytes 4 g.toNat ++ leBytes 1 mask

/-- The relocks that a commit starts (R69), 0x01F0 for the SCLK and 0x01F1 for the LO: with WAIT_ADOPTED they count beside the blocks
it touches, and are done at step 5 (R72). -/
def relocksOf (content : List (Nat × Int)) : List Nat :=
  let writes (l : List Nat) : Bool := content.any (fun e => l.contains e.1)
  (if writes [cfgKey 1 0 1, cfgKey 1 0 2] then [0x01F0] else [])
    ++ (if writes [cfgKey 1 1 1, cfgKey 1 1 2, cfgKey 1 1 3, cfgKey 1 1 4] then [0x01F1] else [])

/-- A block instance has not applied its part of a commit of epoch `t`, or a relock has not reached step 5: after a second failure the
commit waits for the next relock that does (R72, R74). -/
def notApplied (d : Device) (t b : Nat) : Bool :=
  d.cfg.parts.any (fun p => p.block == b && p.epoch == t)
    || (b == 0x01F0 && d.clk.sclk.gated) || (b == 0x01F1 && d.clk.lo.gated)

/-- Commits with WAIT_ADOPTED whose blocks have all applied them complete (R59). -/
def settleAdoptions (d : Device) : Device :=
  let as := d.cfg.adoptions.map (fun a => { a with blocks := a.blocks.filter (notApplied d a.epoch) })
  let d := { d with cfg := { d.cfg with adoptions := as.filter (fun a => !a.blocks.isEmpty) } }
  (as.filter (fun a => a.blocks.isEmpty)).foldl (fun d a => complete a.packet .ok (commitReply a.epoch a.generation 0) d) d

/-- The changes of the waiting parts of a block instance up to an epoch, in order. -/
def waitingChanges (d : Device) (b upTo : Nat) : List (Nat × Int) :=
  (d.cfg.parts.filter (fun p => p.block == b && decide (p.epoch ≤ upTo))).flatMap (·.changes)

/-- Fields to which a list of changes gives another value than they hold (R621). -/
def changedKeys (d : Device) (l : List (Nat × Int)) : List Nat :=
  let after := withChanges (cfgVal d) l
  ((l.map (·.1)).eraseDups).filter (fun k => after k != cfgVal d k)

/-- Blocks whose fields other token blocks read: lanes, slots, the sequencer, maps. -/
def keepsUndo (b : Nat) : Bool := b / 256 == 3 || b / 256 == 4 || b / 256 == 5 || b / 256 == 7

/-- One change becomes active; the value it replaces is kept for the blocks behind. -/
def applyChange (b t : Nat) (e : Nat × Int) (d : Device) : Device :=
  let undo := if keepsUndo b then d.cfg.undo ++ [(t, e.1, cfgVal d e.1)] else d.cfg.undo
  setActive e.1 e.2 { d with cfg := { d.cfg with undo := undo } }

/-- A block instance applies its waiting parts up to an epoch. -/
def swapIn (b upTo : Nat) (d : Device) : Device :=
  let ps := d.cfg.parts.filter (fun p => p.block == b && decide (p.epoch ≤ upTo))
  let d := ps.foldl (fun d p => p.changes.foldl (fun d e => applyChange b p.epoch e d) d) d
  { d with cfg := { d.cfg with parts := d.cfg.parts.filter (fun p => !(p.block == b && decide (p.epoch ≤ upTo))) } }

/-- A swap point of blocks without epoch tokens: every part received is applied. -/
def swapBlocks (bs : List Nat) (d : Device) : Device :=
  if bs.any (fun b => d.cfg.parts.any (fun p => p.block == b)) then
    settleAdoptions (bs.foldl (fun d b => swapIn b (2 ^ 64) d) d)
  else d

end Sys2Proof.Machine
end

