-- ==== Sys2Proof/Machine/Display.lean ====
section
/-! DEFINITION. Scan-out, its layers, plane latching and DisplayPort ports; DISP_COMMIT, YARD_ALLOC and YARD_FREE
(09_density_and_live_view.md). -/

namespace Sys2Proof.Machine

def scanN (d : Device) (code : Nat) : Nat := cfgN d 8 0 code
def dpN (d : Device) (port code : Nat) : Nat := cfgN d 8 (port + 1) code

def dpPort (d : Device) (n : Nat) : DpPort := tget {} d.disp.ports n

def setDpPort (n : Nat) (v : DpPort) (d : Device) : Device :=
  { d with disp := { d.disp with ports := tset {} d.disp.ports n v } }

/-- A display mode (R260): active pixels and lines, pixel clock in 10 kHz, front porch, sync and back porch in pixels and in lines, and
whether HSYNC and VSYNC are positive. -/
structure ModeTiming where
  active : Nat × Nat
  clock : Nat
  h : Nat × Nat × Nat
  v : Nat × Nat × Nat
  positive : Bool × Bool

def modeTiming : Nat → ModeTiming
  | 0 => { active := (1280, 720), clock := 7425, h := (110, 40, 220), v := (5, 5, 20), positive := (true, true) }
  | 1 => { active := (1920, 1080), clock := 14850, h := (88, 44, 148), v := (4, 5, 36), positive := (true, true) }
  | 2 => { active := (1920, 1200), clock := 15400, h := (48, 32, 80), v := (3, 6, 26), positive := (true, false) }
  | 3 => { active := (2560, 1440), clock := 24150, h := (48, 32, 80), v := (3, 5, 33), positive := (true, false) }
  | 4 => { active := (3840, 2160), clock := 29700, h := (176, 88, 296), v := (8, 10, 72), positive := (true, true) }
  | _ => { active := (3840, 2160), clock := 59400, h := (176, 88, 296), v := (8, 10, 72), positive := (true, true) }

def modeActive (m : Nat) : Nat × Nat := (modeTiming m).active
def modeClock (m : Nat) : Nat := (modeTiming m).clock

/-- Blanking lines of the nominal frame. -/
def modeBlanking (m : Nat) : Nat := let v := (modeTiming m).v; v.1 + v.2.1 + v.2.2

/-- V total. -/
def modeTotal (m : Nat) : Nat := (modeActive m).2 + modeBlanking m

/-- Display frames per second (R260). -/
def modeRefresh (m : Nat) : Rat :=
  let h := (modeTiming m).h
  (modeClock m * 10000 : Nat) / (((modeActive m).1 + h.1 + h.2.1 + h.2.2) * modeTotal m : Nat)

/-- Main-link symbol payload in units of 10 kb/s per lane (R262: 8b/10b). -/
def linkRate : Nat → Nat
  | 0 => 129600
  | 1 => 216000
  | 2 => 432000
  | _ => 648000

/-- Variable timing is in use (R261). -/
def variableTiming (d : Device) : Bool :=
  scanN d 2 == 1 && (List.range 2).all (fun n =>
    let p := dpPort d n
    !(p.connected && dpN d n 1 == 1) || p.adaptive)

/-! ### Composition (R257, R258) -/

abbrev Pixel := Nat × Nat × Nat

/-- Addresses of the three components of an image pixel in memory, chroma upsampled by repetition (R255, R257). -/
def imagePixel (fmt y c v stride px py : Nat) : Nat × Nat × Nat :=
  let cy := if fmt == 1 then py else py / 2
  if fmt == 2 then
    let o := cy * (stride / 2) + px / 2
    (y + py * stride + px, c + o, v + o)
  else
    let o := cy * stride + px / 2 * 2
    (y + py * stride + px, c + o, c + o + 1)

/-- A byte that scan-out reads; none where its 64-byte line is poisoned (R470). -/
def scanByte (d : Device) (a : Nat) : Option Nat := if poisoned d a 1 then none else some (memByte d.mem a).toNat

/-- The pixel at three addresses. -/
def readPixel (d : Device) (a : Nat × Nat × Nat) : Option Pixel :=
  match scanByte d a.1, scanByte d a.2.1, scanByte d a.2.2 with
  | some y, some cb, some cr => some (y, cb, cr)
  | _, _, _ => none

/-- Pixel addresses of the L0 image at image coordinates (R257), with the image's size. -/
def l0Image (d : Device) : Option (Nat × Nat × (Nat → Nat → Nat × Nat × Nat)) :=
  let st := d.disp.active
  if st.l0Off then none
  else if scanN d 4 == 0 then
    match st.l0 with
    | some p => (bufferOf d p.handle).map (fun b =>
        (scanN d 6, scanN d 7, fun x y => imagePixel (scanN d 5) (b.base + p.y) (b.base + p.c) (b.base + p.v) (scanN d 8) x y))
    | none => none
  else match st.colour with
    | some (h, j, cols, rows, fmt) => (bufferOf d h).map (fun b =>
        let n := 2 ^ cols * 2 ^ rows
        let base := b.base + j * colourSlotOf n fmt
        (2 ^ cols, 2 ^ rows, fun x y => imagePixel fmt base (base + n) (base + n + n / 4) (2 ^ cols) x y))
    | none => none

/-- Addresses of the L0 pixel at output coordinates. -/
def l0At (d : Device) (img : Option (Nat × Nat × (Nat → Nat → Nat × Nat × Nat))) (x y : Nat) : Option (Nat × Nat × Nat) :=
  match img with
  | some (w, h, f) =>
    let hs := scanN d 0xB
    let vs := scanN d 0xC
    let x0 := scanN d 9
    let y0 := scanN d 0xA
    if x0 ≤ x ∧ y0 ≤ y ∧ (x - x0) / hs < w ∧ (y - y0) / vs < h then some (f ((x - x0) / hs) ((y - y0) / vs)) else none
  | none => none

/-- Addresses of the L1 pixel and of its alpha at output coordinates. -/
def l1At (d : Device) (x y : Nat) : Option ((Nat × Nat × Nat) × Nat) :=
  match d.disp.active.l1 with
  | none => none
  | some p =>
    let x0 := scanN d 0x14
    let y0 := scanN d 0x15
    if x0 ≤ x ∧ y0 ≤ y ∧ x - x0 < scanN d 0x11 ∧ y - y0 < scanN d 0x12 then
      (bufferOf d p.handle).map (fun b =>
        (imagePixel (scanN d 0x10) (b.base + p.y) (b.base + p.c) (b.base + p.v) (scanN d 0x13) (x - x0) (y - y0),
          b.base + p.alpha + (y - y0) * scanN d 0x13 + (x - x0)))
    else none

def bgPixel (d : Device) : Pixel := (bits (scanN d 0x20) 0 8, bits (scanN d 0x20) 8 8, bits (scanN d 0x20) 16 8)

def blend (a l1 below : Nat) : Nat := (a * l1 + (255 - a) * below + 127) / 255

/-- One composed output pixel (R258); none where a byte that it needs is poisoned. -/
def composePixel (d : Device) (img : Option (Nat × Nat × (Nat → Nat → Nat × Nat × Nat))) (x y : Nat) : Option Pixel :=
  let below := match l0At d img x y with
    | some a => readPixel d a
    | none => some (bgPixel d)
  match l1At d x y with
  | none => below
  | some (l1, alpha) =>
    match below, readPixel d l1, scanByte d alpha with
    | some b, some p, some a => some (blend a p.1 b.1, blend a p.2.1 b.2.1, blend a p.2.2 b.2.2)
    | _, _, _ => none

/-- The conversion of pixfmt 0 (R258). -/
def toRgb (p : Pixel) : Pixel :=
  let y : Int := (p.1 : Int) - 16
  let cb : Int := (p.2.1 : Int) - 128
  let cr : Int := (p.2.2 : Int) - 128
  let c (v : Int) : Nat := (clampInt 0 255 ((v + 2048) / 4096)).toNat
  (c (4769 * y + 7343 * cr), c (4769 * y - 873 * cb - 2183 * cr), c (4769 * y + 8652 * cb))

/-- What a port sends for a composed line: nothing but idle patterns while it is not trained or not enabled (R262). -/
def sentLine (d : Device) (port : Nat) (l : List Pixel) : List Pixel :=
  if !(dpPort d port).trained || dpN d port 1 != 1 then []
  else if dpN d port 2 == 1 then l else l.map toRgb

/-- LINE_FETCH (R258, R259, R470): active line `line` is composed and sent. The pixels of the ranges `late` (first pixel, count), whose
data has not arrived, and those whose data is poisoned are sent as bg. -/
def lineFetch (line : Nat) (late : List (Nat × Nat)) (d : Device) : Device :=
  let size := modeActive (scanN d 1)
  if !d.disp.running || d.disp.blanking || size.2 ≤ line then d
  else if d.disp.black then
    let l := List.replicate size.1 (16, 128, 128)
    { d with disp := { d.disp with line0 := sentLine d 0 l, line1 := sentLine d 1 l } }
  else
    let img := l0Image d
    let isLate (x : Nat) : Bool := late.any (fun r => decide (r.1 ≤ x) && decide (x < r.1 + r.2))
    let px := (List.range size.1).map (fun x => if isLate x then none else composePixel d img x line)
    let l := px.map (·.getD (bgPixel d))
    let d := { d with disp := { d.disp with line0 := sentLine d 0 l, line1 := sentLine d 1 l } }
    if px.all (·.isSome) then d
    else
      let under := (List.range size.1).any isLate
      let first := under && !d.disp.underflowRaised
      let d := { d with disp := { d.disp with
        underflowLines := d.disp.underflowLines + 1, underflowRaised := d.disp.underflowRaised || under } }
      if first then raiseFault (plainFault 0x190 4 0 0) d else d

/-! ### Plane latching and buffer holds (R263, R264, R267) -/

/-- A plane state names a buffer (R267). -/
def bufferHeld (d : Device) (h : Nat) : Bool :=
  (holdingStates d).any (fun p =>
    p.l0.any (fun x => x.handle == h) || p.l1.any (fun x => x.handle == h) || p.colour.any (fun x => x.1 == h))

/-- Buffers whose YARD_FREE waits and that no state names any longer retire (R267). -/
def retireBuffers (d : Device) : Device :=
  let gone := d.yard.buffers.filter (fun b => match b.handle, b.freeing with
    | some h, some _ => !bufferHeld d h
    | _, _ => false)
  let d := { d with yard := { d.yard with buffers := d.yard.buffers.filter (fun b => !gone.contains b) } }
  gone.foldl (fun d b => completeOpt b.freeing .deferred [] d) d

def dispBlocks : List Nat := [0x0800, 0x0801, 0x0802]

/-- Fields whose change retrains both outputs (R270). -/
def retrainKeys (ks : List Nat) : Bool :=
  ks.any (fun k => k == cfgKey 8 0 1 || k == cfgKey 8 0 2
    || (k / 65536 != 0x0800 && (k % 65536 == 2 || k % 65536 == 3 || k % 65536 == 4)))

/-- LATCH_INSTANT (R263, R264, R270, R272). With variable timing every further line start in the blanking is one, until new content has
been latched. -/
def latchInstant (d : Device) : Device :=
  if !d.disp.running || (d.disp.blanking && (!variableTiming d || d.disp.newLatched)) then d
  else
    let keys := dispBlocks.flatMap (fun b => changedKeys d (waitingChanges d b (2 ^ 64)))
    let d := swapBlocks dispBlocks d
    let d := if retrainKeys keys then
        { d with disp := { d.disp with ports := d.disp.ports.map (fun e => (e.1, { e.2 with trained := false })) } }
      else { d with disp := { d.disp with ports := d.disp.ports.map (fun e => (e.1, { e.2 with trained := e.2.trained && dpN d e.1 1 == 1 })) } }
    let s := scanN d 4
    let st : PlaneState := { d.disp.committed with colour := if s == 0 then none else (densMap d (s - 1)).colourDone }
    let d := { d with disp := { d.disp with
        latched := st, blanking := true, blankLine := if d.disp.blanking then d.disp.blankLine + 1 else 0, newLatched := d.disp.newContent, newContent := false,
        black := d.disp.black && d.power.state == .safe } }
    raiseEvent 0x190 1 (ballIndex d) d.disp.frameCount.toNat (retireBuffers d)

/-- The display frame starts behind `lines` blanking lines: the nominal ones, and with variable timing those until new content is
latched, at most up to vrr_max (R261, R264). -/
def frameStartsAt (d : Device) (lines : Nat) : Bool :=
  let nominal := modeBlanking (scanN d 1)
  let longest := (if scanN d 3 == 0 then modeTotal (scanN d 1) else scanN d 3) - (modeActive (scanN d 1)).2
  if !variableTiming d then lines == nominal
  else if d.disp.newLatched then lines == max nominal d.disp.blankLine
  else lines == longest

/-- DISPLAY_FRAME_START (R263, R264): behind `lines` blanking lines the latched state becomes the active state. -/
def displayFrameStart (lines : Nat) (d : Device) : Device :=
  if !d.disp.running || !d.disp.blanking || !frameStartsAt d lines then d
  else { d with disp := { d.disp with
      active := d.disp.latched, blanking := false, newLatched := false, underflowRaised := false,
      frameCount := d.disp.frameCount + 1 } }

/-- Scan-out loses its plane states (R274): SLEEP, BLOCK_RESET. -/
def clearPlanes (d : Device) : Device :=
  retireBuffers { d with disp := { d.disp with committed := {}, latched := {}, active := {}, newContent := false } }

/-- Scan-out starts (R274). -/
def startScan (d : Device) : Device :=
  { d with disp := { d.disp with running := true, blanking := false, frameCount := 0, newLatched := false } }

/-! ### DisplayPort ports (R262, R273) -/

/-- Hot plug: what the sink's DPCD reports, the ignored MSA timing and its highest lane count and rate. -/
def hotPlug (n : Nat) (adaptive : Bool) (lanes rate : Nat) (d : Device) : Device :=
  if !d.disp.running then d
  else raiseEvent (0x191 + n) 1 (ballIndex d) 0
    (setDpPort n { dpPort d n with connected := true, trained := false, adaptive := adaptive, sinkLanes := lanes, sinkRate := rate } d)

def unplug (n : Nat) (d : Device) : Device :=
  if !(dpPort d n).connected then d else raiseEvent (0x191 + n) 2 (ballIndex d) 0 (setDpPort n {} d)

/-- Training ends with `lanes` lanes at a rate, neither above what the sink supports nor above max_rate; 0 lanes when it fails (R262). -/
def linkTrained (n lanes rate : Nat) (d : Device) : Device :=
  let p := dpPort d n
  if !d.disp.running || !p.connected || dpN d n 1 != 1 then d
  else if (lanes != 1 && lanes != 2 && lanes != 4) || decide (p.sinkLanes < lanes) then raiseFault (plainFault (0x191 + n) 5 0 0) d
  else
    let rate := min (min rate (min p.sinkRate 3)) (dpN d n 3)
    if lanes * linkRate rate < modeClock (scanN d 1) * 24 then
      raiseEvent (0x191 + n) 5 (ballIndex d) 0 (setDpPort n { p with trained := false, lanes := lanes, rate := rate } d)
    else raiseEvent (0x191 + n) 3 (ballIndex d) 0 (setDpPort n { p with trained := true, lanes := lanes, rate := rate } d)

def linkLost (n : Nat) (d : Device) : Device :=
  let p := dpPort d n
  if !p.trained then d else raiseEvent (0x191 + n) 4 (ballIndex d) 0 (setDpPort n { p with trained := false } d)

/-- disp.dpn.status (R270). -/
def dpStatus (d : Device) (n : Nat) : Nat :=
  let p := dpPort d n
  boolN p.connected + 2 * boolN p.trained + 4 * (p.lanes / 2) + 16 * p.rate + 64 * boolN p.adaptive
    + 128 * boolN (d.disp.running && variableTiming d)

/-! ### DISP_COMMIT (R265) -/

/-- Every plane of the given format, size and stride lies within a buffer of `size` bytes. -/
def planesFit (size layer fmt h stride : Nat) (p : Planes) : Bool :=
  let ch := if fmt == 1 then h else h / 2
  let cs := if fmt == 2 then stride / 2 else stride
  decide (p.y + stride * h ≤ size) && decide (p.c + cs * ch ≤ size) && (fmt != 2 || decide (p.v + cs * ch ≤ size))
    && p.y % 64 == 0 && p.c % 64 == 0 && p.v % 64 == 0 && (fmt == 2 || layer == 1 || p.v == 0)

/-- The planes of a layer are valid in a buffer that YARD_ALLOC returned. -/
def planesOk (d : Device) (layer : Nat) (p : Planes) : Bool :=
  let o := if layer == 0 then 5 else 0x10
  match bufferOf d p.handle with
  | none => false
  | some b =>
    let h := scanN d (o + 2)
    let stride := scanN d (o + 3)
    p.handle != 0 && b.freeing.isNone && planesFit b.size layer (scanN d o) h stride p
      && (layer == 0 || (p.alpha % 64 == 0 && decide (p.alpha + stride * h ≤ b.size)))

/-- Number of the display frame that first shows a state committed now (R263, R264). -/
def showFrame (d : Device) : Nat :=
  if d.disp.blanking && (!variableTiming d || d.disp.newLatched) then d.disp.frameCount.toNat + 2
  else d.disp.frameCount.toNat + 1

def dispCommit (p : Packet) (d : Device) : Device :=
  let f := pByte p 0
  let l0 : Planes := { handle := p16 p 2, y := p32 p 8, c := p32 p 12, v := p32 p 16, alpha := 0 }
  let l1 : Planes := { handle := p16 p 4, y := p32 p 20, c := p32 p 24, v := p32 p 28, alpha := p32 p 32 }
  if !reservedZero p [(0, 1), (2, 4), (8, 28)] || decide (15 < f) || (bit f 0 && !planesOk d 0 l0)
      || (bit f 1 && !planesOk d 1 l1) then complete p .badParam [] d
  else if bit f 0 && scanN d 4 != 0 then complete p .badState [] d
  else
    let c := d.disp.committed
    let c := { c with
      l0 := if bit f 2 then none else if bit f 0 then some l0 else c.l0,
      l1 := if bit f 3 then none else if bit f 1 then some l1 else c.l1,
      l0Off := bit f 2 }
    let fresh := bit f 1 || bit f 3 || (scanN d 4 == 0 && (bit f 0 || bit f 2))
    let n := showFrame d
    let d := { d with disp := { d.disp with committed := c, newContent := d.disp.newContent || fresh } }
    complete p .ok (leBytes 8 n) (retireBuffers d)

/-! ### The Yard pool (R266, R267, R286) -/

/-- A range of the populated Yard overlaps no allocated area. -/
def poolFree (d : Device) (a size : Nat) : Bool :=
  decide (yardBase ≤ a) && decide (a + size ≤ yardBase + yardBytes d)
    && d.yard.buffers.all (fun b => decide (a + size ≤ b.base) || decide (b.base + b.size ≤ a))

/-- Lowest base, a multiple of `align`, of a free range of the pool. -/
def poolFind (d : Device) (size align : Nat) : Option Nat :=
  let up (a : Nat) : Nat := ceilDiv a align * align
  match ((up yardBase :: d.yard.buffers.map (fun b => up (b.base + b.size))).filter (fun a => poolFree d a size)) with
  | [] => none
  | a :: as => some (as.foldl min a)

def addBuffer (b : YardBuffer) (d : Device) : Device :=
  { d with yard := { d.yard with buffers := d.yard.buffers ++ [b] } }

def yardAlloc (p : Packet) (d : Device) : Device :=
  let size := p64 p 0
  if !reservedZero p [(0, 8)] || size % 2 ^ 21 != 0 || size == 0 || decide (2 ^ 34 < size) then complete p .badParam [] d
  else match poolFind d size (2 ^ 21), (List.range 4096).find? (fun h => h != 0 && (bufferOf d h).isNone) with
    | some a, some h =>
      complete p .ok (leBytes 2 h ++ zeroBytes 6 ++ leBytes 8 a) (addBuffer { base := a, size := size, handle := some h } d)
    | _, _ => complete p .noResource [] d

/-- A Reed window of the active or a pending context lies in a buffer (R407). -/
def underWindow (d : Device) (b : YardBuffer) : Bool :=
  (contexts d).any (fun c => (List.range 32).any (fun n => (List.range 4).any (fun w =>
    let size := vN c 0xD n (0x14 + w)
    let base := vN c 0xD n (0x10 + w)
    size != 0 && decide (base < b.base + b.size) && decide (b.base < base + size))))

/-- col_buf of the active or a pending dens context names a buffer (R267). -/
def namedByMap (d : Device) (h : Nat) : Bool :=
  (contexts d).any (fun c => (List.range 8).any (fun m => vN c 7 m 0x16 == h))

def yardFree (p : Packet) (d : Device) : Device :=
  let h := p16 p 0
  if !reservedZero p [(0, 2)] then complete p .badParam [] d
  else match if h == 0 then none else bufferOf d h with
    | none => complete p .badParam [] d
    | some b =>
      if b.freeing.isSome then complete p .badState [] d
      else if namedByMap d h || underWindow d b then complete p .busy [] d
      else if bufferHeld d h then
        let bs := d.yard.buffers.map (fun x => if x = b then { b with freeing := some p } else x)
        park p { d with yard := { d.yard with buffers := bs } }
      else complete p .ok [] { d with yard := { d.yard with buffers := d.yard.buffers.erase b } }

def execLatchInstant (s : State) : Host.Outcome State Fault Refusal := act latchInstant s
def execDisplayFrameStart (s : State) (lines : Nat := 0) : Host.Outcome State Fault Refusal := act (displayFrameStart lines) s
def execLineFetch (line : Nat) (late : List (Nat × Nat)) (s : State) : Host.Outcome State Fault Refusal :=
  act (lineFetch line late) s
def execHotPlug (port : Fin 2) (sink : SinkCaps) (s : State) : Host.Outcome State Fault Refusal :=
  act (hotPlug port.val sink.adaptive sink.lanes sink.rate) s
def execUnplug (port : Fin 2) (s : State) : Host.Outcome State Fault Refusal := act (unplug port.val) s
def execLinkTrained (port : Fin 2) (lanes rate : Nat) (s : State) : Host.Outcome State Fault Refusal :=
  act (linkTrained port.val lanes rate) s
def execLinkLost (port : Fin 2) (s : State) : Host.Outcome State Fault Refusal := act (linkLost port.val) s
def execDispCommit (p : Packet) (s : State) : Host.Outcome State Fault Refusal := act (accept p dispCommit) s
def execYardAlloc (p : Packet) (s : State) : Host.Outcome State Fault Refusal := act (accept p yardAlloc) s
def execYardFree (p : Packet) (s : State) : Host.Outcome State Fault Refusal := act (accept p yardFree) s

end Sys2Proof.Machine
end

