-- ==== Sys2Proof/Machine/Keys.lean ====
section
/-! DEFINITION. What Paddock gives the other blocks: DRBG bytes, key slots, key wrapping and HMAC-SHA-384 over the opaque
algorithms of Config (R557-R560). -/

namespace Sys2Proof.Machine

/-- Bytes from the DRBG: free values (R557). -/
def drbgBytes (n : Nat) (d : Device) : List Byte × Device :=
  ((List.range n).map (fun i => BitVec.ofNat 8 (Config.drbg (d.fresh + i))),
   { d with fresh := d.fresh + n, pad := { d.pad with drbgCount := (d.pad.drbgCount + 1) % 2 ^ 20 } })

/-- KILL is set: at least 5 of its 8 bits are blown (R544). -/
def killed (f : Fuses) : Bool := decide (5 ≤ ((List.range 8).filter (fun i => bit f.kill.toNat i)).length)

/-- The key of a slot: slot 0 is derived from HUK and unusable once KILL is blown (R558, R563). -/
def keyOfSlot (d : Device) (n : Nat) : Option (BitVec 256) :=
  if n == 0 then (if !killed d.pad.fuses then some (Config.kekFromHuk d.pad.fuses.huk) else none)
  else tget none d.pad.slots n

def keyBytes (k : BitVec 256) : List Byte := leBytes 32 k.toNat
def bytesKey (bs : List Byte) : BitVec 256 := BitVec.ofNat 256 (leNat bs)

/-- Bytes of a SHA-384 digest. -/
def digestBytes (bs : List Byte) : List Byte := leBytes 48 (Config.sha384 bs).toNat

/-- HMAC-SHA-384 under a key of at most 128 bytes (FIPS 198-1). -/
def hmacSha384 (key msg : List Byte) : List Byte :=
  let k := padTo key 128
  digestBytes (k.map (· ^^^ 0x5C#8) ++ digestBytes (k.map (· ^^^ 0x36#8) ++ msg))

end Sys2Proof.Machine
end

