-- ==== Sys2Proof/Machine/Trigger.lean ====
section
/-! DEFINITION. The trigger sequencer: evaluation of instants, transitions, actions, MARK records, record windows,
TRIG_ARM, TRIG_FORCE, TRIG_STATUS (07_triggers.md). Measurements stand in Machine/Measure.lean. -/

namespace Sys2Proof.Machine

def aligned (d : Device) : Bool := trigN d 1 == 0

/-- Field `f` of transition `m` of state `s` (R216). -/
def transN (d : Device) (s m f : Nat) : Nat := cfgN d 5 (0x10 + s) (0x100 * (m + 1) + f)

/-- A time in fabric cycles as sample periods (R193). -/
def cyclesToSamples (d : Device) (n : Nat) : Nat := n * fsclkHz d / 1280000000

/-- Limit of the transition timer (R193). -/
def transLimit (d : Device) (m : Nat) : Nat := cyclesToSamples d (transN d d.trig.state m 4)

/-- Used bytes of a condition: source and negation (R192). -/
def usedSources (cond : Nat) : List (Nat × Bool) :=
  (List.range 4).filterMap (fun j =>
    let b := bits cond (8 * j) 8
    if bit b 7 then some (b % 64, bit b 6) else none)

/-- The combination of the used sources (R192). -/
def combine (or_ : Bool) (used : List (Nat × Bool)) (val : Nat → Bool) : Bool :=
  if used.isEmpty then false
  else if or_ then used.any (fun u => val u.1 != u.2) else used.all (fun u => val u.1 != u.2)

def combOf (d : Device) (m : Nat) (val : Nat → Bool) : Bool :=
  combine (transN d d.trig.state m 1 == 1) (usedSources (transN d d.trig.state m 0)) val

def levelVal (d : Device) (n : Nat) : Bool := d.trig.levels.getLsbD n

/-! ### Record windows (R206, R207) -/

def trigWindow (d : Device) (w : Nat) : TrigWindow := tget {} d.trig.windows w

def setWindow (w : Nat) (v : TrigWindow) (d : Device) : Device :=
  { d with trig := { d.trig with windows := tset {} d.trig.windows w v } }

/-- A measurement starts with its window (R209). -/
def startMeas (w t : Nat) (late : Bool) (d : Device) : Device :=
  if winN d w 4 != 1 then d
  else
    let code := winN d w 5
    let at_ (f : Nat) : Nat := (valueIn d (t / 2 ^ epochExp d) (cfgKey 3 code f)).toNat
    let k := at_ 4
    { d with trig := { d.trig with meas := d.trig.meas ++ [{
        window := w, lane := code, opened := t, start := gridUp k t, next := gridUp k t, close := none, samples := [], cut := false,
        disarmed := false, late := late, short := false, lo := cfgInt d 5 0 (0x3006 + 0x10 * w),
        hi := cfgInt d 5 0 (0x3007 + 0x10 * w), k := k, gain := at_ 5,
        nco := at_ 2, gen := blockGeneration d 0x0500 }] } }

/-- The running measurement of a window ends at `t` (R209-R212). -/
def endMeas (w t : Nat) (cut disarmed : Bool) (d : Device) : Device :=
  let ms := d.trig.meas.filter (fun m => m.window == w)
  { d with trig := { d.trig with
      meas := d.trig.meas.filter (fun m => m.window != w),
      ended := d.trig.ended ++ ms.map (fun m => { m with close := some t, cut := cut, disarmed := disarmed }) } }

/-- The tokens below instant `lim` that reset a lane end the measurements on it that run since an instant below them (R212). -/
def settleCuts (lim : Nat) (d : Device) : Device :=
  let due := d.trig.laneCuts.filter (fun c => decide (c.2 < lim))
  due.foldl (fun d c =>
    let d := (d.trig.meas.filter (fun m => m.lane == c.1 && decide (m.opened < c.2))).foldl (fun d m => endMeas m.window c.2 true false d) d
    { d with trig := { d.trig with laneCuts := d.trig.laneCuts.erase c } }) d

/-- An action enters stall 0x09; room for it was made sure of before. -/
def sendAction (a : SeqAction) (d : Device) : Device :=
  { d with trig := { d.trig with actions := d.trig.actions ++ [a] } }

/-- Those of the windows that are open close at `t`: one action (R196, R207). -/
def closeWindows (ws : List Nat) (t : Nat) (disarmed : Bool) (d : Device) : Device :=
  match ws.filter (fun w => (trigWindow d w).isOpen) with
  | [] => d
  | os => os.foldl (fun d w => endMeas w t false disarmed (setWindow w {} d)) (sendAction (.close os t) d)

/-- One window of a RECORD_OPEN (R206, R207). -/
def openWindow (w t : Nat) (late : Bool) (d : Device) : Device :=
  let v := trigWindow d w
  let post := winN d w 2
  let auto := if post == 0 then none else some (t + post)
  if v.isOpen then
    if winN d w 3 == 0 then
      raiseEvent 0x1C3 1 t 0 { d with trig := { d.trig with windowRetrig := true } }
    else setWindow w { v with autoClose := auto } d
  else startMeas w t late (setWindow w { isOpen := true, openedAt := t, autoClose := auto } d)

/-- RECORD_OPEN of several windows: one action for those that are not open. -/
def openWindows (ws : List Nat) (t : Nat) (late : Bool) (d : Device) : Device :=
  let new := ws.filter (fun w => !(trigWindow d w).isOpen)
  ws.foldl (fun d w => openWindow w t late d) (if new.isEmpty then d else sendAction (.open new t) d)

/-- Windows of a mask, ascending. -/
def windowsOf (mask : Nat) : List Nat := (List.range 8).filter (fun w => bit mask w)

/-! ### Trigger bus (R496, R497) -/

/-- A line is true from `a` up to but excluding `b`: an overlapping true interval is extended. -/
def assertLine (line a b : Nat) (d : Device) : Device :=
  if d.group.busIntervals.any (fun x => x.1 == line && decide (a ≤ x.2.2)) then
    { d with group := { d.group with busIntervals := d.group.busIntervals.map (fun x =>
        if x.1 == line && decide (a ≤ x.2.2) then (line, min x.2.1 a, max x.2.2 b) else x) } }
  else postEvent (levelEvent (28 + line) a none true false)
    { d with group := { d.group with busIntervals := d.group.busIntervals ++ [(line, a, b)] } }

/-- The BUS_ASSERT of an origin for lines `mask` at instant `t` reaches this device (R496, R497, R515). -/
def assertBus (mask t : Nat) (d : Device) : Device :=
  let en := cfgN d 0x0F 0 8
  let a := t + cfgN d 0x0F 0 5
  let b := a + cfgN d 0x0F 0 7
  let late := decide (a < firstUnevaluated d)
  let e := epochIndex d
  let d := if !late then d
    else
      let first := d.group.busLateEpoch != some e
      let d := { d with group := { d.group with busLate := d.group.busLate + 1, busLateEpoch := some e } }
      if first then raiseEvent 0x3C4 5 a 0 d else d
  ((List.range 8).filter (fun n => bit mask n && bit en n)).foldl (fun d n => assertLine n a b d) d

/-! ### Counters and timers (R190) -/

def counterOp (d : Device) (n op : Nat) : BitVec 32 :=
  let c := tget 0 d.trig.counters n
  match op with
  | 0 => c + 1
  | 1 => c - 1
  | 2 => 0
  | _ => BitVec.ofNat 32 (trigN d (0x34 + n))

/-- The counter operation of ctr_op, with the pulse of the counter's source at the instant after. -/
def counterPart (t op : Nat) (d : Device) : Device :=
  if !bit op 7 then d
  else
    let n := op % 4
    let c := counterOp d n (bits op 2 2)
    let d := { d with trig := { d.trig with counters := tset 0 d.trig.counters n c } }
    if c.toNat == trigN d (0x30 + n) then postEvent (pulseEvent (36 + n) (t + 1) none false) d else d

def setTimer (n : Nat) (v : Option (Nat × Nat)) (d : Device) : Device :=
  { d with trig := { d.trig with timers := tset none d.trig.timers n v } }

/-- The timer operation of ctr_op. -/
def timerPart (t op : Nat) (d : Device) : Device :=
  let n := bits op 4 1
  let lim := cyclesToSamples d (trigN d (0x38 + n))
  match bits op 5 2 with
  | 1 => if (tget none d.trig.timers n).isSome then d else setTimer n (some (t, max 1 lim)) d
  | 2 => setTimer n none d
  | 3 => setTimer n (some (t, max 1 lim)) d
  | _ => d

/-- A timer whose limit has been reached pulses its source (R179). -/
def expireTimer (n : Nat) (d : Device) : Device :=
  match tget none d.trig.timers n with
  | none => d
  | some (s, l) => postEvent (pulseEvent (40 + n) (s + l) none false) (setTimer n none d)

/-! ### MARK records (R204, R205) -/

/-- The firing source: the lowest used source whose change, pulse or end of a pulse at the instant fits, else the lowest used one. -/
def firingSource (used : List (Nat × Bool)) (evs : List TrigEvent) (ended : BitVec 48) (val : Nat → Bool) : Nat :=
  match used.filter (fun u => (evs.any (fun e => e.source == u.1) || ended.getLsbD u.1) && val u.1 != u.2) with
  | [] => match used with
    | [] => 0x3F
    | _ => listMin 0x3F (used.map (·.1))
  | us => listMin 0x3F (us.map (·.1))

/-- The event of the firing source. -/
def firingEvent (d : Device) (m : Nat) (evs : List TrigEvent) (pulses : BitVec 48) : Nat × Option TrigEvent :=
  let val (n : Nat) : Bool := levelVal d n || pulses.getLsbD n
  let fs := firingSource (usedSources (transN d d.trig.state m 0)) evs (d.trig.pulsed &&& ~~~pulses) val
  (fs, evs.find? (fun e => e.source == fs))

/-- Sample index at the input balls when the sequencer evaluates `t` (R197, R619): in aligned mode that of t + horizon, and after a decrease
of the horizon not before 16 instants per fabric cycle have brought it there. -/
def evalIndex (d : Device) (t : Nat) : Nat :=
  if aligned d then
    match d.trig.catchUp with
    | some (b, i) => max (t + trigN d 2) (i + cyclesToSamples d ((t - b) / 16 + 1))
    | none => t + trigN d 2
  else ballIndex d

/-- The MARK of a firing transition. -/
def markRecord (t m : Nat) (evs : List TrigEvent) (pulses : BitVec 48) (d : Device) : Device :=
  let s := d.trig.state
  let used := usedSources (transN d s m 0)
  let fe := firingEvent d m evs pulses
  let fs := fe.1
  let ev := fe.2
  let late := (ev.map (·.late)).getD false
  let inst := if late then (ev.map (·.instant)).getD t else t
  let frac := ev.bind (·.fraction)
  let ooo := match d.trig.lastMark with
    | some l => decide (inst < l)
    | none => false
  let gap := used.any (fun u => d.trig.gaps.getLsbD u.1)
  let flags := boolN (!aligned d) + 2 * boolN late + 4 * boolN ooo + 8 * boolN frac.isSome + 16 * boolN gap
    + 32 * boolN (pulses.getLsbD 47)
  let payload := leBytes 1 (transN d s m 7) ++ leBytes 1 (s + 16 * transN d s m 5) ++ leBytes 1 (m + 4 * fs) ++ zeroBytes 1
    ++ leBytes 2 flags ++ leBytes 2 (frac.getD 0) ++ leBytes 8 (evalIndex d t) ++ leBytes 6 (d.trig.levels ||| pulses).toNat
    ++ zeroBytes 2
  let d := { d with trig := { d.trig with
    lastMark := some inst, outOfOrder := d.trig.outOfOrder || ooo, markCount := d.trig.markCount + 1 } }
  emitRec { type := 0x05, source := markSource, flags := headerFlags d [], firstIndex := inst,
            generation := blockGeneration d 0x0500, payload := payload } d

/-! ### States (R194) -/

/-- Enter a state with entry instant `t`. -/
def enterState (s t : Nat) (d : Device) : Device :=
  let d := { d with trig := { d.trig with
    state := s, entry := t, occ := [0, 0, 0, 0], timerDone := 0, gaps := 0, again := some (t + 1) } }
  { d with trig := { d.trig with prevComb := maskOf 4 (fun m => combOf d m (levelVal d)) } }

/-! ### Trigger outputs (R202) -/

/-- Device time at which a pulse that an action of instant `t` starts on output `n` ends: in aligned mode it begins when the converter
samples t + horizon + 256; a fabric cycle is 25/32 ns. -/
def pulseEnd (d : Device) (t n : Nat) : Nat :=
  let lead := if aligned d then t + trigN d 2 + 256 - ballIndex d else 0
  let ns := if fsclkHz d == 0 then 0 else ceilDiv (lead * 1000000000) (fsclkHz d)
  d.time + ns + ceilDiv (25 * trigN d (0x10 + n)) 32

/-- A pulse on each output of a mask; a running one is extended. -/
def pulseOutputs (t mask : Nat) (d : Device) : Device :=
  ((List.range 4).filter (fun n => bit mask n)).foldl (fun d n =>
    { d with trig := { d.trig with pulses := tset none d.trig.pulses n (some (pulseEnd d t n)) } }) d

/-! ### Actions (R196) -/

/-- Sample index by which a GEN_JUMP action of instant `t` reaches its generator (R361). -/
def jumpDue (t m : Nat) (evs : List TrigEvent) (pulses : BitVec 48) (d : Device) : Option Nat :=
  if aligned d then some (t + trigN d 2 + 512)
  else (sourceLatency d (firingEvent d m evs pulses).1).map (fun l => t + l + 512)

/-- One action of a firing transition, by its bit of the action mask. -/
def performAction (t m : Nat) (evs : List TrigEvent) (pulses : BitVec 48) (late : Bool) (i : Nat) (d : Device) : Device :=
  let f (n : Nat) : Nat := transN d d.trig.state m n
  match i with
  | 1 => markRecord t m evs pulses d
  | 2 => closeWindows (windowsOf (f 9)) t false d
  | 3 => openWindows (windowsOf (f 8)) t late d
  | 4 => pulseOutputs t (f 0xA) d
  | 5 => assertBus (f 0xB) t (broadcast (.busAssert (f 0xB) t (ballIndex d)) d)
  | 6 => sendAction (.jump (bits (f 0xC) 13 1) (bits (f 0xC) 0 12) (jumpDue t m evs pulses d)) d
  | 7 => ((List.range 8).filter (fun n => bit (f 0xE) n)).foldl (fun d n => densSnap n d) d
  | _ => raiseEvent 0x1C0 1 t (f 7) d

/-- An action that finds stall 0x09 full is discarded (R21, R196). -/
def dropAction (d : Device) : Device :=
  let first := !d.trig.actionsFull
  let d := { d with trig := { d.trig with
    actionsFull := true, actionsDropped := true, droppedActions := d.trig.droppedActions + 1 } }
  if first then raiseFault (plainFault 0x1C0 1 1 0x09) d else d

/-- The actions of a mask from bit `i` on pass through stall 0x09 in their order: `through` of this firing have entered and left it. -/
def passActions (t m : Nat) (evs : List TrigEvent) (pulses : BitVec 48) (late : Bool) (through : Nat) : List Nat → Device → Device
  | [], d => d
  | i :: is, d =>
    if d.trig.actionsFull || decide (256 ≤ d.trig.actions.length + through) then passActions t m evs pulses late through is (dropAction d)
    else
      let e := performAction t m evs pulses late i (noteMark 0x09 0 (d.trig.actions.length + through + 1) d)
      let left := if d.trig.actions.length < e.trig.actions.length then 0 else 1
      passActions t m evs pulses late (through + left) is e

/-- The actions of a firing transition (R196). A window opened carries LATE where the event that fires is late (R207). -/
def performActions (t m : Nat) (evs : List TrigEvent) (pulses : BitVec 48) (d : Device) : Device :=
  let s := d.trig.state
  let a := transN d s m 6
  let late := ((firingEvent d m evs pulses).2.map (·.late)).getD false
  let d := if bit a 0 then timerPart t (transN d s m 0xD) (counterPart t (transN d s m 0xD) d) else d
  passActions t m evs pulses late 0 ((List.range 9).filter (fun i => i != 0 && bit a i)) d

/-! ### One instant (R192-R195, R197) -/

/-- Whether transition `m` has a rising edge at `t`, by the timer rule included (R192-R194). -/
def edgeAt (d : Device) (t m : Nat) (pulses : BitVec 48) : Bool :=
  let s := d.trig.state
  let used := usedSources (transN d s m 0)
  let val (n : Nat) : Bool := levelVal d n || pulses.getLsbD n
  let lim := d.trig.entry + transLimit d m
  let mode := transN d s m 3
  if transN d s m 0xF != 1 then false
  else if used.isEmpty then mode == 2 && t == lim && !bit d.trig.timerDone m
  else
    let was := bit d.trig.prevComb m && !(t == d.trig.entry + 1 && transN d s m 0x10 == 1)
    let byPulse := used.any (fun u => !u.2 && pulses.getLsbD u.1)
    combOf d m val && (!was || byPulse) && (mode != 1 || decide (t < lim)) && (mode != 2 || decide (lim ≤ t))

/-- The state is evaluated at the instant: occurrence counts advance, the lowest qualified transition fires. -/
def evaluateState (t : Nat) (evs : List TrigEvent) (pulses : BitVec 48) (d : Device) : Device :=
  let s := d.trig.state
  let edges := (List.range 4).map (fun m => edgeAt d t m pulses)
  let occ := (List.range 4).map (fun m => d.trig.occ.getD m 0 + boolN (edges.getD m false))
  let hit := (List.range 4).find? (fun m => edges.getD m false && decide (transN d s m 2 ≤ occ.getD m 0))
  let val (n : Nat) : Bool := levelVal d n || pulses.getLsbD n
  let d := { d with trig := { d.trig with
    occ := occ, prevComb := maskOf 4 (fun m => combOf d m val),
    timerDone := d.trig.timerDone ||| maskOf 4 (fun m =>
      edges.getD m false && (usedSources (transN d s m 0)).isEmpty) } }
  match hit with
  | none => d
  | some m => enterState (transN d s m 5) t (performActions t m evs pulses d)

/-- One instant with the events that fall on it: levels change, pulses last for the instant, automatic closes come first. -/
def evaluateInstant (t : Nat) (evs : List TrigEvent) (d : Device) : Device :=
  let d := settleCuts t d
  let d := closeWindows ((List.range 8).filter (fun w => (trigWindow d w).autoClose == some t)) t false d
  let pulses : BitVec 48 := evs.foldl (fun p e => if e.level.isNone then p ||| ((1 : BitVec 48) <<< e.source) else p) 0
  let levels : BitVec 48 := evs.foldl (fun l e => match e.level with
    | some true => l ||| ((1 : BitVec 48) <<< e.source)
    | some false => l &&& ~~~ ((1 : BitVec 48) <<< e.source)
    | none => l) d.trig.levels
  let gaps : BitVec 48 := evs.foldl (fun g e => if e.gap then g ||| ((1 : BitVec 48) <<< e.source) else g) d.trig.gaps
  let again := if decide (pulses ≠ 0) || (d.trig.armed && d.trig.entry == t) then some (t + 1)
    else if d.trig.again == some t then none else d.trig.again
  let d := { d with trig := { d.trig with levels := levels, gaps := gaps, again := again } }
  let runs := d.trig.armed && (if aligned d then decide (d.trig.entry < t)
    else decide (d.trig.armedAt < t) && t != d.trig.entry)
  let d := if runs then evaluateState t evs pulses d
    else { d with trig := { d.trig with prevComb := maskOf 4 (fun m => combOf d m (levelVal d)) } }
  settleCuts (t + 1) { d with trig := { d.trig with pulsed := pulses } }

/-- Instants at which something can happen from `n` on: events, timers, after edges, automatic closes. -/
def nextInstant (d : Device) (n : Nat) : Option Nat :=
  let after := if d.trig.armed then
      (List.range 4).filterMap (fun m =>
        if transN d d.trig.state m 0xF == 1 && transN d d.trig.state m 3 == 2 && !bit d.trig.timerDone m
            && (usedSources (transN d d.trig.state m 0)).isEmpty then some (d.trig.entry + transLimit d m) else none)
    else []
  let all := d.trig.events.map (·.evalAt) ++ d.trig.timers.filterMap (fun e => e.2.map (fun x => x.1 + x.2)) ++ after
    ++ d.trig.windows.filterMap (fun e => e.2.autoClose) ++ (d.trig.again.map (max n)).toList
  match all.filter (fun t => decide (n ≤ t)) with
  | [] => none
  | x :: xs => some (xs.foldl min x)

/-- Evaluate instant `t` with everything that falls on it, and stand behind it. -/
def runInstant (t : Nat) (d : Device) : Device :=
  let due := (List.range 2).filter (fun n => match tget none d.trig.timers n with
    | some x => decide (x.1 + x.2 ≤ t)
    | none => false)
  let d := due.foldl (fun d n => expireTimer n d) d
  let evs := d.trig.events.filter (fun e => decide (e.evalAt ≤ t))
  let d := { d with trig := { d.trig with events := d.trig.events.filter (fun e => decide (t < e.evalAt)), evalNext := t + 1 } }
  evaluateInstant t evs d

/-- Last instant that aligned mode may evaluate now: t + horizon has been sampled, no token and no waiting command stands before
it (R197, R201, R213); an epoch boundary is evaluated behind its token (R191). -/
def alignedLimit (d : Device) : Option Nat :=
  let h := trigN d 2
  if ballIndex d < h then none
  else
    let t := ballIndex d - h
    let waits := d.trig.armWaits.map (·.instant) ++ d.trig.forceWaits.map (·.instant)
      ++ (d.cfg.genAt.filter (fun e => decide (tget 0 d.cfg.adopted 0x0500 < e.1))).map (fun e => epochStart d e.1)
    let lim := (epochStart d (nextToken d) :: waits).foldl min (t + 1)
    if lim == 0 then none else some (lim - 1)

/-- One step of aligned evaluation up to instant `lim`: the next instant at which something happens, or all instants when nothing does. -/
def evaluateNext (lim : Nat) (d : Device) : Device :=
  match nextInstant d d.trig.evalNext with
  | some t => if t ≤ lim then runInstant t d else settleCuts (lim + 1) { d with trig := { d.trig with evalNext := lim + 1 } }
  | none => settleCuts (lim + 1) { d with trig := { d.trig with evalNext := lim + 1 } }

/-- SEQUENCER_EVALUATE (R197). -/
def sequencerEvaluate (d : Device) : Device :=
  if !aligned d || d.power.state == .sleep then d
  else match alignedLimit d with
    | none => d
    | some lim => if lim < d.trig.evalNext then d else evaluateNext lim d

/-- Every instant that can be evaluated now and lies below `a` is evaluated. -/
def evaluateBelow (a : Nat) : Nat → Device → Device
  | 0, d => d
  | n + 1, d =>
    match alignedLimit d with
    | none => d
    | some lim => if a ≤ d.trig.evalNext || decide (lim < d.trig.evalNext) then d else evaluateBelow a n (evaluateNext (min lim (a - 1)) d)

/-- The sequencer stands before the token of the epoch in which an instant lies (R201). -/
def contextDue (d : Device) (t : Nat) : Bool := decide (epochStart d (nextToken d) ≤ t) || tokenWaits d 0x0500 t

/-- The events of instant `t` that arrived together: the first of them and those of equal instant directly behind it. -/
def coincident (t : Nat) (es : List TrigEvent) : List TrigEvent := (es.dropWhile (fun e => e.instant != t)).takeWhile (fun e => e.instant == t)

/-- One instant in fast mode, with the events of it that arrived together. -/
def runFast (t : Nat) (d : Device) : Device :=
  let evs := coincident t d.trig.events
  evaluateInstant t evs { d with trig := { d.trig with events := evs.foldl (fun l e => l.erase e) d.trig.events } }

/-- FAST_EVENT (R200, R201): the instant behind a pulse or the first instant of a state, where it is due; else the oldest event that no
token and no future instant holds back. -/
def fastEvent (d : Device) : Device :=
  if aligned d || d.power.state == .sleep then d
  else
    let ready (t : Nat) : Bool := decide (t ≤ ballIndex d) && !contextDue d t
    match d.trig.again.filter ready with
    | some t => runFast t d
    | none => match d.trig.events.find? (fun e => ready e.instant) with
      | some e => runFast e.instant d
      | none => d

/-- TIMER_EXPIRY (R190). -/
def timerExpiry (n : Nat) (d : Device) : Device :=
  match tget none d.trig.timers n with
  | some (s, l) => if s + l ≤ ballIndex d then expireTimer n d else d
  | none => d

/-- TRANSITION_TIMER (R193, R200): in fast mode the after edge of a transition without sources; in aligned mode the sequencer
evaluates it with its instant. -/
def transitionTimer (m : Nat) (d : Device) : Device :=
  let t := d.trig.entry + transLimit d m
  if aligned d || !d.trig.armed || transN d d.trig.state m 3 != 2 || transN d d.trig.state m 0xF != 1
      || !(usedSources (transN d d.trig.state m 0)).isEmpty || bit d.trig.timerDone m || decide (ballIndex d < t) || contextDue d t then d
  else runFast t d

/-- WINDOW_AUTO_CLOSE (R206): the window has reached t + post_len. -/
def windowAutoClose (w : Nat) (d : Device) : Device :=
  match (trigWindow d w).autoClose with
  | some t => if t ≤ (if aligned d then d.trig.evalNext else ballIndex d) then closeWindows [w] t false d else d
  | none => d

/-- TRIG_OUT_PULSE_END (R202): the pulse has lasted its width, from its newest start. -/
def trigOutPulseEnd (o : Nat) (d : Device) : Device :=
  match tget none d.trig.pulses o with
  | some t => if t ≤ d.time then { d with trig := { d.trig with pulses := tset none d.trig.pulses o none } } else d
  | none => d

/-- BUS_LINE_RELEASE (R496): the line has reached the end of its true interval. -/
def busLineRelease (line : Nat) (d : Device) : Device :=
  match d.group.busIntervals.find? (fun x => x.1 == line && decide (x.2.2 ≤ ballIndex d)) with
  | none => d
  | some x => postEvent (levelEvent (28 + line) x.2.2 none false false)
      { d with group := { d.group with busIntervals := d.group.busIntervals.erase x } }

/-! ### Commands (R213-R215) -/

/-- Disarm at instant `a` (R213): windows close with DISARMED, timers stop. -/
def disarmAt (a : Nat) (d : Device) : Device :=
  if !d.trig.armed then d
  else
    let d := closeWindows (List.range 8) a true d
    raiseEvent 0x1C0 4 a 0 { d with trig := { d.trig with armed := false, timers := [], again := none } }

/-- Everything but a command disarms (R213, R221): waiting TRIG_ARMs end with ABORTED. `zero` clears counters and timers. -/
def disarmAll (zero : Bool) (d : Device) : Device :=
  let ws := d.trig.armWaits
  let d := disarmAt (firstUnevaluated d) (if aligned d then evaluateBelow (firstUnevaluated d) (firstUnevaluated d) d else d)
  let d := { d with trig := { d.trig with armWaits := [], timers := if zero then [] else d.trig.timers,
                                          counters := if zero then [] else d.trig.counters } }
  ws.foldl (fun d w => complete w.packet .aborted [] d) d

/-- TRIG_ARM acts at instant `a`: op 0 DISARM, 1 ARM, 2 REARM. -/
def armAct (op a : Nat) (p : Packet) (d : Device) : Device :=
  let d := if bit (pByte p 2) 0 && !(op == 1 && d.trig.armed) then { d with trig := { d.trig with counters := [] } } else d
  match op with
  | 0 => complete p .ok (leBytes 8 a) (disarmAt a d)
  | _ =>
    if op == 1 && d.trig.armed then complete p .badState [] d
    else
      let was := d.trig.armed
      let d := { d with trig := { d.trig with armed := true, armedAt := a, evalNext := max d.trig.evalNext a } }
      let d := enterState (pByte p 1) a d
      let d := if was then d else raiseEvent 0x1C0 3 a 0 d
      complete p .ok (leBytes 8 a) d

def atSample (p : Packet) : Bool := bit (pByte p 2) 1

/-- The instants below `a` have been evaluated. -/
def evaluatedBelow (d : Device) (a : Nat) : Bool := !aligned d || decide (a ≤ d.trig.evalNext)

def trigArm (op : Nat) (p : Packet) (d : Device) : Device :=
  if !reservedZero p [(0, 3), (8, 8)] || decide (15 < pByte p 1) || decide (3 < pByte p 2) then complete p .badParam [] d
  else if op == 1 && d.trig.armed then complete p .badState [] d
  else if !atSample p then
    let a := firstUnevaluated d
    let d := evaluateBelow a a d
    if evaluatedBelow d a then armAct op a p d
    else park p { d with trig := { d.trig with armWaits := d.trig.armWaits ++ [{ packet := p, instant := a }] } }
  else if p64 p 8 < firstUnevaluated d then complete p .late [] d
  else park p { d with trig := { d.trig with armWaits := d.trig.armWaits ++ [{ packet := p, instant := p64 p 8 }] } }

/-- The instant of a waiting command has come, and every instant below it has been evaluated. -/
def waitDue (d : Device) (t : Nat) : Bool :=
  if aligned d then decide (t + trigN d 2 ≤ ballIndex d) && decide (t ≤ d.trig.evalNext) else decide (t ≤ ballIndex d)

/-- TRIG_ARM_AT_SAMPLE (R213): the waiting command with the lowest instant acts. -/
def trigArmAtSample (d : Device) : Device :=
  let lo := listMin (2 ^ 64) (d.trig.armWaits.map (·.instant))
  match d.trig.armWaits.find? (fun w => w.instant == lo) with
  | none => d
  | some w =>
    if waitDue d w.instant then
      armAct (pByte w.packet 0) w.instant w.packet { d with trig := { d.trig with armWaits := d.trig.armWaits.erase w } }
    else d

/-- Source 47 pulses at instant `a` (R214). -/
def forceAct (a : Nat) (p : Packet) (d : Device) : Device :=
  let d := if bit (pByte p 2) 0 then { d with trig := { d.trig with counters := [] } } else d
  complete p .ok (leBytes 8 a) (postEvent (pulseEvent 47 a none false) d)

def trigForce (p : Packet) (d : Device) : Device :=
  if !reservedZero p [(2, 1), (8, 8)] || decide (3 < pByte p 2) then complete p .badParam [] d
  else if !d.trig.armed then complete p .badState [] d
  else if !atSample p then forceAct (firstUnevaluated d) p d
  else if p64 p 8 < firstUnevaluated d then complete p .late [] d
  else park p { d with trig := { d.trig with forceWaits := d.trig.forceWaits ++ [{ packet := p, instant := p64 p 8 }] } }

/-- TRIG_FORCE_AT_SAMPLE (R214). -/
def trigForceAtSample (d : Device) : Device :=
  let lo := listMin (2 ^ 64) (d.trig.forceWaits.map (·.instant))
  match d.trig.forceWaits.find? (fun w => w.instant == lo) with
  | none => d
  | some w =>
    if waitDue d w.instant then
      if !d.trig.armed then complete w.packet .badState [] { d with trig := { d.trig with forceWaits := d.trig.forceWaits.erase w } }
      else forceAct w.instant w.packet { d with trig := { d.trig with forceWaits := d.trig.forceWaits.erase w } }
    else d

/-- The sequencer status word (R215). -/
def trigStatusWord (d : Device) : Nat :=
  let t := d.trig
  boolN t.armed + 2 * boolN (!aligned d) + 16 * t.state + 2 ^ 8 * boolN t.late + 2 ^ 9 * boolN t.outOfOrder
    + 2 ^ 10 * boolN t.actionsDropped + 2 ^ 11 * boolN t.windowRetrig + 2 ^ 12 * boolN t.historyShort
    + 2 ^ 16 * maskOf 8 (fun w => (trigWindow d w).isOpen) + 2 ^ 32 * t.markCount.toNat + 2 ^ 48 * t.lateCount.toNat

def trigStatus (p : Packet) (d : Device) : Device :=
  if !reservedZero p [(0, 8)] then complete p .badParam [] d
  else
    let m := p64 p 0
    let t := d.trig
    complete p .ok
      (leBytes 8 (trigStatusWord d) ++ leBytes 8 t.entry
        ++ (List.range 4).flatMap (fun n => leBytes 4 (tget 0 t.counters n).toNat) ++ leBytes 4 t.droppedActions.toNat)
      { d with trig := { t with
          late := t.late && !bit m 8, outOfOrder := t.outOfOrder && !bit m 9,
          actionsDropped := t.actionsDropped && !bit m 10, windowRetrig := t.windowRetrig && !bit m 11,
          historyShort := t.historyShort && !bit m 12 } }

/-! ### Tokens (R201, R219, R618) -/

/-- A level source that a token selects anew or switches takes its new value at the boundary (R179, R189, R191). -/
def takeLevel (source b : Nat) (now : Bool) (d : Device) : Device :=
  if levelVal d source == now then d else postEvent (levelEvent source b none now false) d

/-- Level of a source at a boundary: that before its first change behind it, or the present one. -/
def levelBefore (source b : Nat) (now : Bool) (d : Device) : Bool :=
  match d.trig.events.find? (fun e => e.source == source && e.level.isSome && decide (b ≤ e.instant)) with
  | some e => e.level == some false
  | none => now

/-- Level of a TRIG_IN ball before the edges that wait for an index tick. -/
def tinBall (n : Nat) (d : Device) : Bool :=
  match d.tiu.waiting.find? (fun e => e.input == n) with
  | some e => !e.rising
  | none => (tget ({} : TiuInput) d.tiu.inputs n).level

/-- TRIG_IN and marker sources behind a token that changes their fields. -/
def switchSources (b : Nat) (keys : List Nat) (d : Device) : Device :=
  let d := ((List.range 4).filter (fun n => keys.contains (cfgKey 5 0 (0x20 + n)) || keys.contains (cfgKey 5 0 (0x28 + n)))).foldl (fun d n =>
    takeLevel (24 + n) b (trigN d (0x20 + n) == 1 && levelBefore (24 + n) b (tinBall n d != (trigN d (0x28 + n) == 1)) d) d) d
  ((List.range 2).filter (fun n => keys.contains (cfgKey 5 0 (0x43 + n)))).foldl (fun d n =>
    let sel := trigN d (0x43 + n)
    let g := if sel / 4 == 0 then d.gen.g0 else d.gen.g1
    takeLevel (44 + n) b (levelBefore (44 + n) b (bit g.markers (sel % 4)) d) d) d

/-- The sequencer adopts the token of boundary `b`: `wasAligned` and `horizon` are those before it, `keys` the fields that change. -/
def trigAdopt (b : Nat) (wasAligned : Bool) (horizon : Nat) (keys : List Nat) (d : Device) : Device :=
  let d := passUnits d
  let wins := (List.range 8).filter (fun w =>
    (trigWindow d w).isOpen && keys.any (fun k => k / 65536 == 0x0500 && k % 65536 / 16 == 0x300 + w))
  let d := closeWindows wins b false d
  let d := if !wasAligned && aligned d then { d with trig := { d.trig with evalNext := max d.trig.evalNext b } } else d
  let catchUp := if wasAligned && aligned d then (if trigN d 2 < horizon then some (b, b - 1 + horizon) else d.trig.catchUp) else none
  let d := switchSources b keys { d with trig := { d.trig with catchUp := catchUp } }
  if d.trig.armed && decide (d.trig.entry < b) && keys.any (fun k => k / 65536 == 0x0510 + d.trig.state) then enterState d.trig.state b d
  else d

/-- Levels that stand across a SYNC: those of the inputs, the bus lines and the markers with their changes not evaluated yet; the units
start anew (R179, R184, R219). -/
def heldLevels (d : Device) : BitVec 48 :=
  (d.trig.events.foldl (fun (l : BitVec 48) e => match e.level with
    | some true => l ||| ((1 : BitVec 48) <<< e.source)
    | some false => l &&& ~~~ ((1 : BitVec 48) <<< e.source)
    | none => l) d.trig.levels) >>> 24 <<< 24

/-- The condition units and stall 0x06 start anew, with instants that restart as well (R184, R219). -/
def clearUnits (d : Device) : Device := { d with trig := { d.trig with env := [], frq := [], frqStalls := [] } }

/-- The condition units start anew in the present count (R34, R184): they keep their place and the tokens that they have not passed. -/
def restartUnits (d : Device) : Device :=
  { d with trig := { d.trig with
      env := d.trig.env.map (fun e => (e.1, { next := e.2.next, tokens := e.2.tokens, gap := true }))
      frq := d.trig.frq.map (fun e => (e.1, { next := e.2.next, tokens := e.2.tokens, gap := true })), frqStalls := [] } }

/-- SYNC (R219): the sequencer disarms; instants restart with the sample index. -/
def trigSync (d : Device) : Device :=
  let levels := heldLevels d
  let d := clearUnits (disarmAll false d)
  { d with trig := { d.trig with
      evalNext := 0, events := [], levels := levels, entry := 0, armedAt := 0, lastMark := none, again := none, pulsed := 0
      laneCuts := [], catchUp := none } }

def execDisarm (p : Packet) (s : State) : Host.Outcome State Fault Refusal := act (accept p (trigArm 0)) s
def execArm (p : Packet) (s : State) : Host.Outcome State Fault Refusal := act (accept p (trigArm 1)) s
def execRearm (p : Packet) (s : State) : Host.Outcome State Fault Refusal := act (accept p (trigArm 2)) s
def execTrigArmAtSample (s : State) : Host.Outcome State Fault Refusal := act trigArmAtSample s
def execTrigForce (p : Packet) (s : State) : Host.Outcome State Fault Refusal := act (accept p trigForce) s
def execTrigForceAtSample (s : State) : Host.Outcome State Fault Refusal := act trigForceAtSample s
def execTrigStatus (p : Packet) (s : State) : Host.Outcome State Fault Refusal := act (accept p trigStatus) s
def execSequencerEvaluate (s : State) : Host.Outcome State Fault Refusal := act sequencerEvaluate s
def execFastEvent (s : State) : Host.Outcome State Fault Refusal := act fastEvent s
def execTimerExpiry (tm : Fin 2) (s : State) : Host.Outcome State Fault Refusal := act (timerExpiry tm.val) s
def execTransitionTimer (t : Fin 4) (s : State) : Host.Outcome State Fault Refusal := act (transitionTimer t.val) s
def execTrigOutPulseEnd (o : Fin 4) (s : State) : Host.Outcome State Fault Refusal := act (trigOutPulseEnd o.val) s
def execWindowAutoClose (w : Nat) (s : State) : Host.Outcome State Fault Refusal := act (windowAutoClose w) s
def execBusLineRelease (line : Fin 8) (s : State) : Host.Outcome State Fault Refusal := act (busLineRelease line.val) s

end Sys2Proof.Machine
end

