-- ==== Sys2Proof/Machine/Measure.lean ====
section
/-! DEFINITION. The measurement engine: reading the history buffer inside a window and forming MEASUREMENT records
(R209-R212). -/

namespace Sys2Proof.Machine

/-- The engine reads the history buffer up to `lim`: samples retained are taken, others are lost to the measurement (R208). -/
def readHistory (d : Device) (lim : Nat) : Nat → Meas → Meas
  | 0, m => m
  | n + 1, m =>
    if lim ≤ m.next then m
    else
      let ch := m.lane / 8
      let l := m.lane % 8
      let m' := match histAt m.k (laneN d ch l 6) (laneAt d ch l) m.next with
        | some x => { m with samples := m.samples ++ [x] }
        | none => { m with short := true }
      readHistory d lim n { m' with next := m.next + blockOf m.k }

/-- Up to where a measurement may read: its closing instant, the first instant not evaluated while it is open, and what the lane has
produced; a token that resets the lane ends what it measures. -/
def measLimit (d : Device) (m : Meas) : Nat :=
  let cuts := (d.trig.laneCuts.filter (fun c => c.1 == m.lane && decide (m.opened < c.2))).map (·.2)
  min (laneAt d (m.lane / 8) (m.lane % 8)).next (match m.close with
    | some c => c
    | none => listMin (firstUnevaluated d) cuts)

def advanceMeas (d : Device) (m : Meas) : Meas :=
  readHistory d (measLimit d m) ((measLimit d m - m.next) / blockOf m.k + 1) m

/-- Every measurement of a lane reads on. -/
def readMeasurements (ch l : Nat) (d : Device) : Device :=
  let f (m : Meas) : Meas := if m.lane == laneKey ch l then advanceMeas d m else m
  { d with trig := { d.trig with meas := d.trig.meas.map f, ended := d.trig.ended.map f } }

/-- A crossing instant as a fraction of 2^-16 sample periods. -/
structure CrossTime where
  num : Int
  den : Nat

def CrossTime.sub (x y : CrossTime) : CrossTime :=
  { num := x.num * y.den - y.num * x.den, den := x.den * y.den }

def CrossTime.add (x y : CrossTime) : CrossTime :=
  { num := x.num * y.den + y.num * x.den, den := x.den * y.den }

/-- Rounded quotient of a time by a count. -/
def CrossTime.div (x : CrossTime) (n : Nat) : Nat := (roundHalfEven x.num (x.den * n)).toNat

/-- One measured sample: position, amplitude in binary32 units, and whether it follows the one before it without a gap. -/
structure MeasPoint where
  inst : Int
  amp : Nat
  joined : Bool

def measAmp (x : LaneSample) : Nat := f32Sqrt (x.i.natAbs ^ 2 + x.q.natAbs ^ 2) (2 ^ (28 + 2 * x.gain))

def measPoints (m : Meas) (xs : List LaneSample) : List MeasPoint :=
  (List.range xs.length).filterMap (fun i =>
    match xs[i]? with
    | none => none
    | some x => some {
        inst := (x.stamp : Int) - (offsetOf m.k : Int), amp := measAmp x,
        joined := match xs[i - 1]? with
          | some y => i != 0 && y.stamp + blockOf m.k == x.stamp
          | none => false })

/-- Crossings of a level between joined samples: index of the later sample and instant. -/
def crossings (dk : Nat) (up : Bool) (level : Nat) (ps : List MeasPoint) : List (Nat × CrossTime) :=
  (List.range ps.length).filterMap (fun i =>
    match ps[i - 1]?, ps[i]? with
    | some a, some b =>
      if i != 0 && b.joined && (if up then decide (a.amp < level) && decide (level ≤ b.amp)
          else decide (level ≤ a.amp) && decide (b.amp < level)) then
        let n : Int := (level : Int) - a.amp
        let m : Int := (b.amp : Int) - a.amp
        some (i, { num := (a.inst * 65536 * m + (dk : Int) * 65536 * n) * m.sign, den := m.natAbs })
      else none
    | _, _ => none)

/-- Hysteresis state after each sample: some true HIGH, some false LOW, none undecided; undecided again after a gap. -/
def hystStates (lo hi : Nat) (ps : List MeasPoint) : List (Option Bool) :=
  (ps.foldl (fun (s : List (Option Bool) × Option Bool) p =>
    let before := if p.joined then s.2 else none
    let now := if p.amp ≤ lo then some false else if hi ≤ p.amp then some true else before
    (s.1 ++ [now], now)) ([], none)).1

/-- Crossings of the mid level that count: rising in state LOW, falling in state HIGH. -/
def validCrossings (dk : Nat) (up : Bool) (level : Nat) (ps : List MeasPoint) (hs : List (Option Bool)) :
    List (Nat × CrossTime) :=
  (crossings dk up level ps).filter (fun c => hs.getD (c.1 - 1) none == some (!up))

/-- Transition time at the first crossing: the last crossing of one level at or before it and the first of the other after it. -/
def edgeTime (dk : Nat) (up : Bool) (first second : Nat) (ps : List MeasPoint) (mid : Option (Nat × CrossTime)) :
    Option CrossTime :=
  match mid with
  | none => none
  | some c =>
    match ((crossings dk up first ps).filter (fun x => decide (x.1 ≤ c.1))).getLast?,
          (crossings dk up second ps).find? (fun x => decide (c.1 ≤ x.1)) with
    | some a, some b => some (b.2.sub a.2)
    | _, _ => none

/-- Pulses: every rise with the fall that follows it before the next rise. -/
def pulseWidths (rises falls : List (Nat × CrossTime)) : List CrossTime :=
  (List.range rises.length).filterMap (fun i =>
    match rises[i]? with
    | none => none
    | some r =>
      match falls.find? (fun f => decide (r.1 < f.1)) with
      | none => none
      | some f =>
        match rises[i + 1]? with
        | some n => if f.1 < n.1 then some (f.2.sub r.2) else none
        | none => some (f.2.sub r.2))

def sumTimes (l : List CrossTime) : CrossTime := l.foldl CrossTime.add { num := 0, den := 1 }

/-- r1 of R209 over joined samples. -/
def correlate (dk : Nat) (xs : List LaneSample) : Int × Int :=
  (List.range xs.length).foldl (fun s i =>
    match xs[i - 1]?, xs[i]? with
    | some a, some b =>
      if i != 0 && a.stamp + dk == b.stamp then
        (s.1 + b.i * a.i + b.q * a.q, s.2 + b.q * a.i - b.i * a.q)
      else s
    | _, _ => s) (0, 0)

/-- Powers of the samples over the common denominator 2^44. -/
def measPowers (xs : List LaneSample) : List Nat :=
  xs.map (fun x => (x.i.natAbs ^ 2 + x.q.natAbs ^ 2) * 2 ^ (16 - 2 * x.gain))

/-- The MEASUREMENT payload (R209-R211); with no sample measured the levels are free values. -/
def measPayload (fresh : Nat) (m : Meas) : List Byte :=
  let close := m.close.getD m.next
  let all := m.samples.filter (fun x => decide (x.stamp < close))
  let xs := all.filter (·.present)
  let ps := measPoints m xs
  let dk := blockOf m.k
  let al := f32Pow10 m.lo 2560
  let ah := f32Pow10 m.hi 2560
  let w := f32Round (ah - al) 1
  let lv (n : Nat) : Nat := f32Round (10 * al + n * w) 10
  let hs := hystStates (lv 4) (lv 6) ps
  let rises := validCrossings dk true (lv 5) ps hs
  let falls := validCrossings dk false (lv 5) ps hs
  let pw := measPowers xs
  let one := 2 ^ 44
  let level (n den : Nat) : Int := if xs.isEmpty then Config.emptyMeasurement fresh else dbOf n den
  let sum := pw.foldl (· + ·) 0
  let period := match rises.head?, rises.getLast? with
    | some a, some b => if rises.length < 2 then 0 else (b.2.sub a.2).div (rises.length - 1)
    | _, _ => 0
  let widths := pulseWidths rises falls
  let width := if widths.isEmpty then 0 else (sumTimes widths).div widths.length
  let rise := edgeTime dk true (lv 1) (lv 9) ps rises.head?
  let fall := edgeTime dk false (lv 9) (lv 1) ps falls.head?
  let r1 := correlate dk xs
  let step : Int := if r1.1 == 0 && r1.2 == 0 then Config.emptyMeasurement (fresh + 1)
    else roundHalfEven (argTurns r1.1 r1.2) (2 ^ 72 * dk)
  let gap := all.any (fun x => !x.present) || (List.range ps.length).any (fun i => i != 0 && (match ps[i]? with
    | some p => !p.joined
    | none => false))
  let flags := boolN gap + 2 * boolN (xs.any (·.settling)) + 4 * boolN (xs.any (·.saturated)) + 8 * boolN m.short
    + 16 * boolN m.cut + 32 * boolN m.disarmed + 64 * boolN (decide (rises.length < 2)) + 128 * boolN widths.isEmpty
    + 256 * boolN rise.isNone + 512 * boolN fall.isNone + 1024 * boolN m.late
  let duty := if period == 0 then 0 else min 65535 (roundHalfEven ((65536 * width : Nat) : Int) period).toNat
  let time (t : Option CrossTime) : Nat := (t.map (fun x => x.div 1)).getD 0
  leBytes 1 m.window ++ leBytes 1 m.lane ++ leBytes 2 flags ++ leBytes 4 (min xs.length 4294967295) ++ leBytes 8 close
    ++ leInt 2 (level (pw.foldl max 0) one) ++ leInt 2 (level (listMin (pw.headD 0) pw) one)
    ++ leInt 2 (level sum (one * xs.length)) ++ zeroBytes 2
    ++ leBytes 4 (if xs.isEmpty then (Config.emptyMeasurement (fresh + 1)).toNat else f32Bits (f32Sqrt sum (one * xs.length)))
    ++ leBytes 4 rises.length ++ leBytes 8 period ++ leBytes 8 width ++ leBytes 8 (time rise) ++ leBytes 8 (time fall)
    ++ leBytes 2 duty ++ zeroBytes 6 ++ leInt 8 ((m.nco : Int) + step) ++ zeroBytes 8

/-- MEASUREMENT_COMPLETE (R212): the oldest ended measurement of the window, once its lane has passed the closing instant. -/
def measurementComplete (w : Nat) (d : Device) : Device :=
  match d.trig.ended.find? (fun m => m.window == w) with
  | none => d
  | some m =>
    let ch := m.lane / 8
    let l := m.lane % 8
    if (laneAt d ch l).next < m.close.getD 0 && laneEnabled d ch l && !m.cut && !m.disarmed then d
    else
      let m' := advanceMeas d m
      let fresh := d.fresh
      let d := takeFresh (takeFresh { d with trig := { d.trig with
        ended := d.trig.ended.erase m, historyShort := d.trig.historyShort || m'.short } })
      let d := if m'.short then raiseEvent 0x1C3 2 m.start 0 d else d
      emitRec { type := 0x06, source := windowSource w, flags := headerFlags d [ch], firstIndex := m.start,
                generation := m.gen, payload := measPayload fresh m' } d

/-- A token that resets the lane at boundary `b`: the measurements on it end there (R212), in the order of instants in aligned mode, at
once in fast mode. -/
def cutMeasurements (ch l b : Nat) (d : Device) : Device :=
  let d := { d with trig := { d.trig with laneCuts := d.trig.laneCuts ++ [(laneKey ch l, b)] } }
  settleCuts (if aligned d then d.trig.evalNext else ballIndex d) d

def execMeasurementComplete (w : Nat) (s : State) : Host.Outcome State Fault Refusal := act (measurementComplete w) s

end Sys2Proof.Machine
end

