-- ==== Sys2Proof/Machine/Interval.lean ====
section
/-! DEFINITION. The interval unit: stamps, calibration of the interpolators, conversion to sample indices, measurement runs and
INTERVAL records (08_interval_unit.md). -/

namespace Sys2Proof.Machine

def tiuInput (d : Device) (n : Nat) : TiuInput := tget {} d.tiu.inputs n

def setTiuInput (n : Nat) (v : TiuInput) (d : Device) : Device :=
  { d with tiu := { d.tiu with inputs := tset {} d.tiu.inputs n v } }

def setRun (r : Option TiuRun) (d : Device) : Device := { d with tiu := { d.tiu with run := r } }

/-- A run that accepts edges or calibrates (R230). -/
def runActive (d : Device) : Option TiuRun :=
  match d.tiu.run with
  | some r => if r.ended.isNone then some r else none
  | none => none

def runNames (r : TiuRun) (n : Nat) : Bool := r.startInput == n || r.stopInput == n

/-- tiu.inN.edge selects the edge for runs (R222, R237). -/
def edgeSelected (d : Device) (n : Nat) (rising : Bool) : Bool :=
  let e := cfgN d 6 (1 + n) 1
  e == 2 || (e == 0 && rising) || (e == 1 && !rising)

/-- The active run counts the edge (R222). -/
def runCounts (d : Device) (n : Nat) (rising : Bool) : Bool :=
  match runActive d with
  | some r => runNames r n && edgeSelected d n rising
  | none => false

/-- TRIG_IN `n` feeds the sequencer at instant `t` (R189, R222). -/
def tinEnabled (d : Device) (n t : Nat) : Bool := valueFor d t (cfgKey 5 0 (0x20 + n)) == 1

/-- The unit is powered and stamps (R239, R493). -/
def unitRuns (d : Device) : Bool := d.power.state == .ready || d.power.state == .safe

/-- Stamping of an input is enabled (R222, R226). -/
def stamping (d : Device) (n : Nat) : Bool :=
  n == 4 || (decide (n < 4) && tinEnabled d n (ballIndex d)) ||
    match runActive d with
    | some r => runNames r n
    | none => false

/-- The unit stamps this edge (R222): for the sequencer both edges, else those that tiu.inN.edge selects. -/
def stamped (d : Device) (n : Nat) (rising : Bool) : Bool :=
  unitRuns d && (tiuInput d n).calibrated && stamping d n &&
    ((decide (n < 4) && tinEnabled d n (ballIndex d)) || edgeSelected d n rising)

/-- The driver that tiu.in5.loop_sel chooses is held, at this level (R203, R237, R351): it makes no edge towards the other. -/
def loopHeld (d : Device) : Option Bool :=
  let sel := cfgN d 6 6 3
  let still := pairMutes d || d.power.state == .safe || d.power.state == .sleep || d.power.cpHalted
  if sel < 4 then
    if still || !(d.trig.armed || (tget none d.trig.pulses sel).isSome) then some false else none
  else if sel < 12 then
    let v := if sel < 8 then d.gen.g0 else d.gen.g1
    if still || v.mode == .stopped || d.clk.sclk.gated then some (cfgN d 0x0C ((sel - 4) / 4) (0x0C + sel % 4) == 1) else none
  else if cfgN d 1 2 (2 + (sel - 12)) == 1 then none else some false

/-- The edge can be at the input: input 5 sees only what the chosen driver does (R222). -/
def edgeComes (d : Device) (n : Nat) (rising : Bool) : Bool :=
  n != 5 || match loopHeld d with
    | none => true
    | some level => level == rising

/-- Dead time of an input in LSB: 2.5 ns, or 5.0 ns with one interpolator out of service (R224, R227). -/
def deadTime (v : TiuInput) : Int := if v.interp0.removed || v.interp1.removed then 10240 else 5120

/-- Stamp of an edge in LSB (R223, R225). -/
def stampOf (i : Interpolator) (c r : Nat) (comp : Int) : Int :=
  let d := 1600 + roundHalfEven (1600 * ((r : Int) - i.r1)) (i.r2 - i.r1).toNat
  (c : Int) * 1600 - d - comp

/-- Instant and fraction of a stamp between two index ticks (R228). -/
def convertStamp (ia : Nat) (ta tb t : Int) : Nat × Nat :=
  let x := ((ia * 65536 : Nat) : Int) + roundHalfEven ((t - ta) * 67108864) (tb - ta).toNat
  ((x / 65536).toNat % 2 ^ 64, (x % 65536).toNat)

/-- Interpolator `k` of an input can take an edge with count `c` and raw code `r`: its stamp (R224). -/
def takesEdge (v : TiuInput) (comp : Int) (c r k : Nat) : Option (Nat × Interpolator × Int) :=
  let i := if k == 0 then v.interp0 else v.interp1
  let t := stampOf i c r comp
  let busy := match i.lastEdge with
    | some l => decide (t - l < 5120)
    | none => false
  if i.removed || v.toCal.head? == some k || busy then none else some (k, i, t)

/-- The interpolator that takes the edge: the one that the edge names, or the other where that one is busy, calibrates or is removed
(R224, R226). -/
def edgeInterp (v : TiuInput) (comp : Int) (c r k : Nat) : Option (Nat × Interpolator × Int) :=
  (takesEdge v comp c r k).or (takesEdge v comp c r (1 - k))

/-- The neighbouring ticks of a stamp, and so its instant and fraction (R228). -/
def tickPair (t : Int) : List (Nat × Int) → Option (Nat × Nat)
  | (_, tb) :: (ia, ta) :: rest =>
    if ta ≤ t ∧ t < tb then some (convertStamp ia ta tb t) else tickPair t ((ia, ta) :: rest)
  | _ => none

/-- Instant of a stamp, once its ticks are known. Ahead of the first tick of the count it is a free value. -/
def instantOf (d : Device) (t : Int) : Option (Nat × Nat) :=
  let early := match d.tiu.ticks.getLast? with
    | some x => decide (t < x.2)
    | none => false
  if early then some (Config.emptyInterval d.fresh 6 % 2 ^ 64, Config.emptyInterval d.fresh 7 % 65536) else tickPair t d.tiu.ticks

/-- The sample index stands still (R75, R229). -/
def indexPaused (d : Device) : Bool := d.strm.pauseFrom.isSome || !d.clk.sclkEver

/-! ### Runs (R232-R236) -/

/-- Statistics of R234 over n accepted intervals: mean and deviation in 2^-16 LSB, exact before the one rounding. -/
def runMean (sum : Int) (n : Nat) : Int := if n == 0 then 0 else roundHalfEven (65536 * sum) n

/-- Integer nearest to the square root of n / m, ties to even. -/
def sqrtNearest (n m : Nat) : Nat :=
  let r := isqrt 160 (n / m)
  let e := (2 * r + 1) * (2 * r + 1) * m
  if 4 * n < e then r else if e < 4 * n then r + 1 else if r % 2 == 0 then r else r + 1

def runDeviation (sum : Int) (sumSq n : Nat) : Nat :=
  if n < 2 then 0 else sqrtNearest (2 ^ 32 * (n * sumSq - sum.natAbs * sum.natAbs)) (n * (n - 1))

/-- An input of the run has an interpolator out of service (R227). -/
def runDegraded (d : Device) (r : TiuRun) : Bool :=
  let out (n : Nat) : Bool := let v := tiuInput d n; v.interp0.removed || v.interp1.removed
  out r.startInput || out r.stopInput

/-- Interval flags (R236). -/
def runFlags (r : TiuRun) : Nat :=
  boolN (r.n == 0) + 2 * boolN r.degraded + 4 * boolN r.calStale + 8 * boolN r.syncSeen + 16 * boolN r.gap

/-- INTERVAL payload (R235). A field that no accepted start fills is a free value. -/
def intervalPayload (d : Device) (r : TiuRun) (code : Nat) : List Byte :=
  let free (i : Nat) : Nat := Config.emptyInterval d.fresh i
  let stamp := r.first.map (·.stamp)
  let coarse := match stamp with
    | some t => unsigned 64 (t / 1600)
    | none => free 1
  let fine := match stamp with
    | some t => (t % 1600).toNat
    | none => free 2
  let frac := match r.first.bind (·.instant) with
    | some x => x.2
    | none => free 3
  leBytes 1 (r.startInput + 8 * r.stopInput) ++ leBytes 1 code ++ leBytes 2 (runFlags r) ++ leBytes 4 r.n
    ++ leBytes 4 r.unmatched ++ leBytes 4 r.rejected ++ leBytes 4 r.missedStart ++ leBytes 4 r.missedStop
    ++ leInt 8 (runMean r.sum r.n) ++ leBytes 8 (runDeviation r.sum r.sumSq r.n)
    ++ leInt 8 (if r.n == 0 then 0 else r.least) ++ leInt 8 (if r.n == 0 then 0 else r.greatest)
    ++ leBytes 8 coarse ++ leBytes 2 fine ++ leBytes 2 frac
    ++ leBytes 2 (if r.n == 0 then free 4 else r.spanStart) ++ leBytes 2 (if r.n == 0 then free 5 else r.spanStop)
    ++ leInt 8 r.wLo ++ leInt 8 r.wHi

def tiuBlocks : List Nat := (List.range 7).map (fun i => 0x0600 + i)

/-- Reply of TIU_RUN: the end code and the accepted intervals (R447). -/
def runReply (code : Nat) (r : TiuRun) : List Byte := leBytes 4 code ++ leBytes 4 r.n

/-- The run ends: statistics, record, result, completion, and the event (R233, R240). -/
def finishRun (r : TiuRun) (code : Nat) (st : Status) (d : Device) : Device :=
  let payload := intervalPayload d r code
  let inst := match r.first.bind (·.instant) with
    | some x => x.1
    | none => Config.emptyInterval d.fresh 0 % 2 ^ 64
  let d := setRun none (takeFresh d)
  let d := if r.record then
      emitRec { type := 0x07, source := intervalSource, flags := headerFlags d [], firstIndex := inst,
                generation := d.cfg.generation, payload := payload } d
    else d
  let d := if r.resultAddr != 0 then memWrite r.resultAddr payload d else d
  complete r.packet st (runReply code r) (raiseEvent 0x1E0 1 (ballIndex d) 0 d)

def endStatus (code : Nat) : Status := if code == 0 then .ok else if code == 1 then .timeout else .aborted

/-- The flags of a run at its end (R236). -/
def atRunEnd (d : Device) (r : TiuRun) : TiuRun :=
  { r with degraded := r.degraded || runDegraded d r, gap := r.gap || indexPaused d }

/-- The run waits for the tick behind its first start (R228, R235). -/
def startPending (r : TiuRun) : Bool :=
  match r.first with
  | some s => s.instant.isNone
  | none => false

/-- End a run; where the tick behind its first start has not come, the end waits for it (R228, R235). -/
def endRun (r : TiuRun) (code : Nat) (st : Status) (d : Device) : Device :=
  let r := atRunEnd d r
  if startPending r then setRun (some { r with ended := some (code, st) }) d else finishRun r code st d

/-- What is not a rule of R233 ends the run with end code 3 (R239, R240). -/
def disarmRun (st : Status) (d : Device) : Device :=
  match runActive d with
  | none => d
  | some r => endRun r 3 st d

/-- SLEEP entry (R239): no further tick is stamped, and a run that waits for one ends without it. -/
def sleepRun (d : Device) : Device :=
  let d := disarmRun .aborted d
  match d.tiu.run with
  | some r => match r.ended with
    | some e => finishRun r e.1 e.2 d
    | none => d
  | none => d

/-- An interval is accepted (R232). -/
def acceptInterval (s : PendStart) (stop : Int) (span : Nat) (r : TiuRun) : TiuRun :=
  let v := stop - s.stamp
  { r with
    n := r.n + 1, sum := r.sum + v, sumSq := r.sumSq + v.natAbs * v.natAbs,
    least := if r.n == 0 then v else min r.least v, greatest := if r.n == 0 then v else max r.greatest v,
    first := if r.n == 0 then some s else r.first,
    spanStart := if r.n == 0 then s.span else r.spanStart, spanStop := if r.n == 0 then span else r.spanStop }

def inWindow (r : TiuRun) (start stop : Int) : Bool := decide (start + r.wLo ≤ stop) && decide (stop ≤ start + r.wHi)

/-- A stop edge: the earliest pending start whose window contains it accepts it; else it is rejected and, with w_lo negative,
kept among the 16 most recent (R232). -/
def runStop (t : Int) (span : Nat) (r : TiuRun) : TiuRun :=
  let keep (acc : Bool) (r : TiuRun) : TiuRun :=
    if r.wLo < 0 then
      let l := r.stops ++ [{ stamp := t, span := span, accepted := acc }]
      { r with stops := l.drop (l.length - 16) }
    else r
  match r.starts.find? (fun s => inWindow r s.stamp t) with
  | some s => keep true (acceptInterval s t span { r with starts := r.starts.erase s })
  | none => keep false { r with rejected := r.rejected + 1 }

/-- A start edge: with w_lo negative it first takes the earliest kept stop in its window; else it opens a pending start (R232). -/
def runStart (s : PendStart) (r : TiuRun) : TiuRun :=
  match if r.wLo < 0 then r.stops.find? (fun x => !x.accepted && inWindow r s.stamp x.stamp) else none with
  | some x =>
    acceptInterval s x.stamp x.span { r with stops := r.stops.map (fun y => if y = x then { x with accepted := true } else y) }
  | none =>
    if 16 ≤ r.starts.length then { r with unmatched := r.unmatched + 1 }
    else { r with starts := r.starts ++ [s] }

/-- An edge reaches the active run (R222, R230, R232). -/
def feedRun (n : Nat) (rising : Bool) (t : Int) (span : Nat) (d : Device) : Device :=
  match runActive d with
  | none => d
  | some r =>
    if !r.accepting || !runCounts d n rising then d
    else
      let paused := indexPaused d
      let r := { r with gap := r.gap || paused }
      let r := if n == r.stopInput then runStop t span r else r
      let begun := match r.atSample with
        | some a => decide (a ≤ ballIndex d)
        | none => true
      let r := if n == r.startInput && begun && r.n < r.count then
          runStart { stamp := t, span := span, instant := if paused then some (ballIndex d, 0) else instantOf d t } r
        else r
      if r.count ≤ r.n then endRun r 0 .ok d else setRun (some r) d

/-! ### Edges (R224, R228, R229) -/

/-- A converted edge of inputs 0-3 reaches the sequencer as a level change, under the polarity of its instant (R189, R229). -/
def tinEvent (n : Nat) (rising : Bool) (x : Nat × Nat) (gap : Bool) (d : Device) : Device :=
  if n < 4 && tinEnabled d n x.1 then
    postEvent (levelEvent (24 + n) x.1 (some x.2) (rising != (valueFor d x.1 (cfgKey 5 0 (0x28 + n)) == 1)) gap) d
  else d

/-- An edge of an input is lost (R224). A run counts it where it selects it (R222). -/
def missEdge (n : Nat) (rising : Bool) (d : Device) : Device :=
  let e := epochIndex d
  let d := match runActive d with
    | some r =>
      if r.accepting && runCounts d n rising then
        setRun (some { r with missedStart := r.missedStart + boolN (r.startInput == n),
                              missedStop := r.missedStop + boolN (r.stopInput == n) }) d
      else d
    | none => d
  let v := tiuInput d n
  let d := setTiuInput n { v with missed := v.missed + 1, missedEpoch := some e } d
  let d := if v.missedEpoch == some e then d else raiseEvent (0x1E1 + n) 1 (ballIndex d) 0 d
  if n < 4 then raiseEvent 0x1C4 1 (ballIndex d) n d else d

/-- A rising SYNC_IN that no SYNC can take: unarmed with sync_mode 0, or while REFIN is not qualified (R493). -/
def syncStamped (d : Device) : Device :=
  if !d.clk.refPresent then
    raiseEvent 0x3C4 4 (ballIndex d) 0 (raiseEvent 0x040 3 (ballIndex d) 0 { d with clk := { d.clk with syncIgnored := true } })
  else if !d.group.syncArmed && cfgN d 0x0F 0 2 == 0 then raiseEvent 0x3C4 4 (ballIndex d) 0 d
  else d

def setInterp (v : TiuInput) (k : Nat) (i : Interpolator) : TiuInput :=
  if k == 0 then { v with interp0 := i } else { v with interp1 := i }

/-- A stamped edge goes to the run and, through its index tick, to the sequencer (R228, R229). -/
def takeEdge (n : Nat) (rising : Bool) (t : Int) (span : Nat) (d : Device) : Device :=
  let d := feedRun n rising t span d
  if 4 ≤ n then d
  else if indexPaused d then tinEvent n rising (ballIndex d, 0) true d
  else match instantOf d t with
    | some x => tinEvent n rising x false (takeFresh d)
    | none => { d with tiu := { d.tiu with waiting := d.tiu.waiting ++ [{ input := n, rising := rising, stamp := t }] } }

/-- What an edge does beside its stamp: a ramp trigger, and a SYNC_IN that no SYNC can take (R81, R493). -/
def edgeAside (n : Nat) (rising : Bool) (d : Device) : Device :=
  let d := if n < 4 && rising && d.power.state == .ready then rampTrigger n d else d
  if n == 4 && rising && unitRuns d then syncStamped d else d

/-- EDGE_STAMP: an edge of input `n`, whose measured delay ends `cycles` fabric cycles behind the last count taken, with raw code `r`
of the interpolator that takes it, `k` where both can. -/
def edgeStamp (n : Nat) (rising : Bool) (k cycles r : Nat) (d : Device) : Device :=
  let c := d.tiu.coarse + cycles
  let d := { d with tiu := { d.tiu with coarse := c } }
  if !edgeComes d n rising then d
  else
    let d := edgeAside n rising (setTiuInput n { tiuInput d n with level := rising } d)
    if !stamped d n rising then d
    else
      let v := tiuInput d n
      match edgeInterp v (cfgInt d 6 (1 + n) 2) c r k with
      | none => missEdge n rising d
      | some (m, i, t) =>
        let dead := match v.lastEdge with
          | some l => decide (t - l < deadTime v)
          | none => false
        if dead then missEdge n rising d
        else takeEdge n rising t (i.r2 - i.r1).toNat
          (setTiuInput n { setInterp v m { i with lastEdge := some t } with lastEdge := some t } d)

/-- A start whose ticks have come gets its instant. -/
def convertStart (d : Device) (s : PendStart) : PendStart :=
  if s.instant.isNone then { s with instant := instantOf d s.stamp } else s

/-- Edges and starts whose ticks have come are converted; a run that has waited for them ends (R228, R235). -/
def convertEdges (d : Device) : Device :=
  let ready := d.tiu.waiting.filter (fun e => (instantOf d e.stamp).isSome)
  let d := { d with tiu := { d.tiu with waiting := d.tiu.waiting.filter (fun e => (instantOf d e.stamp).isNone) } }
  let d := ready.foldl (fun d e => match instantOf d e.stamp with
    | some x => tinEvent e.input e.rising x false (takeFresh d)
    | none => d) d
  match d.tiu.run with
  | none => d
  | some r =>
    let r := { r with starts := r.starts.map (convertStart d), first := r.first.map (convertStart d) }
    match r.ended with
    | some e => if startPending r then setRun (some r) d else finishRun r e.1 e.2 d
    | none => setRun (some r) (takeFresh d)

/-- INDEX_TICK (R228): the tick of the newest sample index that is a multiple of 1,024 is stamped, `cycles` fabric cycles behind the
last count taken. While the index stands still, none comes. -/
def indexTick (cycles fine : Nat) (d : Device) : Device :=
  let d := { d with tiu := { d.tiu with coarse := d.tiu.coarse + cycles } }
  let i := ballIndex d / 1024 * 1024
  let t : Int := ((d.tiu.coarse * 1600 + fine : Nat) : Int)
  let old := match d.tiu.ticks.head? with
    | some x => x.1 == i || decide (t ≤ x.2)
    | none => false
  if !unitRuns d || indexPaused d || old then d
  else convertEdges { d with tiu := { d.tiu with ticks := ((i, t) :: d.tiu.ticks).take 16 } }

/-! ### Calibration (R225-R227) -/

/-- Both interpolators of the inputs are to be calibrated, one after the other (R226, R240). -/
def calibrateInputs (ns : List Nat) (d : Device) : Device :=
  ns.foldl (fun d n =>
    let v := tiuInput d n
    let l := (if v.interp0.removed then [] else [0]) ++ (if v.interp1.removed then [] else [1])
    setTiuInput n { v with toCal := l, calibrated := v.calibrated || l.isEmpty } d) d

/-- Result of a calibration with means `r1` and `r2` (R225, R227). -/
def calibrateInterp (n k : Nat) (r1 r2 : Int) (d : Device) : Device :=
  let v := tiuInput d n
  let i := if k == 0 then v.interp0 else v.interp1
  if 1400 ≤ r2 - r1 ∧ r2 - r1 ≤ 1900 then setTiuInput n (setInterp v k { i with r1 := r1, r2 := r2, failures := 0 }) d
  else
    let addr := n * 2 + k
    let d := setTiuInput n (setInterp v k { i with failures := i.failures + 1, removed := decide (1 ≤ i.failures) }) d
    let d := raiseFault (plainFault (0x1E1 + n) 2 0 addr) d
    let d := match runActive d with
      | some r => if !r.accepting && runNames r n then setRun (some { r with calStale := true }) d else d
      | none => d
    if 1 ≤ i.failures then raiseFault (plainFault (0x1E1 + n) 3 1 addr) d else d

/-- INTERPOLATOR_CALIBRATION: one calibration ends, with the sums of the 1,024 raw codes at one and at two clock periods. It is the one
that runs, or the whole of a periodic one, which recal_ms 0 turns off (R225, R226). -/
def interpolatorCalibration (n k sum1 sum2 : Nat) (d : Device) : Device :=
  let v := tiuInput d n
  let r1 := roundHalfEven sum1 1024
  let r2 := roundHalfEven sum2 1024
  if d.power.state == .sleep then d
  else match v.toCal with
    | m :: rest =>
      if m == k then calibrateInterp n k r1 r2 (setTiuInput n { v with toCal := rest, calibrated := v.calibrated || rest.isEmpty } d) else d
    | [] =>
      if cfgN d 6 0 1 == 0 || !stamping d n || (if k == 0 then v.interp0 else v.interp1).removed then d else calibrateInterp n k r1 r2 d

/-- RUN_CALIBRATION_COMPLETE: the run starts accepting edges, once both inputs are calibrated (R226). -/
def runCalibrationComplete (d : Device) : Device :=
  match runActive d with
  | some r =>
    if (tiuInput d r.startInput).toCal.isEmpty && (tiuInput d r.stopInput).toCal.isEmpty then
      setRun (some { r with accepting := true, gap := r.gap || indexPaused d }) d
    else d
  | none => d

/-- PENDING_START_EXPIRY: the earliest pending start is counted as unmatched (R232). -/
def pendingStartExpiry (d : Device) : Device :=
  match runActive d with
  | some r => match r.starts with
    | _ :: l => setRun (some { r with starts := l, unmatched := r.unmatched + 1 }) d
    | [] => d
  | none => d

/-- TIU_TIMEOUT (R233). -/
def tiuTimeout (d : Device) : Device :=
  match runActive d with
  | some r => if p64 r.packet 24 == 0 then d else endRun r 1 .timeout d
  | none => d

/-! ### Commands (R230, R231) -/

/-- The parameters of a run are in range (R230, R231). -/
def runParamsOk (d : Device) (p : Packet) : Bool :=
  let lo := signed 64 (p64 p 8)
  let hi := signed 64 (p64 p 16)
  decide (pByte p 0 ≤ 5) && decide (pByte p 1 ≤ 5) && decide (1 ≤ p32 p 4) && decide (p32 p 4 ≤ 2 ^ 24)
    && decide (-(2 ^ 38 : Int) ≤ lo) && decide (lo < hi) && decide (hi < (2 ^ 38 : Int))
    && !(pByte p 0 == pByte p 1 && decide (lo ≤ 0))
    && (p64 p 40 == 0 || (p64 p 40 % 64 == 0 && reachable d .cp true (p64 p 40) 88))

def newRun (p : Packet) (d : Device) : TiuRun :=
  { packet := p, startInput := pByte p 0, stopInput := pByte p 1, record := bit (pByte p 2) 0,
    atSample := if bit (pByte p 2) 2 then some (p64 p 32) else none, count := p32 p 4,
    wLo := signed 64 (p64 p 8), wHi := signed 64 (p64 p 16), resultAddr := p64 p 40, accepting := false, ended := none,
    starts := [], stops := [], n := 0, sum := 0, sumSq := 0, least := 0, greatest := 0, unmatched := 0, rejected := 0,
    missedStart := 0, missedStop := 0, first := none, spanStart := 0, spanStop := 0, degraded := false, calStale := false, syncSeen := false,
    gap := indexPaused d }

/-- TIU_RUN: `abort` is option bit 1. The start of a run is a swap point of the unit (R58) and begins its calibrations (R226). -/
def tiuRun (abort : Bool) (p : Packet) (d : Device) : Device :=
  let late := bit (pByte p 2) 2 && decide (p64 p 32 < ballIndex d)
  if !reservedZero p [(0, 3), (4, 44)] || decide (7 < pByte p 2) || !runParamsOk d p then complete p .badParam [] d
  else if abort then
    match runActive d with
    | none => complete p .badState [] d
    | some r =>
      if late then complete p .late [] d
      else
        let r := atRunEnd d r
        complete p .ok (runReply 2 r) (endRun r 2 .aborted d)
  else if d.tiu.run.isSome then complete p .busy [] d
  else if late then complete p .late [] d
  else
    let d := swapBlocks tiuBlocks d
    park p (calibrateInputs [pByte p 0, pByte p 1] (setRun (some (newRun p d)) d))

/-- BLOCK_RESET of the unit and POR# return every interpolator to service (R227). -/
def serviceInterpolators (d : Device) : Device :=
  { d with tiu := { d.tiu with inputs := (d.tiu.inputs.map (fun e => (e.1, { e.2 with
      interp0 := { e.2.interp0 with removed := false, failures := 0 },
      interp1 := { e.2.interp1 with removed := false, failures := 0 } }))).filter (fun e => decide (e.2 ≠ ({} : TiuInput))) } }

/-- A start without its ticks at a SYNC, which no rule converts: a free instant. -/
def looseStart (d : Device) (s : PendStart) : PendStart :=
  if s.instant.isNone then { s with instant := some (Config.emptyInterval d.fresh 6 % 2 ^ 64, Config.emptyInterval d.fresh 7 % 65536) } else s

/-- A SYNC sets SYNC_SEEN in a run (R236, R239). The ticks of the old count are gone: edges that wait for one act on the levels that the
sequencer keeps, and starts that wait for one get no instant that a rule gives. -/
def tiuSync (d : Device) : Device :=
  let edges := d.tiu.waiting
  let d := { d with tiu := { d.tiu with ticks := [], waiting := [] } }
  let d := edges.foldl (fun d e => tinEvent e.input e.rising (ballIndex d, 0) false d) d
  match d.tiu.run with
  | none => d
  | some r =>
    let r := { r with starts := r.starts.map (looseStart d), first := r.first.map (looseStart d) }
    match r.ended with
    | some e => finishRun r e.1 e.2 d
    | none => setRun (some { r with syncSeen := true }) (takeFresh d)

/-- An SCLK pause inside a run sets INPUT_GAP (R236). -/
def tiuPause (d : Device) : Device :=
  match runActive d with
  | some r => setRun (some { r with gap := true }) d
  | none => d

def execTiuRun (p : Packet) (s : State) : Host.Outcome State Fault Refusal := act (accept p (tiuRun false)) s
def execTiuRunAbort (p : Packet) (s : State) : Host.Outcome State Fault Refusal := act (accept p (tiuRun true)) s
def execEdgeStamp (input : Fin 6) (rising : Bool) (interp : Fin 2) (stamp : RawStamp) (s : State) :
    Host.Outcome State Fault Refusal := act (edgeStamp input.val rising interp.val stamp.cycles stamp.r) s
def execIndexTick (stamp : TickStamp) (s : State) : Host.Outcome State Fault Refusal := act (indexTick stamp.cycles stamp.fine.val) s
def execInterpolatorCalibration (input : Fin 6) (interp : Fin 2) (sum1 sum2 : Nat) (s : State) :
    Host.Outcome State Fault Refusal := act (interpolatorCalibration input.val interp.val sum1 sum2) s
def execRunCalibrationComplete (s : State) : Host.Outcome State Fault Refusal := act runCalibrationComplete s
def execPendingStartExpiry (s : State) : Host.Outcome State Fault Refusal := act pendingStartExpiry s
def execTiuTimeout (s : State) : Host.Outcome State Fault Refusal := act tiuTimeout s

end Sys2Proof.Machine
end

