-- ==== Sys2Proof/Machine/Streams.lean ====
section
/-! DEFINITION. The stream gatherer, the rings and their consumers: RING_WRITE_COMPLETE, STATE_BLOCK_WRITE, STREAM_OPEN and
STREAM_ACK (10_stream_records.md). The rows EPOCH_RECORD_WRITE and RECORD_ARRIVAL stand in Machine/Recorder.lean, because recordings
begin and end at the records they write. -/

namespace Sys2Proof.Machine

def isOpen (s : Stream) : Bool := s.ringLog2 != 0
def streamN (d : Device) (n code : Nat) : Nat := cfgN d 9 n code
def consumers (d : Device) (n : Nat) : Nat := streamN d n 3

/-- A recording reads the ring of the stream (R332). -/
def recordingOn (d : Device) (n : Nat) : Bool := d.nvme.running.any (fun r => r.stream == n)

/-- Offset behind the newest record placed in the ring: W once its bytes have all been written (R290). -/
def allocOffset (s : Stream) : Nat := s.writeOffset + 64 * s.inFlight.foldl (· + ·) 0

/-- Free space F of a ring (R294, R332). -/
def freeSpace (d : Device) (n : Nat) (s : Stream) : Nat :=
  let w := allocOffset s
  let a := if bit (consumers d n) 0 then s.hostOffset else w
  let b := if bit (consumers d n) 1 && recordingOn d n then s.recOffset else w
  2 ^ s.ringLog2 - (w - min a b)

/-! ### Writing a record (R275, R277, R290, R291) -/

/-- The bytes of a record in a stream. -/
def recordBytes (n seq : Nat) (r : Rec) : List Byte :=
  let u := recUnits r
  let head := leBytes 1 r.type ++ leBytes 1 1 ++ leBytes 2 r.flags ++ leBytes 2 n ++ leBytes 2 r.source ++ leBytes 4 u
    ++ leBytes 8 seq ++ leBytes 8 r.firstIndex ++ leBytes 4 r.generation.toNat
  let body := padTo (head ++ r.payload) (64 * u - 8)
  body ++ leBytes 4 (crc32c body).toNat ++ leBytes 4 u

/-- Bytes written at a ring offset, wrapping from the end of the ring to its start (R290). -/
def ringWrite (s : Stream) (off : Nat) (bs : List Byte) (d : Device) : Device :=
  let size := 2 ^ s.ringLog2
  let o := off % size
  memWrite s.ringBase (bs.drop (size - o)) (memWrite (s.ringBase + o) (bs.take (size - o)) d)

/-- Header length and length echo of a record agree (R278). -/
def lengthEchoes (b : List Byte) : Bool :=
  getLe b 8 4 != 0 && 64 * getLe b 8 4 == b.length && getLe b (b.length - 4) 4 == getLe b 8 4

/-- A record whose length echo and CRC match (R277, R278). -/
def recordIntact (b : List Byte) : Bool :=
  lengthEchoes b && getLe b (b.length - 8) 4 == (crc32c (b.take (b.length - 8))).toNat

/-- A record copied from offset `o` of a ring in overwrite mode is valid, with `w` the write offset read after the copy (R295). -/
def copyValid (s : Stream) (o w : Nat) (b : List Byte) : Bool := recordIntact b && decide (w ≤ o + 2 ^ s.ringLog2)

/-- Bytes read at a ring offset. -/
def ringRead (d : Device) (s : Stream) (off n : Nat) : List Byte :=
  let size := 2 ^ s.ringLog2
  let o := off % size
  let k := min n (size - o)
  memRead d (s.ringBase + o) k ++ memRead d s.ringBase (n - k)

/-- Bytes at a ring offset, each poisoned line as zeros (R470). -/
def ringClean (d : Device) (s : Stream) (off n : Nat) : List Byte :=
  let o := off % 2 ^ s.ringLog2
  let k := min n (2 ^ s.ringLog2 - o)
  cleanRead d (s.ringBase + o) k ++ cleanRead d s.ringBase (n - k)

/-- A poisoned line lies in ring bytes. -/
def ringPoisoned (d : Device) (s : Stream) (off n : Nat) : Bool :=
  let o := off % 2 ^ s.ringLog2
  let k := min n (2 ^ s.ringLog2 - o)
  poisoned d (s.ringBase + o) k || poisoned d s.ringBase (n - k)

/-- The stream is mirrored and this device is the primary (R503). -/
def mirrorsOut (d : Device) (n : Nat) : Bool := mirroring d && d.group.mirrored.getLsbD n

/-- The stream is mirrored and this device is the shadow (R503). -/
def mirrorsIn (d : Device) (n : Nat) : Bool :=
  d.group.pairFormed && d.group.pairRole == 2 && !d.group.pairDegraded && d.group.mirrored.getLsbD n

/-- A record is placed in the ring and takes the next sequence number; a primary sends its key (R291, R503). -/
def appendRec (n : Nat) (r : Rec) (d : Device) : Device :=
  let s := stream d n
  let seq := s.nextSeq
  let d := ringWrite s (allocOffset s) (recordBytes n seq r) d
  let d := setStream n { s with
    inFlight := s.inFlight ++ [recUnits r], nextSeq := (seq + 1) % 2 ^ 64,
    gaps := if r.type == 0x09 then s.gaps + 1 else s.gaps } d
  let key : RecKey :=
    { stream := n, seq := seq, type := r.type, source := r.source, firstIndex := r.firstIndex, length := recUnits r }
  match mirrorsOut d n, d.group.pairPeer with
  | true, some peer => sendMsg peer (.keyLog key) d
  | _, _ => d

/-! ### State block (R292) -/

def stateBlock (d : Device) (n : Nat) : List Byte :=
  let s := stream d n
  let status := boolN (isOpen s) + 2 * boolN (streamEnabled d n) + 4 * boolN s.halted + 8 * boolN (consumers d n == 0)
  leBytes 8 s.writeOffset ++ leBytes 8 s.nextSeq ++ leBytes 8 s.hostOffset
    ++ leBytes 8 (if recordingOn d n then s.recOffset else s.writeOffset)
    ++ leBytes 8 (s.hostSeq.getD (2 ^ 64 - 1)) ++ leBytes 4 s.dropped.toNat ++ leBytes 4 s.gaps.toNat
    ++ leBytes 1 s.ringLog2 ++ leBytes 1 status ++ zeroBytes 6 ++ leBytes 8 s.ringBase

/-- Mirror the state block to host memory where state_addr is set. -/
def writeStateBlock (n : Nat) (d : Device) : Device :=
  let a := streamN d n 6
  let d := setStream n { stream d n with mirrorDue := false, mirrorAt := some d.time } d
  if a == 0 || !isOpen (stream d n) then d else memWrite a (stateBlock d n) d

/-! ### Overflow (R295-R297, R305) -/

/-- A drop is counted; the first one of each epoch raises "ring overflow". -/
def countDrop (n : Nat) (d : Device) : Device :=
  let s := stream d n
  let e := epochIndex d
  let d := setStream n { s with dropped := s.dropped + 1, overflowEpoch := some e } d
  if s.overflowEpoch == some e then d else raiseEvent 0x201 2 (ballIndex d) n d

/-- The stream halts at a record that does not fit: GAP of cause 0x09, event, state block (R297). -/
def haltStream (n source first : Nat) (d : Device) : Device :=
  let d := appendRec n { type := 0x09, source := source, flags := headerFlags d [], firstIndex := first,
                         generation := d.cfg.generation, payload := gapPayload 0x09 0 0 first } d
  let d := setStream n { stream d n with halted := true, haltFirst := first, haltDrops := {} } d
  writeStateBlock n (raiseEvent 0x201 1 (ballIndex d) n d)

/-- A record reaches the gatherer of a stream: it is written, or dropped under the policy (R295-R297). -/
def gather (n : Nat) (r : Rec) (d : Device) : Device :=
  let s := stream d n
  if s.halted then
    countDrop n (setStream n { s with haltDrops := addDrop s.haltDrops r.firstIndex r.source } d)
  else
    let pre := s.ringDrops.count != 0
    let need := 64 * recUnits r + (if pre then 128 else 64)
    if consumers d n == 0 || need ≤ freeSpace d n s then
      let d := if pre then appendRec n (dropsRec d 0x08 s.ringDrops) (setStream n { s with ringDrops := {} } d) else d
      appendRec n r d
    else if streamN d n 2 == 1 then countDrop n (haltStream n r.source r.firstIndex d)
    else countDrop n (setStream n { s with ringDrops := addDrop s.ringDrops r.firstIndex r.source } d)

/-! ### The shadow's reorder area (R503) -/

def reorderArea (d : Device) (n : Nat) : List Rec := tget [] d.group.reorder n

def setReorder (n : Nat) (l : List Rec) (d : Device) : Device :=
  { d with group := { d.group with reorder := tset [] d.group.reorder n l } }

def keyQueue (d : Device) (n : Nat) : List RecKey := tget [] d.group.keys n

def setKeys (n : Nat) (l : List RecKey) (d : Device) : Device :=
  { d with group := { d.group with keys := tset [] d.group.keys n l } }

/-- Records that fit 1 MiB; the oldest beyond it are lost (R503). -/
def areaTrim : List Rec → List Rec
  | [] => []
  | r :: rs => if 2 ^ 20 < 64 * ((r :: rs).map recUnits).foldl (· + ·) 0 then areaTrim rs else r :: rs

def keyMatches (k : RecKey) (r : Rec) : Bool :=
  r.type == k.type && r.source == k.source && r.firstIndex == k.firstIndex && recUnits r == k.length

/-- Keys are taken in order: each matching held record is written with the key's sequence number. -/
def matchKeys (n : Nat) : Nat → Device → Device
  | 0, d => d
  | fuel + 1, d =>
    match keyQueue d n with
    | [] => d
    | k :: ks =>
      match (reorderArea d n).find? (keyMatches k) with
      | none => d
      | some r =>
        let d := setReorder n ((reorderArea d n).erase r) (setKeys n ks d)
        let d := setStream n { stream d n with nextSeq := k.seq } d
        let d := appendRec n r d
        matchKeys n fuel { d with group := { d.group with keySeq := tset 0 d.group.keySeq n k.seq } }

/-- A record of a mirrored stream at the shadow waits for its key. -/
def holdRecord (n : Nat) (r : Rec) (d : Device) : Device :=
  let d := setReorder n (areaTrim (reorderArea d n ++ [r])) d
  matchKeys n ((keyQueue d n).length + 1) d

/-- What a record does at the gatherer of a device. -/
def takeRecord (n : Nat) (r : Rec) (d : Device) : Device :=
  if mirrorsIn d n then holdRecord n r d else gather n r d

/-- The stream will be enabled by a part that it has received (R304): records behind the token of their source wait for it. -/
def willEnable (d : Device) (n : Nat) : Bool :=
  d.cfg.parts.any (fun p => p.block == 0x0900 + n && p.changes.any (fun e => e.1 == cfgKey 9 n 1 && e.2 == 1))

/-- A GAP record that stands at the position of the loss (R299). -/
def positionedGap (r : Rec) : Bool :=
  r.type == 0x09 && (match r.payload with
    | c :: _ => (decide (1 ≤ c.toNat) && decide (c.toNat ≤ 6)) || c == 0x0B#8
    | [] => false)

/-- An EPOCH record that stands before a record of a token-carrying source, or a loss, at or above its boundary (R299, R300). -/
def epochBefore (s : Stream) (r : Rec) : Bool :=
  let c := r.source / 4096
  (if r.type == 0x09 then positionedGap r else c == 1 || c == 2 || c == 4)
    && s.epochDue.any (fun e => e.wanted && decide (e.epoch * 2 ^ e.exponent ≤ r.firstIndex))

/-- Remove the first record that may be taken now. -/
def takeFirst (p : Rec → Bool) : List Rec → Option (Rec × List Rec)
  | [] => none
  | r :: rs => if p r then some (r, rs) else (takeFirst p rs).map (fun x => (x.1, r :: x.2))

/-- A lane or a slot still has stamps below `f` to deliver: a lane whose record path or open record stands below it, a slot whose next
frame does. -/
def sourceBehind (d : Device) (f s : Nat) : Bool :=
  let i := s % 4096
  match s / 4096 with
  | 1 =>
    let v := laneAt d (i / 8) (i % 8)
    (laneEnabled d (i / 8) (i % 8) && laneN d (i / 8) (i % 8) 0x10 != 0 && decide (v.recNext < f))
      || (v.openRec.bind (·.points.head?)).any (fun p => decide (p.stamp < f))
  | 2 =>
    let v := slotAt d i
    v.old.any (fun x => decide (x.1 < f)) || (slotEnabled d i && !v.floating && decide (v.next < f))
  | _ => false

/-- A GAP record that stands at the position of its loss waits for the records of its sources that lie before it (R299). -/
def gapWaits (d : Device) (n : Nat) (r : Rec) : Bool :=
  positionedGap r &&
    (let ss := if r.source == 0 then takenSources d n realTimeSource else [r.source]
     ss.any (sourceBehind d r.firstIndex)
      || (stream d n).stall.any (fun x => x.type != 0x09 && ss.contains x.source && decide (x.firstIndex < r.firstIndex)))

/-- RECORD_ARRIVAL (R296, R299, R300, R304): the oldest record of the stream's stall 0x10 that no other must precede. -/
def recordArrival (n : Nat) (d : Device) : Device :=
  let s := stream d n
  if !isOpen s || resetRuns d 0x200 then d
  else match takeFirst (fun r => !epochBefore s r && !gapWaits d n r) s.stall with
    | none => d
    | some (r, rest) =>
      if streamEnabled d n then takeRecord n r (setStream n { s with stall := rest } d)
      else if willEnable d n then d
      else setStream n { s with stall := rest } d

/-! ### Release of a ring (R286) -/

/-- The ring of a closed stream returns to the pool. -/
def closeStream (n : Nat) (d : Device) : Device :=
  let s := stream d n
  setStream n {} { d with yard := { d.yard with buffers := d.yard.buffers.filter (fun b => b.base != s.ringBase) } }

/-- A STREAM_CLOSE that waited completes once the recorder has released the ring. -/
def settleClose (n : Nat) (d : Device) : Device :=
  match (stream d n).closing with
  | some p => if recordingOn d n then d else complete p .deferred [] (closeStream n d)
  | none => d

/-- RING_WRITE_COMPLETE (R290): every byte of the oldest record in flight is in the Yard. -/
def ringWriteComplete (n : Nat) (d : Device) : Device :=
  let s := stream d n
  match s.inFlight with
  | [] => d
  | u :: us =>
    let w := s.writeOffset + 64 * u
    setStream n { s with
      inFlight := us, writeOffset := w, mirrorDue := true, recOffset := if recordingOn d n then s.recOffset else w } d

/-- STATE_BLOCK_WRITE (R292): once W has advanced, at most one in 256 fabric cycles, which are 200 ns. -/
def stateBlockWrite (n : Nat) (d : Device) : Device :=
  let s := stream d n
  if s.mirrorDue && s.mirrorAt.all (fun t => decide (t + 200 ≤ d.time)) then writeStateBlock n d else d

/-! ### Commands (R286, R293, R297) -/

/-- Open a stream with a ring of 2^k bytes at its lowest free place. -/
def openStream (n k : Nat) (d : Device) : Option (Nat × Device) :=
  (poolFind d (2 ^ k) (2 ^ k)).map (fun a =>
    (a, setStream n { ({} : Stream) with ringLog2 := k, ringBase := a }
      (addBuffer { base := a, size := 2 ^ k, handle := none } d)))

def streamOpen (p : Packet) (d : Device) : Device :=
  let n := pByte p 1
  let k := pByte p 2
  if !reservedZero p [(0, 3)] || decide (k < 26) || decide (39 < k) then complete p .badParam [] d
  else if 254 ≤ n then complete p .noResource [] d
  else if isOpen (stream d n) then complete p .badState [] d
  else match openStream n k d with
    | none => complete p .noResource [] d
    | some (a, d) => complete p .ok (leBytes 8 a) d

/-- enable is 0 in the active context and in every pending one. -/
def neverEnabled (d : Device) (n : Nat) : Bool := (contexts d).all (fun c => vN c 9 n 1 == 0)

def streamClose (p : Packet) (d : Device) : Device :=
  let n := pByte p 1
  let s := stream d n
  if !reservedZero p [(0, 2)] then complete p .badParam [] d
  else if !isOpen s || decide (254 ≤ n) || s.closing.isSome then complete p .badState [] d
  else if !neverEnabled d n then complete p .busy [] d
  else if recordingOn d n then park p (setStream n { s with closing := some p } d)
  else complete p .ok [] (closeStream n d)

/-- RESUME (R297). The GAP record of a halt that dropped no further record names the device as its source (DEDUCED). -/
def streamResume (p : Packet) (d : Device) : Device :=
  let n := pByte p 1
  let s := stream d n
  if !reservedZero p [(0, 2)] then complete p .badParam [] d
  else if !isOpen s || !s.halted then complete p .badState [] d
  else if consumers d n != 0 && decide (freeSpace d n s < 128) then complete p .busy [] d
  else
    let x := if s.haltDrops.count == 0 then { s.haltDrops with first := s.haltFirst, last := s.haltFirst } else s.haltDrops
    let d := setStream n { s with halted := false, haltDrops := {} } d
    complete p .ok [] (writeStateBlock n (appendRec n (dropsRec d 0x0A x) d))

/-- The record that ends at ring offset `o` has sequence `q` (R293). -/
def recordEndsAt (d : Device) (s : Stream) (o q : Nat) : Bool :=
  let echo := leNat (ringRead d s (o - 4) 4)
  decide (8 ≤ o) && decide (1 ≤ echo) && decide (64 * echo ≤ o) && decide (64 * echo ≤ 2 ^ s.ringLog2)
    && leNat (ringRead d s (o - 64 * echo + 12) 8) == q

/-- A ring binding acts as the host consumer of a stream (R398). -/
def ringBound (d : Device) (n : Nat) : Bool :=
  d.reed.bindings.any (fun e => e.2.any (fun b => b.kind == .ring && b.source == n))

/-- The acknowledgement is applied to the ring (R293, R294, R504). -/
def applyAck (n q o : Nat) (d : Device) : Device :=
  setStream n { stream d n with hostOffset := o, hostSeq := some q } d

def streamAck (p : Packet) (d : Device) : Device :=
  let n := pByte p 0
  let s := stream d n
  let q := p64 p 8
  let o := p64 p 16
  if !reservedZero p [(0, 2), (8, 16)] || decide (1 < pByte p 1) then complete p .badParam [] d
  else if pByte p 1 == 1 || !isOpen s || !bit (consumers d n) 0 || ringBound d n then complete p .badState [] d
  else if o == s.hostOffset && s.hostSeq == some q then complete p .ok (stateBlock d n) d
  else if o % 64 != 0 || decide (o < s.hostOffset) || decide (s.writeOffset < o) || !recordEndsAt d s o q then
    complete p .badParam [] d
  else
    let d := applyAck n q o d
    match mirrorsOut d n, d.group.pairPeer with
    | true, some peer =>
      let d := sendMsg peer (.ackMirror false p.tag.toNat n q o) d
      { d with group := { d.group with unconfirmed := d.group.unconfirmed ++
          [{ tag := p.tag.toNat, packet := p, status := .ok, reply := stateBlock d n }] } }
    | _, _ => complete p .ok (stateBlock d n) d

/-- Sample index behind what a record holds: that behind the samples of a SAMPLES record, else behind its first_index. -/
def recordEnd (r : Rec) : Nat := if r.type == 0x01 then r.firstIndex + getLe r.payload 4 4 * getLe r.payload 8 8 else r.firstIndex + 1

/-- Records in the stall of the gatherer are lost in its reset: a GAP of cause 0x06 in each affected stream, from the smallest
first_index to the end of the last record (R285, R306). -/
def resetGatherer (d : Device) : Device :=
  (openStreams d).foldl (fun d n =>
    let s := stream d n
    match s.stall with
    | [] => d
    | r :: rs =>
      let x := (rs.foldl (fun x r => addDrop x r.firstIndex r.source) (addDrop {} r.firstIndex r.source))
      pushStall n { type := 0x09, source := x.source.getD 0, flags := headerFlags d [], firstIndex := x.first,
                    generation := d.cfg.generation,
                    payload := gapPayload 0x06 0 (((r :: rs).map recordEnd).foldl max 0 - x.first)
                      (((r :: rs).map recordEnd).foldl max 0 - 1) }
        (setStream n { s with stall := [] } d)) d

/-- A consumer that a commit adds starts at W (R294). -/
def consumersChanged (n old : Nat) (d : Device) : Device :=
  let s := stream d n
  let c := consumers d n
  let s := if bit c 0 && !bit old 0 then { s with hostOffset := allocOffset s } else s
  let s := if bit c 1 && !bit old 1 then { s with recOffset := allocOffset s } else s
  setStream n s d

def execRingWriteComplete (stream : Fin 256) (s : State) : Host.Outcome State Fault Refusal :=
  act (ringWriteComplete stream.val) s
def execStateBlockWrite (stream : Fin 256) (s : State) : Host.Outcome State Fault Refusal := act (stateBlockWrite stream.val) s
def execStreamOpen (p : Packet) (s : State) : Host.Outcome State Fault Refusal := act (accept p streamOpen) s
def execStreamClose (p : Packet) (s : State) : Host.Outcome State Fault Refusal := act (accept p streamClose) s
def execStreamResume (p : Packet) (s : State) : Host.Outcome State Fault Refusal := act (accept p streamResume) s
def execStreamAck (p : Packet) (s : State) : Host.Outcome State Fault Refusal := act (accept p streamAck) s

end Sys2Proof.Machine
end

