-- ==== Sys2Proof/Machine/Generators.lean ====
section
/-! DEFINITION. The stimulus generators: entries, segments, sequences, decisions, refill, GEN_STATUS records, and the commands
SEG_WRITE, SEQ_LOAD and GEN_JUMP (12_stimulus.md). -/

namespace Sys2Proof.Machine

def generator (d : Device) (g : Nat) : Generator := if g == 0 then d.gen.g0 else d.gen.g1

def setGenerator (g : Nat) (v : Generator) (d : Device) : Device :=
  if g == 0 then { d with gen := { d.gen with g0 := v } } else { d with gen := { d.gen with g1 := v } }

def genN (d : Device) (g code : Nat) : Nat := cfgN d 0x0C g code
def genBlock (g : Nat) : Nat := 0x0C00 + g
def genSource (g : Nat) : Nat := 0x2C0 + g

/-! ### Entries (R348-R350, R354) -/

def entryBase (g : Nat) : Nat := 0x18000000 + g * 0x01000000
def entryWord (d : Device) (g e : Nat) : Nat := memNat d (entryBase g + 16 * e) 16

def entFreq (w : Nat) : Nat := bits w 0 48
def entPhase (w : Nat) : Nat := bits w 48 16
def entAmp (w : Nat) : Nat := bits w 64 16
def entDuration (w : Nat) : Nat := bits w 80 24
def entMarkers (w : Nat) : Nat := bits w 104 4
def entOffset (w : Nat) : Nat := bits w 108 8
def entMode (w : Nat) : Nat := bits w 116 2
def entPulse (w : Nat) : Bool := bit w 118

/-- R348. -/
def entryValid (w : Nat) : Bool :=
  decide (1 ≤ entDuration w) && decide (entFreq w < 2 ^ 47) && entMode w != 3 && bits w 119 9 == 0

/-- Durations of a range of entries, added up: granules. -/
def rangeLength (word : Nat → Nat) (count : Nat) : Nat :=
  (List.range count).foldl (fun n i => n + entDuration (word i)) 0

/-- A range makes a valid segment (R352). -/
def rangeValid (word : Nat → Nat) (count : Nat) : Bool :=
  (List.range count).all (fun i => entryValid (word i)) && decide (16 ≤ rangeLength word count)

/-- acc and freq after the last sample of an entry that starts at DAC sample `d0` (R349); as idle it keeps its frequency. -/
def afterEntry (w d0 : Nat) (idle : Bool) (x : Nat × Nat) : Nat × Nat :=
  let n := 256 * entDuration w
  let f := entFreq w
  let ph := entPhase w * 2 ^ 32
  if idle then ((x.1 + n * x.2) % 2 ^ 48, x.2)
  else match entMode w with
    | 0 => ((x.1 + n * f) % 2 ^ 48, f)
    | 1 => ((ph + (n - 1) * f) % 2 ^ 48, f)
    | _ => ((f * (d0 + n - 1) + ph) % 2 ^ 48, f)

/-- acc at sample `k` of an entry, k = 0, 1, ... (R349). -/
def accInEntry (w d0 k : Nat) (idle : Bool) (x : Nat × Nat) : Nat :=
  let f := entFreq w
  let ph := entPhase w * 2 ^ 32
  if idle then (x.1 + (k + 1) * x.2) % 2 ^ 48
  else match entMode w with
    | 0 => (x.1 + (k + 1) * f) % 2 ^ 48
    | 1 => (ph + k * f) % 2 ^ 48
    | _ => (f * (d0 + k) + ph) % 2 ^ 48

/-! ### DAC code (R350) -/

/-- floor (pi / 2 * 2^160). -/
def halfPi : Nat := 0x1921FB54442D18469898CC51701B839A252049C11

/-- Terms of the sine series from the k-th on, in units of 2^-160: x is the angle, x2 its square. -/
def sineTerms (x2 : Int) : Nat → Int → Int → Int
  | 0, _, _ => 0
  | fuel + 1, term, k => term + sineTerms x2 fuel (-(term * x2 / 2 ^ 160 / ((2 * k + 2) * (2 * k + 3)))) (k + 1)

/-- sin (pi / 2 * r / 2^18) in units of 2^-160, for r up to 2^18. -/
def quarterSine (r : Nat) : Int :=
  let x : Int := (halfPi * r / 2 ^ 18 : Nat)
  sineTerms (x * x / 2 ^ 160) 40 x 0

/-- sin (2 pi p / 2^20) in units of 2^-160 (R350). -/
def phaseSine (p : Nat) : Int :=
  let r := p % 2 ^ 18
  match p / 2 ^ 18 % 4 with
  | 0 => quarterSine r
  | 1 => if r == 0 then 2 ^ 160 else quarterSine (2 ^ 18 - r)
  | 2 => -quarterSine r
  | _ => if r == 0 then -(2 ^ 160) else -quarterSine (2 ^ 18 - r)

/-- DAC code of a sample (R350). -/
def dacCode (amp acc : Nat) : Int := roundHalfEven ((amp : Int) * 8191 * phaseSine (acc / 2 ^ 28)) (65535 * 2 ^ 160)

/-! ### Segments (R352, R355) -/

def segDef (v : Generator) (n : Nat) : Option SegDef := tget none v.segments n

def setSeg (n : Nat) (s : Option SegDef) (v : Generator) : Generator := { v with segments := tset none v.segments n s }

def segWord (d : Device) (g : Nat) (s : SegDef) (i : Nat) : Nat := entryWord d g (s.first + i)

def segLength (d : Device) (g n : Nat) : Nat :=
  match segDef (generator d g) n with
  | some s => rangeLength (segWord d g s) s.count
  | none => 0

def inRing (d : Device) (g n : Nat) : Bool :=
  decide (genN d g 3 ≤ n) && decide (n < genN d g 3 + genN d g 4)

/-- The playing segment and those chosen to follow it (R355). -/
def segLocked (v : Generator) (n : Nat) : Bool :=
  (v.current.any (fun c => c.segment == some n)) || v.queue.any (fun c => c.segment == some n)

def rangesMeet (a n b m : Nat) : Bool := decide (a < b + m) && decide (b < a + n)

/-- acc and freq behind the first `k` entries of what plays, and the DAC sample at which entry `k` starts. -/
def playedTo (d : Device) (g : Nat) (v : Generator) (c : Choice) (k : Nat) : (Nat × Nat) × Nat :=
  match c.segment.bind (segDef v) with
  | none => ((v.acc, v.freq), c.start)
  | some s => (List.range (min k s.count)).foldl (fun x i =>
      let w := segWord d g s i
      (afterEntry w x.2 (v.badEntries.contains (s.first + i)) x.1, x.2 + 256 * entDuration w)) ((v.acc, v.freq), c.start)

/-- acc and freq after the last sample of a play (R349, R366). -/
def afterPlay (d : Device) (g : Nat) (v : Generator) (c : Choice) : Nat × Nat :=
  match c.segment.bind (segDef v) with
  | none => ((v.acc + (c.stop - c.start) * v.freq) % 2 ^ 48, v.freq)
  | some s => (playedTo d g v c s.count).1

/-- acc, freq and amplitude at DAC sample `i` of what plays; an idle sample has amplitude 0 (R349, R366). -/
def sampleAt (d : Device) (g : Nat) (i : Nat) : Nat × Nat × Nat :=
  let v := generator d g
  match v.current with
  | none => (v.acc, v.freq, 0)
  | some c =>
    match c.segment.bind (segDef v) with
    | none => ((v.acc + (i + 1 - c.start) * v.freq) % 2 ^ 48, v.freq, 0)
    | some s =>
      let starts := (List.range s.count).filter (fun k => decide ((playedTo d g v c k).2 ≤ i))
      let k := starts.length - 1
      let p := playedTo d g v c k
      let w := segWord d g s k
      let bad := v.badEntries.contains (s.first + k)
      (accInEntry w p.2 (i - p.2) bad p.1, if bad then p.1.2 else entFreq w, if bad then 0 else entAmp w)

/-- The DAC code that a generator gives for DAC sample `i` (R350): zero while it is stopped, idle, gated or muted. -/
def genOutput (d : Device) (g i : Nat) : Int :=
  let v := generator d g
  if v.mode == .stopped || d.clk.sclk.gated || d.power.state == .safe || d.power.state == .sleep || d.power.cpHalted
      || pairMutes d then 0
  else
    let x := sampleAt d g i
    dacCode x.2.2 x.1

/-- The DAC code that stands at the output balls when the sample index there is `n`, the analogue delay apart (R346). -/
def genBall (d : Device) (g n : Nat) : Int := if n < genN d g 6 then 0 else genOutput d g (n - genN d g 6)

/-- t_out of a generator in units of 0.25 ps, a free value from 9.5 ns to 10.5 ns (R346, R372). -/
def outputLag (g : Nat) : Nat := 38000 + Config.outputLag g % 4001

/-- Analogue delay of the output in units of 0.25 ps: t_out and fine_delay (R346, R369). -/
def outputSkew (d : Device) (g : Nat) : Nat := outputLag g + genN d g 7

/-- Analogue delay of marker `m` in units of 0.25 ps: that of the output and mk_m.delay, in steps of 1 ps (R351, R369). -/
def markerSkew (d : Device) (g m : Nat) : Nat := outputSkew d g + 4 * genN d g (8 + m)

/-- Sample index at the balls of a marker edge at DAC sample `i`, its analogue delay apart (R351). -/
def markerInstant (d : Device) (g i : Nat) : Nat := i + genN d g 6

/-! ### Markers (R351) -/

/-- Level of marker `m` at its ball (R351, R369). What R73 holds low is the marker before mk_m_polarity inverts it
(DESIGN CHOICE). -/
def markerOut (d : Device) (g m : Nat) : Bool :=
  let v := generator d g
  let on := bit v.markers m && v.mode != .stopped && !d.clk.sclk.gated && d.power.state != .safe && d.power.state != .sleep
    && !d.power.cpHalted && !pairMutes d
  on != (genN d g (0x0C + m) == 1)

/-- The markers take new levels at DAC sample `i`; the marker sources of the sequencer follow (R191, R351). -/
def setMarkers (g new i : Nat) (d : Device) : Device :=
  let v := generator d g
  let d := setGenerator g { v with markers := new } d
  (List.range 2).foldl (fun d n =>
    let sel := (valueFor d i (cfgKey 5 0 (0x43 + n))).toNat
    if sel / 4 == g && bit v.markers (sel % 4) != bit new (sel % 4) then
      postEvent (levelEvent (44 + n) i none (bit new (sel % 4)) false) d
    else d) d

/-- The change point of the next entry of what plays (R351); an entry that plays as idle takes the markers low at its start
(R366, R373). -/
def changePoint (d : Device) (g : Nat) : Option (Nat × Nat × Bool) :=
  let v := generator d g
  v.current.bind (fun c => (c.segment.bind (segDef v)).bind (fun s =>
    if v.changeNext < s.count then
      let w := segWord d g s v.changeNext
      let bad := v.badEntries.contains (s.first + v.changeNext)
      some ((playedTo d g v c v.changeNext).2 + (if bad then 0 else entOffset w), w, bad)
    else none))

/-- The markers change at the next change point. -/
def markerChange (g : Nat) (d : Device) : Device :=
  match changePoint d g with
  | none => d
  | some (i, w, bad) =>
    let v := generator d g
    let new := if bad then 0 else entMarkers w
    let ends : Table (Option Nat) := if entPulse w && !bad then
        (List.range 4).foldl (fun t m => if bit new m then tset none t m (some (i + genN d g 5)) else t) [] else []
    setMarkers g new i (setGenerator g { v with changeNext := v.changeNext + 1, pulseEnds := ends } d)

/-- MARKER_CHANGE_POINT, once its DAC sample has come. -/
def markerChangePoint (g : Nat) (d : Device) : Device :=
  match changePoint d g with
  | some (i, _) => if i ≤ ballIndex d then markerChange g d else d
  | none => d

/-- MARKER_PULSE_END (R351). -/
def markerPulseEnd (g m : Nat) (d : Device) : Device :=
  let v := generator d g
  match tget none v.pulseEnds m with
  | some e =>
    if e ≤ ballIndex d then
      setMarkers g (maskOf 4 (fun n => bit v.markers n && n != m)) e
        (setGenerator g { v with pulseEnds := tset none v.pulseEnds m none } d)
    else d
  | none => d

/-- Change points of the ending play that have not been taken. -/
def flushMarkers (g : Nat) : Nat → Device → Device
  | 0, d => d
  | fuel + 1, d => match changePoint d g with
    | some _ => flushMarkers g fuel (markerChange g d)
    | none => d

/-- Idle granules and a stop take all markers low (R366, R371). -/
def dropMarkers (g i : Nat) (d : Device) : Device :=
  setMarkers g 0 i (setGenerator g { generator d g with pulseEnds := [] } d)

/-! ### GEN_STATUS records (R367) -/

structure GenEvent where
  kind : Nat
  index : Nat
  flags : Nat := 0
  step : Nat := 0
  segment : Nat := 0
  request : Nat := 0
  idle : Nat := 0
  firstIdle : Nat := 0
  acc : Nat := 0
  freq : Nat := 0
  reason : Nat := 0
  tag : Nat := 0xFFFFFFFF

def genRecord (g : Nat) (e : GenEvent) (d : Device) : Device :=
  let payload := leBytes 1 g ++ leBytes 1 e.kind ++ leBytes 2 e.flags ++ leBytes 2 e.step ++ leBytes 2 e.segment
    ++ leBytes 8 e.request ++ leBytes 4 e.idle ++ leBytes 4 (generator d g).episodes ++ leBytes 8 e.firstIdle
    ++ leBytes 8 e.acc ++ leBytes 8 e.freq ++ leBytes 1 e.reason ++ zeroBytes 3 ++ leBytes 4 e.tag ++ zeroBytes 32
  emitRec { type := 0x0B, source := generatorSource g, flags := headerFlags d [], firstIndex := e.index,
            generation := blockGeneration d (genBlock g), payload := payload } d

def tagOf (p : Option Packet) : Nat :=
  match p with
  | some p => p.tag.toNat
  | none => 0xFFFFFFFF

/-! ### Stopping (R359, R366, R371, R373) -/

/-- An under-run episode ends at boundary `b` (R366). -/
def endEpisode (g b : Nat) (d : Device) : Device :=
  let v := generator d g
  match v.episode with
  | none => d
  | some (first, n) =>
    let x := sampleAt d g b
    let d := setGenerator g { v with episode := none, underrunGranules := v.underrunGranules + BitVec.ofNat 32 n } d
    genRecord g { kind := 4, index := b, step := v.step, segment := v.segment, idle := n, firstIdle := first,
                  acc := x.1, freq := x.2.1 } d

/-- The generator stops at index `b` (R367): `done` STOP commands complete with OK, every other waiting command with `st`. -/
def stopGen (g b reason : Nat) (done : List Packet) (st : Status) (d : Device) : Device :=
  let v := generator d g
  let d := endEpisode g b d
  let aborted := (match v.request.bind (·.packet) with
    | some p => [p]
    | none => []) ++ v.ignored ++ (v.stops.filter (fun p => !done.contains p))
  let d := dropMarkers g b d
  let d := setGenerator g { generator d g with
    mode := .stopped, current := none, queue := [], ending := none, starting := none, holding := false, request := none,
    stops := [], stopPending := false, stopAt := 0, ignored := [], badEntries := [], changeNext := 0 } d
  let d := genRecord g { kind := 2, index := b, step := v.step, segment := v.segment, acc := v.acc, freq := v.freq,
                         reason := reason, tag := tagOf done.head? } d
  let d := raiseEvent (genSource g) 2 b reason d
  let d := done.foldl (fun d p => complete p .ok (leBytes 8 b ++ zeroBytes 1) d) d
  aborted.foldl (fun d p => complete p st [] d) d

/-- Everything but a decision stops the generator at once, where it is (R373, R375): acc stands at the last sample. -/
def haltGen (g reason : Nat) (st : Status) (d : Device) : Device :=
  let v := generator d g
  if v.mode == .stopped && v.starting.isNone then d
  else
    let b := ballIndex d
    let x := sampleAt d g b
    let d := if v.current.isSome then setGenerator g { v with acc := x.1, freq := x.2.1, current := none } d else d
    stopGen g b reason [] st d

/-! ### Ring refill (R363-R365) -/

/-- A ring segment is released (R364). -/
def releaseSeg (g n : Nat) (d : Device) : Device :=
  let v := generator d g
  match segDef v n with
  | some s => setGenerator g (setSeg n (some { s with committed := false, written := [] }) v) d
  | none => d

/-- Every entry of the range has been written: it commits, or is rejected (R364). On a shadow it commits when the primary says so (R502). -/
def tryCommit (g n : Nat) (d : Device) : Device :=
  let v := generator d g
  match segDef v n with
  | none => d
  | some s =>
    if s.committed || (s.written.filter (fun e => e.2 == 65535)).length < s.count || (d.group.pairFormed && d.group.pairRole == 2) then d
    else if rangeValid (segWord d g s) s.count then
      let d := setGenerator g (setSeg n (some { s with committed := true, committedAt := ballIndex d, written := [] }) v) d
      match mirroring d, d.group.pairPeer with
      | true, some peer => sendMsg peer (.memMirror (.ringCommit (if g == 0 then 0 else 1) n)) d
      | _, _ => d
    else
      let d := setGenerator g { setSeg n (some { s with written := [] }) v with refillReject := true } d
      let i := ballIndex d
      let x := sampleAt d g i
      let d := genRecord g { kind := 5, index := i, step := v.step, segment := n, acc := x.1, freq := x.2.1 } d
      raiseEvent (genSource g) 6 i n d

def holdsEntry (s : SegDef) (e : Nat) : Bool := decide (s.first ≤ e) && decide (e < s.first + s.count)

/-- The defined segment that holds an entry. -/
def segOfEntry (v : Generator) (e : Nat) : Option Nat := (v.segments.find? (fun x => x.2.any (fun s => holdsEntry s e))).map (·.1)

/-- An accepted entry write of the primary goes to the shadow (R502). -/
def mirrorEntry (g e : Nat) (d : Device) : Device :=
  match mirroring d, d.group.pairPeer with
  | true, some peer => sendMsg peer (.memMirror (.write (if g == 0 then 0 else 1) e (BitVec.ofNat 128 (entryWord d g e)))) d
  | _, _ => d

/-- A write of bytes into one entry from byte `at` on (R354): accepted into an unlocked ring segment or outside every segment. -/
def writeEntry (g e start : Nat) (bs : List Byte) (d : Device) : Device :=
  let v := generator d g
  let a := entryBase g + 16 * e + start
  match segOfEntry v e with
  | none => mirrorEntry g e (memWrite a bs d)
  | some n =>
    if inRing d g n && !segLocked v n then
      let d := mirrorEntry g e (memWrite a bs d)
      match segDef v n with
      | some s =>
        if s.committed then d
        else
          let m := maskOf 16 (fun i => bit (tget 0 s.written (e - s.first)) i || (decide (start ≤ i) && decide (i < start + bs.length)))
          tryCommit g n (setGenerator g (setSeg n (some { s with written := tset 0 s.written (e - s.first) m }) v) d)
      | none => d
    else
      raiseEvent (0x2C2 + g) 1 (ballIndex d) e
        (setGenerator g { v with lockedWrites := v.lockedWrites + 1, lockedWriteFlag := true } d)

/-- A write of bytes at an offset of the entry memory, entry by entry. -/
def writeEntries (g : Nat) : Nat → Nat → List Byte → Device → Device
  | 0, _, _, d => d
  | fuel + 1, off, bs, d =>
    if bs.isEmpty then d
    else
      let n := 16 - off % 16
      writeEntries g fuel (off + n) (bs.drop n) (writeEntry g (off / 16) (off % 16) (bs.take n) d)

/-- A write of the transfer engine or the CP to any device address: entry memory has its own rule (R354). -/
def busWrite (a : Nat) (bs : List Byte) (d : Device) : Device :=
  match regionOf a with
  | .g0 => writeEntries 0 (bs.length + 1) (a - entryBase 0) bs d
  | .g1 => writeEntries 1 (bs.length + 1) (a - entryBase 1) bs d
  | _ => memWrite a bs d

/-- The refill request of a generator (R365). -/
def refillRequest (d : Device) (g : Nat) : Bool :=
  let v := generator d g
  v.segments.any (fun x => inRing d g x.1 && !segLocked v x.1 && x.2.any (fun s => !s.committed))

/-- ring_committed (R369). -/
def ringCommitted (d : Device) (g : Nat) : Nat :=
  ((generator d g).segments.filter (fun x => inRing d g x.1 && x.2.any (·.committed))).length

/-- ENTRY_MEMORY_WRITE (R354): one entry. -/
def entryMemoryWrite (g e : Nat) (v : BitVec 128) (d : Device) : Device :=
  if 2 ^ 20 ≤ e then d
  else writeEntry g e 0 (leBytes 16 v.toNat) d

/-- The primary's commit of a ring segment reaches the shadow (R502). -/
def mirrorCommit (g n : Nat) (d : Device) : Device :=
  let v := generator d g
  match segDef v n with
  | some s => setGenerator g (setSeg n (some { s with committed := true, committedAt := ballIndex d, written := [] }) v) d
  | none => d

/-! ### Sequences and decisions (R356-R361) -/

def seqStore (v : Generator) (n : Nat) : List SeqStep := tget [] v.stores n

/-- A step of the store that the generator follows; none is an invalid step. -/
def stepOf (d : Device) (g n : Nat) : Option SeqStep := (seqStore (generator d g) (genN d g 2))[n]?

/-- The step names something to play: a ring, or a defined segment (R361). -/
def stepPlayable (d : Device) (g : Nat) (s : SeqStep) : Bool := s.stream || (segDef (generator d g) s.segment).isSome

def idleChoice (b step plays : Nat) (mode : GenMode) (jump : Option JumpRequest) (started : Bool) : Choice :=
  { start := b, stop := b + 256, segment := none, step := step, plays := plays, mode := mode, jump := jump, release := false,
    started := started }

/-- A choice is queued. -/
def queueChoice (g : Nat) (c : Choice) (d : Device) : Device :=
  let v := generator d g
  setGenerator g { v with queue := v.queue ++ [c] } d

/-- The decision for boundary `b` sees the segment committed: not where it commits in the decision's fabric cycle or later (R364). -/
def seenCommitted (b : Nat) (s : SegDef) : Bool := s.committed && decide (s.committedAt + 512 < b)

/-- The next play of the step of the decision state starts at `b` (R358, R359, R363). -/
def choosePlay (g b : Nat) (jump : Option JumpRequest) (release started : Bool) (d : Device) : Device :=
  let v := generator d g
  match stepOf d g v.nextStep with
  | none => queueChoice g (idleChoice b v.nextStep v.nextPlays .waiting jump started) d
  | some s =>
    let n := if s.stream then v.ringPtr else s.segment
    match segDef v n with
    | none => queueChoice g (idleChoice b v.nextStep v.nextPlays (if s.stream then .underrun else .waiting) jump started) d
    | some sd =>
      if s.stream && (!seenCommitted b sd || genN d g 4 == 0) then
        queueChoice g (idleChoice b v.nextStep v.nextPlays .underrun jump started) d
      else
        let next := if n + 1 < genN d g 3 + genN d g 4 then n + 1 else genN d g 3
        let d := setGenerator g { v with nextPlays := v.nextPlays + 1, ringPtr := if s.stream then next else v.ringPtr } d
        queueChoice g { start := b, stop := b + 256 * segLength d g n, segment := some n, step := v.nextStep,
                        plays := v.nextPlays + 1, mode := .playing, jump := jump, release := release, started := started } d

/-- Enter a step at `b` (R358): with WAIT idle granules until a request names it. -/
def enterStep (g n b : Nat) (jump : Option JumpRequest) (started : Bool) (d : Device) : Device :=
  let v := generator d g
  let wait := (stepOf d g n).any (·.wait)
  let d := setGenerator g { v with nextStep := n, nextPlays := 0, holding := wait } d
  if wait then queueChoice g (idleChoice b n 0 .waiting jump started) d else choosePlay g b jump false started d

/-- The decision where no STOP and no request count. -/
def chooseNext (g b : Nat) (d : Device) : Device :=
  let v := generator d g
  if v.holding then queueChoice g (idleChoice b v.nextStep v.nextPlays .waiting none false) d
  else match stepOf d g v.nextStep with
    | none => choosePlay g b none false false d
    | some s =>
      if s.loops != 0 && decide (s.loops ≤ v.nextPlays) then
        (if s.finish then setGenerator g { v with ending := some { boundary := b, reason := 1, packets := [] } } d
         else enterStep g s.next b none false d)
      else choosePlay g b none false false d

/-- A request is taken by the decision for `b`: its command completes with OK (R362). -/
def takeRequest (g b : Nat) (r : JumpRequest) (d : Device) : Device :=
  let v := generator d g
  let d := setGenerator g { v with request := none } d
  let d := if v.holding && v.nextStep == r.step then
      choosePlay g b (some r) true false (setGenerator g { generator d g with holding := false, nextPlays := 0 } d)
    else enterStep g r.step b (some r) false d
  completeOpt r.packet .ok (leBytes 8 b ++ leBytes 1 (boolN r.deferred)) d

/-- Boundary that the next decision belongs to. -/
def decisionBoundary (v : Generator) : Option Nat :=
  match v.queue.getLast? with
  | some c => some c.stop
  | none => match v.current with
    | some c => some c.stop
    | none => v.starting.map (·.1)

/-- What reached the generator at index `i` counts for the decision at b - 512 (R360). -/
def countsFor (b i : Nat) : Bool := decide (i + 512 < b)

/-- The decision for boundary `b` (R359): a STOP or a request counts if it reached the generator below b - 512. -/
def decide1 (g b : Nat) (d : Device) : Device :=
  let v := generator d g
  if v.stopPending && countsFor b v.stopAt then setGenerator g { v with ending := some { boundary := b, reason := 0, packets := v.stops } } d
  else match v.starting with
    | some (s, n) => if v.queue.isEmpty && s == b then enterStep g n b none true d else chooseNext g b d
    | none =>
      match v.request.filter (fun r => countsFor b r.reached) with
      | some r =>
        if (stepOf d g r.step).any (stepPlayable d g) then takeRequest g b r d
        else
          let d := setGenerator g { v with request := none, jumpIgnored := true } d
          let d := raiseEvent (genSource g) 4 b r.step d
          chooseNext g b (completeOpt r.packet .aborted [] d)
      | none => chooseNext g b d

/-- DECISION_POINT (R359): the sample index has reached b - 512. -/
def decisionPoint (g : Nat) (d : Device) : Device :=
  let v := generator d g
  match decisionBoundary v with
  | none => d
  | some b => if v.ending.isSome || decide (ballIndex d + 512 < b) then d else decide1 g b d

/-! ### Boundaries (R358, R366, R367, R371) -/

/-- What was chosen starts at its boundary. -/
def startChoice (g : Nat) (c : Choice) (d : Device) : Device :=
  let v := generator d g
  let d := setGenerator g { v with
    mode := c.mode, step := c.step, plays := c.plays, current := some c, segment := c.segment.getD v.segment,
    starting := none, changeNext := 0 } d
  let d := if c.mode == .underrun then d else endEpisode g c.start d
  let d := if c.segment.isNone then dropMarkers g c.start d else d
  let x := sampleAt d g c.start
  let base : GenEvent := { kind := 0, index := c.start, step := c.step, segment := c.segment.getD v.segment,
                           acc := x.1, freq := x.2.1 }
  let d := if c.started then raiseEvent (genSource g) 1 c.start c.step (genRecord g { base with kind := 1 } d) else d
  let d := match c.jump with
    | some r => raiseEvent (genSource g) 3 c.start c.step
        (genRecord g { base with
          kind := 3, flags := boolN r.deferred + 2 * boolN r.packet.isNone + 4 * boolN c.release, request := r.reached,
          tag := tagOf r.packet } d)
    | none => d
  if c.mode != .underrun then d
  else
    let v := generator d g
    match v.episode with
    | some (f, n) => setGenerator g { v with episode := some (f, n + 1) } d
    | none =>
      raiseEvent (genSource g) 5 c.start 0 (setGenerator g { v with
        episode := some (c.start, 1), episodes := v.episodes + 1, underruns := v.underruns + 1,
        firstUnderrun := if v.underrunFlag then v.firstUnderrun else c.start, underrunFlag := true } d)

/-- gen fields swap (R58, R363): a change of the ring returns the read pointer to ring_first. -/
def swapGen (g : Nat) (d : Device) : Device :=
  let keys := changedKeys d (waitingChanges d (genBlock g) (2 ^ 64))
  let d := swapBlocks [genBlock g] d
  if keys.contains (cfgKey 0x0C g 3) || keys.contains (cfgKey 0x0C g 4) then
    setGenerator g { generator d g with ringPtr := genN d g 3 } d
  else d

/-- A STOPPED generator swaps at once; enable 0 takes back a START (R371). -/
def swapStoppedGen (g : Nat) (d : Device) : Device :=
  let v := generator d g
  if v.mode != .stopped then d
  else
    let d := swapGen g d
    if genN d g 1 == 0 && v.starting.isSome then stopGen g (ballIndex d) 7 [] .aborted d else d

/-- SEGMENT_BOUNDARY (R358, R364, R371): the play ends where its follower has been decided. -/
def segmentBoundary (g : Nat) (d : Device) : Device :=
  let v := generator d g
  match v.current with
  | none => d
  | some c =>
    if ballIndex d < c.stop || (v.queue.isEmpty && v.ending.isNone) then d
    else
      let d := flushMarkers g 4096 d
      let x := afterPlay d g (generator d g) c
      let v := generator d g
      let ended (e : Nat) : Bool := (c.segment.bind (segDef v)).any (fun s => holdsEntry s e)
      let d := setGenerator g { v with
        acc := x.1, freq := x.2, current := none, badEntries := v.badEntries.filter (fun e => !ended e) } d
      let d := match c.segment with
        | some n => if inRing d g n && !segLocked (generator d g) n then releaseSeg g n d else d
        | none => d
      let d := swapGen g d
      if genN d g 1 == 0 then stopGen g c.stop 7 [] .aborted d
      else
        let v := generator d g
        match v.queue with
        | n :: rest => startChoice g n (setGenerator g { v with queue := rest } d)
        | [] => match v.ending with
          | some e => stopGen g c.stop e.reason v.stops .aborted d
          | none => d

/-- START_BOUNDARY (R362): the generator reaches s. -/
def startBoundary (g : Nat) (d : Device) : Device :=
  let v := generator d g
  match v.starting, v.ending, v.queue with
  | some (s, _), some e, [] => if s ≤ ballIndex d then stopGen g s e.reason v.stops .aborted d else d
  | some (s, _), _, n :: rest => if s ≤ ballIndex d then startChoice g n (setGenerator g { v with queue := rest } d) else d
  | _, _, _ => d

/-! ### Requests (R360-R362) -/

/-- Boundaries that have been reached or chosen. -/
def chosenStops (v : Generator) : List Nat :=
  (v.starting.map (·.1)).toList ++ (v.current.map (·.stop)).toList ++ v.queue.map (·.stop)

/-- A request that reached the generator at index `i` stands behind the pending one: that came in a later fabric cycle, or in the same
one from a trigger where this is a command (R360). -/
def olderRequest (v : Generator) (p : Option Packet) (i : Nat) : Bool :=
  v.request.any (fun r => if i / 16 == r.reached / 16 then p.isSome && r.packet.isNone else decide (i / 16 < r.reached / 16))

/-- A request reaches the generator at index `i` (R360): the newer one stays pending; while a STOP is pending it is ignored. -/
def placeRequest (g step : Nat) (p : Option Packet) (i : Nat) (d : Device) : Device :=
  let v := generator d g
  if v.stopPending then
    (match p with
     | some p => setGenerator g { v with ignored := v.ignored ++ [p] } d
     | none => d)
  else if olderRequest v p i then completeOpt p .aborted [] d
  else
    let late := (chosenStops v).any (fun b => !countsFor b i && decide (i < b))
    let d := match v.request with
      | some r => completeOpt r.packet .aborted [] d
      | none => d
    let v := generator d g
    setGenerator g { v with
      request := some { step := step, reached := i, deferred := late, packet := p },
      jumpDeferred := v.jumpDeferred || late } d

/-- STOPPED for the commands; DESIGN CHOICE: a generator whose START has been accepted is no longer STOPPED for them, though its STATE
stays 0 up to the boundary. -/
def genStopped (v : Generator) : Bool := v.mode == .stopped && v.starting.isNone

/-- JUMP_REQUEST_ARRIVAL (R361): the oldest GEN_JUMP action for the generator in stall 0x09 reaches it, at the index that R361 allows
at the latest. DESIGN CHOICE: at a generator that is STOPPED it is ignored like one whose step is invalid. -/
def jumpRequestArrival (g : Nat) (d : Device) : Device :=
  match d.trig.actions.find? (fun a => match a with
    | .jump x _ _ => x == g
    | _ => false) with
  | some (.jump x step due) =>
    let rest := d.trig.actions.erase (.jump x step due)
    let d := { d with trig := { d.trig with
      actions := rest, actionsFull := d.trig.actionsFull && decide (128 < rest.length) } }
    if genStopped (generator d g) then
      raiseEvent (genSource g) 4 (ballIndex d) step (setGenerator g { generator d g with jumpIgnored := true } d)
    else placeRequest g step none (min (ballIndex d) (due.getD (ballIndex d))) d
  | _ => d

/-! ### GEN_JUMP (R362, R368) -/

def genJump (p : Packet) (d : Device) : Device :=
  let g := pByte p 1
  let n := p16 p 2
  if !reservedZero p [(0, 4)] || decide (1 < g) || decide (4095 < n) then complete p .badParam [] d
  else if genStopped (generator d g) || (stepOf d g n).isNone then complete p .badState [] d
  else placeRequest g n (some p) (ballIndex d) (park p d)

def genStart (p : Packet) (d : Device) : Device :=
  let g := pByte p 1
  let n := p16 p 2
  let v := generator d g
  if !reservedZero p [(0, 5), (8, 8)] || decide (1 < g) || decide (4095 < n) || decide (1 < pByte p 4)
      || (pByte p 4 == 0 && p64 p 8 != 0) then complete p .badParam [] d
  else if !genStopped v || genN d g 1 != 1 || (stepOf d g n).isNone then complete p .badState [] d
  else if pByte p 4 == 1 && decide (p64 p 8 < ballIndex d + 2048) then complete p .late [] d
  else
    let i := if pByte p 4 == 1 then p64 p 8 else ballIndex d + 2048
    let s := ceilDiv i 256 * 256
    let seen := v.segments.map (fun e => (e.1, e.2.map (fun x => { x with committedAt := 0 })))
    let d := setGenerator g { v with
      starting := some (s, n), acc := 0, ringPtr := genN d g 3, episodes := 0, segments := seen } d
    complete p .ok (leBytes 8 s ++ zeroBytes 1) d

def genStop (p : Packet) (d : Device) : Device :=
  let g := pByte p 1
  let v := generator d g
  if !reservedZero p [(0, 2)] || decide (1 < g) then complete p .badParam [] d
  else if genStopped v then complete p .badState [] d
  else park p (setGenerator g { v with
    stops := v.stops ++ [p], stopPending := true, stopAt := if v.stopPending then v.stopAt else ballIndex d } d)

/-- The generator status word (R368). -/
def genStatusWord (d : Device) (g : Nat) : Nat :=
  let v := generator d g
  let st := match v.mode with
    | .stopped => 0
    | .playing => 1
    | .underrun => 2
    | .waiting => 3
  st + 4 * boolN (v.request.isSome || v.stopPending) + 8 * boolN d.clk.sclk.gated
    + 2 ^ 8 * boolN v.underrunFlag + 2 ^ 9 * boolN v.lockedWriteFlag + 2 ^ 10 * boolN v.refillReject
    + 2 ^ 11 * boolN v.jumpDeferred + 2 ^ 12 * boolN v.jumpIgnored + 2 ^ 16 * v.step + 2 ^ 28 * v.segment

def genStatus (p : Packet) (d : Device) : Device :=
  let g := pByte p 1
  if !reservedZero p [(0, 2), (16, 8)] || decide (1 < g) then complete p .badParam [] d
  else
    let v := generator d g
    let m := p64 p 16
    let loops := ((stepOf d g v.step).map (·.loops)).getD 0
    let reply := leBytes 8 (genStatusWord d g) ++ leBytes 8 v.firstUnderrun ++ leBytes 4 (loops - v.plays) ++ zeroBytes 4
      ++ leBytes 8 (sampleAt d g (ballIndex d)).1 ++ leBytes 4 v.underrunGranules.toNat
    complete p .ok reply (setGenerator g { v with
      underrunFlag := v.underrunFlag && !bit m 8, firstUnderrun := if bit m 8 then 0 else v.firstUnderrun,
      lockedWriteFlag := v.lockedWriteFlag && !bit m 9, refillReject := v.refillReject && !bit m 10,
      jumpDeferred := v.jumpDeferred && !bit m 11, jumpIgnored := v.jumpIgnored && !bit m 12 } d)

/-! ### SEG_WRITE (R353) -/

/-- A step of a sequence store that the active or a pending context selects names a segment. -/
def segNamed (d : Device) (g n : Nat) : Bool :=
  (contexts d).any (fun c =>
    (seqStore (generator d g) (vN c 0x0C g 2)).any (fun s => !s.stream && s.segment == n))

/-- The new range overlaps the range of another segment that meets a test. -/
def rangeHits (v : Generator) (n first count : Nat) (p : Nat → Bool) : Bool :=
  v.segments.any (fun x => x.1 != n && p x.1 && x.2.any (fun s => rangesMeet first count s.first s.count))

/-- Parameters of DEFINE and COPY that are in range. -/
def segParamsOk (d : Device) (copy : Bool) (p : Packet) : Bool :=
  decide (pByte p 0 ≤ 1) && decide (p16 p 2 ≤ 4095) && decide (1 ≤ p32 p 8) && decide (p32 p 4 + p32 p 8 ≤ 2 ^ 20)
    && (!copy || (p64 p 16 % 16 == 0 && reachable d .cp false (p64 p 16) (16 * p32 p 8)))

/-- DEFINE and COPY (R352, R353, R364). -/
def segDefine (copy : Bool) (p : Packet) (d : Device) : Device :=
  let g := pByte p 0
  let n := p16 p 2
  let first := p32 p 4
  let count := p32 p 8
  let v := generator d g
  let word (i : Nat) : Nat := if copy then memNat d (p64 p 16 + 16 * i) 16 else entryWord d g (first + i)
  if !reservedZero p [(0, 12), (16, 8)] || !segParamsOk d copy p then complete p .badParam [] d
  else if segLocked v n || rangeHits v n first count (segLocked v) || segNamed d g n then complete p .busy [] d
  else if rangeHits v n first count (fun _ => true) || (!inRing d g n && !rangeValid word count) then
    complete p .badParam [] d
  else
    let len := rangeLength word count
    let d := if copy then memWrite (entryBase g + 16 * first) (memRead d (p64 p 16) (16 * count)) d else d
    let marks : Table Nat := if copy && inRing d g n then (List.range count).map (fun i => (i, 65535)) else []
    let d := setGenerator g (setSeg n (some { first := first, count := count, committed := false, written := marks })
      (generator d g)) d
    let d := if copy && inRing d g n then tryCommit g n d else d
    complete p .ok (leBytes 6 len) d

def segClear (p : Packet) (d : Device) : Device :=
  let g := pByte p 0
  let n := p16 p 2
  if !reservedZero p [(0, 12), (16, 8)] || decide (1 < g) || decide (4095 < n) then complete p .badParam [] d
  else if segLocked (generator d g) n || segNamed d g n then complete p .busy [] d
  else complete p .ok (leBytes 6 0) (setGenerator g (setSeg n none (generator d g)) d)

/-! ### SEQ_LOAD (R357) -/

/-- A step whose reserved bits are zero. -/
def readStep (bs : List Byte) : Option SeqStep :=
  let f := getLe bs 8 1
  if getLe bs 0 2 ≤ 4095 ∧ getLe bs 2 2 ≤ 4095 ∧ f ≤ 7 ∧ getLe bs 9 7 = 0 then
    some { segment := getLe bs 0 2, next := getLe bs 2 2, loops := getLe bs 4 4, finish := bit f 0, wait := bit f 1,
           stream := bit f 2 }
  else none

/-- A store that an enabled generator follows in the active or a pending context (R44). -/
def seqBusy (d : Device) (g s : Nat) : Bool := (contexts d).any (fun c => vN c 0x0C g 1 == 1 && vN c 0x0C g 2 == s)

def seqLoad (p : Packet) (d : Device) : Device :=
  let g := pByte p 0
  let s := pByte p 1
  let n := p32 p 4
  let a := p64 p 8
  if !reservedZero p [(0, 2), (4, 12)] || decide (1 < g) || decide (1 < s) || n == 0 || decide (4096 < n)
      || !reachable d .cp false a (16 * n) then complete p .badParam [] d
  else match decodeAll readStep (readEntries d a 16 n) with
    | none => complete p .badParam [] d
    | some steps =>
      let ok := steps.all (fun x => decide (x.next < n) && (if x.stream then x.segment == 0
        else (segDef (generator d g) x.segment).any (fun s => rangeValid (segWord d g s) s.count)))
      if !ok then complete p .badParam [] d
      else if seqBusy d g s then complete p .busy [] d
      else
        let v := generator d g
        complete p .ok [] (setGenerator g { v with stores := tset [] v.stores s steps } d)

/-! ### Whole-device events (R373, R375) -/

/-- BLOCK_RESET of a generator: stop reason 5, ring segments released. -/
def resetGen (g : Nat) (d : Device) : Device :=
  let d := haltGen g 5 .aborted d
  ((generator d g).segments.filter (fun x => inRing d g x.1)).foldl (fun d x => releaseSeg g x.1 d) d

/-- SLEEP: stop reason 4; entry memory, segments and stores lose their content. -/
def sleepGen (g : Nat) (d : Device) : Device :=
  let d := haltGen g 4 .aborted d
  let d := setGenerator g { generator d g with segments := [], stores := [] } d
  { d with mem := d.mem.filter (fun c => !(decide (entryBase g ≤ c.1) && decide (c.1 < entryBase g + 0x1000000))) }

/-- An uncorrectable entry memory error (R373): the entry plays as idle, ENTRY_ERROR. -/
def entryError (g e : Nat) (d : Device) : Device :=
  let v := generator d g
  match ((v.current.toList ++ v.queue).filterMap (·.segment)).find? (fun n => (segDef v n).any (fun s => holdsEntry s e)) with
  | none => d
  | some n =>
    let d := setGenerator g { v with badEntries := v.badEntries ++ [e] } d
    let x := sampleAt d g (ballIndex d)
    genRecord g { kind := 6, index := ballIndex d, step := v.step, segment := n, acc := x.1, freq := x.2.1 } d

def execSegDefine (p : Packet) (s : State) : Host.Outcome State Fault Refusal := act (accept p (segDefine false)) s
def execSegCopy (p : Packet) (s : State) : Host.Outcome State Fault Refusal := act (accept p (segDefine true)) s
def execSegClear (p : Packet) (s : State) : Host.Outcome State Fault Refusal := act (accept p segClear) s
def execSeqLoad (p : Packet) (s : State) : Host.Outcome State Fault Refusal := act (accept p seqLoad) s
def execGenJump (p : Packet) (s : State) : Host.Outcome State Fault Refusal := act (accept p genJump) s
def execGenStart (p : Packet) (s : State) : Host.Outcome State Fault Refusal := act (accept p genStart) s
def execGenStop (p : Packet) (s : State) : Host.Outcome State Fault Refusal := act (accept p genStop) s
def execGenStatus (p : Packet) (s : State) : Host.Outcome State Fault Refusal := act (accept p genStatus) s
def execJumpRequestArrival (gen : Fin 2) (s : State) : Host.Outcome State Fault Refusal := act (jumpRequestArrival gen.val) s
def execDecisionPoint (gen : Fin 2) (s : State) : Host.Outcome State Fault Refusal := act (decisionPoint gen.val) s
def execSegmentBoundary (gen : Fin 2) (s : State) : Host.Outcome State Fault Refusal := act (segmentBoundary gen.val) s
def execStartBoundary (gen : Fin 2) (s : State) : Host.Outcome State Fault Refusal := act (startBoundary gen.val) s
def execMarkerPulseEnd (gen : Fin 2) (m : Fin 4) (s : State) : Host.Outcome State Fault Refusal :=
  act (markerPulseEnd gen.val m.val) s
def execMarkerChangePoint (gen : Fin 2) (s : State) : Host.Outcome State Fault Refusal := act (markerChangePoint gen.val) s
def execEntryMemoryWrite (gen : Fin 2) (entry : Nat) (value : BitVec 128) (s : State) : Host.Outcome State Fault Refusal :=
  act (entryMemoryWrite gen.val entry value) s

end Sys2Proof.Machine
end

