-- ==== Sys2Proof/Machine/Transfer.lean ====
section
/-! DEFINITION. The transfer engine: descriptors, request lines, bursts, completion, and XFER_KICK (R307-R323). -/

namespace Sys2Proof.Machine

def chan (d : Device) (c : Nat) : XferChan := tget {} d.xfer.chans c

def setChan (c : Nat) (v : XferChan) (d : Device) : Device :=
  { d with xfer := { d.xfer with chans := tset {} d.xfer.chans c v } }

def xferN (d : Device) (c code : Nat) : Nat := cfgN d 0x0A c code

def chanCode : ChanState → Nat
  | .idle => 0 | .running => 1 | .waitOwn => 2 | .waitReq => 3 | .halted => 4

/-- Every XFER_KICK reply: channel state and current descriptor address (R322). -/
def xferReply (d : Device) (c : Nat) : List Byte :=
  leBytes 1 (chanCode (chan d c).state) ++ zeroBytes 7 ++ leBytes 8 (chan d c).descAddr

/-! ### Descriptors (R308-R313) -/

/-- A descriptor may lie there: 64-byte aligned, fetched and written back by the engine (R17, R308). -/
def descriptorOk (d : Device) (a : Nat) : Bool :=
  a % 64 == 0 && reachable d .xfer false a 64 && reachable d .xfer true a 64

def ringSource (x : Descriptor) : Bool := bit x.control 10
def descStream (x : Descriptor) : Nat := bits x.control 11 8
def waitsForLine (x : Descriptor) : Bool := bit x.control 3
def requestLine (x : Descriptor) : Nat := bits x.control 4 6

def parseDescriptor (b : List Byte) : Descriptor :=
  { src := getLe b 0 8, dst := getLe b 8 8, srcLine := getLe b 16 4, srcStride := signed 32 (getLe b 20 4),
    srcLines := getLe b 24 4, dstLine := getLe b 28 4, dstStride := signed 32 (getLe b 32 4), dstLines := getLe b 36 4,
    next := getLe b 40 8, control := getLe b 48 4, total := getLe b 16 4 * getLe b 24 4, started := !bit (getLe b 48 4) 10 }

/-- A line of a transfer lies in ranges that the engine reaches; the two entry memories adjoin (R16). -/
def lineOk (d : Device) (write : Bool) (a : Int) (n : Nat) : Bool :=
  decide (0 ≤ a) && (reachable d .xfer write a.toNat n
    || (write && regionOf a.toNat == .g0 && regionOf (a.toNat + (n - 1)) == .g1))

def linesOk (d : Device) (write : Bool) (a : Nat) (line : Nat) (stride : Int) (count : Nat) : Bool :=
  (List.range count).all (fun i => lineOk d write ((a : Int) + (i : Int) * stride) line)

def lineRangeOk (n : Nat) : Bool := decide (1 ≤ n) && decide (n ≤ 2 ^ 24)

/-- Status and cause of a descriptor that breaks R310, none for a good one. DESIGN CHOICE: a destination stride shorter than its line
and a line length or count outside its range take cause 0x01, the cause of the totals; R321 names no cause of their own. -/
def descriptorFault (d : Device) (x : Descriptor) : Option (Nat × Nat) :=
  let dst := x.dstLine * x.dstLines
  let shape := lineRangeOk x.dstLine && lineRangeOk x.dstLines && decide (dst < 2 ^ 32)
    && (x.dstLines == 1 || decide (x.dstLine ≤ x.dstStride.natAbs))
    && (if ringSource x then x.srcLine == 0 && x.srcStride == 0 && x.srcLines == 0
        else lineRangeOk x.srcLine && lineRangeOk x.srcLines && x.total == dst)
  if !shape then some (1, 1)
  else if bits x.control 21 10 != 0 then some (1, 2)
  else if !linesOk d true x.dst x.dstLine x.dstStride x.dstLines
      || (!ringSource x && !linesOk d false x.src x.srcLine x.srcStride x.srcLines)
      || (x.next != 0 && !descriptorOk d x.next) then some (1, 3)
  else none

/-- Length of the run of whole records from `o` on that fits `room` bytes and ends at or below `w` (R313). -/
def recordRun (d : Device) (s : Stream) (w : Nat) : Nat → Nat → Nat → Nat
  | 0, _, _ => 0
  | fuel + 1, o, room =>
    let len := 64 * leNat (ringRead d s (o + 8) 4)
    if o < w && 0 < len && o + len ≤ w && len ≤ room then len + recordRun d s w fuel (o + len) (room - len) else 0

/-- The start of a RING_SRC descriptor (R313): the run's length, or status and cause. -/
def ringStart (d : Device) (x : Descriptor) : Except (Nat × Nat) Nat :=
  let n := descStream x
  let s := stream d n
  let o := x.src
  let w := s.writeOffset
  if !isOpen s || !bit (consumers d n) 0 || decide (o < s.hostOffset) || decide (w < o) then .error (6, 0x50)
  else if o == w then .ok 0
  else
    let units := leNat (ringRead d s (o + 8) 4)
    let echo := leNat (ringRead d s (o + 64 * units - 4) 4)
    if units == 0 || decide (w < o + 64 * units) || echo != units then .error (6, 0x51)
    else if x.dstLine * x.dstLines < 64 * units then .error (6, 0x52)
    else .ok (recordRun d s w ((w - o) / 64) o (x.dstLine * x.dstLines))

/-- Sample W and fix the run of a RING_SRC descriptor. -/
def startRing (c : Nat) (d : Device) : Device :=
  let v := chan d c
  match v.desc with
  | none => d
  | some x =>
    if x.started then d
    else match ringStart d x with
      | .error e => setChan c { v with desc := some { x with started := true }, error := some e } d
      | .ok n => setChan c { v with desc := some { x with started := true, total := n } } d

/-! ### Request lines (R318, R319) -/

def lineAsserted (d : Device) (n : Nat) : Bool :=
  let inst := xferN d n 0x11
  match xferN d n 0x10 with
  | 1 => let s := stream d inst
         isOpen s && decide (2 ^ xferN d n 0x12 ≤ s.writeOffset - s.hostOffset)
  | 2 => decide (inst < 2) && refillRequest d inst
  | 3 => match tget none d.reed.bindings inst with
    | some b => b.request
    | none => false
  | _ => false

/-- The channel's line lets it issue: under RING_SRC it counts only before the descriptor starts. -/
def lineAllows (d : Device) (x : Descriptor) : Bool :=
  !waitsForLine x || (ringSource x && x.started) || lineAsserted d (requestLine x)

/-! ### Fetch (R307, R317) -/

/-- Begin the descriptor at the channel's current address. -/
def beginDescriptor (c : Nat) (bytes : List Byte) (d : Device) : Device :=
  let v := chan d c
  let x := parseDescriptor bytes
  if !bit x.control 31 then
    let d := setChan c { v with state := .waitOwn, desc := none } d
    if v.state == .waitOwn then d else raiseEvent (0x240 + c) 3 (ballIndex d) 0 d
  else
    let d := setChan c { v with
      state := .running, desc := some x, issued := 0, inFlight := [], done := 0, error := descriptorFault d x,
      crc := if bit x.control 1 then 0xFFFFFFFF#32 else v.crc } d
    if ringSource x && !waitsForLine x && (chan d c).error.isNone then startRing c d else d

/-- Fetch the descriptor at the channel's address from memory. -/
def fetchDescriptor (c : Nat) (d : Device) : Device :=
  let a := (chan d c).descAddr
  let d' := beginDescriptor c (memRead d a 64) d
  if poisoned d a 64 && (chan d' c).state == .running then
    setChan c { chan d' c with error := some (3, if regionOf a == .yard then 0x22 else 0x21) } d'
  else d'

/-- Address from which the next descriptor may be prefetched. -/
def prefetchAddr (v : XferChan) : Option Nat :=
  match v.prefetched.getLast? with
  | some (_, b) =>
    let x := parseDescriptor b
    if !bit x.control 31 || bit x.control 20 || x.next == 0 then none else some x.next
  | none =>
    match v.desc with
    | some x => if bit x.control 20 || x.next == 0 || v.error.isSome then none else some x.next
    | none => none

/-- DESCRIPTOR_FETCH. -/
def descriptorFetch (c : Nat) (d : Device) : Device :=
  let v := chan d c
  if v.state != .running && v.state != .waitReq then d
  else match v.desc with
    | none =>
      match v.prefetched with
      | (a, b) :: rest =>
        if a == v.descAddr then beginDescriptor c b (setChan c { v with prefetched := rest } d)
        else fetchDescriptor c (setChan c { v with prefetched := [] } d)
      | [] => fetchDescriptor c d
    | some _ =>
      match prefetchAddr v with
      | some a =>
        if v.prefetched.length < 16 && descriptorOk d a && !poisoned d a 64 then
          setChan c { v with prefetched := v.prefetched ++ [(a, memRead d a 64)] } d
        else d
      | none => d

/-- OWN_POLL. -/
def ownPoll (c : Nat) (d : Device) : Device :=
  if (chan d c).state == .waitOwn && xferN d c 4 != 0 then fetchDescriptor c d else d

/-! ### Bursts (R311, R312, R319, R320) -/

/-- Source address of byte `j`; under RING_SRC the read wraps modulo the ring (R311, R313). -/
def srcAddr (d : Device) (x : Descriptor) (j : Nat) : Nat :=
  if ringSource x then
    let s := stream d (descStream x)
    s.ringBase + (x.src + j) % 2 ^ s.ringLog2
  else ((x.src : Int) + ((j / x.srcLine : Nat) : Int) * x.srcStride + ((j % x.srcLine : Nat) : Int)).toNat

def dstAddr (x : Descriptor) (j : Nat) : Nat :=
  ((x.dst : Int) + ((j / x.dstLine : Nat) : Int) * x.dstStride + ((j % x.dstLine : Nat) : Int)).toNat

/-- Length of the burst that begins at byte `j` (R312). -/
def burstLength (d : Device) (c : Nat) (x : Descriptor) (j : Nat) : Nat :=
  let line := if ringSource x then x.total - j else x.srcLine - j % x.srcLine
  min (min (min (x.total - j) line) (min (x.dstLine - j % x.dstLine) (2 ^ xferN d c 3)))
    (min (4096 - srcAddr d x j % 4096) (4096 - dstAddr x j % 4096))

/-- The channel has a burst to issue, its line apart. -/
def wantsBurst (v : XferChan) : Bool :=
  (v.state == .running || v.state == .waitReq) && v.error.isNone && !v.aborting && decide (v.inFlight.length < 64)
    && v.desc.any (fun x => !x.started || decide (v.issued < x.total))

def burstReady (d : Device) (c : Nat) : Bool :=
  let v := chan d c
  wantsBurst v && v.desc.any (lineAllows d)

/-- Channel that arbitration serves: the one whose turn runs, else the next ready one in cyclic order (R320). -/
def burstWinner (d : Device) : Option Nat :=
  let (t, left) := d.xfer.turn
  if left != 0 && burstReady d t then some t
  else ((List.range 64).map (fun i => (t + 1 + i) % 64)).find? (burstReady d)

def inFlightTotal (d : Device) : Nat := d.xfer.chans.foldl (fun n e => n + e.2.inFlight.length) 0

/-- The burst of the winner goes out. -/
def issueBurst (c : Nat) (d : Device) : Device :=
  let v := chan d c
  match v.desc with
  | none => d
  | some x =>
    let n := burstLength d c x v.issued
    if v.error.isSome || x.total ≤ v.issued then d
    else setChan c { v with issued := v.issued + n, inFlight := v.inFlight ++ [(v.issued, n)] } d

/-- Arbitration turns stand in groups of eight; a new turn may begin the next group (R534). -/
def beginTurn (d : Device) : Device :=
  let n := (d.xfer.turns + 1) % 8
  { d with xfer := { d.xfer with turns := n, spent := if n == 0 then [] else d.xfer.spent } }

/-- At throttle level L above 0 a channel issues at most 8 - L bursts in eight turns (R534). -/
def throttled (d : Device) (c : Nat) : Bool :=
  d.power.throttle != 0 && decide (8 - d.power.throttle ≤ tget 0 d.xfer.spent c)

/-- BURST_ISSUE. A throttled channel lets its turn pass. -/
def burstIssue (c : Nat) (d : Device) : Device :=
  let v := chan d c
  if !wantsBurst v then d
  else if !burstReady d c then setChan c { v with state := .waitReq } d
  else if burstWinner d != some c || 1024 ≤ inFlightTotal d then d
  else
    let runs := d.xfer.turn.1 == c && d.xfer.turn.2 != 0
    let left := if runs then d.xfer.turn.2 else xferN d c 2
    let d := if runs then d else beginTurn d
    if throttled d c then { d with xfer := { d.xfer with turn := (c, 0) } }
    else
    let d := { d with xfer := { d.xfer with turn := (c, left - 1), spent := tset 0 d.xfer.spent c (tget 0 d.xfer.spent c + 1) } }
    issueBurst c (startRing c (setChan c { v with state := .running } d))

/-- Poison in the source bytes of a burst: cause of its DATA_ERROR (R321). -/
def burstPoison (d : Device) (a n : Nat) : Option Nat :=
  if poisoned d a n then some (match regionOf a with
    | .yard => 0x22
    | .host => 0x20
    | _ => 0x21) else none

/-- Address `a` lies in one of the lines. -/
def inLines (base line : Nat) (stride : Int) (count a : Nat) : Bool :=
  let q : Int := (a : Int) - base
  let i : Int :=
    if 0 < stride then min (q / stride) ((count : Int) - 1) else if stride < 0 then max 0 (-(q / (stride.natAbs : Int))) else 0
  let o := q - i * stride
  decide (0 ≤ i) && decide (i < count) && decide (0 ≤ o) && decide (o < line)

/-- Address `a` lies in the source range of the descriptor. -/
def inSource (d : Device) (x : Descriptor) (a : Nat) : Bool :=
  if ringSource x then
    let s := stream d (descStream x)
    let size := 2 ^ s.ringLog2
    decide (s.ringBase ≤ a) && decide (a < s.ringBase + size)
      && decide ((a - s.ringBase + size - x.src % size) % size < x.total)
  else inLines x.src x.srcLine x.srcStride x.srcLines a

/-- What a burst writes from `a` on: its bytes, but for destination bytes that lie in the source range as well, which are free
(R310). -/
def burstBytes (d : Device) (x : Descriptor) (a : Nat) (bs : List Byte) : List Byte :=
  bs.zipIdx.map (fun e => if inSource d x (a + e.2) then Config.overlapByte d.fresh (a + e.2) else e.1)

/-- A burst that writes free bytes takes a free value. -/
def freshOverlap (x : Descriptor) (a n : Nat) (d : Device) : Device :=
  if (List.range n).any (fun i => inSource d x (a + i)) then takeFresh d else d

/-- BURST_COMPLETE: the oldest burst in flight. -/
def burstComplete (c : Nat) (how : BurstEnd) (d : Device) : Device :=
  let v := chan d c
  match v.desc, v.inFlight with
  | some x, (j, n) :: rest =>
    let a := srcAddr d x j
    let v := { v with inFlight := rest }
    let fail : Option (Nat × Nat) := match how with
      | .accessError k => some (2, k)
      | .dataError k => some (3, k)
      | .ok => (burstPoison d a n).map (fun k => (3, k))
    match fail with
    | some e => setChan c { v with error := some (v.error.getD e) } d
    | none =>
      let bs := memRead d a n
      let v := { v with bytesTotal := v.bytesTotal + BitVec.ofNat 64 n }
      let v := if v.error.isSome then v else { v with done := v.done + n, crc := bs.foldl crcByte v.crc }
      let b := dstAddr x j
      busWrite b (burstBytes d x b bs) (setChan c v (freshOverlap x b n (freshLoft a d)))
  | _, _ => d

/-! ### Completion (R315, R321, R323) -/

/-- The channel is IDLE: STOP and ABORT commands that wait complete. -/
def chanIdle (c : Nat) (d : Device) : Device :=
  let v := chan d c
  let d := setChan c { v with state := .idle, desc := none, prefetched := [], issued := 0, inFlight := [], done := 0,
                              error := none, stopping := false, aborting := false, waiters := [] } d
  v.waiters.foldl (fun d p => complete p .ok (xferReply d c) d) d

/-- Fields swap at the completion of a descriptor; enable 0 then takes the channel to IDLE. -/
def xferSwap (c : Nat) (d : Device) : Device := swapBlocks [0x0A00 + c] d

/-- Fields swap at once while the channel is IDLE, WAIT_OWN or HALTED. -/
def xferSwapNow (c : Nat) (d : Device) : Device :=
  let st := (chan d c).state
  if st == .idle || st == .waitOwn || st == .halted then
    let d := xferSwap c d
    if xferN d c 1 == 0 && st != .idle then chanIdle c d else d
  else d

/-- Steps 2 to 4 of R315: status, CRC and count, then the control word with OWN clear, then the event. -/
def writeBack (c : Nat) (code cause : Nat) (d : Device) : Device :=
  let v := chan d c
  match v.desc with
  | none => d
  | some x =>
    let crc := if bit x.control 2 then (~~~ v.crc).toNat else 0
    let d := memWrite (v.descAddr + 52) (leBytes 1 code ++ leBytes 1 cause ++ zeroBytes 2 ++ leBytes 4 crc
      ++ leBytes 4 v.done) d
    let d := memWrite (v.descAddr + 48) (leBytes 4 (x.control % 2 ^ 31)) d
    if bit x.control 0 then raiseEvent (0x240 + c) 1 (ballIndex d) 0 d else d

/-- A channel halts at its descriptor (R321): prefetched descriptors are discarded, the CRC starts anew. -/
def haltChan (c : Nat) (code : Nat) (d : Device) : Device :=
  let v := chan d c
  let d := setChan c { v with state := .halted, prefetched := [], crc := 0xFFFFFFFF#32, issued := 0, inFlight := [],
                              error := none, aborting := false } d
  let d := raiseEvent (0x240 + c) 2 (ballIndex d) 0 d
  if code == 2 || code == 3 then
    let a := match v.desc with
      | some x => srcAddr d x v.done
      | none => v.descAddr
    raiseFault (plainFault (0x240 + c) 1 1 a) d
  else d

/-- The current descriptor completes with a status code and cause. -/
def finishDescriptor (c code cause : Nat) (toIdle : Bool) (d : Device) : Device :=
  let v := chan d c
  let d := xferSwap c (writeBack c code cause d)
  let off := toIdle || v.stopping || xferN d c 1 == 0
  let v := chan d c
  if code != 0 then
    if toIdle then chanIdle c d
    else
      let d := haltChan c code d
      if off then chanIdle c d else d
  else match v.desc with
    | none => d
    | some x =>
      if off || bit x.control 20 || x.next == 0 then chanIdle c d
      else setChan c { v with state := .running, desc := none, descAddr := x.next, issued := 0, done := 0 } d

/-- DESCRIPTOR_COMPLETE. -/
def descriptorComplete (c : Nat) (d : Device) : Device :=
  let v := chan d c
  if v.state != .running && v.state != .waitReq then d
  else match v.desc with
    | none => d
    | some x =>
      if !v.inFlight.isEmpty then d
      else if v.aborting then finishDescriptor c 5 0x40 true d
      else match v.error with
        | some (code, cause) => finishDescriptor c code cause false d
        | none => if x.started && x.total ≤ v.issued then finishDescriptor c 0 0 false d else d

/-- REQUEST_LINE_TIMEOUT (R319). -/
def requestLineTimeout (c : Nat) (d : Device) : Device :=
  let v := chan d c
  if v.state == .waitReq && xferN d c 5 != 0 && !(v.desc.any (lineAllows d)) then
    setChan c { v with error := some (v.error.getD (4, 0x30)) } d
  else d

/-- Safe-state entry and a STOP (R322, R343): the current descriptor completes, then the channel is IDLE. -/
def stopChan (c : Nat) (d : Device) : Device :=
  let v := chan d c
  if v.state == .idle then d
  else if (v.state == .running || v.state == .waitReq) && v.desc.isSome then setChan c { v with stopping := true } d
  else chanIdle c d

def stopAllChans (d : Device) : Device := (List.range 64).foldl (fun d c => stopChan c d) d

/-- The bursts of a channel that are in flight complete. -/
def drainBursts (c : Nat) : Nat → Device → Device
  | 0, d => d
  | k + 1, d => drainBursts c k (burstComplete c .ok d)

/-- SLEEP entry and block reset (R321, R343): the bursts in flight complete, and a descriptor in progress completes with ABORTED. -/
def abortAllChans (d : Device) : Device :=
  (List.range 64).foldl (fun d c =>
    let v := chan d c
    if (v.state == .running || v.state == .waitReq) && v.desc.isSome then
      finishDescriptor c 5 0x40 v.aborting (drainBursts c v.inFlight.length d)
    else if v.state == .running then chanIdle c d
    else d) d

/-! ### XFER_KICK (R322) -/

def xferParams (p : Packet) : Bool := reservedZero p [(0, 2), (8, 8)] && decide (pByte p 1 < 64)

def xferStart (p : Packet) (d : Device) : Device :=
  let c := pByte p 1
  let v := chan d c
  if !xferParams p || !descriptorOk d (p64 p 8) then complete p .badParam [] d
  else if v.state != .idle && v.state != .halted then complete p .busy (xferReply d c) d
  else if xferN d c 1 == 0 then complete p .badState (xferReply d c) d
  else
    let d := setChan c { v with state := .running, descAddr := p64 p 8, desc := none, prefetched := [],
                                crc := 0xFFFFFFFF#32, error := none, stopping := false } d
    complete p .ok (xferReply d c) d

/-- RESUME at a halted channel continues at the descriptor's next; in WAIT_OWN the descriptor is fetched again. -/
def resumeChan (c : Nat) (d : Device) : Device :=
  let v := chan d c
  match v.state with
  | .halted =>
    let next := match v.desc with
      | some x => x.next
      | none => 0
    if next == 0 then chanIdle c d
    else setChan c { v with state := .running, desc := none, descAddr := next, done := 0 } d
  | .waitOwn => fetchDescriptor c d
  | _ => d

def xferResume (p : Packet) (d : Device) : Device :=
  let c := pByte p 1
  if !xferParams p then complete p .badParam [] d
  else
    let d := resumeChan c d
    complete p .ok (xferReply d c) d

def xferStop (p : Packet) (d : Device) : Device :=
  let c := pByte p 1
  if !xferParams p then complete p .badParam [] d
  else
    let d := stopChan c d
    let v := chan d c
    if v.state == .idle then complete p .ok (xferReply d c) d
    else park p (setChan c { v with waiters := v.waiters ++ [p] } d)

def xferAbort (p : Packet) (d : Device) : Device :=
  let c := pByte p 1
  let v := chan d c
  if !xferParams p then complete p .badParam [] d
  else if (v.state == .running || v.state == .waitReq) && v.desc.isSome then
    park p (setChan c { v with aborting := true, waiters := v.waiters ++ [p] } d)
  else
    let d := chanIdle c d
    complete p .ok (xferReply d c) d

def execXferStart (p : Packet) (s : State) : Host.Outcome State Fault Refusal := act (accept p xferStart) s
def execXferResume (p : Packet) (s : State) : Host.Outcome State Fault Refusal := act (accept p xferResume) s
def execXferStop (p : Packet) (s : State) : Host.Outcome State Fault Refusal := act (accept p xferStop) s
def execXferAbort (p : Packet) (s : State) : Host.Outcome State Fault Refusal := act (accept p xferAbort) s
def execDescriptorFetch (ch : Fin 64) (s : State) : Host.Outcome State Fault Refusal := act (descriptorFetch ch.val) s
def execOwnPoll (ch : Fin 64) (s : State) : Host.Outcome State Fault Refusal := act (ownPoll ch.val) s
def execBurstIssue (ch : Fin 64) (s : State) : Host.Outcome State Fault Refusal := act (burstIssue ch.val) s
def execBurstComplete (ch : Fin 64) (how : BurstEnd) (s : State) : Host.Outcome State Fault Refusal :=
  act (burstComplete ch.val how) s
def execDescriptorComplete (ch : Fin 64) (s : State) : Host.Outcome State Fault Refusal := act (descriptorComplete ch.val) s
def execRequestLineTimeout (ch : Fin 64) (s : State) : Host.Outcome State Fault Refusal := act (requestLineTimeout ch.val) s

end Sys2Proof.Machine
end

