-- ==== Sys2Proof/Machine/Volumes.lean ====
section
/-! DEFINITION. Storage ports, drives, superblocks, the journal, and VOL_CREATE (R324-R330, R337, R560). -/

namespace Sys2Proof.Machine

/-! ### Ports and drives -/

def port (d : Device) (p : Nat) : StoragePort := tget {} d.nvme.ports p

def setPort (p : Nat) (v : StoragePort) (d : Device) : Device :=
  { d with nvme := { d.nvme with ports := tset {} d.nvme.ports p v } }

def portN (d : Device) (p code : Nat) : Nat := cfgN d 0x0B (0x10 + p) code
def portSource (p : Nat) : Nat := 0x288 + p

/-- Lanes of a width code (R324, R341). -/
def portLanes (width : Nat) : Nat := if width == 0 then 0 else 2 ^ (width + 1)

/-- Admitted MB/s of a port (R341): 0 gives lanes × 3,500 × 2^(max_gen − 3). -/
def writeLimit (c : Values) (p : Nat) : Rat :=
  let lanes := portLanes (vN c 0x0B (0x10 + p) 1)
  let w := vN c 0x0B (0x10 + p) 3
  if w == 0 then (lanes * 3500 : Nat) * (2 : Rat) ^ vN c 0x0B (0x10 + p) 2 / 8 else w

/-- A drive that can be used now. -/
def driveReady (d : Device) (p : Nat) : Bool := (port d p).ready && !(port d p).failed

def volume (d : Device) (n : Nat) : Option Volume := tget none d.nvme.volumes n

def setVolume (n : Nat) (v : Option Volume) (d : Device) : Device :=
  { d with nvme := { d.nvme with volumes := tset none d.nvme.volumes n v } }

def mounted (d : Device) : List (Nat × Volume) :=
  d.nvme.volumes.filterMap (fun e => e.2.map (fun v => (e.1, v)))

/-- The port belongs to a mounted volume: IN_VOLUME (R341). -/
def inVolume (d : Device) (p : Nat) : Bool := (mounted d).any (fun e => e.2.ports.contains (some p))

/-- rec.portN.status (R341). -/
def portStatus (d : Device) (p : Nat) : Nat :=
  let v := port d p
  boolN v.linkUp + 2 * boolN v.ready + 4 * boolN v.notUsable + 8 * boolN v.failed + 16 * boolN v.retired
    + 32 * boolN (inVolume d p)

/-! ### Disk blocks (R337) -/

def writeBlock (p lba : Nat) (key : Option Nat) (tweak : Nat) (bs : List Byte) (d : Device) : Device :=
  let v := port d p
  if driveReady d p then
    setPort p { v with disk := tset {} v.disk lba { bytes := padTo bs 4096, key := key.map (fun k => (k, tweak)) } } d
  else d

/-- One LBA as read under a key: none where another key or tweak wrote it. -/
def readBlock (d : Device) (p lba : Nat) (key : Option Nat) (tweak : Nat) : Option (List Byte) :=
  let b := tget {} (port d p).disk lba
  if b.bytes.isEmpty then some (zeroBytes 4096)
  else if b.key == key.map (fun k => (k, tweak)) then some b.bytes else none

def volTweak (idx lba : Nat) : Nat := lba + idx * 2 ^ 56
def volKey (v : Volume) : Option Nat := if v.encrypted then v.keys.map (·.1) else none

def writeVol (v : Volume) (idx lba : Nat) (bs : List Byte) (d : Device) : Device :=
  match v.ports[idx]? with
  | some (some p) => writeBlock p lba (volKey v) (volTweak idx lba) bs d
  | _ => d

def readVol (d : Device) (v : Volume) (idx lba : Nat) : Option (List Byte) :=
  match v.ports[idx]? with
  | some (some p) =>
    if !driveReady d p || (v.encrypted && v.keys.isNone) then none else readBlock d p lba (volKey v) (volTweak idx lba)
  | _ => none

/-! ### Geometry (R326-R328) -/

def driveCount (v : Volume) : Nat := v.ports.length
def unitBytes (v : Volume) : Nat := 2 ^ v.stripeLog2
def unitLbas (stripe : Nat) : Nat := 2 ^ (stripe - 12)
def unitTotal (v : Volume) : Nat := driveCount v * v.dataRows
def unitDrive (v : Volume) (u : Nat) : Nat := u % driveCount v
def unitLba (v : Volume) (u : Nat) : Nat := v.dataStart + u / driveCount v * unitLbas v.stripeLog2

/-- Start of the data area (R326). -/
def dataStartOf (journal stripe : Nat) : Nat := ceilDiv (256 + journal) (unitLbas stripe) * unitLbas stripe

/-- Bring-up finds a usable drive (R326). -/
def driveUsable (x : DriveId) : Bool := x.formatOk && (x.mdts == 0 || decide (131072 ≤ x.mdts)) && decide (255 ≤ x.mqes)

/-! ### Superblocks (R327) -/

def superMagic : List Byte := leBytes 8 0x31304C4F56484C52

def superblock (v : Volume) (idx : Nat) (dirty : Bool) : List Byte :=
  let flags := boolN dirty + 2 * boolN v.encrypted + 4 * boolN v.mac + 8 * boolN (v.retired.contains idx) + 16 * boolN v.failed
  let b := superMagic ++ leBytes 2 1 ++ leBytes 1 idx ++ leBytes 1 (driveCount v) ++ leBytes 1 v.stripeLog2 ++ leBytes 1 flags
    ++ zeroBytes 2 ++ padTo v.uuid 16 ++ padTo v.label 16 ++ leBytes 8 v.dataStart ++ leBytes 8 v.dataRows
    ++ leBytes 4 v.journalLbas ++ leBytes 1 v.keySlot ++ zeroBytes 3 ++ leBytes 8 v.mountCount ++ padTo v.wrapped 120
  let body := padTo b 4092
  body ++ leBytes 4 (crc32c body).toNat

def superValid (b : List Byte) : Bool :=
  b.take 8 == superMagic && getLe b 8 2 == 1 && getLe b 4092 4 == (crc32c (b.take 4092)).toNat

/-- Both superblocks of every drive present. -/
def writeSupers (v : Volume) (dirty : Bool) (d : Device) : Device :=
  (List.range (driveCount v)).foldl (fun d i =>
    match v.ports[i]? with
    | some (some p) =>
      let b := superblock v i dirty
      writeBlock p ((port d p).capacity - 1) none 0 b (writeBlock p 0 none 0 b d)
    | _ => d) d

/-- The superblock of a drive: the primary, or the backup where the primary is not valid. -/
def readSuper (d : Device) (p : Nat) : Option (List Byte) :=
  [0, (port d p).capacity - 1].findSome? (fun l => (readBlock d p l none 0).filter superValid)

/-! ### Journal (R329) -/

def entryBytes (type was id : Nat) (body : List Byte) : List Byte :=
  padTo (leBytes 1 type ++ leBytes 1 was ++ zeroBytes 2 ++ leBytes 4 id ++ body) 64

/-- Type and bytes 8-63 of an entry. -/
def journalBody : JournalEntry → Nat × Nat × List Byte
  | .opened id st t q l => (1, id, leBytes 8 st ++ leBytes 8 t ++ leBytes 8 q ++ padTo l 16)
  | .extent id u n o => (2, id, leBytes 8 u ++ leBytes 8 n ++ leBytes 8 o)
  | .checkpoint id len q h => (3, id, leBytes 8 len ++ leBytes 8 q ++ leBytes 8 h)
  | .closed id len q r => (4, id, leBytes 8 len ++ leBytes 8 q ++ leBytes 1 r)
  | .deleted id => (5, id, [])
  | .chunkMac id k tag => (6, id, leBytes 8 k ++ padTo tag 48)
  | .trim id o q => (7, id, leBytes 8 o ++ leBytes 8 q)

/-- OPEN, EXTENT and TRIM are repeated as RESTATE, whose byte 1 names the type; every other entry as itself. -/
def journalBytes (again : Bool) (e : JournalEntry) : List Byte :=
  let (t, id, b) := journalBody e
  if again && (t == 1 || t == 2 || t == 7) then entryBytes 8 t id b else entryBytes t 0 id b

def parseEntry (b : List Byte) : Option JournalEntry :=
  let id := getLe b 4 4
  let x := getLe b 8 8
  let y := getLe b 16 8
  let z := getLe b 24 8
  match (if getLe b 0 1 == 8 then getLe b 1 1 else getLe b 0 1) with
  | 1 => some (.opened id x y z (sliceBytes b 32 16))
  | 2 => some (.extent id x y z)
  | 3 => some (.checkpoint id x y z)
  | 4 => some (.closed id x y (getLe b 24 1))
  | 5 => some (.deleted id)
  | 6 => some (.chunkMac id x (sliceBytes b 16 48))
  | 7 => some (.trim id x y)
  | _ => none

/-- Extents after a run of units has been placed at a byte offset: what the run covers is replaced. -/
def placeExtent (unit u n o : Nat) (l : List (Nat × Nat × Nat)) : List (Nat × Nat × Nat) :=
  let before := l.filter (fun x => decide (x.2.2 + x.2.1 * unit ≤ o))
  let after := l.filter (fun x => decide (o + n * unit ≤ x.2.2))
  before ++ [(u, n, o)] ++ after

/-- Extents without the units that lie wholly below a start offset (R335). -/
def trimExtents (unit start : Nat) (l : List (Nat × Nat × Nat)) : List (Nat × Nat × Nat) :=
  l.filterMap (fun x =>
    let k := min x.2.1 ((start - x.2.2) / unit)
    if k == x.2.1 then none else some (x.1 + k, x.2.1 - k, x.2.2 + k * unit))

def onRecording (id : Nat) (f : Recording → Recording) (v : Volume) : Volume :=
  { v with recordings := v.recordings.map (fun r => if r.id == id then f r else r) }

/-- What an entry does to the volume's recordings, when it is written and when it is replayed. -/
def applyEntry (v : Volume) (e : JournalEntry) : Volume :=
  match e with
  | .opened id st t q l =>
    if v.recordings.any (fun r => r.id == id) then v
    else
      let r : Recording := { id := id, stream := st, startTime := t, firstSeq := q, label := l }
      { v with recordings := v.recordings ++ [r] }
  | .extent id u n o =>
    let v := onRecording id (fun r => { r with extents := placeExtent (unitBytes v) u n o r.extents }) v
    { v with head := (u + n) % max 1 (unitTotal v) }
  | .checkpoint id len q h => { onRecording id (fun r => { r with length := len, lastSeq := q }) v with head := h }
  | .closed id len q why => onRecording id (fun r => { r with length := len, lastSeq := q, closed := some why }) v
  | .deleted id => { v with recordings := v.recordings.filter (fun r => r.id != id) }
  | .chunkMac id k tag => onRecording id (fun r => { r with macs := tset [] r.macs k tag }) v
  | .trim id o q =>
    onRecording id (fun r =>
      { r with start := o, firstSeq := q, extents := trimExtents (unitBytes v) o r.extents }) v

def journalBlock (seq : Nat) (es : List (List Byte)) : List Byte :=
  let head := leBytes 4 0x4A484C52 ++ leBytes 2 es.length ++ zeroBytes 2 ++ leBytes 8 seq ++ zeroBytes 44
  let b := padTo (head ++ zeroBytes 4 ++ es.flatten) 4096
  b.take 60 ++ leBytes 4 (crc32c b).toNat ++ b.drop 64

/-- Sequence and entries of a valid journal block. -/
def parseJournal (b : List Byte) : Option (Nat × List JournalEntry) :=
  let n := getLe b 4 2
  if getLe b 0 4 == 0x4A484C52 && getLe b 60 4 == (crc32c (b.take 60 ++ zeroBytes 4 ++ b.drop 64)).toNat && n ≤ 63 then
    some (getLe b 8 8, (List.range n).filterMap (fun i => parseEntry (sliceBytes b (64 + 64 * i) 64)))
  else none

/-- One block written identically to every drive of the volume. -/
def writeJournalBlock (n : Nat) (es : List (List Byte)) (d : Device) : Device :=
  match volume d n with
  | none => d
  | some v =>
    let b := journalBlock v.jseq es
    let d := (List.range (driveCount v)).foldl (fun d i => writeVol v i (256 + v.jseq % v.journalLbas) b d) d
    setVolume n (some { v with jseq := v.jseq + 1 }) d

def writeJournalBlocks (n : Nat) : Nat → List (List Byte) → Device → Device
  | 0, _, d => d
  | fuel + 1, es, d =>
    if es.isEmpty then d else writeJournalBlocks n fuel (es.drop 63) (writeJournalBlock n (es.take 63) d)

/-- The entries that state a recording anew. -/
def liveEntries (v : Volume) : List JournalEntry :=
  v.recordings.flatMap (fun r =>
    [JournalEntry.opened r.id r.stream r.startTime r.firstSeq r.label]
      ++ (if r.start == 0 then [] else [.trim r.id r.start r.firstSeq])
      ++ r.extents.map (fun x => .extent r.id x.1 x.2.1 x.2.2)
      ++ r.macs.map (fun m => .chunkMac r.id m.1 m.2)
      ++ (match r.closed with
        | some why => [.closed r.id r.length r.lastSeq why]
        | none => [.checkpoint r.id r.length r.lastSeq v.head]))

/-- Below a quarter of free journal space every live entry is restated and the older blocks become free. -/
def restateJournal (n : Nat) (d : Device) : Device :=
  match volume d n with
  | none => d
  | some v =>
    if (v.journalLbas - (v.jseq - v.jlive)) * 4 < v.journalLbas then
      let es := (liveEntries v).map (journalBytes true)
      let first := v.jseq
      let d := writeJournalBlocks n (es.length + 1) es d
      match volume d n with
      | some v => setVolume n (some { v with jlive := first }) d
      | none => d
    else d

/-- Entries are written into the journal and take effect. -/
def journal (n : Nat) (es : List JournalEntry) (d : Device) : Device :=
  match volume d n with
  | none => d
  | some v =>
    let d := setVolume n (some (es.foldl applyEntry v)) d
    restateJournal n (writeJournalBlocks n (es.length + 1) (es.map (journalBytes false)) d)

/-- Blocks of valid CRC in the journal area of drive `idx`, by ascending sequence. -/
def journalScan (d : Device) (v : Volume) (idx : Nat) : List (Nat × List JournalEntry) :=
  match v.ports[idx]? with
  | some (some p) =>
    let found := (port d p).disk.filterMap (fun e =>
      if 256 ≤ e.1 && e.1 < 256 + v.journalLbas then (readVol d v idx e.1).bind parseJournal else none)
    sortBy (·.1) found
  | _ => []

/-- The newest run of contiguous sequences. -/
def contiguousTail : List (Nat × List JournalEntry) → List (Nat × List JournalEntry)
  | [] => []
  | x :: xs =>
    match contiguousTail xs with
    | [] => [x]
    | y :: ys => if xs.length == (y :: ys).length && x.1 + 1 == y.1 then x :: y :: ys else y :: ys

/-! ### VOL_CREATE (R330, R560) -/

def maskPorts (m : Nat) : List Nat := (List.range 8).filter (bit m)

def volReply (rows recovered : Nat) : List Byte := leBytes 8 rows ++ leBytes 4 recovered

/-- Keys for a new volume: a pair with equal halves is generated again. -/
def freshKeys : Nat → Device → List Byte × Device
  | 0, d => drbgBytes 112 d
  | fuel + 1, d =>
    let (k, d) := drbgBytes 112 d
    if k.take 32 == (k.drop 32).take 32 then freshKeys fuel d else (k, d)

def splitKeys (k : List Byte) : Nat × Nat := (getLe k 0 64, getLe k 64 48)

/-- An empty journal on a drive; its data area is deallocated later, in the background (R330). -/
def eraseJournal (lbas q : Nat) (d : Device) : Device :=
  setPort q { port d q with disk := (port d q).disk.filter (fun e => decide (e.1 < 256) || decide (256 + lbas ≤ e.1)) } d

def createVolume (p : Packet) (slot : Option (BitVec 256)) (d : Device) : Device :=
  let ports := maskPorts (pByte p 2)
  let stripe := pByte p 3
  let jl := if p32 p 8 == 0 then 65536 else p32 p 8
  let start := dataStartOf jl stripe
  let rows := listMin (2 ^ 64) (ports.map (fun q => ((port d q).capacity - 1 - start) / unitLbas stripe))
  if rows == 0 then complete p .noResource [] d
  else
    let (uuid, d) := drbgBytes 16 d
    let (keys, d) := match slot with
      | some _ => freshKeys 4 d
      | none => ([], d)
    let v : Volume := {
      ports := ports.map some, stripeLog2 := stripe, encrypted := slot.isSome, mac := bit (pByte p 4) 1,
      keySlot := if slot.isSome then pByte p 5 else 0,
      keys := slot.map (fun _ => splitKeys keys),
      wrapped := match slot with
        | some k => Config.kwWrap k keys
        | none => [],
      uuid := uuid, label := sliceBytes p.params 12 16, dataStart := start, dataRows := rows, journalLbas := jl,
      mountCount := 1, jseq := 0, jlive := 0, failed := false, retired := [], head := 0, recordings := [],
      freed := (List.range ports.length).map (fun i => (i, 0, rows)) }
    let d := ports.foldl (fun d q => eraseJournal jl q d) d
    let d := writeSupers v true d
    complete p .ok (volReply rows 0) (setVolume (pByte p 1) (some v) d)

/-- Parameters that every op checks. -/
def volParams (p : Packet) : Bool := reservedZero p [(0, 6), (8, 20)] && decide (pByte p 1 < 8) && bits (pByte p 4) 3 5 == 0

def volCreate (p : Packet) (d : Device) : Device :=
  let ports := maskPorts (pByte p 2)
  let opt := pByte p 4
  let jl := p32 p 8
  if !volParams p || ports.isEmpty || decide (pByte p 3 < 20) || decide (24 < pByte p 3) || (bit opt 1 && !bit opt 0)
      || (bit opt 0 && decide (15 < pByte p 5))
      || (jl != 0 && (jl % 256 != 0 || decide (jl < 4096) || decide (1048576 < jl))) then complete p .badParam [] d
  else if (volume d (pByte p 1)).isSome || ports.any (inVolume d) then complete p .badState [] d
  else if !ports.all (driveReady d) then complete p .notPresent [] d
  else if !bit opt 2 && ports.any (fun q => (readSuper d q).isSome) then complete p .badState [] d
  else if bit opt 0 then
    match (if d.pad.errorState then none else keyOfSlot d (pByte p 5)) with
    | none => complete p .denied [] d
    | some k => createVolume p (some k) d
  else createVolume p none d

/-- A volume as its superblocks state it: the superblock read and the ports by drive index. -/
def superVolume (b : List Byte) (ports : List (Option Nat)) (keys : Option (Nat × Nat)) (retired : List Nat) : Volume :=
  let flags := getLe b 13 1
  { ports := ports, stripeLog2 := getLe b 12 1, encrypted := bit flags 1, mac := bit flags 2, keySlot := getLe b 68 1,
    keys := keys, wrapped := sliceBytes b 80 120, uuid := sliceBytes b 16 16, label := sliceBytes b 32 16,
    dataStart := getLe b 48 8, dataRows := getLe b 56 8, journalLbas := getLe b 64 4, mountCount := getLe b 72 8 + 1,
    jseq := 0, jlive := 0, failed := bit flags 4, retired := retired, head := 0, recordings := [], freed := [] }

/-- Why a volume does not mount, or the volume and whether it was DIRTY (R330, R560). -/
def findVolume (d : Device) (ports : List Nat) (force : Bool) (role : Nat) : Except Status (Volume × Bool) :=
  let supers := ports.filterMap (fun q => if driveReady d q then (readSuper d q).map (fun b => (q, b)) else none)
  match supers with
  | [] => .error .notPresent
  | (_, b) :: _ =>
    let n := getLe b 11 1
    let one := supers.all (fun x => sliceBytes x.2 16 16 == sliceBytes b 16 16)
    let portAt := fun i => (supers.find? (fun x => getLe x.2 10 1 == i)).map (·.1)
    let slots := (List.range n).map portAt
    let failed := supers.any (fun x => bit (getLe x.2 13 1) 4)
    let whole := slots.all Option.isSome && supers.length == n && ports.length == n
    if !one || (!whole && !(failed && force)) then .error .notPresent
    else if failed && !force then .error .badState
    else
      let retired := (supers.filter (fun x => bit (getLe x.2 13 1) 3)).map (fun x => getLe x.2 10 1)
      let dirty := supers.any (fun x => bit (getLe x.2 13 1) 0)
      let plain := superVolume b slots none retired
      let v := { plain with failed := failed }
      if v.encrypted then
        if d.pad.errorState || !roleOk role 2 then .error .denied
        else match (keyOfSlot d v.keySlot).bind (fun k => Config.kwUnwrap k v.wrapped) with
          | none => .error .denied
          | some keys => .ok ({ v with keys := some (splitKeys keys) }, dirty)
      else .ok (v, dirty)

/-- Mount a volume found: DIRTY first, then the journal is replayed and recordings without CLOSE end (R330). -/
def mountVolume (n : Nat) (v : Volume) (dirty : Bool) (d : Device) : Nat × Device :=
  let d := writeSupers v true d
  let idx := (List.range (driveCount v)).find? (fun i => (v.ports[i]?.bind id).any (driveReady d))
  let blocks := contiguousTail (journalScan d v (idx.getD 0))
  let v := (blocks.flatMap (·.2)).foldl applyEntry v
  let v := match blocks.head?, blocks.getLast? with
    | some a, some b => { v with jseq := b.1 + 1, jlive := a.1 }
    | _, _ => v
  let d := setVolume n (some v) d
  let d := { d with nvme := { d.nvme with
    nextId := v.recordings.foldl (fun m r => max m (r.id + 1)) d.nvme.nextId } }
  let opened := if dirty then v.recordings.filter (fun r => r.closed.isNone) else []
  (opened.length, journal n (opened.map (fun r => .closed r.id r.length r.lastSeq 4)) d)

def volMount (p : Packet) (d : Device) : Device :=
  let ports := maskPorts (pByte p 2)
  if !volParams p || ports.isEmpty then complete p .badParam [] d
  else if (volume d (pByte p 1)).isSome || ports.any (inVolume d) then complete p .badState [] d
  else match findVolume d ports (bit (pByte p 4) 2) (roleHeld d p) with
    | .error st => complete p st [] d
    | .ok (v, dirty) =>
      let (n, d) := mountVolume (pByte p 1) v dirty d
      complete p .ok (volReply v.dataRows n) d

/-- Something runs or waits on a volume. -/
def volumeBusy (d : Device) (n : Nat) : Bool :=
  d.nvme.running.any (fun r => r.volume == n) || d.nvme.playing.any (fun x => x.volume == n)
    || d.nvme.waits.any (fun w => w.stopOf.isNone && pByte w.packet 0 == n)

def volUnmount (p : Packet) (d : Device) : Device :=
  let n := pByte p 1
  if !volParams p then complete p .badParam [] d
  else match volume d n with
    | none => complete p .badState [] d
    | some v =>
      if volumeBusy d n then complete p .busy [] d
      else complete p .ok (volReply v.dataRows 0) (setVolume n none (writeSupers v false d))

def execVolCreate (p : Packet) (s : State) : Host.Outcome State Fault Refusal := act (accept p volCreate) s
def execVolMount (p : Packet) (s : State) : Host.Outcome State Fault Refusal := act (accept p volMount) s
def execVolUnmount (p : Packet) (s : State) : Host.Outcome State Fault Refusal := act (accept p volUnmount) s

end Sys2Proof.Machine
end

