-- ==== Sys2Proof/Machine/Recorder.lean ====
section
/-! DEFINITION. The recorder: REC_START, REC_STOP, units, checkpoints, drive failure and wear, playback, and the EPOCH records at
which recordings begin and end (R284, R300, R331-R343). -/

namespace Sys2Proof.Machine

def runningRec (d : Device) (id : Nat) : Option RunningRec := d.nvme.running.find? (fun r => r.id == id)

def setRunning (r : RunningRec) (d : Device) : Device :=
  { d with nvme := { d.nvme with running := d.nvme.running.map (fun x => if x.id == r.id then r else x) } }

def recordingIn (v : Volume) (id : Nat) : Option Recording := v.recordings.find? (fun r => r.id == id)

def findRecording (d : Device) (id : Nat) : Option (Nat × Volume × Recording) :=
  (mounted d).findSome? (fun e => (recordingIn e.2 id).map (fun r => (e.1, e.2, r)))

/-! ### Reading a recording's bytes (R328, R337) -/

/-- Unit and byte in it that hold a byte of a recording. -/
def placeOf (v : Volume) (r : Recording) (b : Nat) : Option (Nat × Nat) :=
  (r.extents.find? (fun x => decide (x.2.2 ≤ b) && decide (b < x.2.2 + x.2.1 * unitBytes v))).map
    (fun x => (x.1 + (b - x.2.2) / unitBytes v, (b - x.2.2) % unitBytes v))

def readRecByte (d : Device) (v : Volume) (r : Recording) (b : Nat) : Option Byte :=
  (placeOf v r b).bind (fun x =>
    (readVol d v (unitDrive v x.1) (unitLba v x.1 + x.2 / 4096)).bind (fun bs => bs[x.2 % 4096]?))

/-- Bytes of a recording: none where a drive that holds one is missing or its key is gone. -/
def readRecBytes (d : Device) (v : Volume) (r : Recording) (b n : Nat) : Option (List Byte) :=
  (List.range n).mapM (fun i => readRecByte d v r (b + i))

/-- First record of a recording that begins at or after byte `limit`, walking from a record start: its offset and sequence. -/
def recordAfter (d : Device) (v : Volume) (r : Recording) (limit : Nat) : Nat → Nat → Option (Nat × Nat)
  | 0, _ => none
  | fuel + 1, o =>
    match readRecBytes d v r (o + 8) 12 with
    | none => none
    | some h =>
      let len := 64 * getLe h 0 4
      if len == 0 then none
      else if limit ≤ o then some (o, getLe h 4 8) else recordAfter d v r limit fuel (o + len)

/-! ### Units (R332, R335) -/

def unitUsed (v : Volume) (u : Nat) : Bool :=
  v.recordings.any (fun r => r.extents.any (fun x => decide (x.1 ≤ u) && decide (u < x.1 + x.2.1)))

/-- Units of a volume whose writes are in flight. -/
def unitsAhead (d : Device) (n : Nat) : List Nat := (d.nvme.running.filter (fun r => r.volume == n)).flatMap (·.ahead)

/-- The next free unit from the write head on; `busy` are units whose writes are in flight. -/
def freeUnit (busy : List Nat) (v : Volume) : Option Nat :=
  ((List.range (unitTotal v)).map (fun i => (v.head + i) % unitTotal v)).find? (fun u => !unitUsed v u && !busy.contains u)

/-! ### Stall 0x24 (R19, R32, R38) -/

/-- A drive's queue takes `k` more commands. -/
def nvmeRoom (d : Device) (p k : Nat) : Bool := decide ((port d p).queue.length + k ≤ 256)

/-- A command that enters a drive's queue and leaves it within one row. -/
def nvmePass (p : Nat) (d : Device) : Device := noteMark 0x24 p ((port d p).queue.length + 1) d

def queueNvme (p k : Nat) (c : NvmeCmd) (d : Device) : Device :=
  let v := port d p
  setPort p { v with queue := v.queue ++ List.replicate k c } d

/-- Writes that a unit's content of `n` bytes takes: each at most 1 MiB and at most MDTS (R326). -/
def unitWrites (d : Device) (p n : Nat) : Nat :=
  let m := (port d p).mdts
  ceilDiv n (if m == 0 then 2 ^ 20 else min (2 ^ 20) m)

/-- Length of the next piece of a recording to write: a whole unit that the ring holds, or the last partial one (R332, R334). -/
def nextPiece (d : Device) (rr : RunningRec) (v : Volume) : Option Nat :=
  let w := (stream d rr.stream).writeOffset
  let limit := match rr.stop with
    | some x => min x w
    | none => w
  let left := limit - (rr.base + rr.written + rr.ahead.length * unitBytes v)
  if rr.flushes.isSome then none
  else if unitBytes v ≤ left then some (unitBytes v)
  else if left == 0 || rr.stop != some limit then none
  else some left

/-- Unit, drive and number of writes of the next piece of a recording. -/
def nextWrite (d : Device) (rr : RunningRec) : Option (Nat × Nat × Nat) :=
  (volume d rr.volume).bind (fun v => (nextPiece d rr v).bind (fun n => (freeUnit (unitsAhead d rr.volume) v).bind (fun u =>
    match v.ports[unitDrive v u]? with
    | some (some p) => some (u, p, unitWrites d p n)
    | _ => none)))

/-- The recorder places writes into the queues while they have room (R32). -/
def queueWrites (id : Nat) : Nat → Device → Device
  | 0, d => d
  | fuel + 1, d =>
    match runningRec d id with
    | none => d
    | some rr => match nextWrite d rr with
      | some (u, p, k) =>
        if nvmeRoom d p k then
          queueWrites id fuel (setRunning { rr with ahead := rr.ahead ++ [u] } (queueNvme p k (.write id u) d))
        else d
      | none => d

/-- Every piece that the queues take: no more than their entries. -/
def queueAll (id : Nat) (d : Device) : Device := queueWrites id 2048 d

/-- Commands of a recording leave the queues. -/
def dropNvme (c : NvmeCmd → Bool) (d : Device) : Device :=
  (List.range 8).foldl (fun d p =>
    if (port d p).queue.any c then setPort p { port d p with queue := (port d p).queue.filter (fun x => !c x) } d else d) d

def ofRecording (id : Nat) : NvmeCmd → Bool
  | .write i _ => i == id
  | .flush i => i == id
  | .bringUp _ => false

/-- Background work yields to writes that wait for the drive, and takes one entry of its queue (R38). -/
def backgroundRoom (d : Device) (p : Nat) : Bool :=
  nvmeRoom d p 1 && d.nvme.running.all (fun rr => match nextWrite d rr with
    | some (_, q, _) => q != p
    | none => true)

/-- Units of a recording wholly below byte `o`. -/
def unitsBelow (v : Volume) (r : Recording) (o : Nat) : List Nat :=
  r.extents.flatMap (fun x => (List.range x.2.1).filterMap (fun i =>
    if x.2.2 + (i + 1) * unitBytes v ≤ o then some (x.1 + i) else none))

/-- Units become free: one range of one row each (R335). -/
def addFreed (n : Nat) (us : List Nat) (d : Device) : Device :=
  match volume d n with
  | some v => setVolume n (some { v with freed := v.freed ++ us.map (fun u => (unitDrive v u, u / driveCount v, 1)) }) d
  | none => d

/-- The freed ranges without a unit that is allocated again. -/
def unfree (v : Volume) (u : Nat) : List (Nat × Nat × Nat) :=
  let row := u / driveCount v
  v.freed.flatMap (fun x =>
    if x.1 != unitDrive v u || row < x.2.1 || x.2.1 + x.2.2 ≤ row then [x]
    else [(x.1, x.2.1, row - x.2.1), (x.1, row + 1, x.2.1 + x.2.2 - (row + 1))].filter (fun y => y.2.2 != 0))

/-- A playback ends without success (R336, R343). -/
def endPlayback (x : Playback) (cause chunk : Nat) (d : Device) : Device :=
  let d := { d with nvme := { d.nvme with playing := d.nvme.playing.erase x } }
  complete x.packet .aborted (leBytes 8 x.played ++ leBytes 1 cause ++ zeroBytes 7 ++ leBytes 8 chunk) d

/-- A LOOP recording frees its oldest unit, with MAC its oldest chunk (R335): none where nothing of its own can be freed. -/
def freeOldest (rr : RunningRec) (d : Device) : Option Device :=
  match volume d rr.volume with
  | none => none
  | some v =>
    match recordingIn v rr.id with
    | none => none
    | some r =>
      match r.extents with
      | [] => none
      | (_, _, o) :: _ =>
        let stop := if v.mac then (o / 2 ^ 28 + 1) * 2 ^ 28 else o + unitBytes v
        if rr.written < stop then none
        else match recordAfter d v r stop (rr.written / 64 + 1) r.start with
          | none => none
          | some (b, q) =>
            let us := unitsBelow v r stop
            let cut := us.getLast?.map (fun _ => stop)
            match cut with
            | none => none
            | some _ =>
              let d := journal rr.volume [.trim rr.id b q] d
              let d := addFreed rr.volume us d
              let late := d.nvme.playing.filter (fun x => x.recording == rr.id && decide (x.next < b))
              some (late.foldl (fun d x => endPlayback x 3 0 d) d)

/-! ### The end of a recording (R334, R339, R342, R343) -/

def recStopReply (len first last reason : Nat) : List Byte :=
  leBytes 8 len ++ leBytes 8 first ++ leBytes 8 last ++ leBytes 1 reason

/-- The recorder's offset of a stream follows W again (R332). -/
def releaseStream (n : Nat) (d : Device) : Device :=
  settleClose n (setStream n { stream d n with recOffset := (stream d n).writeOffset } d)

/-- Tag of a chunk over its first `len` bytes as the drives hold them (R338). -/
def chunkTag (d : Device) (v : Volume) (r : Recording) (k len : Nat) : Option (List Byte) :=
  match v.keys, readRecBytes d v r (k * 2 ^ 28) len with
  | some (_, mac), some bs => some (hmacSha384 (leBytes 48 mac) (leBytes 4 r.id ++ leBytes 8 k ++ leBytes 4 len ++ bs))
  | _, _ => none

/-- Chunk tags for the chunks of a recording from `a` on that are complete at `b` bytes, with `last` also the last one (R338). -/
def chunkTags (d : Device) (n : Nat) (id a b : Nat) (last : Bool) : List JournalEntry :=
  match (volume d n).bind (fun v => (recordingIn v id).map (fun r => (v, r))) with
  | none => []
  | some (v, r) =>
    let size := 2 ^ 28
    let stop := if !v.mac then 0 else if last then ceilDiv b size else b / size
    ((List.range stop).drop (a / size)).filterMap (fun k =>
      (chunkTag d v r k (min size (b - k * size))).map (.chunkMac id k))

/-- CLOSE is written, the stream is released, and a REC_STOP that waits completes. -/
def closeRecording (rr : RunningRec) (len last reason : Nat) (d : Device) : Device :=
  let first := match (volume d rr.volume).bind (fun v => recordingIn v rr.id) with
    | some r => r.firstSeq
    | none => 0
  let tags := if reason == 2 then [] else chunkTags d rr.volume rr.id (len / 2 ^ 28 * 2 ^ 28) len (len % 2 ^ 28 != 0)
  let d := dropNvme (ofRecording rr.id) (journal rr.volume (tags ++ [.closed rr.id len last reason]) d)
  let d := { d with nvme := { d.nvme with running := d.nvme.running.filter (fun x => x.id != rr.id) } }
  let waits := d.nvme.waits.filter (fun w => w.stopOf == some rr.id)
  let d := { d with nvme := { d.nvme with waits := d.nvme.waits.filter (fun w => w.stopOf != some rr.id) } }
  let d := releaseStream rr.stream d
  let d := raiseEvent 0x280 2 (ballIndex d) 0 d
  let reply := recStopReply len first last reason
  let d := completeOpt rr.packet .ok reply d
  waits.foldl (fun d w => complete w.packet .ok reply d) d

/-- Everything up to the end has been written: a Flush goes to each drive, once the queues take it (R32, R334). -/
def flushEnd (id : Nat) (d : Device) : Device :=
  match runningRec d id with
  | none => d
  | some rr =>
    match rr.stop, rr.flushes with
    | some s, none =>
      if s ≤ rr.base + rr.written then
        let ps : List Nat := match volume d rr.volume with
          | some v => (v.ports.filterMap (fun p => p)).filter (driveReady d)
          | none => []
        if ps.isEmpty then closeRecording rr rr.written rr.lastSeq rr.reason d
        else if ps.all (fun p => nvmeRoom d p 1) then
          setRunning { rr with flushes := some ps.length } (ps.foldl (fun d p => queueNvme p 1 (.flush id) d) d)
        else d
      else d
    | _, _ => d

/-- A recording is to end at a ring offset, for a reason. -/
def endRecording (id stop reason : Nat) (p : Option Packet) (d : Device) : Device :=
  match runningRec d id with
  | none => d
  | some rr =>
    let first := rr.stop.isNone
    let rr := { rr with stop := if first then some stop else rr.stop, reason := if first then reason else rr.reason,
                        packet := match rr.packet with
                          | some q => some q
                          | none => p }
    flushEnd id (setRunning rr d)

/-! ### UNIT_WRITE_COMPLETE (R332, R335, R338) -/

/-- Last sequence of a record that ends at or below ring offset `limit`, walking the ring. -/
def walkRecords (d : Device) (s : Stream) (limit : Nat) : Nat → Nat → Nat → Nat × Nat
  | 0, o, q => (o, q)
  | fuel + 1, o, q =>
    let len := 64 * leNat (ringRead d s (o + 8) 4)
    if len == 0 || limit < o + len then (o, q)
    else walkRecords d s limit fuel (o + len) (leNat (ringRead d s (o + 12) 8))

/-- Unit content into its LBAs, the last one padded with zeros. -/
def writeUnit (v : Volume) (u : Nat) : Nat → Nat → List Byte → Device → Device
  | 0, _, _, d => d
  | fuel + 1, i, bs, d =>
    if bs.isEmpty then d
    else writeUnit v u fuel (i + 1) (bs.drop 4096) (writeVol v (unitDrive v u) (unitLba v u + i) (padTo bs 4096) d)

/-- Place the next unit of a recording and write it; a poisoned line of the ring is written as zeros (R470). -/
def storeUnit (rr : RunningRec) (v : Volume) (u n : Nat) (d : Device) : Device :=
  let s := stream d rr.stream
  let off := rr.base + rr.written
  let bs := ringClean d s off n
  let d := journal rr.volume [.extent rr.id u 1 rr.written] d
  let d := match volume d rr.volume with
    | some v => setVolume rr.volume (some { v with freed := unfree v u }) d
    | none => d
  let d := writeUnit v u (unitLbas v.stripeLog2 + 1) 0 bs d
  let (o, q) := walkRecords d s (off + n) (n / 64 + 2) rr.scanned rr.lastSeq
  let w := rr.written + n
  let d := dropNvme (fun c => c == .write rr.id u) d
  let d := setRunning { rr with written := w, scanned := o, lastSeq := q, ahead := rr.ahead.erase u } d
  let d := setStream rr.stream { s with recOffset := off + n } d
  let d := journal rr.volume (chunkTags d rr.volume rr.id rr.written w false) d
  flushEnd rr.id d

/-- Parts of rec.main that wait. -/
def mainWaiting (d : Device) : List Part := d.cfg.parts.filter (fun p => p.block == 0x0B00)

/-- Value of a rec.main field for a volume (R58): the volume may have taken parts that others have not. -/
def recMain (d : Device) (v : Volume) (code : Nat) : Nat :=
  (withChanges (cfgVal d) (((mainWaiting d).take v.mainParts).flatMap (·.changes)) (cfgKey 0x0B 0 code)).toNat

/-- The fields of rec.main become active for every volume. -/
def swapMain (d : Device) : Device :=
  (mounted d).foldl (fun d e => setVolume e.1 (some { e.2 with mainParts := 0 }) d) (swapBlocks [0x0B00] d)

/-- A stripe-unit boundary of a volume (R58, R341): its ports' fields swap, and rec.main for the volume; the active values of rec.main
follow once every volume that records has passed one. -/
def unitBoundary (n : Nat) (v : Volume) (d : Device) : Device :=
  let k := (mainWaiting d).length
  let d := swapBlocks ((v.ports.filterMap id).map (fun p => 0x0B10 + p)) d
  if k == 0 then d
  else
    let d := setVolume n (some { v with mainParts := k }) d
    if d.nvme.running.all (fun r => (volume d r.volume).all (fun v => v.mainParts == k)) then swapMain d else d

/-- No unit of the volume is free: with LOOP the oldest of the recording is freed, else it ends with FULL (R335). -/
def unitShort (id : Nat) (rr : RunningRec) (d : Device) : Device :=
  match (if rr.loop then freeOldest rr d else none) with
  | none => raiseEvent 0x280 3 (ballIndex d) 0 (endRecording id (rr.base + rr.written) 1 none (setRunning { rr with stop := none } d))
  | some d => d

/-- The writes of a recording are issued; without a free unit one is made first. -/
def prepareUnit (id : Nat) (d : Device) : Device :=
  let d := queueAll id d
  match runningRec d id with
  | none => d
  | some rr =>
    match volume d rr.volume with
    | none => d
    | some v =>
      if rr.ahead.isEmpty && (nextPiece d rr v).isSome && (freeUnit (unitsAhead d rr.volume) v).isNone then
        queueAll id (unitShort id rr d)
      else d

/-- UNIT_WRITE_COMPLETE: the writes of the recording's oldest unit in flight have completed. -/
def unitWriteComplete (id : Nat) (d : Device) : Device :=
  let d := prepareUnit id d
  match runningRec d id with
  | none => d
  | some rr =>
    match rr.ahead, volume d rr.volume with
    | u :: _, some v =>
      let d := unitBoundary rr.volume v d
      let w := (stream d rr.stream).writeOffset
      let limit := match rr.stop with
        | some x => min x w
        | none => w
      let n := min (unitBytes v) (limit - (rr.base + rr.written))
      queueAll id (storeUnit rr v u n d)
    | _, _ => d

/-! ### CHECKPOINT (R333) -/

/-- CHECKPOINT: a Flush to each drive of each volume that records, and then the journal block; a volume whose queues are full waits
(R32). -/
def checkpoint (d : Device) : Device :=
  let ns := (d.nvme.running.map (·.volume)).eraseDups
  ns.foldl (fun d n =>
    match volume d n with
    | none => d
    | some v =>
      let es := (d.nvme.running.filter (fun r => r.volume == n)).map
        (fun r => JournalEntry.checkpoint r.id r.written r.lastSeq v.head)
      let ps := v.ports.filterMap id
      if ps.all (fun p => nvmeRoom d p 1) then journal n es (ps.foldl (fun d p => nvmePass p d) d) else d) d

/-! ### Drive failure and NVMe completions (R326, R339, R343) -/

/-- A volume without the drive at a port, which does not rejoin it (R339). -/
def withoutDrive (p : Nat) (v : Volume) : Volume :=
  { v with failed := true, ports := v.ports.map (fun q => if q == some p then none else q) }

/-- The drive at port `p` of a volume has failed: every recording on the volume ends with DRIVE_FAILED at its last durable length. -/
def failVolume (p n : Nat) (d : Device) : Device :=
  match volume d n with
  | none => d
  | some v =>
    let d := setVolume n (some (withoutDrive p v)) d
    let rs := d.nvme.running.filter (fun r => r.volume == n)
    let starts := d.nvme.waits.filter (fun w => w.stopOf.isNone && pByte w.packet 0 == n)
    let d := rs.foldl (fun d rr =>
      let (len, last) := match recordingIn v rr.id with
        | some r => (r.length, r.lastSeq)
        | none => (0, 0)
      closeRecording rr len last 2 d) d
    let d := match volume d n with
      | some w => writeSupers w true d
      | none => d
    let d := { d with nvme := { d.nvme with waits := d.nvme.waits.filter (fun w => !starts.contains w) } }
    starts.foldl (fun d w => complete w.packet .aborted [] d) d

/-- What the failure of a drive does (R339). -/
def loseDrive (p : Nat) (d : Device) : Device :=
  let d := setPort p { port d p with failed := true, ready := false, queue := [], retried := false } d
  (mounted d).foldl (fun d e => if e.2.ports.contains (some p) then failVolume p e.1 d else d) d

def driveFailed (p : Nat) (d : Device) : Device := loseDrive p (raiseFault (plainFault (portSource p) 5 1 0) d)

/-- A volume that was mounted before SLEEP mounts again once its drives are ready (R343). -/
def tryRemount (d : Device) : Device :=
  d.nvme.remount.foldl (fun d e =>
    if e.2.all (driveReady d) then
      let d := { d with nvme := { d.nvme with remount := d.nvme.remount.erase e } }
      match findVolume d e.2 true 1 with
      | .ok (v, dirty) => (mountVolume e.1 v dirty d).2
      | .error _ => d
    else d) d

/-- Bring-up ends (R326). -/
def broughtUp (p : Nat) (x : DriveId) (d : Device) : Device :=
  if driveUsable x then
    let d := setPort p { port d p with ready := true, capacity := x.capacity, mdts := x.mdts } d
    tryRemount (raiseEvent (portSource p) 3 (ballIndex d) 0 d)
  else
    let d := setPort p { port d p with notUsable := true, capacity := x.capacity } d
    raiseEvent (portSource p) 4 (ballIndex d) 0 d

/-- A Flush of a recording's end has completed: after the last one CLOSE follows. -/
def flushed (id : Nat) (d : Device) : Device :=
  match runningRec d id with
  | none => d
  | some rr =>
    match rr.flushes with
    | some (k + 1) => if k == 0 then closeRecording rr rr.written rr.lastSeq rr.reason d
                      else setRunning { rr with flushes := some k } d
    | _ => d

/-- NVME_COMPLETION: the oldest command of a drive's queue completes, and what waits for an entry is issued. -/
def nvmeCompletion (p : Nat) (ok : Bool) (d : Device) : Device :=
  let v := port d p
  if !v.linkUp || v.failed then d
  else if !ok then
    if v.retried then driveFailed p d
    else raiseFault (plainFault (portSource p) 4 0 0) (setPort p { v with retried := true } d)
  else
    let d := setPort p { v with retried := false, queue := v.queue.drop 1 } d
    let d := match v.queue with
      | .bringUp x :: _ => broughtUp p x d
      | .flush id :: _ => flushed id d
      | .write .. :: _ | [] => d
    d.nvme.running.foldl (fun d r => flushEnd r.id (queueAll r.id d)) d

def nvmeCommandTimeout (p : Nat) (d : Device) : Device :=
  if (port d p).linkUp && !(port d p).failed then driveFailed p d else d

def driveLinkDown (p : Nat) (d : Device) : Device :=
  let v := port d p
  if !v.linkUp then d
  else
    let d := raiseEvent (portSource p) 2 (ballIndex d) 0 (setPort p { v with linkUp := false } d)
    if v.failed then d else driveFailed p d

/-- STORAGE_LINK_UP: bring-up begins. -/
def storageLinkUp (p : Nat) (x : DriveId) (d : Device) : Device :=
  let v := port d p
  if v.linkUp || v.failed || portN d p 1 == 0 || d.power.state == .sleep then d
  else
    let d := setPort p { v with linkUp := true, queue := [.bringUp x], retried := false, notUsable := false } d
    raiseEvent (portSource p) 1 (ballIndex d) 0 d

/-- A change to width or max_gen retrains the port; BLOCK_RESET brings the drive up again (R339, R341). -/
def retrainPort (p : Nat) (d : Device) : Device :=
  let v := port d p
  setPort p { v with linkUp := false, ready := false, notUsable := false, failed := false, queue := [], retried := false } d

/-! ### Wear (R38, R40, R340) -/

/-- Wear management of a drive runs: not in the safe state, and behind the writes that wait for the drive. -/
def wearRuns (d : Device) (p : Nat) : Bool := driveReady d p && d.power.state != .safe && backgroundRoom d p

/-- rec.main.wear_retire for a drive. -/
def wearLimit (d : Device) (p : Nat) : Nat :=
  match (mounted d).find? (fun e => e.2.ports.contains (some p)) with
  | some e => recMain d e.2 3
  | none => cfgN d 0x0B 0 3

def smartPoll (p percent critical : Nat) (d : Device) : Device :=
  if !wearRuns d p then d
  else
    let d := nvmePass p d
    let v := port d p
    let worn := decide (wearLimit d p ≤ percent) || bit critical 0 || bit critical 2 || bit critical 3
    let d := setPort p { v with pctUsed := percent % 256, critical := critical % 256, retired := v.retired || worn } d
    let d := if bit critical 1 then raiseEvent (portSource p) 6 (ballIndex d) 0 d else d
    if worn && !v.retired then
      let d := (mounted d).foldl (fun d e =>
        match e.2.ports.findIdx? (· == some p) with
        | some i =>
          let w := { e.2 with retired := e.2.retired ++ [i] }
          writeSupers w true (setVolume e.1 (some w) d)
        | none => d) d
      raiseEvent (portSource p) 5 (ballIndex d) 0 d
    else d

/-- DEALLOCATION_BATCH: at most 256 freed ranges of the drive. -/
def deallocationBatch (p : Nat) (d : Device) : Device :=
  if !wearRuns d p then d
  else (mounted d).foldl (fun d e =>
    match e.2.ports.findIdx? (· == some p) with
    | none => d
    | some i =>
      let us := (e.2.freed.filter (fun x => x.1 == i)).take 256
      let size := unitLbas e.2.stripeLog2
      let gone := fun (l : Nat) => us.any (fun x =>
        decide (e.2.dataStart + x.2.1 * size ≤ l) && decide (l < e.2.dataStart + (x.2.1 + x.2.2) * size))
      let d := setPort p { port d p with disk := (port d p).disk.filter (fun x => !gone x.1) } d
      setVolume e.1 (some { e.2 with freed := e.2.freed.filter (fun x => !us.contains x) }) d) (nvmePass p d)

/-! ### EPOCH records, and the recordings that begin and end at them (R284, R300, R331, R334) -/

/-- The EPOCH record of a due epoch (R284). -/
def epochRecord (d : Device) (e : EpochDue) : Rec :=
  { type := 0x08, source := 0, flags := headerFlags d [], firstIndex := e.epoch * 2 ^ e.exponent, generation := e.generation,
    payload := leBytes 8 e.epoch ++ leBytes 8 e.deviceTime ++ leBytes 8 e.fsclkHz ++ leBytes 4 e.refinHz ++ leBytes 1 e.exponent
      ++ leBytes 1 (originId d) ++ leBytes 2 e.flags ++ leBytes 4 e.merged ++ leBytes 4 e.prevGeneration.toNat
      ++ leBytes 4 e.syncCount.toNat ++ zeroBytes 4 ++ leBytes 8 e.pauseNs ++ zeroBytes 32 }

/-- Sequence of the record at ring offset `o`: the next record to be written where there is none yet. -/
def seqAt (d : Device) (s : Stream) (o : Nat) : Nat :=
  if o < allocOffset s then leNat (ringRead d s (o + 12) 8) else s.nextSeq

/-- A recording begins at a ring offset; its REC_START completes (R331). -/
def beginRecording (p : Packet) (base : Nat) (d : Device) : Device :=
  let vol := pByte p 0
  let n := pByte p 1
  let id := d.nvme.nextId
  let s := stream d n
  let seq := seqAt d s base
  let d := { d with nvme := { d.nvme with nextId := id + 1, running := d.nvme.running ++ [
    { id := id, volume := vol, stream := n, loop := bit (pByte p 2) 1, base := base, written := 0, stop := none,
      reason := 0, packet := none, flushes := none, scanned := base, lastSeq := seq }] } }
  let d := setStream n { stream d n with recOffset := base } d
  let d := journal vol [.opened id n d.time seq (sliceBytes p.params 16 16)] d
  let d := raiseEvent 0x280 1 (ballIndex d) 0 d
  complete p .ok (leBytes 4 id ++ zeroBytes 4 ++ leBytes 8 base) d

/-- Records of a ring from offset `o` up to the newest: offset, type, first_index, and the flags of an EPOCH record. -/
def recordsFrom (d : Device) (s : Stream) : Nat → Nat → List (Nat × Nat × Nat × Nat)
  | 0, _ => []
  | fuel + 1, o =>
    let len := 64 * leNat (ringRead d s (o + 8) 4)
    if allocOffset s ≤ o || len == 0 then []
    else (o, leNat (ringRead d s o 1), leNat (ringRead d s (o + 20) 8), leNat (ringRead d s (o + 62) 2))
      :: recordsFrom d s fuel (o + len)

/-- The record at which a wait acts: the EPOCH record with REQUESTED for its epoch, or after that one was dropped the first
record at or above T. -/
def waitActs (w : RecWait) (boundary : Nat) (x : Nat × Nat × Nat × Nat) : Bool :=
  if w.missed then decide (boundary ≤ x.2.2.1) else x.2.1 == 8 && bit x.2.2.2 4 && decide (boundary ≤ x.2.2.1)

/-- Waits of a stream for which a record has been written since ring offset `o`. -/
def settleRequests (n o : Nat) (d : Device) : Device :=
  let s := stream d n
  let recs := recordsFrom d s ((allocOffset s - o) / 64 + 1) o
  d.nvme.waits.foldl (fun d w =>
    if w.stream != n then d
    else match recs.find? (waitActs w (w.epoch * 2 ^ epochExp d)) with
      | none => d
      | some x =>
        let d := { d with nvme := { d.nvme with waits := d.nvme.waits.erase w } }
        match w.stopOf with
        | none => beginRecording w.packet x.1 d
        | some id => endRecording id x.1 0 (some w.packet) d) d

/-- The EPOCH record for an epoch was not written: a REC_START is aborted, a REC_STOP waits for the first record at or above T,
or ends at once where the stream is not enabled. -/
def missRequests (n epoch : Nat) (enabled : Bool) (d : Device) : Device :=
  d.nvme.waits.foldl (fun d w =>
    if w.stream != n || epoch < w.epoch then d
    else match w.stopOf with
      | none => complete w.packet .aborted [] { d with nvme := { d.nvme with waits := d.nvme.waits.erase w } }
      | some id =>
        if enabled then
          { d with nvme := { d.nvme with
              waits := d.nvme.waits.map (fun x => if x == w then { w with missed := true } else x) } }
        else endRecording id (allocOffset (stream d n)) 0 (some w.packet)
          { d with nvme := { d.nvme with waits := d.nvme.waits.erase w } }) d

/-- Token B has reached the stream from every source, and no record below B of a token-carrying source waits (R300). -/
def epochReady (d : Device) (n : Nat) (e : EpochDue) : Bool :=
  let b := e.epoch * 2 ^ e.exponent
  decide (e.epoch ≤ tget 0 d.cfg.adopted (0x0900 + n))
    && (stream d n).stall.all (fun r =>
      let c := r.source / 4096
      !((c == 1 || c == 2 || c == 4) && r.type != 0x09 && decide (r.firstIndex < b)))

/-- EPOCH_RECORD_WRITE: the oldest token that the stream noted; where R284 asks for no record, the token only passes. -/
def epochRecordWrite (n : Nat) (d : Device) : Device :=
  let s := stream d n
  match s.epochDue with
  | [] => d
  | e :: rest =>
    if !isOpen s || !epochReady d n e then d
    else
      let o := allocOffset s
      let d := setStream n { s with epochDue := rest } d
      if !e.enabled then missRequests n e.epoch false d
      else if !e.wanted then d
      else
        let before := (stream d n).nextSeq
        let d := settleRequests n o (takeRecord n (epochRecord d e) d)
        if (stream d n).nextSeq == before && !mirrorsIn d n && bit e.flags 4 then missRequests n e.epoch true d else d

/-- RECORD_ARRIVAL, and the recordings that a record of it ends or begins. -/
def recordArrives (n : Nat) (d : Device) : Device :=
  let o := allocOffset (stream d n)
  settleRequests n o (recordArrival n d)

/-- A commit clears consumer bit 1 of a recording stream: the recording ends at the token (R343). -/
def recorderLeaves (n : Nat) (d : Device) : Device :=
  match d.nvme.running.find? (fun r => r.stream == n && r.stop.isNone) with
  | some rr => if bit (consumers d n) 1 then d else endRecording rr.id (allocOffset (stream d n)) 3 none d
  | none => d

/-! ### REC_START, REC_STOP, REC_DELETE -/

/-- Streams that record on a volume (R342). -/
def volumeStreams (d : Device) (vol : Nat) : List Nat :=
  ((d.nvme.running.filter (fun r => r.volume == vol)).map (·.stream)
    ++ (d.nvme.waits.filter (fun w => w.stopOf.isNone && pByte w.packet 0 == vol)).map (·.stream)).eraseDups

/-- drive_count × the smallest write_limit of a volume's drives, in bytes per second (R342). -/
def volumeLimit (c : Values) (v : Volume) : Rat :=
  let ls := v.ports.filterMap (fun p => p.map (writeLimit c))
  match ls with
  | [] => 0
  | l :: rest => (driveCount v : Nat) * (rest.foldl min l) * 1000000

def volumeRateOk (d : Device) (c : Values) (vol : Nat) (v : Volume) (extra : List Nat) : Bool :=
  decide ((((volumeStreams d vol ++ extra).eraseDups).map (streamRate c)).sum ≤ volumeLimit c v)

def recStart (p : Packet) (d : Device) : Device :=
  let vol := pByte p 0
  let n := pByte p 1
  let t := p64 p 8
  if !reservedZero p [(0, 3), (8, 24)] || decide (7 < vol) || decide (3 < pByte p 2) then complete p .badParam [] d
  else match volume d vol with
    | none => complete p .badState [] d
    | some v =>
      let s := stream d n
      if !bit (consumers d n) 1 || recordingOn d n || d.nvme.waits.any (fun w => w.stream == n && w.stopOf.isNone)
          || decide (16 ≤ d.nvme.running.length) || v.failed || !v.retired.isEmpty then complete p .badState [] d
      else if !isOpen s || 2 ^ s.ringLog2 < 4 * 2 ^ v.stripeLog2 * driveCount v then complete p .badParam [] d
      else if !volumeRateOk d (cfgVal d) vol v [n] then complete p .budget [] d
      else if !bit (pByte p 2) 0 then beginRecording p s.writeOffset d
      else if t * 2 ^ epochExp d ≤ d.sampleIndex then complete p .late [] d
      else park p { d with nvme := { d.nvme with waits := d.nvme.waits ++
          [{ packet := p, stream := n, epoch := t, stopOf := none, missed := false }] } }

def recStop (p : Packet) (d : Device) : Device :=
  let id := p32 p 0
  let t := p64 p 8
  if !reservedZero p [(0, 5), (8, 8)] || decide (1 < pByte p 4) then complete p .badParam [] d
  else match runningRec d id with
    | none => complete p .badState [] d
    | some rr =>
      if rr.packet.isSome || d.nvme.waits.any (fun w => w.stopOf == some id) then complete p .badState [] d
      else if pByte p 4 == 0 then endRecording id (stream d rr.stream).writeOffset 0 (some p) (park p d)
      else if t * 2 ^ epochExp d ≤ d.sampleIndex then complete p .late [] d
      else park p { d with nvme := { d.nvme with waits := d.nvme.waits ++
          [{ packet := p, stream := rr.stream, epoch := t, stopOf := some id, missed := false }] } }

def recDelete (p : Packet) (d : Device) : Device :=
  let id := p32 p 0
  if !reservedZero p [(0, 4)] then complete p .badParam [] d
  else match findRecording d id with
    | none => complete p .badState [] d
    | some (n, _, r) =>
      if (runningRec d id).isSome || d.nvme.playing.any (fun x => x.recording == id) then complete p .busy [] d
      else
        let us := r.extents.flatMap (fun x => (List.range x.2.1).map (fun i => x.1 + i))
        complete p .ok [] (addFreed n us (journal n [.deleted id] d))

/-! ### Playback (R336, R338) -/

/-- What a stream must be to take a playback. -/
def playTarget (d : Device) (n : Nat) : Bool :=
  isOpen (stream d n) && streamEnabled d n && (subscriptions (cfgVal d) n).isEmpty && consumers d n == 1

def play (p : Packet) (d : Device) : Device :=
  let vol := pByte p 0
  let n := pByte p 1
  let id := p32 p 4
  let first := p64 p 8
  if !reservedZero p [(0, 2), (4, 24)] || decide (7 < vol) then complete p .badParam [] d
  else match (volume d vol).bind (fun v => (recordingIn v id).map (fun r => (v, r))) with
    | none => complete p .badState [] d
    | some (_, r) =>
      if !playTarget d n then complete p .badState [] d
      else if 8 ≤ d.nvme.playing.length then complete p .noResource [] d
      else
        let x : Playback := {
          packet := p, volume := vol, recording := id, stream := n, next := r.start, limit := r.length,
          firstSeq := if first == 2 ^ 64 - 1 then none else some first, played := 0, count := p64 p 16,
          rate := p32 p 24, bytes := 0, begun := d.time, retried := false }
        park p { d with nvme := { d.nvme with playing := d.nvme.playing ++ [x] } }

/-- A record as read from a volume, with the header changes of playback. -/
def playedRecord (b : List Byte) : Rec :=
  { type := getLe b 0 1, source := getLe b 6 2, flags := maskOf 16 (fun i => i == 2 || bit (getLe b 2 2) i),
    firstIndex := getLe b 20 8, generation := BitVec.ofNat 32 (getLe b 28 4), payload := (b.drop 32).take (b.length - 40) }

def replacePlay (x y : Playback) (d : Device) : Device :=
  { d with nvme := { d.nvme with playing := d.nvme.playing.erase x ++ [y] } }

/-- Port that a playback reads next. -/
def playPort (v : Volume) (r : Recording) (b : Nat) : Option Nat :=
  (placeOf v r b).bind (fun x => match v.ports[unitDrive v x.1]? with
    | some (some p) => some p
    | _ => none)

/-- The rate limit lets a playback deliver its next record (R336). -/
def rateAllows (d : Device) (x : Playback) : Bool :=
  x.rate == 0 || decide (x.bytes * 1000 ≤ x.rate * ((d.time + 2 ^ 64 - x.begun) % 2 ^ 64))

/-- The stored tag of a chunk is that of its content: of the whole chunk, or of the recording's last one. DESIGN CHOICE: a chunk that
has no stored tag yet does not verify. -/
def chunkVerified (d : Device) (v : Volume) (r : Recording) (k : Nat) : Bool :=
  [2 ^ 28, r.length - k * 2 ^ 28].any (fun len => len != 0 && chunkTag d v r k len == some (tget [] r.macs k)
    && !(tget [] r.macs k).isEmpty)

/-- First chunk of the bytes from `b` to `b + n` that does not verify; `authOk` is false where a read returns other bytes than the
drive was given. -/
def badChunk (d : Device) (v : Volume) (r : Recording) (authOk : Bool) (b n : Nat) : Option Nat :=
  if !v.mac then none
  else ((List.range ((b + n - 1) / 2 ^ 28 + 1)).drop (b / 2 ^ 28)).find? (fun k => !authOk || !chunkVerified d v r k)

/-- The failed read of a playback: one retry, then PLAY ends and the drive fails (R336, R339). -/
def playReadFails (x : Playback) (p : Option Nat) (d : Device) : Device :=
  if x.retried then
    let d := endPlayback x 1 0 d
    match p with
    | some p => driveFailed p d
    | none => d
  else
    let d := replacePlay x { x with retried := true } d
    match p with
    | some p => raiseFault (plainFault (portSource p) 4 0 0) d
    | none => d

/-- A record is delivered, once the ring takes it and the rate limit allows it: playback waits, and it never drops. -/
def deliverPlayed (x : Playback) (b : List Byte) (d : Device) : Device :=
  let s := stream d x.stream
  let need := b.length + (if s.ringDrops.count != 0 then 128 else 64)
  if !isOpen s || s.halted || !streamEnabled d x.stream || decide (freeSpace d x.stream s < need) || !rateAllows d x then
    replacePlay x x d
  else gather x.stream (playedRecord b) (replacePlay x
    { x with next := x.next + b.length, retried := false, played := x.played + 1, bytes := x.bytes + b.length } d)

/-- PLAYBACK_READ: the playback whose turn it is reads its next record. DESIGN CHOICE: a record that is corrupt (R278, R470) is not
delivered; the walk goes on at its end, or 64 bytes on where its length is not to be trusted. -/
def playbackRead (ok authOk : Bool) (d : Device) : Device :=
  match d.nvme.playing with
  | [] => d
  | x :: _ =>
    let done := (x.count != 0 && decide (x.count ≤ x.played)) || decide (x.limit ≤ x.next)
    if done then
      complete x.packet .ok (leBytes 8 x.played ++ zeroBytes 16) { d with nvme := { d.nvme with playing := d.nvme.playing.erase x } }
    else match (volume d x.volume).bind (fun v => (recordingIn v x.recording).map (fun r => (v, r))) with
      | none => endPlayback x 1 0 d
      | some (v, r) =>
        let at_ := playPort v r x.next
        if at_.any (fun p => !nvmeRoom d p 1) then replacePlay x x d
        else
        let d := match at_ with
          | some p => nvmePass p d
          | none => d
        let len := (readRecBytes d v r (x.next + 8) 4).map (fun h =>
          if 0 < getLe h 0 4 && x.next + 64 * getLe h 0 4 ≤ x.limit then 64 * getLe h 0 4 else 64)
        match len.bind (fun n => readRecBytes d v r x.next n) with
        | none => endPlayback x (if v.failed then 4 else 1) 0 d
        | some b =>
          if !ok then playReadFails x at_ d
          else match badChunk d v r authOk x.next b.length with
            | some k => endPlayback x 2 k (raiseFault (plainFault 0x280 3 1 0) d)
            | none =>
              let before := match x.firstSeq with
                | some q => decide (getLe b 12 8 < q)
                | none => false
              if !lengthEchoes b then replacePlay x { x with next := x.next + 64, retried := false } d
              else if !recordIntact b || before then replacePlay x { x with next := x.next + b.length, retried := false } d
              else deliverPlayed x b d

/-! ### Safe state, SLEEP and zeroisation (R343) -/

/-- The recorder stops without a further checkpoint; NVMe commands in flight complete, and its volumes stay DIRTY and are no longer
mounted. -/
def recorderHalt (d : Device) : Device :=
  let rs := d.nvme.running
  let ws := d.nvme.waits
  let ps := d.nvme.playing
  let d := { d with nvme := { d.nvme with running := [], waits := [], volumes := [] } }
  let d := rs.foldl (fun d r => completeOpt r.packet .aborted [] (releaseStream r.stream d)) d
  let d := ws.foldl (fun d w => complete w.packet .aborted [] d) d
  ps.foldl (fun d x => endPlayback x 0 0 d) d

/-- SLEEP: the volumes are remembered and the ports power down. -/
def recorderSleep (d : Device) : Device :=
  let l := (mounted d).map (fun e => (e.1, e.2.ports.filterMap id))
  let d := recorderHalt d
  let d := { d with nvme := { d.nvme with remount := l } }
  (List.range 8).foldl (fun d p =>
    if (port d p).linkUp then raiseEvent (portSource p) 2 (ballIndex d) 0 (retrainPort p d) else d) d

/-- Encrypted volumes stop writing and unmount dirty, and their keys are gone. -/
def zeroizeVolumes (d : Device) : Device :=
  (mounted d).foldl (fun d e =>
    if !e.2.encrypted then d
    else
      let rs := d.nvme.running.filter (fun r => r.volume == e.1)
      let ws := d.nvme.waits.filter (fun w => match w.stopOf with
        | none => pByte w.packet 0 == e.1
        | some id => rs.any (fun r => r.id == id))
      let ps := d.nvme.playing.filter (fun x => x.volume == e.1)
      let d := { d with nvme := { d.nvme with
        running := d.nvme.running.filter (fun r => r.volume != e.1), waits := d.nvme.waits.filter (fun w => !ws.contains w) } }
      let d := rs.foldl (fun d r => dropNvme (ofRecording r.id) d) (setVolume e.1 none d)
      let d := rs.foldl (fun d r => completeOpt r.packet .aborted [] (releaseStream r.stream d)) d
      let d := ws.foldl (fun d w => complete w.packet .aborted [] d) d
      ps.foldl (fun d x => endPlayback x 0 0 d) d) d

def execEpochRecordWrite (stream : Fin 256) (s : State) : Host.Outcome State Fault Refusal :=
  act (epochRecordWrite stream.val) s
def execRecordArrival (stream : Fin 256) (s : State) : Host.Outcome State Fault Refusal := act (recordArrives stream.val) s
def execRecStart (p : Packet) (s : State) : Host.Outcome State Fault Refusal := act (accept p recStart) s
def execRecStop (p : Packet) (s : State) : Host.Outcome State Fault Refusal := act (accept p recStop) s
def execRecDelete (p : Packet) (s : State) : Host.Outcome State Fault Refusal := act (accept p recDelete) s
def execPlay (p : Packet) (s : State) : Host.Outcome State Fault Refusal := act (accept p play) s
def execUnitWriteComplete (id : Nat) (s : State) : Host.Outcome State Fault Refusal := act (unitWriteComplete id) s
def execCheckpoint (s : State) : Host.Outcome State Fault Refusal := act checkpoint s
def execSmartPoll (port : Fin 8) (percent critical : Nat) (s : State) : Host.Outcome State Fault Refusal :=
  act (smartPoll port.val percent critical) s
def execDeallocationBatch (port : Fin 8) (s : State) : Host.Outcome State Fault Refusal := act (deallocationBatch port.val) s
def execNvmeCompletion (port : Fin 8) (ok : Bool) (s : State) : Host.Outcome State Fault Refusal :=
  act (nvmeCompletion port.val ok) s
def execNvmeCommandTimeout (port : Fin 8) (s : State) : Host.Outcome State Fault Refusal := act (nvmeCommandTimeout port.val) s
def execDriveLinkDown (port : Fin 8) (s : State) : Host.Outcome State Fault Refusal := act (driveLinkDown port.val) s
def execPlaybackRead (ok authOk : Bool) (s : State) : Host.Outcome State Fault Refusal := act (playbackRead ok authOk) s
def execStorageLinkUp (port : Fin 8) (x : DriveId) (s : State) : Host.Outcome State Fault Refusal :=
  act (storageLinkUp port.val x) s

end Sys2Proof.Machine
end

