-- ==== Sys2Proof/Machine/Checks.lean ====
section
/-! DEFINITION. The admission checks of R51: cross-field rules of every block chapter, settings contexts, spectral and density load,
recorded rate, Yard load, Loft allocation and bank load. -/

namespace Sys2Proof.Machine

/-- The first rule that does not hold: the key it names. -/
def firstFailing (l : List (Bool × Nat)) : Option Nat := (l.find? (fun x => !x.1)).map (·.2)

/-- Instance codes of the twenty lanes. -/
def laneCodes : List Nat := (List.range 4).flatMap (fun ch => (List.range 5).map (fun l => ch * 8 + l))

def envN (c : Values) (u f : Nat) : Nat := vN c 5 0 (0x1000 + 0x10 * u + f)
def envZ (c : Values) (u f : Nat) : Int := c (cfgKey 5 0 (0x1000 + 0x10 * u + f))
def frqN (c : Values) (u f : Nat) : Nat := vN c 5 0 (0x2000 + 0x10 * u + f)
def winC (c : Values) (w f : Nat) : Nat := vN c 5 0 (0x3000 + 0x10 * w + f)
def winZ (c : Values) (w f : Nat) : Int := c (cfgKey 5 0 (0x3000 + 0x10 * w + f))
def trnN (c : Values) (s t f : Nat) : Nat := vN c 5 (0x10 + s) (0x100 * (t + 1) + f)

def laneOn (c : Values) (lane : Nat) : Bool := vN c 3 lane 1 == 1
def slotOn (c : Values) (slot : Nat) : Bool := vN c 4 slot 1 == 1
def mapOn (c : Values) (m : Nat) : Bool := vN c 7 m 1 == 1
def streamOn (c : Values) (n : Nat) : Bool := vN c 9 n 1 == 1

/-- Bit of the lanes mask of a window for a lane code. -/
def winTakes (c : Values) (w lane : Nat) : Bool := bit (winC c w 0) (lane / 8 * 5 + lane % 8)

def boundTo (d : Device) (p : Binding → Bool) : Bool := d.reed.bindings.any (fun e => e.2.any p)

/-! ### Check 1 (R51): lanes and slots -/

/-- Something consumes the lane (R141). -/
def laneUsed (d : Device) (c : Values) (lane : Nat) : Bool :=
  (List.range 16).any (fun s => slotOn c s && slotLane c s == lane)
    || (List.range 16).any (fun u => envN c u 1 != 0 && envN c u 0 == lane)
    || (List.range 8).any (fun w => winC c w 4 == 1 && winC c w 5 == lane)
    || (openStreams d).any (fun n => streamOn c n && subscribesSource c n (0x1000 + lane))
    || boundTo d (fun b => b.kind == .lane && b.source == lane && b.state == .running)

def laneRules (d : Device) (c : Values) : List (Bool × Nat) :=
  laneCodes.flatMap (fun l =>
    [(laneOn c l || !laneUsed d c l, cfgKey 3 l 1),
     (vN c 3 l 0x14 == 0 || vN c 3 l 6 != 0 || (List.range 8).all (fun w => !winTakes c w l || winC c w 1 == 0), cfgKey 3 l 0x14)])

/-- R174. -/
def slotRules (d : Device) (c : Values) : List (Bool × Nat) :=
  (List.range 16).flatMap (fun s =>
    let n := 2 ^ vN c 4 s 3
    let l := slotSpan c s
    let k := cfgKey 4 s
    if !slotOn c s then []
    else [(decide (vN c 4 s 3 ≤ vN c 4 s 4 + 4), k 4),
          (decide (vN c 4 s 8 ≤ vN c 4 s 3) && decide (2 ^ vN c 4 s 8 ≤ l), k 8),
          (decide (l ≤ n), k 0x0A), (decide (vN c 4 s 9 + l ≤ n), k 9),
          (vN c 4 s 5 != 8 || (tget [] d.spec.windows (vN c 4 s 6)).length == n, k 6),
          (laneOn c (slotLane c s), k 2)])

/-! ### Check 1: triggers (R198, R208, R217, R512) -/

/-- The largest latency bound over enabled units and sources. -/
def largestLatency (d : Device) (c : Values) : Nat :=
  let env := (List.range 16).map (fun u => if envN c u 1 == 0 then 0 else unitLatency c (envN c u 0))
  let frq := (List.range 8).map (fun u => if frqN c u 1 == 0 then 0 else freqLatency c (frqN c u 0))
  let tin := if (List.range 4).any (fun n => vN c 5 0 (0x20 + n) == 1) then 384 else 0
  let bus := if vN c 0x0F 0 8 == 0 then 0 else busLatency d c
  (env ++ frq ++ [tin, bus]).foldl max 0

/-- A source that an enabled transition may use (R217, R512). -/
def sourceOk (c : Values) (s : Nat) : Bool :=
  if s < 16 then envN c s 1 != 0
  else if s < 24 then frqN c (s - 16) 1 != 0
  else if s < 28 then vN c 5 0 (0x20 + (s - 24)) == 1
  else if s < 36 then bit (vN c 0x0F 0 8) (s - 28)
  else decide (s < 48)

def condBytes (v : Nat) : List Nat := (List.range 4).map (fun j => bits v (8 * j) 8)

def transitionRules (c : Values) : List (Bool × Nat) :=
  (List.range 16).flatMap (fun s => (List.range 4).flatMap (fun t =>
    if trnN c s t 0x0F == 0 then []
    else
      let used := (condBytes (trnN c s t 0)).filter (fun b => bit b 7)
      let k := cfgKey 5 (0x10 + s) (0x100 * (t + 1))
      [(used.all (fun b => sourceOk c (b % 64)), k), (trnN c s t 3 != 1 || !used.isEmpty, k + 3)]))

def envRules (c : Values) : List (Bool × Nat) :=
  (List.range 16).flatMap (fun u =>
    let ty := envN c u 1
    let up := ty == 2 || (ty == 4 && envN c u 5 == 0)
    [(!up || decide (envZ c u 2 < envZ c u 3), cfgKey 5 0 (0x1003 + 0x10 * u)),
     (!(ty == 4 && envN c u 5 == 1) || decide (envZ c u 3 < envZ c u 2), cfgKey 5 0 (0x1003 + 0x10 * u)),
     (ty != 3 || envN c u 7 == 0 || decide (envN c u 6 ≤ envN c u 7), cfgKey 5 0 (0x1007 + 0x10 * u))])

def frqRules (d : Device) (c : Values) : List (Bool × Nat) :=
  (List.range 8).flatMap (fun u =>
    let ty := frqN c u 1
    let slot := frqN c u 0
    let first := frqN c u 6
    let last := frqN c u 7
    let m := slot / 4 * 2 + frqN c u 0x0B
    let k := cfgKey 5 0 (0x2000 + 0x10 * u)
    if ty == 0 then []
    else
      [(slotOn c slot, k), (decide (first ≤ last), k + 6),
       (ty != 1 || decide (last < 2 ^ vN c 4 slot 8), k + 7),
       (ty != 1 || !(tget [] d.trig.masks (vN c 5 (0x40 + frqN c u 2) 1)).isEmpty, k + 2),
       (ty != 2 || decide (last < 2 ^ vN c 4 slot 3), k + 7),
       (ty != 3 || (mapOn c m && mapSlot c m == slot), k + 0x0B),
       (ty != 3 || (decide (last < 2 ^ vN c 7 m 3) && decide (frqN c u 8 ≤ frqN c u 9)
         && decide (frqN c u 9 < 2 ^ vN c 7 m 4)), k + 7)])

def windowRules (c : Values) : List (Bool × Nat) :=
  (List.range 8).flatMap (fun w =>
    let k := cfgKey 5 0 (0x3000 + 0x10 * w)
    let reach := laneCodes.all (fun l =>
      !winTakes c w l || (winC c w 1 == 0 && winC c w 4 == 0)
        || (let kk := vN c 3 l 4
            let h := if vN c 5 0 1 == 0 then vN c 5 0 2 else latEnv kk
            vN c 3 l 6 != 0 && decide (winC c w 1 + h + 1024 * blockOf kk ≤ 2 ^ vN c 3 l 6 * blockOf kk)))
    [(reach, k + 1),
     (winC c w 4 == 0 || winTakes c w (winC c w 5), k + 5),
     (decide (winZ c w 6 < winZ c w 7), k + 7)])

def trigRules (d : Device) (c : Values) : List (Bool × Nat) :=
  transitionRules c ++ envRules c ++ frqRules d c ++ windowRules c
    ++ [(vN c 5 0 1 == 1 || decide (largestLatency d c ≤ vN c 5 0 2), cfgKey 5 0 2)]

/-! ### Check 1: density, display, streams (R247, R269, R271, R288) -/

def colourBytesOf (c : Values) (m : Nat) : Nat := colourSlotOf (mapCells c m) (vN c 7 m 0x15)

def mapRules (d : Device) (c : Values) : List (Bool × Nat) :=
  (List.range 8).flatMap (fun m =>
    if !mapOn c m then []
    else
      let s := mapSlot c m
      let n := 2 ^ vN c 4 s 3
      let span := if vN c 7 m 6 == 0 then n else vN c 7 m 6
      let k := cfgKey 7 m
      [(decide (4 * mapCells c m ≤ frameLength c m), k (if vN c 7 m 0x0A == 0 then 0x0B else 0x0C)),
       (slotOn c s, k 2), (decide (2 ^ vN c 7 m 3 ≤ span), k 3), (decide (vN c 7 m 5 + span ≤ n), k 6),
       (vN c 7 m 0x10 == 0 || decide (2 * vN c 7 m 0x12 ≤ vN c 7 m 0x13), k 0x13),
       (vN c 7 m 0x10 == 0 || (match bufferOf d (vN c 7 m 0x16) with
         | some b => b.freeing.isNone && decide (vN c 7 m 0x17 * colourBytesOf c m ≤ b.size)
         | none => false), k 0x16)])

/-- A layer is shown by some plane state. -/
def layerShown (d : Device) (c : Values) (layer : Nat) : Bool :=
  [d.disp.committed, d.disp.latched, d.disp.active].any (fun p =>
    if layer == 0 then p.l0.isSome || (!p.l0Off && vN c 8 0 4 != 0) else p.l1.isSome)

def displayRules (d : Device) (c : Values) : List (Bool × Nat) :=
  let (aw, ah) := modeActive (vN c 8 0 1)
  let src := vN c 8 0 4
  let w0 := if src == 0 then vN c 8 0 6 else 2 ^ vN c 7 (src - 1) 3
  let h0 := if src == 0 then vN c 8 0 7 else 2 ^ vN c 7 (src - 1) 4
  let v := vN c 8 0 3
  let total := modeTotal (vN c 8 0 1)
  let k := cfgKey 8 0
  [(!layerShown d c 0 || (decide (vN c 8 0 9 + w0 * vN c 8 0 0x0B ≤ aw) && decide (vN c 8 0 0x0A + h0 * vN c 8 0 0x0C ≤ ah)), k 9),
   (!layerShown d c 1 || (decide (vN c 8 0 0x14 + vN c 8 0 0x11 ≤ aw) && decide (vN c 8 0 0x15 + vN c 8 0 0x12 ≤ ah)), k 0x14),
   (decide (vN c 8 0 6 ≤ vN c 8 0 8), k 8), (decide (vN c 8 0 0x11 ≤ vN c 8 0 0x13), k 0x13),
   (src == 0 || vN c 7 (src - 1) 0x10 == 1, k 4),
   (v == 0 || (decide (total ≤ v) && decide (v ≤ 4 * total)), k 3)]

/-- Types that a source class produces for subscriptions, by instance; none where the class or instance does not exist (R279, R288). -/
def sourceTypes (s : Nat) : Option Nat :=
  let i := s % 4096
  match s / 4096 with
  | 0 => if i == 0 then some (2 ^ 0x0E) else none
  | 1 => if laneCodes.contains i then some 2 else none
  | 2 => if i < 16 then some 12 else none
  | 3 => if i < 8 then some 16 else none
  | 4 => if i == 0 then some 32 else none
  | 5 => if i < 8 then some 64 else none
  | 6 => if i == 0 then some 128 else none
  | 7 => if i < 2 then some (2 ^ 0x0B) else none
  | 8 => if i < 128 then some (2 ^ 0x0D) else none
  | 9 => if i == 0 then some (2 ^ 0x0A) else none
  | 10 => if i == 0 then some (2 ^ 0x0C) else none
  | _ => none

def subOk (s : Nat × Nat) : Bool :=
  match sourceTypes s.1 with
  | some m => (List.range 16).all (fun i => !bit s.2 i || bit m i)
  | none => false

/-- The subscription fields of an enabled stream, each with what it must meet: an existing source and its types, a source that no lower
field names, and an enabled lane. -/
def subRules (c : Values) (n : Nat) : List (Bool × Nat) :=
  (List.range 32).flatMap (fun i =>
    let s := subscriptionAt c n i
    if s.2 == 0 then []
    else
      let lower := (List.range i).any (fun j => (subscriptionAt c n j).2 != 0 && (subscriptionAt c n j).1 == s.1)
      [(subOk s && !lower && (s.1 / 4096 != 1 || laneOn c (s.1 % 4096)), cfgKey 9 n (0x100 + i))])

def streamRules (d : Device) (c : Values) : List (Bool × Nat) :=
  (List.range 256).flatMap (fun n =>
    let k := cfgKey 9 n
    (decide (n < 254) || !bit (vN c 9 n 3) 1, k 3) ::
      (if !streamOn c n then []
       else (isOpen (stream d n) || decide (254 ≤ n), k 1) :: (if 254 ≤ n then [] else subRules c n)))

/-! ### Check 1: recorder, generators, Reed, Yard, group (R324, R341, R370, R407, R413, R471, R512) -/

def portFirst (p : Nat) : Nat := 16 * (p / 4) + 4 * (p % 4)

def recRules (d : Device) (c : Values) : List (Bool × Nat) :=
  (List.range 8).flatMap (fun p =>
    let k := cfgKey 0x0B (0x10 + p)
    let w := vN c 0x0B (0x10 + p) 1
    let lanes := portLanes w
    [(w != 2 || p % 2 == 0, k 1), (w != 3 || p % 4 == 0, k 1),
     ((List.range 8).all (fun q => q == p || w == 0 || vN c 0x0B (0x10 + q) 1 == 0
       || !rangesMeet (portFirst p) lanes (portFirst q) (portLanes (vN c 0x0B (0x10 + q) 1))), k 1),
     (decide (vN c 0x0B (0x10 + p) 3 ≤ lanes * 7000), k 3)]
    ++ [1, 2, 4].map (fun f => (!inVolume d p || c (k f) == cfgVal d (k f), k f)))

def genRules (d : Device) (c : Values) : List (Bool × Nat) :=
  (List.range 2).flatMap (fun g =>
    let v := generator d g
    let first := vN c 0x0C g 3
    let len := vN c 0x0C g 4
    let k := cfgKey 0x0C g
    let steps := seqStore v 0 ++ seqStore v 1
    let streaming := v.mode != .stopped && (v.current.any (fun x => (stepOf d g x.step).any (·.stream)))
    [(decide (first + len ≤ 4096), k 4),
     ((List.range len).all (fun i => (segDef v (first + i)).isSome), k 4),
     (steps.all (fun s => s.stream || !(decide (first ≤ s.segment) && decide (s.segment < first + len))), k 3),
     (len != 0 || (seqStore v (vN c 0x0C g 2)).all (fun s => !s.stream), k 2),
     (!streaming || (first == genN d g 3 && len == genN d g 4), k 3)])

/-- A window lies where R407 allows it. -/
def windowPlaced (d : Device) (base size : Nat) : Bool :=
  (regionOf base == .reed && regionOf (base + (size - 1)) == .reed)
    || (regionOf base == .host && decide (base + size ≤ addressEnd))
    || d.yard.buffers.any (fun b => b.handle.isSome && decide (b.base ≤ base) && decide (base + size ≤ b.base + b.size))

def clusterBusy (d : Device) (cl : Nat) : Bool :=
  (List.range 8).any (fun i =>
    let m := (tget {} d.reed.cores (8 * cl + i)).mode
    m == .running || m == .waiting) || boundTo d (fun b => b.core / 8 == cl)

def reedRules (d : Device) (c : Values) : List (Bool × Nat) :=
  (List.range 32).flatMap (fun n => (List.range 4).flatMap (fun w =>
      let base := vN c 0x0D n (0x10 + w)
      let size := vN c 0x0D n (0x14 + w)
      [(size == 0 || (base % 64 == 0 && size % 64 == 0 && windowPlaced d base size), cfgKey 0x0D n (0x10 + w))]))
    ++ (List.range 4).map (fun cl => (vN c 0x0D (0x80 + cl) 1 == 1 || !cfgOn d 0x0D (0x80 + cl) 1 || !clusterBusy d cl,
        cfgKey 0x0D (0x80 + cl) 1))

/-- Controller clock in Hz by the code of the SPEED field: XTAL25 × 24, 28 or 32, the data rate / 8 (R463). -/
def yardClock (speed : Nat) : Nat := 25000000 * (24 + 4 * speed)

/-- Peak of a channel in bytes per second by the code of its SPEED field (R463). -/
def channelPeak (speed : Nat) : Nat := yardClock speed * 64

def yardSpeed (d : Device) : Nat :=
  match d.yard.kept with
  | n :: _ => (tget {} d.yard.channels n).speed
  | [] => 0

def yardRules (d : Device) (c : Values) : List (Bool × Nat) :=
  [(decide (d.yard.dimmBytes * 200 ≤ vN c 0x0E 0 3 * channelPeak (yardSpeed d)), cfgKey 0x0E 0 3)]

def groupRules (d : Device) (c : Values) : List (Bool × Nat) :=
  [(decide (vN c 0x0F 0 6 + 512 + d.group.busTransitMax ≤ vN c 0x0F 0 5), cfgKey 0x0F 0 5)]

def blockRules (d : Device) (c : Values) : List (Bool × Nat) :=
  laneRules d c ++ slotRules d c ++ trigRules d c ++ mapRules d c ++ displayRules d c ++ streamRules d c ++ recRules d c
    ++ genRules d c ++ reedRules d c ++ yardRules d c ++ groupRules d c

/-! ### Check 3: settings contexts (R28) -/

/-- Block instance that holds a field: every key of block 5 belongs to the one sequencer. -/
def blockOfKey (key : Nat) : Nat := if key / 16777216 == 5 then 0x0500 else key / 65536

/-- Configuration in force in an epoch: every part received, then the commits up to that epoch in the order of R60. -/
def configAt (d : Device) (commits : List (Nat × List (Nat × Int))) (t : Nat) : Values :=
  (sortBy (·.1) (commits.filter (fun m => decide (m.1 ≤ t)))).foldl (fun c m => withChanges c m.2) (valuesAfter d 0)

/-- A field of a slot or of its lane that starts a new frame grid (R149). -/
def regridKey (c : Values) (s key : Nat) : Bool :=
  [1, 2, 3, 4].any (fun f => key == cfgKey 4 s f) || [1, 2, 3, 4, 5].any (fun f => key == cfgKey 3 (slotLane c s) f)

/-- Grid origin of a slot at boundary `b`, in a configuration: that of the newest change of the grid before it (R149). -/
def slotOriginAt (d : Device) (commits : List (Nat × List (Nat × Int))) (c : Values) (s b : Nat) : Nat :=
  let e := epochExp d
  let all := d.cfg.parts.map (fun p => (p.epoch, p.changes)) ++ commits
  let ts := (all.filter (fun m => decide (m.1 * 2 ^ e < b) && m.2.any (fun x => regridKey c s x.1))).map (·.1)
  match ts with
  | [] => (tget ({} : Slot) d.spec.slots s).origin
  | _ => gridUp (vN c 3 (slotLane c s) 4) (ts.foldl max 0 * 2 ^ e)

/-- Sample index behind the last lane sample of the last frame that a slot starts below boundary `b` (R28, R148). -/
def slotEnd (c : Values) (s origin b : Nat) : Nat :=
  let dk := blockOf (vN c 3 (slotLane c s) 4)
  let hop := 2 ^ vN c 4 s 4 * dk
  if !slotOn c s || decide (b ≤ origin) then b
  else max b (origin + (b - 1 - origin) / hop * hop + (2 ^ vN c 4 s 3 - 1) * dk + 1)

/-- In fast mode the old context of the sequencer lasts until the tokens have passed the lanes and slots that feed the units enabled in
the old context or the new one (R618). -/
def fastEnd (d : Device) (commits : List (Nat × List (Nat × Int))) (old new : Values) (b : Nat) : Nat :=
  let of (u c : Values) : List Nat :=
    ((List.range 16).filter (fun n => envN u n 1 != 0)).map (fun n => b + spanOf (vN c 3 (envN u n 0) 4))
      ++ ((List.range 8).filter (fun n => frqN u n 1 != 0)).map (fun n => slotEnd c (frqN u n 0) (slotOriginAt d commits c (frqN u n 0) b) b)
  (of old old ++ of new old).foldl max b

/-- Sample index at which the context of a token block that the token of boundary `b` replaces has delivered its last output: `old` is the
configuration below the boundary, `new` that behind it. -/
def contextEnd (d : Device) (commits : List (Nat × List (Nat × Int))) (old new : Values) (blk b : Nat) : Nat :=
  let i := blk % 256
  match blk / 256 with
  | 3 => b + spanOf (vN old 3 i 4)
  | 4 => slotEnd old i (slotOriginAt d commits old i b) b
  | 5 => if vN old 5 0 1 == 0 then b + vN old 5 0 2 else fastEnd d commits old new b
  | 7 =>
    let s := mapSlot old i
    (if mapOn old i then slotEnd old s (slotOriginAt d commits old s b) b else b) + 4 * mapCells old i
  | _ => b

def tokenBlockKeyed (b : Nat) : Bool := [2, 3, 4, 5, 7, 9].contains (b / 256)

/-- Blocks whose parts wait for a swap point of their own. -/
def waitsForSwap (b : Nat) : Bool := [6, 8, 0x0A, 0x0B, 0x0C, 0x0D, 0x0F].contains (b / 256)

/-- Epochs whose commits change a block, in ascending order: those of one epoch are one change (R27, R60). -/
def changeEpochs (l : List (Nat × List (Nat × Int))) (b : Nat) : List Nat :=
  sortBy id ((l.filter (fun m => m.2.any (fun e => blockOfKey e.1 == b))).map (·.1)).eraseDups

/-- The commits of an epoch give some field of a block another value. -/
def changesBlock (l : List (Nat × List (Nat × Int))) (b t : Nat) (old new : Values) : Bool :=
  (l.filter (fun m => m.1 == t)).any (fun m => m.2.any (fun e => blockOfKey e.1 == b && new e.1 != old e.1))

/-- Boundary and end of life of each context of a block that commits replace. -/
def contextEnds (d : Device) (commits : List (Nat × List (Nat × Int))) (b : Nat) : List (Nat × Nat) :=
  (changeEpochs commits b).filterMap (fun t =>
    let old := configAt d (commits.filter (fun m => decide (m.1 < t))) t
    let new := configAt d commits t
    let at_ := t * 2 ^ epochExp d
    if changesBlock commits b t old new then some (at_, contextEnd d commits old new b at_) else none)

/-- At most four settings contexts in a block at once (R28): those that still deliver, and those that the commits replace. -/
def contextsOk (d : Device) (b : Nat) (commits : List (Nat × List (Nat × Int))) : Bool :=
  if tokenBlockKeyed b then
    let ends := (d.cfg.oldContexts.filter (fun x => x.1 == b)).map (·.2) ++ contextEnds d commits b
    ends.all (fun x => decide ((ends.filter (fun y => decide (y.1 ≤ x.1) && decide (x.1 < y.2))).length ≤ 3))
  else !waitsForSwap b
    || decide ((d.cfg.parts.filter (fun p => p.block == b)).length + (changeEpochs commits b).length ≤ 3)

/-! ### Checks 4 to 9 -/

def channelSlots (ch : Nat) : List Nat := (List.range 4).map (fun i => ch * 4 + i)

def channelLoad (c : Values) (ch : Nat) : Rat :=
  ((channelSlots ch).map (fun s => if slotOn c s then spectralLoad c s else 0)).sum

def channelSpectra (c : Values) (ch : Nat) : Rat :=
  ((channelSlots ch).map (fun s => if slotOn c s then spectrumRate c s else 0)).sum

/-- Transition excess of a slot in points (R171). -/
def transitionExcess (old new : Values) (s : Nat) : Nat :=
  let n0 := 2 ^ vN old 4 s 3
  let h0 := 2 ^ vN old 4 s 4
  let n1 := 2 ^ vN new 4 s 3
  let h1 := 2 ^ vN new 4 s 4
  if !slotOn old s || !slotOn new s || (n0 == n1 && h0 == h1) then 0 else n1 / h1 * (n0 - h0 - n1)

/-- Key of the first slot of a channel that fails check 4, for a configuration that follows another. -/
def check4 (old new : Values) : Option Nat :=
  firstFailing ((List.range 4).map (fun ch =>
    (decide (channelLoad new ch ≤ 40960000000) && decide (channelSpectra new ch ≤ 40000000)
      && decide (((channelSlots ch).map (transitionExcess old new)).sum ≤ 65536), cfgKey 4 (ch * 4) 3)))

/-- Increments per second of a channel's maps. -/
def channelIncrements (c : Values) (ch : Nat) : Rat :=
  ((List.range 2).map (fun i => if mapOn c (ch * 2 + i) then spectralLoad c (mapSlot c (ch * 2 + i)) else 0)).sum

def check5 (c : Values) : Option Nat :=
  firstFailing ((List.range 4).map (fun ch => (decide (channelIncrements c ch ≤ 81920000000), cfgKey 7 (ch * 2) 1)))

def recordedStreams (c : Values) : List Nat := (List.range 256).filter (fun n => streamOn c n && bit (vN c 9 n 3) 1)

def recordedRate (c : Values) : Rat := ((recordedStreams c).map (streamRate c)).sum

def check6 (d : Device) (c : Values) : Option Nat :=
  firstFailing ((decide (recordedRate c ≤ 128000000000), cfgKey 9 0 3)
    :: (mounted d).map (fun e => (volumeRateOk d c e.1 e.2 [], cfgKey 0x0B (0x10 + ((e.2.ports.head?.bind id).getD 0)) 3)))

/-- Bytes of an image in a planar format: NV12 and I420 3/2 per pixel, NV16 two. -/
def imageBytes (pixels fmt : Nat) : Nat := if fmt == 1 then 2 * pixels else 3 * pixels / 2

/-- Scan-out reads and the colouriser's writes in bytes per second (R259). -/
def scanRate (d : Device) (c : Values) : Rat :=
  let m := vN c 8 0 1
  let src := vN c 8 0 4
  let l0 := if !layerShown d c 0 then 0
    else if src == 0 then imageBytes (vN c 8 0 6 * vN c 8 0 7) (vN c 8 0 5)
    else imageBytes (mapCells c (src - 1)) (vN c 7 (src - 1) 0x15)
  let l1 := if !layerShown d c 1 then 0
    else imageBytes (vN c 8 0 0x11 * vN c 8 0 0x12) (vN c 8 0 0x10) + vN c 8 0 0x11 * vN c 8 0 0x12
  modeRefresh m * (l0 + l1 : Nat) + ((List.range 8).map (fun m =>
    if mapOn c m && vN c 7 m 0x10 == 1 then
      rateSclk c * (imageBytes (mapCells c m) (vN c 7 m 0x15) : Nat) / (vN c 7 m 0x11 * frameLength c m : Nat)
    else 0)).sum

def yardLoad (d : Device) (c : Values) : Rat :=
  (((List.range 256).filter (fun n => streamOn c n && isOpen (stream d n))).map (streamRate c)).sum + recordedRate c + scanRate d c

def check7 (d : Device) (c : Values) : Option Nat :=
  firstFailing [(decide (yardLoad d c ≤ (3 : Rat) / 4 * (d.yard.kept.length * channelPeak (yardSpeed d) : Nat) - 115000000000),
    cfgKey 9 0 1)]

/-- Bytes of a spectrum in stall 0x06, with its trace, and in stall 0x07: int16 values and the attributes of R165 (R167). -/
def traceSpectrumBytes (c : Values) (s : Nat) : Nat := 2 * 2 ^ vN c 4 s 3 + 2 * 2 ^ vN c 4 s 8 + 28
def mapSpectrumBytes (c : Values) (s : Nat) : Nat := 2 * 2 ^ vN c 4 s 3 + 28

/-- Frames of a map per second. -/
def mapFrames (c : Values) (m : Nat) : Rat := rateSclk c / (frameLength c m : Nat)

/-- Buffers placed in the real-time region: bytes and admitted traffic (R36, R53, R143, R208, R244, R298, R395, R503). A stall is written
once and read once. -/
def loftBuffers (d : Device) (c : Values) (extra : List (Nat × Rat)) : List (Nat × Rat) :=
  let slots := ((List.range 16).filter (slotOn c)).flatMap (fun s =>
    (3072 * 256, laneRate c (slotLane c s) * 4 + spectralLoad c s * 4) ::
      (if (List.range 8).any (fun u => frqN c u 1 != 0 && frqN c u 0 == s) then
        [(16 * traceSpectrumBytes c s, spectrumRate c s * (2 * traceSpectrumBytes c s : Nat))] else []))
  let lanes := (laneCodes.filter (fun l => laneOn c l && vN c 3 l 6 != 0)).map (fun l =>
    let reads := boolN (vN c 3 l 0x14 == 1) + ((List.range 8).filter (fun w => winC c w 4 == 1 && winC c w 5 == l)).length
    (2 ^ vN c 3 l 6 * 4, laneRate c l * (4 * (1 + reads) : Nat)))
  let maps := ((List.range 8).filter (mapOn c)).flatMap (fun m =>
    let s := mapSlot c m
    let cells : Nat := mapCells c m
    [(3 * cells * 4, spectralLoad c s * 8 + mapFrames c m * (16 * cells : Nat)),
     (16 * mapSpectrumBytes c s, spectrumRate c s * (2 * mapSpectrumBytes c s : Nat)),
     (128 * 65536, mapFrames c m * (8 * cells : Nat))])
  let stalls := ((List.range 256).filter (fun n => streamOn c n && isOpen (stream d n))).map (fun n =>
    (64 * max 1024 (longestRecord c n), 2 * streamRate c n))
  let reorder := ((List.range 256).filter (fun n => d.group.mirrored.getLsbD n)).map (fun n => (2 ^ 20, 2 * streamRate c n))
  slots ++ lanes ++ maps ++ stalls ++ reorder ++ extra

/-- What a binding adds (R395). -/
def bindingLoad (c : Values) (kind : BindKind) (source batchLog2 firstBin : Nat) : Nat × Rat :=
  (4 * (4 * 2 ^ batchLog2),
    match kind with
    | .lane => laneRate c source * 8
    | .slot => spectrumRate c source * (16 * min (2 ^ batchLog2) (2 ^ vN c 4 source 3 - firstBin) : Nat)
    | _ => 0)

def bindingLoads (d : Device) (c : Values) : List (Nat × Rat) :=
  d.reed.bindings.filterMap (fun e => e.2.map (fun b => bindingLoad c b.kind b.source b.batchLog2 b.firstBin))

/-- Banks over which a buffer is interleaved: the smallest power of two up to 64 that keeps each within 25 GB/s (R53). -/
def bankSpread (t : Rat) : Nat := ((List.range 7).map (fun b => 2 ^ b)).foldr (fun n r => if t / (n : Nat) ≤ 25000000000 then n else r) 64

/-- A share is added to the first `n` consecutive banks that stay within 25 GB/s with it. -/
def placeShare (n : Nat) (share : Rat) : List Rat → Option (List Rat)
  | [] => none
  | b :: bs =>
    let first := (b :: bs).take n
    if first.length == n && first.all (fun x => decide (x + share ≤ 25000000000)) then some (first.map (· + share) ++ (b :: bs).drop n)
    else (placeShare n share bs).map (fun l => b :: l)

/-- The loads of the 448 banks of the real-time region with the buffers placed one after the other (R53); none where one finds no room. A
buffer without traffic loads no bank. -/
def placeBuffers (l : List (Nat × Rat)) : Option (List Rat) :=
  (l.filter (fun (x : Nat × Rat) => x.2 != 0)).foldl (fun banks x =>
    banks.bind (placeShare (bankSpread x.2) (x.2 / (bankSpread x.2 : Nat)))) (some (List.replicate 448 0))

/-- The largest share of one buffer in a bank. -/
def largestShare (l : List (Nat × Rat)) : Rat := (l.map (fun (x : Nat × Rat) => x.2 / (bankSpread x.2 : Nat))).foldl max 0

/-- Highest load of one bank (R54): over the placement, and where there is none, no less than the load that finds no room. -/
def highestBankLoad (l : List (Nat × Rat)) : Rat :=
  match placeBuffers l with
  | some banks => banks.foldl max 0
  | none => max 25000000001 (largestShare l)

def loftOk (l : List (Nat × Rat)) : Bool := decide ((l.map (·.1)).sum ≤ 224 * 2 ^ 20)

/-- Every bank within 25 GB/s. -/
def banksOk (l : List (Nat × Rat)) : Bool := (placeBuffers l).isSome

/-- A commit up to epoch `t` relocks the sample clock (R69, R620). -/
def sclkRelocks (commits : List (Nat × List (Nat × Int))) (t : Nat) : Bool :=
  commits.any (fun m => decide (m.1 ≤ t) && m.2.any (fun e => e.1 / 65536 == 0x0100))

/-- The configuration as the rates count it: without a relock of the sample clock, f_REFIN is that of its last lock (R67, R620). -/
def ratedValues (d : Device) (relocks : Bool) (c : Values) : Values :=
  fun k => if k == cfgKey 1 2 1 && !relocks && d.clk.sclk.inForce.refinHz != 0 then (d.clk.sclk.inForce.refinHz : Nat) else c k

/-! ### The checks in order (R51) -/

/-- The first failing check of a configuration that follows `old`: its number, the failing key and the status. -/
def failingCheck (d : Device) (old c : Values) (writes : Nat → Bool) (keys : List Nat) (commits : List (Nat × List (Nat × Int))) :
    Option (Nat × Nat × Status) :=
  let sclk := keys.filter (fun k => k / 65536 == 0x0100)
  let other := keys.find? (fun k => k / 65536 != 0x0100)
  let blocks := (keys.map blockOfKey).eraseDups
  let r := ratedValues d (sclk.length != 0 || commits.any (fun m => m.2.any (fun e => e.1 / 65536 == 0x0100))) c
  let loft := loftBuffers d r (bindingLoads d r)
  match checkClock d c writes, firstFailing (blockRules d c), other with
  | some k, _, _ => some (1, k, .badParam)
  | none, some k, _ => some (1, k, .badParam)
  | none, none, o =>
    if !sclk.isEmpty && o.isSome then some (2, o.getD 0, .badParam)
    else match blocks.find? (fun b => !contextsOk d b commits) with
      | some b => some (3, (keys.find? (fun k => blockOfKey k == b)).getD 0, .busy)
      | none =>
        match check4 old r, check5 r, check6 d r, check7 d r with
        | some k, _, _, _ => some (4, k, .budget)
        | _, some k, _, _ => some (5, k, .budget)
        | _, _, some k, _ => some (6, k, .budget)
        | _, _, _, some k => some (7, k, .budget)
        | none, none, none, none =>
          if !loftOk loft then some (8, 0, .noResource)
          else if !banksOk loft then some (9, 0, .budget)
          else none

end Sys2Proof.Machine
end

