-- ==== Sys2Proof/Machine/ReedCore.lean ====
section
/-! DEFINITION. One Reed core: registers, addressing, the visible pipeline, compute operations, moves, loops and exceptions
(R376-R393, R410). What reaches outside the core stands in Machine/Reed.lean. -/

namespace Sys2Proof.Machine

def core (d : Device) (n : Nat) : ReedCore := tget {} d.reed.cores n

def setCore (n : Nat) (v : ReedCore) (d : Device) : Device :=
  { d with reed := { d.reed with cores := tset {} d.reed.cores n v } }

/-! ### Registers (R376-R378, R393) -/

def physReg (v : ReedCore) (n : Nat) : Nat := if n < 32 then n else 32 + (n + 32 - 32 - v.vro) % 32

def vecReg (v : ReedCore) (n : Nat) : BitVec 128 := tget 0 v.vec (physReg v n)

def laneOf (w : BitVec 128) (i : Nat) : Int := signed 16 (bits w.toNat (16 * i) 16)

def vecLanes (v : ReedCore) (n : Nat) : List Int := (List.range 8).map (laneOf (vecReg v n))

def packLanes (l : List Int) : BitVec 128 :=
  BitVec.ofNat 128 (l.foldr (fun x a => unsigned 16 x + 65536 * a) 0)

def zeroLanes : List Int := List.replicate 8 0

def accLanes (v : ReedCore) (n : Nat) : List Int := tget zeroLanes v.acc n
def fwdLanes (v : ReedCore) (n : Nat) : List Int := tget zeroLanes v.fwd n

def aReg (v : ReedCore) (n : Nat) : Nat := tget 0 v.areg n
def mReg (v : ReedCore) (n : Nat) : Nat := tget 0 v.mreg n

/-! ### RAMs (R376) -/

def ramByte (v : ReedCore) (r : CoreRam) (a : Nat) : Byte :=
  match r with
  | .x => tget 0 v.xRam (a % 2 ^ 17)
  | .y => tget 0 v.yRam (a % 2 ^ 17)
  | .c => tget 0 v.cRam (a % 2 ^ 16)

def ramNat (v : ReedCore) (r : CoreRam) (a n : Nat) : Nat := leNat ((List.range n).map (fun i => ramByte v r (a + i)))

def ramBytes (v : ReedCore) (r : CoreRam) (a n : Nat) : List Byte := (List.range n).map (fun i => ramByte v r (a + i))

def writeRamByte (r : CoreRam) (a : Nat) (b : Byte) (v : ReedCore) : ReedCore :=
  match r with
  | .x => { v with xRam := tset 0 v.xRam (a % 2 ^ 17) b }
  | .y => { v with yRam := tset 0 v.yRam (a % 2 ^ 17) b }
  | .c => { v with cRam := tset 0 v.cRam (a % 2 ^ 16) b }

def writeRam (r : CoreRam) (a : Nat) (bs : List Byte) (v : ReedCore) : ReedCore :=
  (bs.zipIdx).foldl (fun v x => writeRamByte r (a + x.2) x.1 v) v

/-! ### Addressing (R380, R381) -/

def modStep (m : Nat) : Int := signed 18 (bits m 0 18)
def modLength (m : Nat) : Nat := bits m 18 5

def wrapAddr (a : Nat) (inc : Int) (l : Nat) : Nat :=
  let t := unsigned 17 ((a : Int) + inc)
  if l == 0 then t else (a / 2 ^ l * 2 ^ l + t % 2 ^ l) % 2 ^ 17

/-- Addresses of the elements of an access through a_n. -/
def elementAddrs (v : ReedCore) (n count : Nat) : List Nat :=
  (List.range count).map (fun i => wrapAddr (aReg v n) ((2 * i : Nat) : Int) (modLength (mReg v n)))

/-! ### Writes on their way (R387-R389) -/

def applyWrite (w : CoreWrite) (v : ReedCore) : ReedCore :=
  match w with
  | .vec p x => { v with vec := tset 0 v.vec p x }
  | .acc n l => { v with acc := tset zeroLanes v.acc n l }
  | .fwd n l => { v with fwd := tset zeroLanes v.fwd n l }
  | .addr n a => { v with areg := tset 0 v.areg n (a % 2 ^ 17) }
  | .modifier n m => { v with mreg := tset 0 v.mreg n (m % 2 ^ 23) }
  | .ram r a bs => writeRam r a bs v

/-- Writes visible at position `p` take effect, in the order in which they become visible. -/
def settleWrites (p : Nat) (v : ReedCore) : ReedCore :=
  let due := sortBy (·.1) (v.writes.filter (fun w => decide (w.1 ≤ p)))
  due.foldl (fun v w => applyWrite w.2 v) { v with writes := v.writes.filter (fun w => decide (p < w.1)) }

/-- Every write takes effect: the core stops (R410). -/
def drainWrites (v : ReedCore) : ReedCore :=
  let all := sortBy (·.1) v.writes
  all.foldl (fun v w => applyWrite w.2 v) { v with writes := [] }

/-- Two writes to one register. -/
def sameTarget : CoreWrite → CoreWrite → Bool
  | .vec p _, .vec q _ => p == q
  | .acc p _, .acc q _ => p == q
  | .fwd p _, .fwd q _ => p == q
  | .addr p _, .addr q _ => p == q
  | .modifier p _, .modifier q _ => p == q
  | _, _ => false

/-- The writes of an instruction conflict with one another or with earlier ones (R388). -/
def conflicts (old : List (Nat × CoreWrite)) : List (Nat × CoreWrite) → Bool
  | [] => false
  | w :: ws => (old ++ ws).any (fun o => o.1 == w.1 && sameTarget o.2 w.2) || conflicts old ws

/-! ### Instruction fields (R382, R383) -/

def iOp (w : Nat) : Nat := bits w 58 6
def iD (w : Nat) : Nat := bits w 52 6
def iA (w : Nat) : Nat := bits w 46 6
def iB (w : Nat) : Nat := bits w 40 6
def iX (w : Nat) : Nat := bits w 36 4
def iImm (w : Nat) : Nat := bits w 0 36

structure Move where
  bus : CoreRam
  store : Bool
  reg : Nat
  areg : Nat
  modify : Bool

def moveAt (w lo : Nat) (bus : CoreRam) : Option Move :=
  let m := bits w lo 12
  if bit m 11 then some { bus := bus, store := bit m 10, reg := bits m 4 6, areg := bits m 1 3, modify := bit m 0 } else none

/-- The moves of a P-form instruction. -/
def moves (w : Nat) : List Move :=
  if 0x30 ≤ iOp w then [] else [moveAt w 24 .x, moveAt w 12 .y, moveAt w 0 .c].filterMap id

def isSplat (m : Move) : Bool := m.bus == .c && m.store

/-- Operand fields that name an accumulator or an address register: bits [5:3] must be zero (R382). -/
def smallFields (w : Nat) : List Nat :=
  match iOp w with
  | 0x02 | 0x03 | 0x04 | 0x05 | 0x06 | 0x07 | 0x08 => [iD w]
  | 0x09 | 0x0A => [iD w, iA w]
  | 0x0B => [iA w]
  | 0x30 | 0x31 | 0x32 | 0x36 | 0x37 | 0x38 | 0x3A => [iD w]
  | 0x33 => [iD w, iA w]
  | 0x34 => if bit (iX w) 3 then [iA w] else []
  | 0x35 => if bits (iX w) 0 3 == 1 || bits (iX w) 0 3 == 2 then [iA w] else []
  | _ => []

/-- Bits of the immediate that the operation uses. -/
def immMask (w : Nat) : Nat :=
  match iOp w with
  | 0x30 => 2 ^ 17 - 1
  | 0x31 => 2 ^ 23 - 1
  | 0x32 => 2 ^ 18 - 1
  | 0x33 => 2 ^ 17 - 1
  | 0x34 => 0x1FFF0000 + (if bit (iX w) 3 then 0 else 0xFFFF)
  | 0x35 => 2 ^ 13 - 1
  | _ => 0

/-- R386. -/
def illegal (w : Nat) : Bool :=
  let op := iOp w
  let ms := (moves w).map (·.areg)
  (decide (0x15 < op) && decide (op < 0x30)) || decide (0x3C < op)
    || (smallFields w).any (fun f => decide (7 < f))
    || (op == 0x0B && decide (31 < iB w))
    || (decide (0x30 ≤ op) && (iB w != 0 || (List.range 36).any (fun i => bit (iImm w) i && !bit (immMask w) i)))
    || (op == 0x35 && decide (3 < bits (iX w) 0 3))
    || decide (ms.eraseDups.length < ms.length)

/-! ### Arithmetic (R378, R379, R384) -/

def convShift (v : Int) (s : Nat) : Int :=
  if s == 0 then v else roundHalfEven v (2 ^ s)

/-- conv_sat of R379, and whether it saturated. -/
def convSat (v : Int) (s : Nat) : Int × Bool :=
  let q := convShift v s
  (clampInt (-32768) 32767 q, decide (q < -32768) || decide (32767 < q))

def sat16 (v : Int) : Int := clampInt (-32768) 32767 v

/-- A lane stored modulo 2^40, and whether the exact value overflows. -/
def acc40 (v : Int) : Int × Bool :=
  (signed 40 (unsigned 40 v), decide (v < -(2 ^ 39 : Int)) || decide ((2 ^ 39 : Int) ≤ v))

def zip8 (f : Int → Int → Int) (a b : List Int) : List Int := (a.zip b).map (fun x => f x.1 x.2)

/-- Complex product of element lists, lane pairs real and imaginary. -/
def complexLanes (conj : Bool) : List Int → List Int → List Int
  | ar :: ai :: as, br :: bi :: bs =>
    let y := if conj then -bi else bi
    (ar * br - ai * y) :: (ar * y + ai * br) :: complexLanes conj as bs
  | _, _ => []

def powerLanes : List Int → List Int
  | ar :: ai :: as => (ar * ar + ai * ai) :: 0 :: powerLanes as
  | _ => []

def negIf (neg : Bool) (l : List Int) : List Int := if neg then l.map (fun x => -x) else l

def getLane (l : List Int) (i : Nat) : Int := l.getD i 0

/-- Result of a compute operation: writes by latency, AOV, SAT. -/
structure Computed where
  writes : List (Nat × CoreWrite) := []
  aov : Bool := false
  sat : Bool := false

/-- An accumulator write: MAC group 1 / 3, else one latency for every reader. -/
def accWrite (n fast slow : Nat) (exact : List Int) : Computed :=
  let l := exact.map acc40
  { writes := [(fast, .fwd n (l.map (·.1))), (slow, .acc n (l.map (·.1)))], aov := l.any (·.2) }

def vecWrite (v : ReedCore) (n lat : Nat) (l : List Int) : Computed := { writes := [(lat, .vec (physReg v n) (packLanes l))] }

/-- The P-form compute operations (R384). -/
def compute (w : Nat) (v : ReedCore) : Computed :=
  let n := iD w
  let a := vecLanes v (iA w)
  let b := vecLanes v (iB w)
  let x := iX w
  let neg := bit x 3
  let old := fwdLanes v n
  match iOp w with
  | 0x02 => accWrite n 1 3 (zip8 (· + ·) old (negIf neg (zip8 (· * ·) a b)))
  | 0x03 => accWrite n 1 3 (negIf neg (zip8 (· * ·) a b))
  | 0x04 => accWrite n 1 3 (zip8 (· + ·) old (negIf neg (a.map (· * getLane b (x % 8)))))
  | 0x05 => accWrite n 1 3 (zip8 (· + ·) old (negIf neg (complexLanes (bit x 0) a b)))
  | 0x06 => accWrite n 1 3 (negIf neg (complexLanes (bit x 0) a b))
  | 0x07 => accWrite n 1 3 (zip8 (· + ·) old (powerLanes a))
  | 0x08 => accWrite n 1 1 zeroLanes
  | 0x09 => accWrite n 1 3 (zip8 (· + ·) old (accLanes v (iA w)))
  | 0x0A => accWrite n 3 3 ((accLanes v (iA w)).sum :: List.replicate 7 0)
  | 0x0B =>
    let l := (accLanes v (iA w)).map (fun y => convSat y (iB w))
    { vecWrite v n 2 (l.map (·.1)) with sat := l.any (·.2) }
  | 0x0C => vecWrite v n 2 ((zip8 (· + ·) a b).map sat16)
  | 0x0D => vecWrite v n 2 ((zip8 (· - ·) a b).map sat16)
  | 0x0E => vecWrite v n 2 (zip8 max a b)
  | 0x0F => vecWrite v n 2 (zip8 min a b)
  | 0x10 =>
    let l := a.map (fun y => convSat y x)
    { vecWrite v n 2 (l.map (·.1)) with sat := l.any (·.2) }
  | 0x11 => vecWrite v n 2 (a.map (fun y => sat16 (y * 2 ^ x)))
  | 0x12 => vecWrite v n 2 (((a ++ b).drop (x % 8)).take 8)
  | 0x13 => vecWrite v n 1 a
  | 0x14 => vecWrite v n 1 (List.replicate 8 (getLane a (x % 8)))
  | 0x15 => vecWrite v n 2 ((a.zipIdx).map (fun y => if y.2 % 2 == 1 then sat16 (-y.1) else y.1))
  | _ => {}

/-! ### Moves (R380, R381, R383, R389) -/

def moveAddrs (v : ReedCore) (m : Move) : List Nat := elementAddrs v m.areg (if isSplat m then 1 else 8)

def moveWrites (v : ReedCore) (m : Move) : List (Nat × CoreWrite) :=
  let addrs := moveAddrs v m
  let inc : Int := if m.modify then modStep (mReg v m.areg) else if isSplat m then 2 else 16
  let post : Nat × CoreWrite := (1, .addr m.areg (wrapAddr (aReg v m.areg) inc (modLength (mReg v m.areg))))
  let elems := addrs.map (fun a => signed 16 (ramNat v m.bus a 2))
  if isSplat m then [(3, .vec (physReg v m.reg) (packLanes (List.replicate 8 (getLane elems 0)))), post]
  else if m.store then
    ((addrs.zip (vecLanes v m.reg)).map (fun x => (2, CoreWrite.ram m.bus x.1 (leInt 2 x.2)))) ++ [post]
  else [(3, .vec (physReg v m.reg) (packLanes elems)), post]

/-! ### Exceptions (R410) -/

def moveOdd (v : ReedCore) (m : Move) : Bool := aReg v m.areg % 2 == 1
def moveBeyond (v : ReedCore) (m : Move) : Bool := m.bus == .c && (moveAddrs v m).any (fun a => decide (65536 ≤ a))

/-- Loop count of a loop instruction (R391). -/
def loopCount (w : Nat) (v : ReedCore) : Nat :=
  if bit (iX w) 3 then aReg v (iA w) else if iImm w % 65536 == 0 then 65536 else iImm w % 65536

def loopEnd (w : Nat) : Nat := bits (iImm w) 16 13

/-- Exceptions of loops and branches: 0x07 and 0x08. -/
def flowException (w : Nat) (v : ReedCore) : Option Nat :=
  if iOp w == 0x34 &&
      (decide (3 ≤ v.loops.length) || decide (loopEnd w < v.pc + 1) || decide (65536 < loopCount w v)
        || v.loops.head?.any (fun l => decide (l.stop < loopEnd w))) then some 7
  else if iOp w == 0x35 && v.loops.any (fun l => l.stop == v.pc) then some 8
  else none

/-! ### Loops (R391-R393) -/

/-- After the last body instruction of an active loop: the next pc, and the overhead of the return in cycles (R390, R392). -/
def endLoops : Nat → ReedCore → ReedCore × Nat
  | 0, v => (v, 0)
  | fuel + 1, v =>
    match v.loops with
    | [] => (v, 0)
    | l :: rest =>
      if l.stop != v.pc then (v, 0)
      else
        let v := if l.step then { v with vro := (v.vro + 1) % 32 } else v
        let body := l.stop + 1 - l.start
        let v := if l.filling && body ≤ 32 then { v with cache := some (l.start, l.stop) } else v
        if 1 < l.count then
          let hit := v.cache == some (l.start, l.stop)
          ({ v with pc := l.start, loops := { l with count := l.count - 1, filling := false } :: rest }, if hit then 1 else 3)
        else endLoops fuel { v with loops := rest }

/-- The pc moves past the instruction, through the ends of loops. -/
def advance (v : ReedCore) : ReedCore × Nat :=
  let pc := v.pc
  let r := endLoops 4 v
  if r.2 == 0 then ({ r.1 with pc := (pc + 1) % 8192 }, 0) else (r.1, 2 * (r.2 / 2))

/-- A loop instruction pushes a level; only an innermost loop fills the cache (R391, R392). -/
def pushLoop (w : Nat) (v : ReedCore) : ReedCore :=
  let n := loopCount w v
  if n == 0 then { v with pc := (loopEnd w + 1) % 8192 }
  else
    let l : LoopLevel := { start := v.pc + 1, stop := loopEnd w, count := n, step := bit (iX w) 0, filling := true }
    { v with pc := (v.pc + 1) % 8192, loops := l :: v.loops.map (fun x => { x with filling := false }) }

/-- A taken branch pops every level whose body it leaves. -/
def branchTo (t : Nat) (v : ReedCore) : ReedCore :=
  { v with pc := t, loops := v.loops.dropWhile (fun l => decide (t < l.start) || decide (l.stop < t)) }

def branchTaken (w : Nat) (v : ReedCore) : Bool :=
  match bits (iX w) 0 3 with
  | 0 => true
  | 1 => aReg v (iA w) == 0
  | 2 => aReg v (iA w) != 0
  | _ => v.aov

/-- Positions become issue positions of the core's writes. -/
def placeWrites (p : Nat) (l : List (Nat × CoreWrite)) : List (Nat × CoreWrite) := l.map (fun w => (p + w.1, w.2))

/-- Issue: the writes join those on their way, the position and the busy cycles advance. -/
def issueWrites (l : List (Nat × CoreWrite)) (cycles : Nat) (v : ReedCore) : ReedCore :=
  { v with writes := v.writes ++ placeWrites v.position l, position := v.position + 1,
           cyclesBusy := v.cyclesBusy + BitVec.ofNat 64 cycles }

end Sys2Proof.Machine
end

