-- ==== Sys2Proof/Machine/ReedBatch.lean ====
section
/-! DEFINITION. Kernel bindings: forming, dropping and delivering batches, KERNEL_LOAD and KERNEL_RUN (R394-R402, R408, R409,
R414, R415). -/

namespace Sys2Proof.Machine

def binding (d : Device) (n : Nat) : Option Binding := tget none d.reed.bindings n

def setBinding (n : Nat) (v : Option Binding) (d : Device) : Device :=
  { d with reed := { d.reed with bindings := tset none d.reed.bindings n v } }

/-- Bytes of a batch buffer (R394). -/
def bufferBytes (b : Binding) : Nat := 4 * 2 ^ b.batchLog2

/-- Binding on a port of a core. -/
def portBinding (d : Device) (core port : Nat) : Option (Nat × Binding) :=
  (d.reed.bindings.filterMap (fun e => e.2.map (fun b => (e.1, b)))).find? (fun x => x.2.core == core && x.2.port == port)

def batchSource (cluster : Nat) : Nat := 0x320 + cluster

/-! ### Dropping (R401) -/

/-- A batch of a binding is dropped: counted, and the first one of each epoch raises the event. -/
def dropBatch (n : Nat) (d : Device) : Device :=
  match binding d n with
  | none => d
  | some b =>
      let e := epochIndex d
      let cl := b.core / 8
      let d := setBinding n (some { b with dropped := min (2 ^ 32 - 1) (b.dropped + 1), totalDropped := b.totalDropped + 1,
                                           dropEpoch := some e }) d
      let d := { d with reed := { d.reed with dropped := tset 0 d.reed.dropped cl (tget 0 d.reed.dropped cl + 1) } }
      if b.dropEpoch == some e then d else raiseEvent (batchSource cl) 1 (ballIndex d) 0 d

/-- A complete batch enters stall 0x12 of its binding, or is dropped where four wait. -/
def pushBatch (n : Nat) (x : Batch) (d : Device) : Device :=
  match binding d n with
  | none => d
  | some b => if b.stall.length < 4 then setBinding n (some { b with stall := b.stall ++ [x] }) d else dropBatch n d

/-! ### Lane sources (R396, R402) -/

def orFlag (flags i : Nat) (on : Bool) : Nat := if on then flags ||| 2 ^ i else flags

/-- The open batch of a lane binding is complete; CUT where it closes short. -/
def closeBatch (n : Nat) (cut : Bool) (d : Device) : Device :=
  match binding d n with
  | none => d
  | some b =>
    match b.partialBatch with
    | none => d
    | some x =>
      let x := { x with flags := orFlag (orFlag x.flags 3 cut) 6 d.clk.phaseUnverified }
      pushBatch n x (setBinding n (some { b with partialBatch := none, missing := false }) d)

/-- Lane bindings of a lane that take batches. -/
def laneBindings (d : Device) (code : Nat) : List Nat :=
  d.reed.bindings.filterMap (fun e => match e.2 with
    | some b => if b.kind == .lane && b.source == code && b.state == .running && b.unbinding.isNone then some e.1 else none
    | none => none)

/-- A token that changes the lane, or a lane reset point: the open batches close with CUT (R402). -/
def cutLaneBatches (code : Nat) (d : Device) : Device := (laneBindings d code).foldl (fun d n => closeBatch n true d) d

/-- SYNC: the grid restarts from sample index 0 (R414). -/
def syncLaneBatches (d : Device) : Device :=
  laneCodes.foldl (fun d code =>
    let d := cutLaneBatches code d
    (laneBindings d code).foldl (fun d n => setBinding n ((binding d n).map (fun b => { b with begins := none })) d) d) d

/-- A lane sample lies below the first batch, or between whole batches where a first whole one is due (R396). -/
def belowFirst (b : Binding) (k stamp : Nat) : Bool :=
  b.begins.any (fun s => decide (stamp < s) || stamp % (2 ^ b.batchLog2 * blockOf k) != 0)

/-- A lane sample reaches a binding. -/
def feedLaneBinding (code : Nat) (x : LaneSample) (n : Nat) (d : Device) : Device :=
  let k := laneK d (code / 8) (code % 8)
  let restart := match binding d n with
    | some b => b.missing && x.present
    | none => false
  let d := if restart then closeBatch n true d else d
  match binding d n with
  | none => d
  | some b =>
    if belowFirst b k x.stamp then d
    else
      let o : Batch := b.partialBatch.getD {
        firstIndex := x.stamp, spacing := blockOf k, gen := x.gen, count := 0, flags := 0, exponent := 0,
        info := laneN d (code / 8) (code % 8) 2, data := [] }
      let o := { o with
        count := o.count + 1, data := o.data ++ leInt 2 x.i ++ leInt 2 x.q,
        flags := orFlag (orFlag (orFlag o.flags 0 (!x.present)) 1 x.settling) 2 x.saturated }
      let d := setBinding n (some { b with begins := none, partialBatch := some o, missing := !x.present }) d
      if (x.stamp + blockOf k) % (2 ^ b.batchLog2 * blockOf k) == 0 then closeBatch n false d else d

def feedLaneBindings (code : Nat) (x : LaneSample) (d : Device) : Device :=
  (laneBindings d code).foldl (fun d n => feedLaneBinding code x n d) d

/-! ### Slot sources (R397) -/

/-- E of R397 for values in units of 2^-149: none where every value is 0. -/
def batchExponent (vs : List Int) : Option Int :=
  let m := (vs.map Int.natAbs).foldl max 0
  if m == 0 then none else some (max (-127) ((log2Ceil 400 m : Nat) - 149))

/-- Block-floating value: v times 2^(15 - E), rounded half to even, saturated. -/
def blockFloat (e v : Int) : Int :=
  let s := 15 - e - 149
  clampInt (-32767) 32767 (if 0 ≤ s then v * 2 ^ s.toNat else roundHalfEven v (2 ^ (-s).toNat))

def slotBatch (d : Device) (b : Binding) (x : Spectrum) (bins : List (Int × Int)) : Batch :=
  let vs := ((bins.drop b.firstBin).take (2 ^ b.batchLog2)).flatMap (fun c => [c.1, c.2])
  let e := batchExponent vs
  { firstIndex := x.stamp, spacing := x.centre, gen := x.ctx.gen, count := vs.length / 2,
    flags := orFlag (orFlag (orFlag (orFlag 0 0 (bit x.flags 2)) 1 (bit x.flags 0)) 2 (bit x.flags 1)) 6 d.clk.phaseUnverified,
    exponent := e.getD (-128), info := x.frameNumber,
    data := vs.flatMap (fun v => leInt 2 (match e with
      | some e => blockFloat e v
      | none => 0)) }

/-- A computed spectrum reaches the bindings of its slot. -/
def feedSlotBindings (x : Spectrum) (bins : List (Int × Int)) (d : Device) : Device :=
  (d.reed.bindings.filterMap (fun e => e.2.map (fun b => (e.1, b)))).foldl (fun d e =>
    let b := e.2
    if b.kind == .slot && b.source == x.slot && b.state == .running && b.unbinding.isNone
        && !b.begins.any (fun s => decide (x.stamp < s)) then
      pushBatch e.1 (slotBatch d b x bins) (setBinding e.1 (some { b with begins := none }) d)
    else d) d

/-! ### UNBIND and STOP complete (R409) -/

def coreActive (v : ReedCore) : Bool := v.mode == .running || v.mode == .waiting

/-- Bindings of a core. -/
def coreBindings (d : Device) (core : Nat) : List Nat :=
  d.reed.bindings.filterMap (fun e => match e.2 with
    | some b => if b.core == core then some e.1 else none
    | none => none)

/-- An UNBIND completes when the core has released every batch, or at once where the core does not run. -/
def settleUnbind (n : Nat) (d : Device) : Device :=
  match binding d n with
  | some b =>
    match b.unbinding with
    | some p => if b.held.isEmpty || !coreActive (core d b.core) then complete p .ok [] (setBinding n none d) else d
    | none => d
  | none => d

def settleUnbinds (c : Nat) (d : Device) : Device := (coreBindings d c).foldl (fun d n => settleUnbind n d) d

/-- UNBIND, STOP and an exception clear the output requests of the core (R405). -/
def clearRequests (c : Nat) (d : Device) : Device :=
  (coreBindings d c).foldl (fun d n => setBinding n ((binding d n).map (fun b => { b with request := false })) d) d

/-- The core has left RUNNING and WAITING: its fields swap at once (R412), and unbindings complete. -/
def coreHalted (n : Nat) (d : Device) : Device := settleUnbinds n (swapBlocks [0x0D00 + n] d)

/-- A STOP completes once no xfer and no bput is outstanding. -/
def settleStop (n : Nat) (d : Device) : Device :=
  let v := core d n
  if v.stopping.isEmpty || !v.xfers.isEmpty || !v.outputs.isEmpty || v.heldOutput.isSome then d
  else
    let d := setCore n { drainWrites v with mode := .stopped, wait := .none, stopping := [] } d
    v.stopping.foldl (fun d p => complete p .ok [] d) (coreHalted n d)

/-! ### Delivery (R399, R400) -/

/-- The batch header. -/
def headerBytes (b : Binding) (x : Batch) (buf number dropped : Nat) : List Byte :=
  leBytes 8 x.firstIndex ++ leBytes 8 x.spacing ++ leBytes 4 x.gen.toNat ++ leBytes 4 x.count ++ leBytes 4 dropped
    ++ leBytes 2 x.flags ++ leInt 1 x.exponent ++ leBytes 1 buf ++ leBytes 4 (b.xRegion + buf * bufferBytes b) ++ zeroBytes 4
    ++ leBytes 8 number ++ leBytes 8 x.info ++ zeroBytes 8

/-- The core obtains a batch header: it becomes the current batch, and a d is visible to the next instruction (R403, R385). -/
def giveHeader (n bind buf areg : Nat) (b : Binding) (d : Device) : Device :=
  let v := core d n
  let h := (tget none b.heads buf).getD (0, 0, 0, 0)
  setCore n { v with
    mode := .running, wait := .none, writes := v.writes ++ [(v.position, .addr areg (b.yHdr + 64 * buf))], current := some bind,
    batchIndex := h.1, batchGen := h.2.1, batchFlags := h.2.2.1, batchNumber := h.2.2.2 } d

/-- A binding that has ended, or that UNBIND has stopped (R399). -/
def bindingEnds (b : Binding) : Bool := b.unbinding.isSome || b.state != .running

/-- Header slot of an END: the next one that no held batch uses. -/
def endSlot (b : Binding) : Nat :=
  (((List.range 4).map (fun i => (b.nextBuffer + i) % 4)).find? (fun k => !b.held.contains k)).getD b.nextBuffer

/-- A waiting bget returns: with the next delivered batch, or with END on a binding that has ended. The issue position of bget
lies one below the core's. -/
def takeBatch (n port areg : Nat) (d : Device) : Device :=
  match portBinding d n port with
  | none => d
  | some (i, b) =>
    match b.ready, b.unbinding with
    | buf :: rest, none =>
      let b := { b with ready := rest, held := b.held ++ [buf] }
      let v := core d n
      giveHeader n i buf areg b (setCore n { v with batches := v.batches + 1 } (setBinding i (some b) d))
    | _, _ =>
      if bindingEnds b then
        let buf := endSlot b
        let x : Batch := { firstIndex := 0, spacing := 0, gen := 0, count := 0, flags := 32, exponent := 0, info := 0, data := [] }
        let b := { b with heads := tset none b.heads buf (some (0, 0, 32, b.delivered)) }
        let v := writeRam .y (b.yHdr + 64 * buf) (headerBytes b x buf b.delivered 0) (core d n)
        settleUnbind i (giveHeader n i buf areg b (setCore n v (setBinding i (some b) d)))
      else
        let v := core d n
        setCore n { v with mode := .waiting, wait := .batch port areg } d

/-- A bget that waits on the port of a binding is tried again. -/
def wakeCore (b : Binding) (d : Device) : Device :=
  match (core d b.core).wait with
  | .batch port areg =>
    if port == b.port && (core d b.core).stopping.isEmpty then takeBatch b.core port areg d else d
  | _ => d

/-- The batch engine copies a batch into the next buffer and its header into the header slot. -/
def deliver (n : Nat) (x : Batch) (d : Device) : Device :=
  match binding d n with
  | none => d
  | some b =>
    let buf := b.nextBuffer
    let number := b.delivered + 1
    let x := { x with flags := orFlag x.flags 4 (b.dropped != 0) }
    let v := writeRam .x (b.xRegion + buf * bufferBytes b) x.data (core d b.core)
    let v := writeRam .y (b.yHdr + 64 * buf) (headerBytes b x buf number b.dropped) v
    let b := { b with
      dropped := 0, delivered := number, nextBuffer := (buf + 1) % 4, ready := b.ready ++ [buf],
      ringEnds := tset none b.ringEnds buf x.ringEnd,
      heads := tset none b.heads buf (some (x.firstIndex, x.gen, x.flags, number)) }
    wakeCore b (setCore b.core v (setBinding n (some b) d))

/-- Whole records of a ring from an offset up to a limit and a size: bytes, sequence of the last, and whether the first is too long. -/
def ringRecords (d : Device) (s : Stream) : Nat → Nat → Nat → Nat × Option Nat × Bool
  | 0, _, _ => (0, none, false)
  | fuel + 1, o, room =>
    if s.writeOffset ≤ o then (0, none, false)
    else
      let n := 64 * leNat (ringRead d s (o + 8) 4)
      let q := leNat (ringRead d s (o + 12) 8)
      if n == 0 then (0, none, false)
      else if room < n then (0, none, true)
      else
        let r := ringRecords d s fuel (o + n) (room - n)
        (n + r.1, some (r.2.1.getD q), r.2.2)

/-- A batch of ring or memory bytes; INPUT_GAP where it holds poisoned lines, which are delivered as zeros (R470). -/
def dataBatch (data : List Byte) (bad : Bool) (last : Option (Nat × Nat)) : Batch :=
  { firstIndex := 0, spacing := 0, gen := 0, count := data.length, flags := boolN bad, exponent := 0, info := 0, data := data,
    ringEnd := last }

/-- A batch of a ring or memory source enters stall 0x23, whose source waits while four stand there (R401). -/
def holdBatch (n : Nat) (b : Binding) (x : Batch) (d : Device) : Device :=
  noteMark 0x23 n (b.stall.length + 1) (setBinding n (some { b with stall := b.stall ++ [x] }) d)

/-- A ring source: whole records up to the buffer size; a record longer than the buffer ends the binding, once the batches before it
have been delivered (R396, R398). -/
def formRing (n : Nat) (b : Binding) (d : Device) : Device :=
  let s := stream d b.source
  let r := ringRecords d s (bufferBytes b / 64 + 1) b.position (bufferBytes b)
  match r.2.1 with
  | some q =>
    let stop := b.position + r.1
    holdBatch n { b with position := stop }
      (dataBatch (ringClean d s b.position r.1) (ringPoisoned d s b.position r.1) (some (q, stop))) d
  | none =>
    if r.2.2 && b.stall.isEmpty then
      let b := { b with state := .error }
      wakeCore b (raiseEvent (batchSource (b.core / 8)) 3 (ballIndex d) 0 (setBinding n (some b) d))
    else d

/-- A memory source: the next buffer-size bytes (R396). -/
def formMemory (n : Nat) (b : Binding) (d : Device) : Device :=
  if b.memLen ≤ b.position then d
  else
    let a := b.memAddr + b.position
    holdBatch n { b with position := b.position + bufferBytes b }
      (dataBatch (cleanRead d a (bufferBytes b)) (poisoned d a (bufferBytes b)) none) (freshLoft a d)

/-- Batches of a ring or memory source are formed while the stall has room. -/
def formBatches (n : Nat) : Nat → Device → Device
  | 0, d => d
  | fuel + 1, d =>
    match binding d n with
    | none => d
    | some b =>
      if b.state != .running || b.unbinding.isSome || 4 ≤ b.stall.length then d
      else match b.kind with
        | .ring => formBatches n fuel (formRing n b d)
        | .memory => formBatches n fuel (formMemory n b d)
        | _ => d

/-- A memory binding ends once its last bytes have been delivered (R398). -/
def settleMemory (n : Nat) (d : Device) : Device :=
  match binding d n with
  | none => d
  | some b =>
    if b.kind == .memory && b.state == .running && b.stall.isEmpty && b.memLen ≤ b.position then
      raiseEvent (batchSource (b.core / 8)) 2 (ballIndex d) 0 (setBinding n (some { b with state := .done }) d)
    else d

/-- BATCH_DELIVERY (R399): ring and memory sources form what stall 0x23 takes, and the oldest batch goes into the next buffer, once the
kernel has released it. -/
def batchDelivery (n : Nat) (d : Device) : Device :=
  let d := formBatches n 4 d
  match binding d n with
  | none => d
  | some b =>
    if b.unbinding.isSome || b.ready.contains b.nextBuffer || b.held.contains b.nextBuffer then d
    else match b.stall with
      | x :: rest => settleMemory n (deliver n x (setBinding n (some { b with stall := rest }) d))
      | [] => settleMemory n d

/-- bget releases what the core holds on a port; HOLD keeps the newest (R399). A ring batch is acknowledged (R398). -/
def releaseHeld (i : Nat) (hold : Bool) (d : Device) : Device :=
  match binding d i with
  | none => d
  | some b =>
    let keep := if hold then b.held.drop (b.held.length - 1) else []
    let gone := b.held.take (b.held.length - keep.length)
    let d := gone.foldl (fun d buf => match b.kind, tget none b.ringEnds buf with
      | .ring, some (q, o) => applyAck b.source q o d
      | _, _ => d) d
    setBinding i (some { b with held := keep }) d

/-! ### KERNEL_RUN BIND and UNBIND (R394, R395, R409) -/

/-- Reserved bytes of the KERNEL_RUN parameters. -/
def kernelReserved (p : Packet) : Bool := reservedZero p [(0, 41), (42, 2)] && decide (pByte p 40 < 2)

def bindKind : Nat → BindKind
  | 0 => .lane | 1 => .slot | 2 => .ring | _ => .memory

def bindParamsOk (d : Device) (p : Packet) : Bool :=
  let size := 4 * 2 ^ pByte p 5
  let src := p16 p 6
  kernelReserved p && (decide (pByte p 1 < 128) || pByte p 1 == 255) && decide (pByte p 2 < 32) && decide (pByte p 3 < 4)
    && decide (pByte p 4 < 4) && decide (6 ≤ pByte p 5) && decide (pByte p 5 ≤ 12)
    && p32 p 8 % (4 * size) == 0 && decide (p32 p 8 + 4 * size ≤ 2 ^ 17)
    && p32 p 12 % 64 == 0 && decide (p32 p 12 + 256 ≤ 2 ^ 17)
    && (match bindKind (pByte p 4) with
        | .lane => laneCodes.contains src
        | .slot => decide (src < 16) && decide (p16 p 42 < 2 ^ slotN d src 3)
        | .ring => decide (src < 256)
        | .memory => p64 p 24 % 64 == 0 && decide (0 < p64 p 32) && p64 p 32 % size == 0
            && reachable d .reedBatch false (p64 p 24) (p64 p 32))

def lowestFree (d : Device) : Option Nat := (List.range 128).find? (fun n => (binding d n).isNone)

def sourceReady (d : Device) (kind : BindKind) (src : Nat) : Bool :=
  match kind with
  | .lane => laneEnabled d (src / 8) (src % 8)
  | .slot => slotEnabled d src
  | .ring => isOpen (stream d src) && bit (consumers d src) 0 && !ringBound d src
  | .memory => true

def clusterOn (d : Device) (c : Nat) : Bool := cfgOn d 0x0D (0x80 + c / 8) 1 && tget false d.reed.usable (c / 8)

/-- Sample index from which the binding may begin: the first whole lane batch, or the first spectrum, at or after at_sample or the
acceptance (R396). -/
def bindBoundary (d : Device) (p : Packet) (kind : BindKind) : Nat :=
  let t := if pByte p 40 == 1 then max (p64 p 16) d.sampleIndex else d.sampleIndex
  match kind with
  | .lane =>
    let u := 2 ^ pByte p 5 * laneD d (p16 p 6 / 8) (p16 p 6 % 8)
    ceilDiv t u * u
  | .slot => t
  | _ => 0

def kernelBind (p : Packet) (d : Device) : Device :=
  let kind := bindKind (pByte p 4)
  let src := p16 p 6
  let core := pByte p 2
  if !bindParamsOk d p then complete p .badParam [] d
  else
    let want := if pByte p 1 == 255 then lowestFree d else some (pByte p 1)
    match want with
    | none => complete p .noResource [] d
    | some n =>
      if (binding d n).isSome || (portBinding d core (pByte p 3)).isSome || !clusterOn d core || !sourceReady d kind src then
        complete p .badState [] d
      else
        let c := ratedValues d false (cfgVal d)
        let loads := loftBuffers d c (bindingLoads d c ++ [bindingLoad c kind src (pByte p 5) (p16 p 42)])
        if !loftOk loads then complete p .noResource [] d
        else if !banksOk loads then complete p .budget [] d
        else
          let start := bindBoundary d p kind
          let b : Binding := {
            packet := p, core := core, port := pByte p 3, kind := kind, batchLog2 := pByte p 5, source := src,
            xRegion := p32 p 8, yHdr := p32 p 12, memAddr := p64 p 24, memLen := p64 p 32, firstBin := p16 p 42,
            begins := if kind == .lane || kind == .slot then some start else none,
            position := if kind == .ring then (stream d src).hostOffset else 0 }
          complete p .ok (leBytes 1 n ++ zeroBytes 7 ++ leBytes 8 start) (setBinding n (some b) d)

def kernelUnbind (p : Packet) (d : Device) : Device :=
  let n := pByte p 1
  if !kernelReserved p || decide (127 < n) then complete p .badParam [] d
  else match binding d n with
    | none => complete p .badState [] d
    | some b =>
      if b.unbinding.isSome then complete p .badState [] d
      else
        let b := { b with unbinding := some p, partialBatch := none, stall := [], ready := [], request := false }
        let d := wakeCore b (park p (setBinding n (some b) d))
        settleUnbind n d

/-! ### KERNEL_LOAD (R408) -/

structure ImageSection where
  type : Nat
  target : Nat
  len : Nat
  bytes : List Byte

def ramSize : Nat → Nat
  | 0 => 65536 | 1 => 131072 | 2 => 131072 | _ => 65536

def imageSections (img : List Byte) : List ImageSection :=
  (List.range (getLe img 6 1)).map (fun i =>
    let o := 64 + 16 * i
    let len := getLe img (o + 8) 4
    { type := getLe img o 1, target := getLe img (o + 4) 4, len := len,
      bytes := (img.drop (getLe img (o + 12) 4)).take len })

def sectionsMeet (a b : ImageSection) : Bool :=
  a.type == b.type && decide (a.target < b.target + b.len) && decide (b.target < a.target + a.len)

def anyPair (f : α → α → Bool) : List α → Bool
  | [] => false
  | a :: l => l.any (f a) || anyPair f l

def imageOk (img : List Byte) : Bool :=
  let n := getLe img 6 1
  let ss := imageSections img
  img.take 4 == [0x52#8, 0x4B#8, 0x52#8, 0x4E#8] && getLe img 4 2 == 1 && decide (1 ≤ n) && decide (n ≤ 16)
    && decide (64 + 16 * n ≤ img.length) && getLe img 16 4 == img.length && decide (getLe img 8 2 < 8192)
    && getLe img 20 4 == (crc32c (img.take 20 ++ zeroBytes 4 ++ img.drop 24)).toNat
    && ss.all (fun s => decide (s.type < 4) && s.target % 8 == 0 && decide (s.target + s.len ≤ ramSize s.type)
        && s.bytes.length == s.len)
    && !anyPair sectionsMeet ss

/-- 64-bit words of program bytes from a word address; a word that the section covers in part keeps zeros beyond it. -/
def loadProgram : Nat → Nat → List Byte → Table (BitVec 64) → Table (BitVec 64)
  | 0, _, _, t => t
  | fuel + 1, a, bs, t =>
    if bs.isEmpty then t else loadProgram fuel (a + 1) (bs.drop 8) (tset 0 t a (BitVec.ofNat 64 (getLe bs 0 8)))

def loadSection (v : ReedCore) (s : ImageSection) : ReedCore :=
  match s.type with
  | 0 => { v with program := loadProgram 8192 (s.target / 8) s.bytes v.program }
  | 1 => writeRam .x s.target s.bytes v
  | 2 => writeRam .y s.target s.bytes v
  | _ => writeRam .c s.target s.bytes v

def loadCore (img : List Byte) (v : ReedCore) : ReedCore :=
  (imageSections img).foldl loadSection
    { v with program := [], xRam := [], yRam := [], cRam := [], loaded := true, entry := getLe img 8 2 }

/-- START: registers, flags and pc as R409 says. -/
def startCore (v : ReedCore) : ReedCore :=
  { v with
    mode := .running, vec := [], acc := [], fwd := [], areg := [], mreg := [], vro := 0, loops := [], cache := none, pc := v.entry,
    writes := [], aov := false, sat := false, wait := .none, current := none, batchIndex := 0, batchGen := 0, batchFlags := 0,
    batchNumber := 0, heldOutput := none }

def maskCores (m : Nat) : List Nat := (List.range 32).filter (fun n => bit m n)

def kernelLoad (p : Packet) (d : Device) : Device :=
  let cs := maskCores (p32 p 0)
  let n := p32 p 4
  if !reservedZero p [(0, 17)] || decide (1 < pByte p 16) || decide (n < 80) || !reachable d .cp false (p64 p 8) n then
    complete p .badParam [] d
  else
    let img := memRead d (p64 p 8) n
    if !imageOk img then complete p .badParam [] d
    else if cs.any (fun c => coreActive (core d c)) then complete p .busy [] d
    else if cs.any (fun c => !clusterOn d c) then complete p .badState [] d
    else
      let start := pByte p 16 == 1
      let f (v : ReedCore) : ReedCore := if start then startCore (loadCore img v) else loadCore img v
      complete p .ok [] (cs.foldl (fun d c => setCore c (f (core d c)) d) d)

/-! ### KERNEL_RUN START, STOP, STATUS (R409) -/

def kernelStart (p : Packet) (d : Device) : Device :=
  let n := pByte p 2
  if !kernelReserved p || decide (31 < n) then complete p .badParam [] d
  else
    let v := core d n
    if !v.loaded || coreActive v || !clusterOn d n then complete p .badState [] d
    else complete p .ok [] (setCore n (startCore v) d)

def kernelStop (p : Packet) (d : Device) : Device :=
  let n := pByte p 2
  if !kernelReserved p || decide (31 < n) then complete p .badParam [] d
  else
    let v := core d n
    if v.mode == .faulted then complete p .badState [] d
    else settleStop n (clearRequests n (park p (setCore n { v with stopping := v.stopping ++ [p] } d)))

/-- Core status word (R409). -/
def modeCode : CoreMode → Nat
  | .stopped => 0 | .running => 1 | .waiting => 2 | .exception => 3 | .faulted => 4

def coreStatusWord (d : Device) (n : Nat) : Nat :=
  let v := core d n
  modeCode v.mode + 8 * boolN v.aov + 16 * boolN v.sat + 32 * v.loops.length + 256 * v.vro + 65536 * v.pc + 2 ^ 32 * v.excCause
    + 2 ^ 40 * maskOf 4 (fun p => (portBinding d n p).isSome)

def bindStateCode (b : Binding) : Nat :=
  match b.state with
  | .done => 2
  | .error => 3
  | _ => boolN (b.delivered != 0)

def portStatusBytes (d : Device) (n port : Nat) : List Byte :=
  match portBinding d n port with
  | none => leBytes 1 255 ++ zeroBytes 15
  | some (i, b) => leBytes 1 i ++ leBytes 1 (bindStateCode b) ++ zeroBytes 2 ++ leBytes 4 b.totalDropped ++ leBytes 8 b.delivered

def kernelStatus (p : Packet) (d : Device) : Device :=
  let n := pByte p 2
  if !kernelReserved p || decide (31 < n) then complete p .badParam [] d
  else
    let v := core d n
    let m := p64 p 24
    let reply := leBytes 8 (coreStatusWord d n) ++ (List.range 4).flatMap (portStatusBytes d n)
    complete p .ok reply (setCore n { v with aov := v.aov && !bit m 3, sat := v.sat && !bit m 4 } d)

/-! ### Resets (R414, R415) -/

/-- BLOCK_RESET of a cluster: its cores stop with RAMs kept, stalls are discarded, bindings resume at the next whole batch. -/
def resetCluster (cl : Nat) (d : Device) : Device :=
  let d := (List.range 8).foldl (fun d i =>
    let n := 8 * cl + i
    let v := core d n
    let d := setCore n { drainWrites v with
      mode := .stopped, wait := .none, stopping := [], xfers := [], outputs := [], heldOutput := none } d
    v.stopping.foldl (fun d p => complete p .ok [] d) (coreHalted n (clearRequests n d))) d
  (d.reed.bindings.filterMap (fun e => e.2.map (fun b => (e.1, b)))).foldl (fun d e =>
    let b := e.2
    if b.core / 8 != cl then d
    else setBinding e.1 (some { b with
      stall := [], partialBatch := none, missing := false,
      begins := if b.kind == .lane then
          let u := 2 ^ b.batchLog2 * laneD d (b.source / 8) (b.source % 8)
          some (ceilDiv d.sampleIndex u * u)
        else b.begins }) d) d

/-- SLEEP entry: every binding ends, the clusters lose their content; commands that wait there end ABORTED. -/
def reedSleep (d : Device) : Device :=
  let waits := d.reed.bindings.filterMap (fun e => e.2.bind (·.unbinding)) ++ d.reed.cores.flatMap (fun e => e.2.stopping)
  waits.foldl (fun d p => complete p .aborted [] d)
    { d with reed := { d.reed with bindings := [], cores := [], usable := [] } }

def execKernelLoad (p : Packet) (s : State) : Host.Outcome State Fault Refusal := act (accept p kernelLoad) s
def execKernelBind (p : Packet) (s : State) : Host.Outcome State Fault Refusal := act (accept p kernelBind) s
def execKernelUnbind (p : Packet) (s : State) : Host.Outcome State Fault Refusal := act (accept p kernelUnbind) s
def execKernelStart (p : Packet) (s : State) : Host.Outcome State Fault Refusal := act (accept p kernelStart) s
def execKernelStop (p : Packet) (s : State) : Host.Outcome State Fault Refusal := act (accept p kernelStop) s
def execKernelStatus (p : Packet) (s : State) : Host.Outcome State Fault Refusal := act (accept p kernelStatus) s
def execBatchDelivery (binding : Fin 128) (s : State) : Host.Outcome State Fault Refusal := act (batchDelivery binding.val) s

end Sys2Proof.Machine
end

