-- ==== Sys2Proof/Machine/Reed.lean ====
section
/-! DEFINITION. The instructions of the Reed cores, exceptions, window transfers and output blocks (R384-R393, R399, R403-R406,
R410). A row of an instruction acts on a core whose next instruction it is. -/

namespace Sys2Proof.Machine

/-! ### Exceptions (R410) -/

def coreSource (n : Nat) : Nat := 0x300 + n

/-- A core waits in an xfer, a bput or an xwait: cycles that R412 counts, as it does not those in bget. -/
def waitsBusy (v : ReedCore) : Bool :=
  match v.wait with
  | .none | .batch .. => false
  | .xfers | .xferSlot _ | .outputSlot => true

/-- A wait ends; how many cycles it took is free. An xfer that waited for its place is outstanding (R410). -/
def leaveWait (n : Nat) (d : Device) : Device :=
  let v := core d n
  let v' := { v with wait := .none, xfers := match v.wait with
                       | .xferSlot y => v.xfers ++ [y]
                       | _ => v.xfers }
  if waitsBusy v then takeFresh (setCore n { v' with cyclesBusy := v.cyclesBusy + BitVec.ofNat 64 (Config.waitCycles d.fresh) } d)
  else setCore n v' d

/-- The core runs on behind a wait. -/
def resumeCore (n : Nat) (d : Device) : Device :=
  let d := leaveWait n d
  setCore n { core d n with mode := .running } d

/-- The core stops in a mode with every earlier instruction completed; requests are cleared and unbindings complete. -/
def haltCore (n : Nat) (m : CoreMode) (d : Device) : Device :=
  let d := leaveWait n d
  coreHalted n (clearRequests n (setCore n { drainWrites (core d n) with mode := m } d))

def takeException (n cause : Nat) (d : Device) : Device :=
  let d := haltCore n .exception (setCore n { core d n with excCause := cause } d)
  raiseEvent (coreSource n) 1 (ballIndex d) cause d

/-- A CONTAINED fault of a core (R411): FAULTED until a kernel is loaded again. -/
def faultCore (n : Nat) (d : Device) : Device :=
  haltCore n .faulted (setCore n { core d n with loaded := false } d)

/-! ### Issue -/

/-- Lowest cause among those that apply. -/
def firstCause (l : List (Bool × Nat)) : Option Nat := (l.find? (·.1)).map (·.2)

/-- The core runs, waits for nothing and issues; its next instruction has one of the opcodes. -/
def issues (v : ReedCore) (ops : Nat → Bool) : Bool :=
  v.mode == .running && v.wait == .none && v.stopping.isEmpty && ops (iOp (tget 0 v.program v.pc).toNat)

/-- One instruction of a core: the writes visible at its position have settled; the illegal ones raise exception 0x01. -/
def issue (n : Nat) (ops : Nat → Bool) (body : Nat → ReedCore → Device → Device) (d : Device) : Device :=
  let v := core d n
  if !issues v ops then d
  else
    let w := (tget 0 v.program v.pc).toNat
    let v := settleWrites v.position v
    let d := setCore n v d
    if illegal w then takeException n 1 d else body w v d

/-- The instruction takes its cycles and those of a loop return, its writes join those on their way, and the pc moves past it. -/
def retireCycles (n cycles : Nat) (writes : List (Nat × CoreWrite)) (v : ReedCore) (d : Device) : Device :=
  let r := advance (issueWrites writes cycles v)
  setCore n { r.1 with cyclesBusy := r.1.cyclesBusy + BitVec.ofNat 64 r.2 } d

def retire (n : Nat) (writes : List (Nat × CoreWrite)) (v : ReedCore) (d : Device) : Device := retireCycles n 1 writes v d

/-- Writes conflict at the positions at which they become visible (R388). -/
def clash (v : ReedCore) (writes : List (Nat × CoreWrite)) : Bool := conflicts v.writes (placeWrites v.position writes)

/-- A P-form instruction: its compute operation and up to three moves (R382-R384). -/
def computeIssue (n : Nat) (w : Nat) (v : ReedCore) (d : Device) : Device :=
  let c := compute w v
  let ms := moves w
  let writes := c.writes ++ ms.flatMap (moveWrites v)
  match firstCause [(clash v writes, 2), (ms.any (moveOdd v), 3), (ms.any (moveBeyond v), 4)] with
  | some e => takeException n e d
  | none =>
    retire n writes { v with aov := v.aov || c.aov, sat := v.sat || c.sat,
                             vro := if iOp w == 1 then (v.vro + 1) % 32 else v.vro } d

/-- An L-form instruction that only writes registers. -/
def registerIssue (n : Nat) (writes : Nat → ReedCore → List (Nat × CoreWrite)) (odd : Nat → ReedCore → Bool) (w : Nat)
    (v : ReedCore) (d : Device) : Device :=
  match firstCause [(clash v (writes w v), 2), (odd w v, 3)] with
  | some e => takeException n e d
  | none => retire n (writes w v) v d

def ldaAddr (w : Nat) (v : ReedCore) : Nat := (aReg v (iA w) + bits w 0 17) % 2 ^ 17

def setaWrites (w : Nat) (_ : ReedCore) : List (Nat × CoreWrite) := [(1, .addr (iD w) (bits w 0 17))]
def setmWrites (w : Nat) (_ : ReedCore) : List (Nat × CoreWrite) := [(1, .modifier (iD w) (bits w 0 23))]

def addaWrites (w : Nat) (v : ReedCore) : List (Nat × CoreWrite) :=
  [(1, .addr (iD w) (wrapAddr (aReg v (iD w)) (signed 18 (bits w 0 18)) (modLength (mReg v (iD w)))))]

def ldaWrites (w : Nat) (v : ReedCore) : List (Nat × CoreWrite) := [(3, .addr (iD w) (ramNat v .y (ldaAddr w v) 4 % 2 ^ 17))]

/-- Hardware loop (R391). -/
def loopIssue (n : Nat) (w : Nat) (v : ReedCore) (d : Device) : Device :=
  match flowException w v with
  | some e => takeException n e d
  | none => setCore n (pushLoop w (issueWrites [] 1 v)) d

/-- Branch (R385, R390, R391). -/
def branchIssue (n : Nat) (w : Nat) (v : ReedCore) (d : Device) : Device :=
  match flowException w v with
  | some e => takeException n e d
  | none =>
    if branchTaken w v then setCore n (branchTo (bits w 0 13) (issueWrites [] 4 v)) d else retire n [] v d

/-- bget (R399): the fields of the core swap, the held batch is released, and the next is taken or awaited. -/
def bgetIssue (n : Nat) (w : Nat) (v : ReedCore) (d : Device) : Device :=
  let port := bits (iX w) 0 2
  if clash v [(1, .addr (iD w) 0)] then takeException n 2 d
  else match portBinding d n port with
    | none => takeException n 0x0A d
    | some (i, _) =>
      let d := swapBlocks [0x0D00 + n] (retireCycles n 0 [] v d)
      takeBatch n port (iD w) (releaseHeld i (bit (iX w) 2) d)

/-- The output block at a Y RAM address (R403). -/
def outputOf (v : ReedCore) (n a bind : Nat) : CoreOutput :=
  let len := ramNat v .y a 2
  { binding := bind,
    firstIndex := unsigned 64 ((v.batchIndex : Int) + signed 32 (ramNat v .y (a + 4) 4)),
    gen := v.batchGen,
    payload := leBytes 1 bind ++ leBytes 1 n
      ++ leBytes 2 (boolN (bit v.batchFlags 0) + 2 * boolN (bit v.batchFlags 4) + 4 * boolN (bit v.batchFlags 3))
      ++ leBytes 2 (ramNat v .y (a + 2) 2) ++ leBytes 2 len ++ leBytes 8 v.batchNumber ++ ramBytes v .y (a + 16) len }

/-- bput (R390, R403): it waits while four are outstanding. Before the first bget there is no binding and no record. -/
def bputIssue (n : Nat) (w : Nat) (v : ReedCore) (d : Device) : Device :=
  let a := aReg v (iD w)
  let len := ramNat v .y a 2
  match firstCause [(a % 2 == 1, 3), (len == 0 || decide (4040 < len), 9)] with
  | some e => takeException n e d
  | none =>
    let d := retire n [] v d
    match v.current with
    | none => d
    | some b =>
      let o := outputOf v n a b
      let u := core d n
      if u.outputs.length < 4 then setCore n { u with outputs := u.outputs ++ [o] } d
      else setCore n { u with heldOutput := some o, wait := .outputSlot, mode := .waiting } d

/-- evt (R404). -/
def evtIssue (n : Nat) (w : Nat) (v : ReedCore) (d : Device) : Device :=
  let a := aReg v (iD w)
  if a % 2 == 1 then takeException n 3 d
  else
    let k := bits (iX w) 0 1
    let d := retire n [] v d
    if v.current == some (trigN d (0x41 + k)) then
      postEvent (pulseEvent (42 + k) (ramNat v .y a 8) (some (ramNat v .y (a + 8) 2)) false) d
    else d

/-- sig (R405). -/
def sigIssue (n : Nat) (w : Nat) (v : ReedCore) (d : Device) : Device :=
  let d := retire n [] v d
  match v.current with
  | none => d
  | some b => setBinding b ((binding d b).map (fun x => if x.core == n then { x with request := bit (iX w) 0 } else x)) d

/-! ### Window transfers (R406, R412) -/

def windowField (d : Device) (n code : Nat) : Nat := cfgN d 0x0D n code

/-- The transfer that a descriptor names, if every check of R406 holds. -/
def xferOf (d : Device) (n w : Nat) (v : ReedCore) : Option CoreXfer :=
  let a := aReg v (iD w)
  let win := bits (iX w) 0 2
  let toWin := bit (iX w) 2
  let off := ramNat v .y a 8
  let ram := ramNat v .y (a + 8) 4
  let len := ramNat v .y (a + 12) 4
  if off % 64 == 0 && ram % 64 == 0 && len % 64 == 0 && decide (64 ≤ len) && decide (len ≤ 65536)
      && decide (off + len ≤ windowField d n (0x14 + win)) && decide (ram + len ≤ 131072)
      && bit (windowField d n (0x18 + win)) (boolN toWin) then
    some { addr := windowField d n (0x10 + win) + off, ram := ram, length := len, toWindow := toWin, yRam := bit (iX w) 3 }
  else none

/-- xfer (R390, R406): it waits while four are outstanding. -/
def xferIssue (n : Nat) (w : Nat) (v : ReedCore) (d : Device) : Device :=
  if aReg v (iD w) % 2 == 1 then takeException n 3 d
  else match xferOf d n w v with
    | none => takeException n 5 d
    | some x =>
      let d := retire n [] v d
      let u := core d n
      if u.xfers.length < 4 then setCore n { u with xfers := u.xfers ++ [x] } d
      else setCore n { u with wait := .xferSlot x, mode := .waiting } d

/-- xwait (R385). -/
def xwaitIssue (n : Nat) (_ : Nat) (v : ReedCore) (d : Device) : Device :=
  let d := retire n [] v d
  if v.xfers.isEmpty then d else setCore n { core d n with wait := .xfers, mode := .waiting } d

/-- stop (R385). -/
def stopIssue (n : Nat) (_ : Nat) (v : ReedCore) (d : Device) : Device :=
  let d := retire n [] v d
  let d := coreHalted n (setCore n { drainWrites (core d n) with mode := .stopped } d)
  raiseEvent (coreSource n) 2 (ballIndex d) 0 d

/-- The bytes of a transfer move (R406); a poisoned line is read as zeros, and the xfer completes normally (R470). -/
def moveBytes (n : Nat) (x : CoreXfer) (d : Device) : Device :=
  let r := if x.yRam then CoreRam.y else CoreRam.x
  let v := settleWrites (core d n).position (core d n)
  if x.toWindow then
    (if reachable d .reedWindow true x.addr x.length then busWrite x.addr (ramBytes v r x.ram x.length) d else d)
  else freshLoft x.addr (setCore n (writeRam r x.ram (cleanRead d x.addr x.length) v) d)

/-- WINDOW_TRANSFER_COMPLETE: the oldest transfer of the core completes; a waiting xfer takes its place, an xwait returns when none
is left, and a STOP completes. -/
def windowTransferComplete (n : Nat) (d : Device) : Device :=
  match (core d n).xfers with
  | [] => d
  | x :: rest =>
    let d := moveBytes n x d
    let d := setCore n { core d n with xfers := rest } d
    settleStop n (match (core d n).wait with
      | .xferSlot _ => resumeCore n d
      | .xfers => if rest.isEmpty then resumeCore n d else d
      | _ => d)

/-- OUTPUT_BLOCK_COMPLETE (R403): the oldest outstanding bput forms its KERNEL_OUT record; a waiting bput takes its place. -/
def outputBlockComplete (n : Nat) (d : Device) : Device :=
  match (core d n).outputs with
  | [] => d
  | o :: rest =>
    let v := core d n
    let d := setCore n { v with outputs := rest ++ v.heldOutput.toList, heldOutput := none } d
    let d := if v.wait == .outputSlot then resumeCore n d else d
    let d := emitRec { type := 0x0D, source := bindingSource o.binding, flags := headerFlags d [], firstIndex := o.firstIndex,
                       generation := o.gen, payload := o.payload } d
    settleStop n d

/-- WATCHDOG (R410): wdog cycles outside bget without a bget returning. -/
def watchdog (n : Nat) (d : Device) : Device :=
  let v := core d n
  let inBget := match v.wait with
    | .batch .. => true
    | _ => false
  if cfgN d 0x0D n 1 != 0 && coreActive v && !inBget then
    let d := takeException n 6 (setCore n { v with stopping := [] } d)
    v.stopping.foldl (fun d p => complete p .ok [] d) d
  else d

/-! ### Meanings -/

/-- nop, and the reserved opcodes, which are illegal (R386). -/
def reservedOp (op : Nat) : Bool := op == 0 || (decide (0x15 < op) && decide (op < 0x30)) || decide (0x3C < op)

def execReedNop (core : Fin 32) (s : State) : Host.Outcome State Fault Refusal :=
  act (issue core.val reservedOp (computeIssue core.val)) s
def execVstep (core : Fin 32) (s : State) : Host.Outcome State Fault Refusal :=
  act (issue core.val (· == 0x01) (computeIssue core.val)) s
def execVmac (core : Fin 32) (s : State) : Host.Outcome State Fault Refusal :=
  act (issue core.val (· == 0x02) (computeIssue core.val)) s
def execVmul (core : Fin 32) (s : State) : Host.Outcome State Fault Refusal :=
  act (issue core.val (· == 0x03) (computeIssue core.val)) s
def execVmacb (core : Fin 32) (s : State) : Host.Outcome State Fault Refusal :=
  act (issue core.val (· == 0x04) (computeIssue core.val)) s
def execVcmac (core : Fin 32) (s : State) : Host.Outcome State Fault Refusal :=
  act (issue core.val (· == 0x05) (computeIssue core.val)) s
def execVcmul (core : Fin 32) (s : State) : Host.Outcome State Fault Refusal :=
  act (issue core.val (· == 0x06) (computeIssue core.val)) s
def execVpwr (core : Fin 32) (s : State) : Host.Outcome State Fault Refusal :=
  act (issue core.val (· == 0x07) (computeIssue core.val)) s
def execAccclr (core : Fin 32) (s : State) : Host.Outcome State Fault Refusal :=
  act (issue core.val (· == 0x08) (computeIssue core.val)) s
def execAccadd (core : Fin 32) (s : State) : Host.Outcome State Fault Refusal :=
  act (issue core.val (· == 0x09) (computeIssue core.val)) s
def execAccsum (core : Fin 32) (s : State) : Host.Outcome State Fault Refusal :=
  act (issue core.val (· == 0x0A) (computeIssue core.val)) s
def execVrnd (core : Fin 32) (s : State) : Host.Outcome State Fault Refusal :=
  act (issue core.val (· == 0x0B) (computeIssue core.val)) s
def execVadd (core : Fin 32) (s : State) : Host.Outcome State Fault Refusal :=
  act (issue core.val (· == 0x0C) (computeIssue core.val)) s
def execVsub (core : Fin 32) (s : State) : Host.Outcome State Fault Refusal :=
  act (issue core.val (· == 0x0D) (computeIssue core.val)) s
def execVmax (core : Fin 32) (s : State) : Host.Outcome State Fault Refusal :=
  act (issue core.val (· == 0x0E) (computeIssue core.val)) s
def execVmin (core : Fin 32) (s : State) : Host.Outcome State Fault Refusal :=
  act (issue core.val (· == 0x0F) (computeIssue core.val)) s
def execVshr (core : Fin 32) (s : State) : Host.Outcome State Fault Refusal :=
  act (issue core.val (· == 0x10) (computeIssue core.val)) s
def execVshl (core : Fin 32) (s : State) : Host.Outcome State Fault Refusal :=
  act (issue core.val (· == 0x11) (computeIssue core.val)) s
def execValign (core : Fin 32) (s : State) : Host.Outcome State Fault Refusal :=
  act (issue core.val (· == 0x12) (computeIssue core.val)) s
def execVmov (core : Fin 32) (s : State) : Host.Outcome State Fault Refusal :=
  act (issue core.val (· == 0x13) (computeIssue core.val)) s
def execVbcast (core : Fin 32) (s : State) : Host.Outcome State Fault Refusal :=
  act (issue core.val (· == 0x14) (computeIssue core.val)) s
def execVconj (core : Fin 32) (s : State) : Host.Outcome State Fault Refusal :=
  act (issue core.val (· == 0x15) (computeIssue core.val)) s
def execSeta (core : Fin 32) (s : State) : Host.Outcome State Fault Refusal :=
  act (issue core.val (· == 0x30) (registerIssue core.val setaWrites (fun _ _ => false))) s
def execSetm (core : Fin 32) (s : State) : Host.Outcome State Fault Refusal :=
  act (issue core.val (· == 0x31) (registerIssue core.val setmWrites (fun _ _ => false))) s
def execAdda (core : Fin 32) (s : State) : Host.Outcome State Fault Refusal :=
  act (issue core.val (· == 0x32) (registerIssue core.val addaWrites (fun _ _ => false))) s
def execLda (core : Fin 32) (s : State) : Host.Outcome State Fault Refusal :=
  act (issue core.val (· == 0x33) (registerIssue core.val ldaWrites (fun w v => ldaAddr w v % 4 != 0))) s
def execLoop (core : Fin 32) (s : State) : Host.Outcome State Fault Refusal :=
  act (issue core.val (· == 0x34) (loopIssue core.val)) s
def execBr (core : Fin 32) (s : State) : Host.Outcome State Fault Refusal :=
  act (issue core.val (· == 0x35) (branchIssue core.val)) s
def execBget (core : Fin 32) (s : State) : Host.Outcome State Fault Refusal :=
  act (issue core.val (· == 0x36) (bgetIssue core.val)) s
def execBput (core : Fin 32) (s : State) : Host.Outcome State Fault Refusal :=
  act (issue core.val (· == 0x37) (bputIssue core.val)) s
def execEvt (core : Fin 32) (s : State) : Host.Outcome State Fault Refusal :=
  act (issue core.val (· == 0x38) (evtIssue core.val)) s
def execSig (core : Fin 32) (s : State) : Host.Outcome State Fault Refusal :=
  act (issue core.val (· == 0x39) (sigIssue core.val)) s
def execXfer (core : Fin 32) (s : State) : Host.Outcome State Fault Refusal :=
  act (issue core.val (· == 0x3A) (xferIssue core.val)) s
def execXwait (core : Fin 32) (s : State) : Host.Outcome State Fault Refusal :=
  act (issue core.val (· == 0x3B) (xwaitIssue core.val)) s
def execStop (core : Fin 32) (s : State) : Host.Outcome State Fault Refusal :=
  act (issue core.val (· == 0x3C) (stopIssue core.val)) s
def execWindowTransferComplete (core : Fin 32) (s : State) : Host.Outcome State Fault Refusal :=
  act (windowTransferComplete core.val) s
def execOutputBlockComplete (core : Fin 32) (s : State) : Host.Outcome State Fault Refusal :=
  act (outputBlockComplete core.val) s
def execWatchdog (core : Fin 32) (s : State) : Host.Outcome State Fault Refusal := act (watchdog core.val) s

end Sys2Proof.Machine
end

