-- ==== Sys2Proof/Machine/LaneFlow.lean ====
section
/-! DEFINITION. LANE_SAMPLE and FRAME_COMPUTE: the samples of a lane and the spectra of a slot reach their consumers (R21, R128-R134,
R151, R167, R168). -/

namespace Sys2Proof.Machine

/-- Stall 0x04 takes a lane sample (R19, R21). -/
def feedRecordPath (ch l : Nat) (x : LaneSample) (d : Device) : Device :=
  let v := laneAt d ch l
  let r := rtPush (laneK d ch l) 64 64 x v.recStall
  let d := setLane ch l { v with recStall := r.1 } d
  let d := match r.2.1 with
    | some f => gapFor 0x01 f (x.stamp - f) d.cfg.generation [ch] (fun s => s == laneSource ch l) d
    | none => d
  if r.2.2 then raiseFault (plainFault (laneFault ch l) 1 1 0x04) d else d

/-- Stall 0x05 takes a lane sample, and the history buffer what the stall holds (R19, R21, R134). -/
def feedHistory (ch l : Nat) (x : LaneSample) (d : Device) : Device :=
  let m := laneN d ch l 6
  if m == 0 then d
  else
    let k := laneK d ch l
    let r := rtPush k 64 64 x (laneAt d ch l).histStall
    let d := noteStall 0x05 (laneKey ch l) (setLane ch l { laneAt d ch l with histStall := r.1 } d)
    let d := match r.2.1 with
      | some f => gapFor 0x01 f (x.stamp - f) d.cfg.generation [ch] (fun s => s == laneSource ch l) d
      | none => d
    let d := if r.2.2 then raiseFault (plainFault (laneFault ch l) 1 1 0x05) d else d
    let v := laneAt d ch l
    setLane ch l (v.histStall.items.foldl (fun v y => histWrite k m y v) { v with histStall := { v.histStall with items := [] } }) d

/-- The record path of a lane reads stall 0x04 unless it is off or reads the history buffer (R134, R139). -/
def recordPathTakes (d : Device) (ch l : Nat) : Bool :=
  let r := recSettings d ch l
  r.mode != 0 && !(r.gate == 1 && r.hist != 0)

/-- LANE_SAMPLE: the next sample of a lane is formed and reaches the history buffer, the record path, the slots, the envelope units,
the kernel bindings and the measurements. -/
def laneSample (ch l : Nat) (d : Device) : Device :=
  if !laneReady d ch l then d
  else
    let r := computeSample ch l d
    let x := r.1
    let d := feedHistory ch l x r.2
    let d := if recordPathTakes d ch l then feedRecordPath ch l x d else d
    let d := (boundSlots d ch l x.stamp).foldl (fun d key => feedSlot key x d) d
    let d := feedEnv ch l (boundEnv d ch l x.stamp) x d
    trimBeats ch (readMeasurements ch l (feedLaneBindings (laneKey ch l) x d))

/-- Enabled density maps of a slot (R239). -/
def boundMaps (d : Device) (key : Nat) : List Nat :=
  (List.range 2).filterMap (fun i =>
    let m := key / 4 * 2 + i
    if mapN d m 1 == 1 && mapN d m 2 == key % 4 then some m else none)

/-- A spectrum, computed or not, reaches stalls 0x06 and 0x07 (R167). -/
def deliverSpectrum (key : Nat) (x : Spectrum) (d : Device) : Device :=
  let d := feedFrq key (boundFrq d key x.stamp) x d
  (boundMaps d key).foldl (fun d m => feedMap m x d) d

/-- FRAME_COMPUTE: the frame of the slot that the engine takes next is computed, or skipped (R151, R168), and its spectrum reaches stalls
0x06, 0x07 and 0x12. -/
def frameCompute (key : Nat) (d : Device) : Device :=
  match nextFrame d key with
  | none => d
  | some (f, c) =>
    let v := slotAt d key
    if !frameComplete v c f || romStops d key c || !frameTurn d key then d
    else if !frameWhole v c f then deliverSpectrum key (skippedSpectrum key c f) (skipFrame key c f d)
    else
      let r := computeFrame key c f d
      feedSlotBindings r.1 r.2.1 (deliverSpectrum key r.1 r.2.2)

def execLaneSample (ch : Fin 4) (lane : Fin 5) (s : State) : Host.Outcome State Fault Refusal :=
  act (laneSample ch.val lane.val) s
def execFrameCompute (ch : Fin 4) (slot : Fin 4) (s : State) : Host.Outcome State Fault Refusal :=
  act (frameCompute (slotKey ch.val slot.val)) s

end Sys2Proof.Machine
end

