-- ==== Sys2Proof/Machine/Yard.lean ====
section
/-! DEFINITION. The Yard memory controller: scheduling, ECC and poison, scrub, refresh, replay, population (15_yard_memory.md), and the
Loft scrub (R38, R571, R572). -/

namespace Sys2Proof.Machine

def yardChannel (d : Device) (n : Nat) : YardChannel := tget {} d.yard.channels n

def setYardChannel (n : Nat) (v : YardChannel) (d : Device) : Device :=
  { d with yard := { d.yard with channels := tset {} d.yard.channels n v } }

def yardN (d : Device) (code : Nat) : Nat := cfgN d 0x0E 0 code

def yardSource (n : Nat) : Nat := 0x380 + n

/-! ### Interleave (R464) -/

/-- Channel and channel address of a Yard address. -/
def yardPlace (kept : List Nat) (a : Nat) : Nat × Nat :=
  let off := a - yardBase
  let u := off / 256
  (kept.getD (u % kept.length) 0, u / kept.length * 256 + off % 256)

def subchannelOf (chAddr : Nat) : Nat := bits chAddr 6 1

/-- Device address of a channel address. -/
def yardAddress (kept : List Nat) (ch chAddr : Nat) : Nat :=
  yardBase + (chAddr / 256 * kept.length + kept.findIdx (· == ch)) * 256 + chAddr % 256

/-! ### Faults (R482, R577) -/

/-- What the controller makes of a burst: ECC result, symbol position and number of corrected symbols, and wrong data delivered. -/
structure BurstResult where
  ecc : Ecc
  position : Nat
  symbols : Nat
  wrong : Bool
  deriving DecidableEq, Repr

/-- What one codeword decodes to (R468): none for a zero syndrome, else the position of its single-symbol error, if it has one. Two wrong
symbols never give a zero syndrome. -/
def codewordResult (fresh : Nat) (e : BurstError) (c : Fin 8) : Option (Option Nat) :=
  match ((e.filter (fun x => x.1 == c)).map (fun x => x.2.val)).eraseDups with
  | [] => none
  | [p] => some (some p)
  | l =>
    let r := Config.codewordOf fresh c.val
    if r == 0 && l.length != 2 then none else if 0 < r ∧ r ≤ 10 then some (some (r - 1)) else some none

/-- A burst is corrected when every codeword with a non-zero syndrome decodes to an error at one common position (R468). -/
def burstResult (fresh : Nat) (e : BurstError) : BurstResult :=
  let several := (List.finRange 8).any (fun c => decide (1 < ((e.filter (fun x => x.1 == c)).map (fun x => x.2.val)).eraseDups.length))
  match (List.finRange 8).filterMap (codewordResult fresh e) with
  | [] => { ecc := .clean, position := 0, symbols := 0, wrong := several }
  | some p :: rs =>
    if rs.all (fun r => r == some p) then { ecc := .corrected, position := p, symbols := rs.length + 1, wrong := several }
    else { ecc := .uncorrectable, position := Config.eccField 0 fresh, symbols := 0, wrong := false }
  | none :: _ => { ecc := .uncorrectable, position := Config.eccField 0 fresh, symbols := 0, wrong := false }

/-- Bytes of a line as a burst delivers them. -/
def burstData (fresh : Nat) (r : BurstResult) (bs : List Byte) : List Byte :=
  if r.wrong then (List.range bs.length).map (Config.miscorrected fresh) else bs

/-- Detail of a Yard fault (R577); the DRAM position is that of the symbol (R468). -/
def yardDetail (ch chAddr : Nat) (b : BurstResult) : List Byte :=
  leBytes 1 ch ++ leBytes 1 (subchannelOf chAddr) ++ leBytes 1 (Config.dramField 0 chAddr) ++ leBytes 1 (Config.dramField 1 chAddr)
    ++ leBytes 1 (Config.dramField 2 chAddr) ++ leBytes 1 b.position ++ zeroBytes 2
    ++ leBytes 4 (Config.dramField 3 chAddr) ++ leBytes 2 (Config.dramField 4 chAddr) ++ leBytes 1 b.symbols
    ++ zeroBytes 1

def lineFault (ch kind cls addr master access : Nat) (b : BurstResult) (d : Device) : Device :=
  raiseFault { source := yardSource ch, kind := kind, cls := cls, address := addr, master := master, access := access,
               detail := yardDetail ch (yardPlace d.yard.kept addr).2 b } d

/-- A corrected error is counted, and its rate reported once per hour (R469). -/
def countCorrected (ch : Nat) (d : Device) : Device :=
  let v := yardChannel d ch
  let h := v.hourCount + 1
  let due := decide (yardN d 5 ≤ h) && !v.hourEvent
  let d := setYardChannel ch { v with ceCount := v.ceCount + 1, hourCount := h, hourEvent := v.hourEvent || due } d
  if due then raiseEvent (yardSource ch) 1 (ballIndex d) 0 d else d

/-- An uncorrectable read is counted (R470). -/
def countUncorrectable (ch addr : Nat) (d : Device) : Device :=
  let v := yardChannel d ch
  setYardChannel ch { v with ueCount := v.ueCount + 1, lastUe := addr } d

/-- What the check bytes of a line give: a stored poison mark reads as uncorrectable (R470). -/
def lineResult (d : Device) (addr : Nat) (e : BurstError) : BurstResult :=
  if poisoned d addr 64 then { ecc := .uncorrectable, position := Config.eccField 0 d.fresh, symbols := 0, wrong := false }
  else burstResult d.fresh e

/-! ### Scheduler (R465-R467, R472, R473) -/

/-- Service class of a master, by its source ID (R465): 0 the stream gatherer, the snapshot writer, the colouriser and scan-out; 1 the
recorder; 2 the transfer channels, the Reed clusters and windows, a host through a BAR and the CP; 3 the patrol scrub of a channel. No
other block issues Yard requests. -/
def masterClass (m : Nat) : Option Nat :=
  if m == 0x200 || m == 0x188 || m == 0x18A || m == 0x190 then some 0
  else if 0x280 ≤ m ∧ m ≤ 0x28F then some 1
  else if m == 0x000 ∨ m == 0x3FF ∨ (0x240 ≤ m ∧ m ≤ 0x27F) ∨ (0x300 ≤ m ∧ m ≤ 0x33F) then some 2
  else if 0x380 ≤ m ∧ m ≤ 0x38B then some 3
  else none

def reqClass (r : YardReq) : Nat := (masterClass r.master).getD 3

/-- Service class at the scheduler: promoted requests stand one class higher (R39). -/
def effectiveClass (r : YardReq) : Nat := if r.promoted then reqClass r - 1 else reqClass r

/-- Age limit of a class in ns (R466, R478). -/
def ageLimit (d : Device) (cls : Nat) : Nat := yardN d (0x0F + cls) * 1000

/-- 0.5 % of the channel's peak in bytes (R38, R466). -/
def scrubShare (d : Device) (ch : Nat) : Nat := channelPeak (yardChannel d ch).speed / 200

def scrubSpent (d : Device) (ch : Nat) : Nat :=
  let b := (yardChannel d ch).scrubBytes
  if b.2 == d.time / 1000000000 then b.1 else 0

def channelServes (d : Device) (ch : Nat) : Bool :=
  let v := yardChannel d ch
  v.trained && !v.failed && !d.yard.selfRefresh

/-- A request may issue: no replay holds its subchannel, no older request of its class, promoted or not, goes to its address (R466,
R467), a scrub read keeps its share, and an over-temperature channel holds classes 1 to 3 back at every second opportunity. -/
def requestReady (d : Device) (ch : Nat) (older : List YardReq) (r : YardReq) : Bool :=
  let v := yardChannel d ch
  (tget none v.replay (subchannelOf (yardPlace d.yard.kept r.addr).2)).isNone
    && !older.any (fun o => (effectiveClass o == effectiveClass r || reqClass o == reqClass r) && o.addr / 64 == r.addr / 64)
    && (reqClass r != 3 || decide (scrubSpent d ch < scrubShare d ch))
    && (reqClass r == 0 || !v.overTemp || !v.yielded)

/-- Ready requests with their places, oldest first. -/
def readyList (d : Device) (ch : Nat) : List YardReq → List YardReq → Nat → List (Nat × YardReq)
  | _, [], _ => []
  | older, r :: rs, i =>
    (if requestReady d ch older r then [(i, r)] else []) ++ readyList d ch (older ++ [r]) rs (i + 1)

/-- The highest class, then an open row, unless an older promoted request stands in the class (R481), then the oldest. -/
def pickRequest (l : List (Nat × YardReq)) : Option (Nat × YardReq) :=
  let best := (l.map (fun x => effectiveClass x.2)).foldl min 4
  let c := l.filter (fun x => effectiveClass x.2 == best)
  match c.find? (fun x => x.2.rowHit) with
  | some x => some (((c.takeWhile (fun y => y.1 != x.1)).find? (fun y => y.2.promoted)).getD x)
  | none => c.head?

/-- Data read for a master's line goes to its oldest read of that line. -/
def fillRead (master line : Nat) (x : List Byte × Bool) : List YardRead → List YardRead
  | [] => []
  | r :: rs =>
    if r.master == master && r.line == line && r.data.isNone then { r with data := some x } :: rs else r :: fillRead master line x rs

/-- Reads return to their master in the order of issue (R467): the reads that still wait, and the last data returned. -/
def returnReads (master : Nat) : List YardRead → List YardRead × Option (List Byte × Bool)
  | [] => ([], none)
  | r :: rs =>
    if r.master != master then
      let x := returnReads master rs
      (r :: x.1, x.2)
    else match r.data with
      | none => (r :: rs, none)
      | some b =>
        let x := returnReads master rs
        (x.1, some (x.2.getD b))

/-- A channel hands the data of a line to a master. -/
def returnLine (master line : Nat) (x : List Byte × Bool) (d : Device) : Device :=
  let r := returnReads master (fillRead master line x d.yard.reads)
  { d with yard := { d.yard with
    reads := r.1, returned := match r.2 with
      | some b => tset ([], false) d.yard.returned master b
      | none => d.yard.returned } }

/-- A command enters the replay buffer of its subchannel, which keeps the last 64 (R474). -/
def recordCommand (ch a : Nat) (c : DramCommand) (d : Device) : Device :=
  let v := yardChannel d ch
  let sub := subchannelOf (yardPlace d.yard.kept a).2
  let l := tget [] v.recent sub ++ [c]
  setYardChannel ch { v with recent := tset [] v.recent sub (l.drop (l.length - 64)) } d

/-- One request reaches the DRAM. -/
def serveRequest (ch : Nat) (r : YardReq) (e : BurstError) (d : Device) : Device :=
  let line := r.addr / 64 * 64
  match r.data with
  | some bs =>
    let bs := bs.take (64 - r.addr % 64)
    recordCommand ch line { addr := r.addr, data := some bs, arrived := true } (memWrite r.addr bs d)
  | none =>
    let b := lineResult d line e
    let x := burstData d.fresh b (memRead d line 64)
    let d := recordCommand ch line { addr := line, data := none, arrived := b.ecc != .uncorrectable } (takeFresh d)
    let v := yardChannel d ch
    let d := setYardChannel ch { v with
      scrubBytes := if reqClass r == 3 then (scrubSpent d ch + 64, d.time / 1000000000) else v.scrubBytes } d
    let d := returnLine r.master line (x, b.ecc == .uncorrectable) d
    match b.ecc with
    | .clean => d
    | .corrected => countCorrected ch (lineFault ch 1 0 line r.master 1 b d)
    | .uncorrectable => countUncorrectable ch line (lineFault ch 2 1 line r.master 1 b (setPoison line d))

/-- Requests of the operand that lie on the channel, up to the room of stall 0x25; the others keep waiting at their masters. -/
def admitRequests (ch : Nat) (l : List YardReq) (d : Device) : Device :=
  let v := yardChannel d ch
  let mine := l.filter (fun r => regionOf r.addr == .yard && decide (r.addr < yardBase + yardBytes d)
    && (yardPlace d.yard.kept r.addr).1 == ch && (masterClass r.master).isSome)
  let mine := (mine.map (fun r => { r with promoted := false, since := d.time })).take (256 - v.queue.length)
  let reads := (mine.filter (fun r => r.data.isNone)).map (fun r => { master := r.master, line := r.addr / 64 * 64 : YardRead })
  setYardChannel ch { v with queue := v.queue ++ mine } { d with yard := { d.yard with reads := d.yard.reads ++ reads } }

/-- Postponed refreshes issue before any further request once the limit is reached or no class 0 request is ready (R472). -/
def catchUp (ch : Nat) (d : Device) : Device :=
  let v := yardChannel d ch
  let due := v.postponed.foldl (fun n e => n + e.2) 0
  if due == 0 || !v.replay.isEmpty then d
  else if v.postponed.any (fun e => decide (4 ≤ e.2)) || !(readyList d ch [] v.queue 0).any (fun x => reqClass x.2 == 0) then
    setYardChannel ch { v with postponed := [], refreshes := v.refreshes + due } d
  else d

/-- YARD_REQUEST: requests arrive and the scheduler issues one. -/
def yardRequest (ch : Nat) (arriving : List YardReq) (e : BurstError) (d : Device) : Device :=
  if !channelServes d ch then d
  else
    let d := catchUp ch (admitRequests ch arriving d)
    let v := yardChannel d ch
    match pickRequest (readyList d ch [] v.queue 0) with
    | none => setYardChannel ch { v with yielded := false } d
    | some (i, r) =>
      serveRequest ch r e (setYardChannel ch { v with
        queue := v.queue.eraseIdx i, issued := v.issued + 1, yielded := reqClass r != 0 } d)

/-- AGE_PROMOTION (R39, R466): the request has waited longer than the age limit of its class. -/
def agePromotion (ch i : Nat) (d : Device) : Device :=
  let v := yardChannel d ch
  match v.queue[i]? with
  | none => d
  | some r =>
    if reqClass r == 0 || r.promoted || decide (d.time ≤ r.since + ageLimit d (reqClass r)) then d else setYardChannel ch { v with queue := v.queue.set i { r with promoted := true } } d

/-- REFRESH (R472): postponed while class 0 requests are ready, up to four, and while a replay runs (R481). -/
def refresh (ch rank : Nat) (d : Device) : Device :=
  let v := yardChannel d ch
  if !channelServes d ch || decide (v.ranks ≤ rank) then d
  else
    let p := tget 0 v.postponed rank
    let busy := (readyList d ch [] v.queue 0).any (fun x => reqClass x.2 == 0) && decide (p < 4)
    if busy || !v.replay.isEmpty then setYardChannel ch { v with postponed := tset 0 v.postponed rank (p + 1) } d
    else setYardChannel ch { v with postponed := tset 0 v.postponed rank 0, refreshes := v.refreshes + 1 + p } d

/-- The refresh mode of a channel; each change raises the event. -/
def setRefreshMode (ch : Nat) (twice : Bool) (d : Device) : Device :=
  let v := yardChannel d ch
  if v.refresh2x == twice then d
  else raiseEvent (yardSource ch) 2 (ballIndex d) 0 (setYardChannel ch { v with refresh2x := twice } d)

/-- MR4_POLL (R472, R473); a poll due during a replay is taken after it (R481). -/
def mr4Poll (ch : Nat) (m : Mr4) (d : Device) : Device :=
  let v := yardChannel d ch
  if !channelServes d ch then d
  else if !v.replay.isEmpty then setYardChannel ch { v with pollHeld := some m } d
  else
    let polls := if m == .rate1x then min 2 (v.polls1x + 1) else 0
    let cool := if m == .aboveRange then 0 else min 2 (v.pollsCool + 1)
    let hot := m == .aboveRange || (v.overTemp && decide (cool < 2))
    let d := setYardChannel ch { v with polls1x := polls, pollsCool := cool, overTemp := hot } d
    let d := if hot && !v.overTemp then raiseFault (plainFault (yardSource ch) 7 1 0) d
      else if v.overTemp && !hot then clearLive (yardSource ch) 7 d else d
    let twice := m != .rate1x || hot || yardN d 4 == 1 || (v.refresh2x && decide (polls < 2))
    setRefreshMode ch twice d

/-! ### Patrol scrub (R471) -/

/-- A foreground request goes before the scrub's read, which has waited since `since` (R38, R39, R466): every ready one, or once the read
is promoted to class 2, those of classes 0 and 1 and the older ones of class 2. -/
def scrubYields (d : Device) (ch since : Nat) : Bool :=
  (readyList d ch [] (yardChannel d ch).queue 0).any (fun x =>
    if d.time ≤ since + ageLimit d 3 then decide (effectiveClass x.2 < 3)
    else decide (effectiveClass x.2 < 2) || (effectiveClass x.2 == 2 && decide (x.2.since ≤ since)))

/-- Device time in ns at which the scrub's next read is due: the pass reads at an even rate (R471). -/
def scrubDue (d : Device) (ch : Nat) : Nat :=
  (yardChannel d ch).scrubFrom + (yardChannel d ch).scrubAddr * (yardN d 3 * 1000000000) / d.yard.dimmBytes

/-- PATROL_SCRUB_READ: the next line of the channel, when it is due. A line written since keeps what was written (R481); a corrected line
is written back as it was read. -/
def patrolScrubRead (ch : Nat) (e : BurstError) (written : Bool) (d : Device) : Device :=
  let v := yardChannel d ch
  let since := v.scrubSince.getD d.time
  if !channelServes d ch || yardN d 2 != 1 || !v.replay.isEmpty || decide (scrubShare d ch ≤ scrubSpent d ch)
      || decide (d.time < scrubDue d ch) then d
  else if scrubYields d ch since then setYardChannel ch { v with scrubSince := some since } d
  else
    let a := yardAddress d.yard.kept ch v.scrubAddr
    let next := if d.yard.dimmBytes ≤ v.scrubAddr + 64 then 0 else v.scrubAddr + 64
    let b := lineResult d a e
    let x := burstData d.fresh b (memRead d a 64)
    let d := setYardChannel ch { v with
      scrubSince := none, scrubAddr := next, scrubFrom := if next == 0 then v.scrubFrom + yardN d 3 * 1000000000 else v.scrubFrom,
      scrubBytes := (scrubSpent d ch + 64, d.time / 1000000000) } (takeFresh d)
    let d := match b.ecc with
      | .clean => d
      | .corrected =>
        let d := countCorrected ch (lineFault ch 1 0 a 0x3FD 4 b d)
        if written then d else memWrite a x d
      | .uncorrectable =>
        countUncorrectable ch a (lineFault ch 3 1 a 0x3FD 4 b (if written then d else setPoison a d))
    if next == 0 then raiseEvent (yardSource ch) 3 (ballIndex d) 0 d else d

/-- CORRECTABLE_ERROR_HOUR (R469). -/
def correctableErrorHour (d : Device) : Device :=
  (List.range 12).foldl (fun d ch => setYardChannel ch { yardChannel d ch with hourCount := 0, hourEvent := false } d) d

/-! ### Replay (R474, R475) -/

/-- ALERT_N: a replay starts, or restarts; the third restart is a channel failure. -/
def alertN (ch sub : Nat) (d : Device) : Device :=
  let v := yardChannel d ch
  if !channelServes d ch then d
  else match tget none v.replay sub with
    | none => setYardChannel ch { v with replay := tset none v.replay sub (some 0) } d
    | some r =>
      let d := setYardChannel ch { v with replay := tset none v.replay sub (some (r + 1)), failed := decide (3 ≤ r + 1) } d
      if 3 ≤ r + 1 then raiseFault (plainFault (yardSource ch) 5 2 0) d else d

/-- What a replay reissues: the writes of the buffer, and the reads whose data has not arrived with good ECC (R474). A write issued again
writes the same data to the same address, so that the content stays. -/
def reissued (l : List DramCommand) : List DramCommand := l.filter (fun c => c.data.isSome || !c.arrived)

/-- The replay of a subchannel ends; refreshes postponed meanwhile and a held poll come before the first request (R481). -/
def endReplay (ch sub : Nat) (d : Device) : Device :=
  let v := yardChannel d ch
  let d := raiseFault (plainFault (yardSource ch) 4 0 0)
    (setYardChannel ch { v with
      replay := tset none v.replay sub none, caReplays := v.caReplays + 1,
      recent := tset [] v.recent sub (reissued (tget [] v.recent sub)) } d)
  let v := yardChannel d ch
  if !v.replay.isEmpty then d
  else
    let d := setYardChannel ch { v with
      postponed := [], refreshes := v.refreshes + v.postponed.foldl (fun n e => n + e.2) 0, pollHeld := none } d
    match v.pollHeld with
    | some m => mr4Poll ch m d
    | none => d

/-- REPLAY_COMPLETE. -/
def replayComplete (ch sub : Nat) (d : Device) : Device :=
  let v := yardChannel d ch
  if (tget none v.replay sub).isNone || v.failed then d else endReplay ch sub d

/-! ### Population (R461-R463, R476, R477) -/

def dimmSupported (x : Dimm) : Bool :=
  x.crcOk && x.registered && x.ec8 && !x.x16 && [16, 24, 32].contains x.gbit && [16, 24, 32, 48, 64, 96, 128].contains x.gib
    && (x.ranks == 1 || x.ranks == 2) && decide (x.speed < 3)

def dimmsAgree (a b : Dimm) : Bool := a.gib == b.gib && a.ranks == b.ranks && a.x8 == b.x8

/-- Channels with a readable SPD, a valid CRC and a supported DIMM. -/
def populated (found : List (Option Dimm × Nat)) : List (Nat × Dimm) :=
  ((found.take 12).zipIdx).filterMap (fun x => match x.1.1 with
    | some m => if dimmSupported m then some (x.2, m) else none
    | none => none)

/-- The set that is kept: most channels, then the larger capacity, then the lowest channel. -/
def keptSet (l : List (Nat × Dimm)) : List (Nat × Dimm) :=
  (l.map (fun x => l.filter (fun y => dimmsAgree x.2 y.2))).foldl (fun b s =>
    let cap (t : List (Nat × Dimm)) : Nat := ((t.head?).map (fun y => y.2.gib)).getD 0
    if b.length < s.length || (b.length == s.length && decide (cap b < cap s)) then s else b) []

/-- Highest rate that yard.ctl.speed and every kept DIMM permit. -/
def yardRate (permitted : Nat) (l : List (Nat × Dimm)) : Nat :=
  (l.map (fun x => x.2.speed)).foldl min (if permitted == 0 then 2 else permitted - 1)

/-- The Yard comes up with what was found: each channel's DIMM and the step of R476 that failed, 0 for none. -/
def bringUpYard (found : List (Option Dimm × Nat)) (d : Device) : Device :=
  let pop := populated found
  let set := keptSet pop
  let stepOf (ch : Nat) : Nat := ((found[ch]?).map (·.2)).getD 0
  let kept := set.filter (fun x => stepOf x.1 == 0)
  let rate := yardRate (yardN d 1) set
  let d := { d with yard := { d.yard with
    kept := kept.map (·.1), dimmBytes := ((kept.head?).map (fun x => x.2.gib * 2 ^ 30)).getD 0,
    dimms := pop.map (fun x => (x.1, some x.2)) } }
  let d := set.foldl (fun d x =>
    let ok := stepOf x.1 == 0
    setYardChannel x.1 { yardChannel d x.1 with
      present := ok, trained := ok, failed := !ok, speed := rate, ranks := x.2.ranks, x8 := x.2.x8,
      capacity := if ok then x.2.gib * 2 ^ 30 else 0, refresh2x := yardN d 4 == 1, scrubFrom := d.time } d) d
  let d := pop.foldl (fun d x =>
    if set.any (fun y => y.1 == x.1) then d else raiseFault (plainFault (yardSource x.1) 8 1 0) d) d
  let d := set.foldl (fun d x =>
    if stepOf x.1 == 0 then raiseEvent (yardSource x.1) 4 (ballIndex d) 0 d
    else raiseFault (plainFault (yardSource x.1) 6 1 (stepOf x.1)) d) d
  if kept.isEmpty then raiseFault (plainFault 0x38C 0x0A 2 0) d else d

/-- SLEEP entry: a replay completes (R481), waiting requests complete and every rank enters self-refresh (R477). -/
def yardSleep (d : Device) : Device :=
  let d := d.yard.kept.foldl (fun d ch =>
    let d := replayComplete ch 1 (replayComplete ch 0 d)
    let d := (yardChannel d ch).queue.foldl (fun d r => serveRequest ch r [] d) d
    setYardChannel ch { yardChannel d ch with queue := [], replay := [], postponed := [] } d) d
  { d with yard := { d.yard with selfRefresh := true } }

/-- WAKE: self-refresh ends and step 5 is run again at the rate then selected; `failed` are the channels that fail it. -/
def yardWake (failed : List Nat) (d : Device) : Device :=
  let d := { d with yard := { d.yard with selfRefresh := false } }
  let rate := yardRate (yardN d 1) (d.yard.dimms.filterMap (fun e =>
    if d.yard.kept.contains e.1 then e.2.map (fun m => (e.1, m)) else none))
  d.yard.kept.foldl (fun d ch =>
    let v := yardChannel d ch
    if failed.contains ch then
      raiseFault (plainFault (yardSource ch) 5 2 0) (raiseFault (plainFault (yardSource ch) 6 1 5)
        (setYardChannel ch { v with failed := true, trained := false } d))
    else raiseEvent (yardSource ch) 4 (ballIndex d) 0 (setYardChannel ch { v with speed := rate, trained := true } d)) d

/-! ### Loft scrub (R38, R571, R572) -/

/-- Bytes of a Loft bank, and the 64-byte lines that a scrub pass reads in it. -/
def loftBankBytes : Nat := 524288
def loftBankLines : Nat := 8192

def loftSource (bank : Nat) : Nat := 0x340 + bank / 8

/-- Passes that every bank has completed. -/
def loftPasses (t : Table Nat) : Nat := ((List.range 512).map (fun b => tget 0 t b / loftBankLines)).foldl min (2 ^ 64)

/-- The scrub of a Loft bank waits (R38, R39): within 4,096 fabric cycles of its last access, or for a foreground access to the bank until
it has waited 65,536 cycles and is promoted. A fabric cycle is 781.25 ps. -/
def loftWaits (d : Device) (bank : Nat) (busy : Bool) : Bool :=
  decide (d.time < tget 0 d.yard.loftNext bank)
    || (busy && match tget none d.yard.loftSince bank with
      | some t => decide (d.time ≤ t + 51200)
      | none => true)

/-- The read of a word by the Loft scrub: a corrected word is written back as it reads, and one written since keeps what was written, so
that the content stays; an uncorrectable one is poisoned unless a write has replaced it (R34, R572). -/
def loftScrubRead (bank a : Nat) (e : Ecc) (written : Bool) (d : Device) : Device :=
  let msg (kind cls : Nat) (d : Device) : Device :=
    raiseFault { source := loftSource bank, kind := kind, cls := cls, address := a, master := 0x3FD, access := 4,
                 detail := leBytes 2 bank ++ leBytes 2 (Config.eccField 1 d.fresh) ++ zeroBytes 12 } (takeFresh d)
  match (if poisoned d a 64 then Ecc.uncorrectable else e) with
  | .clean => d
  | .corrected => msg 1 0 d
  | .uncorrectable => if written then msg 3 1 d else setPoison a (msg 3 1 d)

/-- LOFT_SCRUB_ACCESS; `busy`: a foreground access to the bank meets it. -/
def loftScrubAccess (bank : Nat) (e : Ecc) (written busy : Bool) (d : Device) : Device :=
  if d.power.state == .sleep then d
  else if loftWaits d bank busy then
    let since := match tget none d.yard.loftSince bank with
      | some t => some t
      | none => if d.time < tget 0 d.yard.loftNext bank then none else some d.time
    { d with yard := { d.yard with loftSince := tset none d.yard.loftSince bank since } }
  else
    let n := tget 0 d.yard.loftScrub bank
    let t := tset 0 d.yard.loftScrub bank (n + 1)
    let was := d.yard.loftScrub
    let d := { d with yard := { d.yard with
      loftScrub := t, loftNext := tset 0 d.yard.loftNext bank (d.time + 3200), loftSince := tset none d.yard.loftSince bank none } }
    let d := loftScrubRead bank (bank * loftBankBytes + n % loftBankLines * 64) e written d
    if n % loftBankLines == loftBankLines - 1 && loftPasses was != loftPasses t then raiseEvent 0x340 1 (ballIndex d) 0 d else d

def execYardRequest (ch : Fin 12) (arriving : List YardReq) (err : BurstError) (s : State) : Host.Outcome State Fault Refusal :=
  act (yardRequest ch.val arriving err) s
def execAgePromotion (ch : Fin 12) (idx : Nat) (s : State) : Host.Outcome State Fault Refusal := act (agePromotion ch.val idx) s
def execRefresh (ch : Fin 12) (rank : Nat) (s : State) : Host.Outcome State Fault Refusal := act (refresh ch.val rank) s
def execMr4Poll (ch : Fin 12) (m : Mr4) (s : State) : Host.Outcome State Fault Refusal := act (mr4Poll ch.val m) s
def execPatrolScrubRead (ch : Fin 12) (err : BurstError) (written : Bool) (s : State) : Host.Outcome State Fault Refusal :=
  act (patrolScrubRead ch.val err written) s
def execCorrectableErrorHour (s : State) : Host.Outcome State Fault Refusal := act correctableErrorHour s
def execAlertN (ch : Fin 12) (sub : Fin 2) (s : State) : Host.Outcome State Fault Refusal := act (alertN ch.val sub.val) s
def execReplayComplete (ch : Fin 12) (sub : Fin 2) (s : State) : Host.Outcome State Fault Refusal :=
  act (replayComplete ch.val sub.val) s
def execLoftScrubAccess (bank : Fin 512) (ecc : Ecc) (use : BankUse) (s : State) : Host.Outcome State Fault Refusal :=
  act (loftScrubAccess bank.val ecc use.written use.busy) s

end Sys2Proof.Machine
end

