-- ==== Sys2Proof/Machine/Flags.lean ====
section
/-! DEFINITION. Status words and the read-only values that commands, BAR0 and the management port return (R422-R424, R457, R479, R511,
R539, R562, R565, R592). -/

namespace Sys2Proof.Machine

/-- Approved-mode indicator (R562). -/
def approvedMode (d : Device) : Bool :=
  d.pad.fuses.okh != 0 && d.pad.ownerVerified && (match d.pad.image with | some i => i.approved | none => false)
    && d.pad.testsPassed && !d.pad.errorState && cfgN d 0x12 0 1 == 0 && !d.pad.debugged

/-- A completion or event entry waits for space (R422, R431). -/
def cqWaits (d : Device) : Bool := d.host.cqs.any (fun e => !e.2.waiting.isEmpty)

/-- Device status word (R422). -/
def devStatus (d : Device) : Nat :=
  devStateCode d.power.state + 8 * boolN d.host.enabled + 16 * boolN (approvedMode d) + 32 * boolN d.fault.fatal.isSome
    + 64 * boolN (cqWaits d) + 128 * boolN d.host.mcheck + 256 * (d.power.bootError % 256) + 2 ^ 16 * boolN d.host.enableError

/-- Command tags in flight (R421). -/
def tagsInFlight (d : Device) : Nat := (d.host.flights.filter (fun e => e.2.isSome)).length

/-- The unacknowledged fault with the earliest first_time; of equal times the one of the higher class (R421). -/
def firstFault (d : Device) : Option FaultEntry :=
  let l := [d.fault.fatal, d.fault.contained, d.fault.corrected].filterMap id
  match l with
  | [] => none
  | e :: es => some (es.foldl (fun b x => if x.firstTime < b.firstTime then x else b) e)

/-- FAULT_SUMMARY (R421). -/
def faultSummary (d : Device) : Nat :=
  match firstFault d with
  | none => 0
  | some e => e.source % 1024 + 1024 * (e.kind % 64) + 2 ^ 16 * (e.handled % 4) + 2 ^ 18

/-- SQ_STATUSn (R423). -/
def sqStatus (d : Device) (n : Nat) : Nat :=
  let q := subQueue d n
  q.head + 2 ^ 12 * boolN q.live + 2 ^ 13 * boolN q.dbError + 2 ^ 14 * boolN q.fetchError + 2 ^ 16 * q.cq

/-- CQ_STATUSn (R424). -/
def cqStatus (d : Device) (n : Nat) : Nat :=
  let q := cplQueue d n
  q.tail + 2 ^ 12 * boolN q.live + 2 ^ 13 * boolN q.dbError + 2 ^ 14 * boolN q.writeError + 2 ^ 15 * boolN q.phase + 2 ^ 16 * q.vector

/-- ALERT# is asserted while an unacknowledged record of a class in alert_mask is filled, or an event source mapped with alert is
pending, or the Drone holds a rail failure or a thermal trip (R591). -/
def alertAsserted (d : Device) : Bool :=
  let m := cfgN d 0x11 0 2
  (bit m 0 && d.fault.corrected.isSome) || (bit m 1 && d.fault.contained.isSome) || (bit m 2 && d.fault.fatal.isSome)
    || d.fault.eventMaps.any (fun e => e.2.alert && eventPendingBit d e.1) || d.power.railFailure || d.power.thermalTrip

/-- READ_STATUS (R457). -/
def readStatusByte (d : Device) : Nat :=
  boolN d.host.mboxBusy + 2 * boolN d.host.mboxDone + 4 * boolN (alertAsserted d) + 8 * boolN (cpRuns d) + 16 * boolN d.host.linkUp

/-- Yard channel status word (R479). -/
def yardStatus (d : Device) (n : Nat) : Nat :=
  let c := yardChannel d n
  boolN c.present + 2 * boolN c.trained + 4 * boolN c.failed + 8 * boolN c.refresh2x
    + 16 * boolN (c.replay.any (fun e => e.2.isSome)) + 32 * boolN c.overTemp + 256 * (c.speed % 4)
    + 1024 * boolN (c.ranks == 2) + 2048 * boolN c.x8

/-- group.dev.port_n (R511). -/
def portWord (d : Device) (n : Nat) : Nat :=
  let p := shunisPort d n
  boolN p.up + 2 * laneCode p.trained + 8 * (p.neighbour.getD 0 % 8) + 64 * boolN p.neighbour.isSome

/-- power.dev.state (R516, R539): ACTIVE while a domain of bits 8 to 30 is on. -/
def powerState (d : Device) : Nat :=
  if d.power.state == .sleep then 2 else boolN (bits d.power.domains.toNat 8 23 != 0)

def ownerState (d : Device) : Nat := if d.pad.fuses.okh == 0 then 0 else if d.pad.ownerVerified then 2 else 1

/-- Bit n: slot n holds a key; slot 0 always does (R558, R565). -/
def slotsLoaded (d : Device) : Nat := 1 + maskOf 16 (fun n => n != 0 && (tget none d.pad.slots n).isSome)

/-- ARB as a version: fuses blown (R544). -/
def fusedVersion (f : Fuses) : Nat := ((List.range 64).filter (fun i => bit f.arb.toNat i)).length

/-- Value of a read-only field (R49), by block, instance and code. Until the firmware has started, hist_oldest and owner_state stand at
the reset value 0 of their tables (R12, R140, R565). -/
def readOnlyValue (d : Device) (block inst code : Nat) : Int :=
  let i := code - 0x20
  let pick (l : List Nat) : Int := ((l[i]?).getD 0 : Nat)
  match block with
  | 0x03 =>
    let v := laneAt d (inst / 8) (inst % 8)
    pick [v.satCount.toNat, v.resetStamp,
      if d.clk.started then (histOldest (laneK d (inst / 8) (inst % 8)) (laneN d (inst / 8) (inst % 8) 6) v).getD (2 ^ 64 - 1) else 0]
  | 0x04 =>
    let v := slotAt d inst
    pick [v.spectraCount.toNat, v.skipped.toNat, v.abandoned.toNat]
  | 0x07 =>
    let v := densMap d inst
    pick [v.frames.toNat, v.colourDropped.toNat]
  | 0x08 => if inst == 0 then (if code == 0x30 then (d.disp.frameCount.toNat : Int) else (d.disp.underflowLines.toNat : Int))
    else (dpStatus d (inst - 1) : Nat)
  | 0x09 =>
    let s := stream d inst
    pick [s.ringLog2, s.ringBase, s.writeOffset, s.nextSeq, s.dropped.toNat]
  | 0x0A =>
    let c := chan d inst
    pick [chanCode c.state, c.descAddr, c.bytesTotal.toNat]
  | 0x0B =>
    let p := port d (inst - 0x10)
    pick [portStatus d (inst - 0x10), p.pctUsed, p.critical, p.capacity]
  | 0x0C =>
    let g := generator d inst
    pick [bits (genStatusWord d inst) 0 2, g.underrunGranules.toNat, g.underruns.toNat, g.lockedWrites.toNat, ringCommitted d inst]
  | 0x0D =>
    if inst < 32 then
      let v := core d inst
      pick [modeCode v.mode, v.cyclesBusy.toNat, v.batches.toNat]
    else (tget (0 : BitVec 32) d.reed.dropped (inst - 0x80)).toNat
  | 0x0E =>
    let c := yardChannel d (inst - 0x10)
    if code == 0x25 then c.temp
    else pick [yardStatus d (inst - 0x10), c.capacity, c.ceCount.toNat, c.ueCount.toNat, c.caReplays.toNat, 0, c.lastUe]
  | 0x0F =>
    let g := d.group
    if 0x30 ≤ code then (portWord d (code - 0x30) : Nat)
    else if code == 0x24 then g.syncSkew
    else pick [g.id, g.members.toNat, g.pairRole, boolN g.pairFormed + 2 * boolN g.pairDegraded + 4 * boolN (pairMutes d), 0,
      g.busTransitMax, g.busLate.toNat, g.unroutable.toNat]
  | 0x10 =>
    let w := d.power
    pick [powerState d, w.domains.toNat, w.capW, w.throttle, w.powerMw, w.vddCoreMv, boolN w.extSeq, w.throttleMs, w.sleepCount.toNat]
  | 0x11 =>
    let f := d.fault
    pick [f.logWrite.toNat, f.logRead.toNat, f.logLost.toNat, f.escalations.toNat, f.collateral.toNat]
  | 0x12 =>
    pick [fusedVersion d.pad.fuses, if d.clk.started then ownerState d else 0, slotsLoaded d, d.pad.bootSlot, d.pad.zeroiseCount.toNat, d.pad.authFailures.toNat]
  | _ => 0

end Sys2Proof.Machine
end

