-- ==== Sys2Proof/Machine/Zeroise.lean ====
section
/-! DEFINITION. Zeroisation (R563): it acts at once in every state, waits for no token and changes no generation (R62). -/

namespace Sys2Proof.Machine

/-- Every paddock field takes its reset value (R62, R563). -/
def resetPaddockFields (d : Device) : Device :=
  [1, 2, 3, 4].foldl (fun d c => setActive (cfgKey 0x12 0 c) (fieldReset (cfgKey 0x12 0 c)) d) d

/-- Slots 1-15, volume keys, DRBG state, nonces and sessions are gone; the DRBG is seeded again. -/
def zeroise (d : Device) : Device :=
  let mode := cfgN d 0x12 0 1
  let d := resetPaddockFields (zeroizeVolumes d)
  let d := { d with pad := { d.pad with
    slots := [], nonces := [], sessions := [], drbgCount := 0, zeroiseCount := d.pad.zeroiseCount + 1 } }
  let d := if mode == 0 then d else raiseEvent 0x3E5 1 (ballIndex d) 0 d
  raiseEvent 0x3E3 1 (ballIndex d) 0 d

end Sys2Proof.Machine
end

