-- ==== Sys2Proof/Machine/Paddock.lean ====
section
/-! DEFINITION. Paddock: verification of an image, update, roles, keys, self-tests, zeroisation and JTAG (18_paddock_security.md). -/

namespace Sys2Proof.Machine

/-! ### Images (R545, R546, R548) -/

/-- The fields of an image that verification and boot read. -/
def imgBytes (img : List Byte) (a n : Nat) : List Byte := (img.drop a).take n

/-- ASCII PLYNPOUD. -/
def imageMagic : List Byte := [0x50, 0x4C, 0x59, 0x4E, 0x50, 0x4F, 0x55, 0x44]

/-- A flash slot holds an image (R547). -/
def holdsImage (img : List Byte) : Bool := img.take 8 == imageMagic

def cipherLength (img : List Byte) : Nat := getLe img 28 4
def securityVersion (img : List Byte) : Nat := getLe img 12 4
def imageFlag (img : List Byte) (i : Nat) : Bool := bit (getLe img 10 2) i
def imageCipher (img : List Byte) : List Byte := imgBytes img 256 (cipherLength img)
def ownerBlock (img : List Byte) : List Byte := imgBytes img (256 + cipherLength img) 1024
def ownerKey (img : List Byte) : List Byte := (ownerBlock img).take 96

/-- Step 1: format and length. -/
def formatOk (img : List Byte) : Bool :=
  holdsImage img && getLe img 8 2 == 1 && bits (getLe img 10 2) 2 14 == 0 && decide (securityVersion img ≤ 64)
    && cipherLength img % 16 == 0 && getLe img 24 4 == 256 + cipherLength img + 1024 && decide (getLe img 24 4 ≤ 4190208)
    && decide (getLe img 24 4 ≤ img.length)

/-- The owner signature over header bytes 0-63 and owner-block bytes 0-927 (R546). -/
def ownerSigned (img : List Byte) : Bool :=
  let o := ownerBlock img
  Config.ecdsaVerify (ownerKey img) (Config.sha384 (img.take 64 ++ o.take 928)) (imgBytes o 928 96)

/-- Step 5: what the owner block gives: none fails, else whether OKH is blown with the owner key and whether the owner is verified. -/
def ownerCheck (f : Fuses) (img : List Byte) : Option (Bool × Bool) :=
  if f.okh != 0 then
    if Config.sha384 (ownerKey img) == f.okh && ownerSigned img then some (false, true) else none
  else if imageFlag img 1 then (if ownerSigned img then some (true, true) else none)
  else some (false, false)

/-- An entry of the directory lies within the plaintext, with the length of its section type. -/
def sectionOk (plain : List Byte) (e : List Byte) : Bool :=
  let t := getLe e 0 2
  let n := getLe e 8 4
  t == 0 || (decide (t ≤ 4) && decide (256 ≤ getLe e 4 4) && decide (getLe e 4 4 + n ≤ plain.length)
    && (t != 1 || n == 294912) && (t != 2 || n == 18432) && (t != 3 || n == 256))

def directoryOk (plain : List Byte) : Bool :=
  decide (256 ≤ plain.length) && (List.range 16).all (fun i => sectionOk plain (imgBytes plain (16 * i) 16))

/-- Operator entries of a verified owner block (R546). -/
def readOperators (img : List Byte) : List (Nat × List Byte) :=
  (List.range 8).map (fun i =>
    let e := imgBytes (ownerBlock img) (96 + 100 * i) 100
    (getLe e 0 1, imgBytes e 4 96))

/-- The section of a type in the directory: that of its first entry (R545). -/
def imageSection (plain : List Byte) (t : Nat) : List Byte :=
  match ((List.range 16).map (fun i => imgBytes plain (16 * i) 16)).find? (fun e => getLe e 0 2 == t) with
  | some e => imgBytes plain (getLe e 4 4) (getLe e 8 4)
  | none => []

/-- What step 7 loads: 16,384 words of the control store, 1,024 of the patch RAM and 64 match entries (R545, R548). -/
def storeContent (plain : List Byte) : List Byte :=
  padTo (imageSection plain 1) 294912 ++ padTo (imageSection plain 2) 18432 ++ padTo (imageSection plain 3) 256

/-- IEK inside Paddock: zero once KILL is blown (R563). -/
def imageKey (f : Fuses) : BitVec 256 := if killed f then 0 else f.iek

/-- What a verified image gives: its fields, whether it programs the owner, whether its owner is verified, and what is loaded. -/
structure VerifiedImage where
  info : ImageInfo
  owner : Bool
  content : List Byte

/-- Steps 1 to 5 of R548: the code of the first that fails, or whether OKH is blown and whether the owner is verified. -/
def ownerStep (f : Fuses) (img : List Byte) : Except Nat (Bool × Bool) :=
  let key := imgBytes img 160 96
  if !formatOk img then .error 2
  else if Config.sha384 key != f.vkh then .error 3
  else if !Config.ecdsaVerify key (Config.sha384 (img.take 64 ++ imageCipher img)) (imgBytes img 64 96) then .error 4
  else if securityVersion img < fusedVersion f then .error 5
  else match ownerCheck f img with
    | none => .error 6
    | some x => .ok x

/-- Steps 1 to 6 of R548: the code of the first that fails, or the verified image. -/
def verifyImage (f : Fuses) (img : List Byte) : Except Nat VerifiedImage :=
  match ownerStep f img with
    | .error c => .error c
    | .ok (_, verified) =>
      match Config.gcmDecrypt (imageKey f) (imgBytes img 32 12) (img.take 64) (imageCipher img) (imgBytes img 44 16) with
      | none => .error 7
      | some plain =>
        if !directoryOk plain then .error 7
        else .ok {
          info := { approved := imageFlag img 0, securityVersion := securityVersion img, microcode := getLe img 16 4,
                    patch := getLe img 20 4, operators := if verified then readOperators img else [] }
          owner := verified, content := storeContent plain }

/-- Step 5 of R548 blows OKH with the hash of the owner key where the image programs the owner, whatever step 6 gives. -/
def blowOwner (img : List Byte) (d : Device) : Device :=
  match ownerStep d.pad.fuses img with
  | .ok (true, _) =>
    raiseEvent 0x3E0 2 (ballIndex d) 0
      { d with pad := { d.pad with fuses := { d.pad.fuses with okh := Config.sha384 (ownerKey img) } } }
  | _ => d

/-! ### Control store (R549) -/

/-- The odd-parity bit of quarter `q` of a word: with it the number of ones is odd. -/
def quarterParity (w : BitVec 144) (q : Nat) : Bool := (List.range 36).foldl (fun b i => b != w.getLsbD (36 * q + i)) true

/-- A word with the parity bits that a write stores with it. -/
def microword (w : BitVec 144) : Microword :=
  { bits := w, parity := BitVec.ofNat 4 (maskOf 4 (quarterParity w)) }

/-- Every quarter of a stored word has odd parity. -/
def parityHolds (w : Microword) : Bool := (List.range 4).all (fun q => w.parity.getLsbD q == quarterParity w.bits q)

/-- The fields of a microword; each drives one resource. -/
inductive MicroField where
  | cyc | seq | cond | next | const | alu | reg | mem | port | pkt | timer | bellows
  deriving DecidableEq, Repr

/-- Lowest bit and width of a field. -/
def MicroField.place : MicroField → Nat × Nat
  | .cyc => (0, 2)
  | .seq => (2, 4)
  | .cond => (6, 6)
  | .next => (12, 14)
  | .const => (26, 10)
  | .alu => (36, 12)
  | .reg => (48, 16)
  | .mem => (64, 16)
  | .port => (80, 16)
  | .pkt => (96, 16)
  | .timer => (112, 16)
  | .bellows => (128, 16)

def microField (w : Microword) (f : MicroField) : Nat := bits w.bits.toNat f.place.1 f.place.2

/-- Cycle length of a word in CP clocks. -/
def microClocks (w : Microword) : Nat := microField w .cyc + 1

/-- The patch RAM address that takes the place of a control-store address: that of a valid entry that matches it. -/
def patchedBy (m : MicroStore) (a : Nat) : Option Nat :=
  (m.entries.find? (fun e => e.getLsbD 31 && e.toNat % 2 ^ 14 == a)).map (fun e => bits e.toNat 14 10)

/-- The word that a fetch from a control-store address takes. -/
def fetchWord (m : MicroStore) (a : Nat) : Microword :=
  match patchedBy m a with
  | some p => m.patch.getD p {}
  | none => m.control.getD a {}

/-- One bit of the word that a fetch from an address takes turns over: bits 0 to 143 of the word, then its four parity bits. -/
def upsetWord (m : MicroStore) (a bit : Nat) : MicroStore :=
  let flip (w : Microword) : Microword :=
    if bit < 144 then { w with bits := w.bits ^^^ ((1 : BitVec 144) <<< bit) }
    else { w with parity := w.parity ^^^ ((1 : BitVec 4) <<< (bit - 144)) }
  match patchedBy m a with
  | some p => { m with patch := m.patch.modify p flip }
  | none => { m with control := m.control.modify a flip }

/-- The store that a content loads (R545, R548). -/
def loadStore (content : List Byte) : MicroStore :=
  let word (at0 i : Nat) : Microword := microword (BitVec.ofNat 144 (getLe content (at0 + 18 * i) 18))
  { control := (List.range 16384).map (word 0)
    patch := (List.range 1024).map (word 294912)
    entries := (List.range 64).map (fun i => BitVec.ofNat 32 (getLe content (313344 + 4 * i) 4)) }

/-- The content of a store, as an image holds it (R545). -/
def storeBytes (m : MicroStore) : List Byte :=
  m.control.flatMap (fun w => leBytes 18 w.bits.toNat) ++ m.patch.flatMap (fun w => leBytes 18 w.bits.toNat)
    ++ m.entries.flatMap (fun e => leBytes 4 e.toNat)

/-- Step 7: the store is loaded, two copies are placed in Loft and their digest is kept (R548). -/
def takeImage (slot : Nat) (x : VerifiedImage) (d : Device) : Device :=
  let d := { d with
    pad := { d.pad with
      image := some x.info, bootSlot := slot, ownerVerified := x.owner
      store := loadStore x.content, copies := [x.content, x.content], storeDigest := Config.sha384 x.content } }
  raiseEvent 0x3E0 1 (ballIndex d) 0 d

/-! ### IMAGE_UPDATE (R552) -/

/-- The module serves no service but status and zeroisation in the error state (R562). -/
def paddockDenies (d : Device) : Bool := d.pad.errorState

def slotImage (f : Flash) (n : Nat) : List Byte := if n == 0 then f.slotA else f.slotB

def slotVersion (d : Device) (n : Nat) : Nat :=
  if d.pad.flash.present && holdsImage (slotImage d.pad.flash n) then securityVersion (slotImage d.pad.flash n) else 0xFF

/-- Fused version, boot slot and the versions of both slots. -/
def updateReply (d : Device) : List Byte :=
  leBytes 1 (fusedVersion d.pad.fuses) ++ leBytes 1 d.pad.bootSlot ++ leBytes 1 (slotVersion d 0) ++ leBytes 1 (slotVersion d 1)

/-- ASCII PLYB. -/
def bootMagic : List Byte := [0x50, 0x4C, 0x59, 0x42]

/-- Preferred slot of a boot record: none where it is missing or invalid (R547). -/
def preferredSlot (r : List Byte) : Option Nat :=
  if r.take 4 == bootMagic && getLe r 8 4 == (crc32c (r.take 5)).toNat && decide (getLe r 4 1 < 2) then some (getLe r 4 1) else none

/-- A boot record that prefers slot `n`. -/
def bootRecordOf (n : Nat) : List Byte :=
  let h := bootMagic ++ leBytes 1 n
  h ++ zeroBytes 3 ++ leBytes 4 (crc32c h).toNat

/-- The flash slot that WRITE uses. -/
def updateSlot (d : Device) : Nat :=
  if d.pad.bootSlot == 0 then 1
  else if d.pad.bootSlot == 1 then 0
  else if !holdsImage d.pad.flash.slotA then 0
  else match preferredSlot d.pad.flash.bootRecord with
    | some n => 1 - n
    | none => 1

def writeSlotImage (n : Nat) (img : List Byte) (f : Flash) : Flash :=
  if n == 0 then { f with slotA := img, bootRecord := bootRecordOf 0 } else { f with slotB := img, bootRecord := bootRecordOf 1 }

def imageUpdateWrite (p : Packet) (d : Device) : Device :=
  let n := p32 p 16
  let img := memRead d (p64 p 8) n
  if paddockDenies d then complete p .denied [] d
  else if !reservedZero p [(0, 1), (8, 12)] || !reachable d .cp false (p64 p 8) n then complete p .badParam (updateReply d) d
  else match verifyImage d.pad.fuses img with
    | .error c => complete p .badParam (updateReply d ++ leBytes 1 c) d
    | .ok _ =>
      if !d.pad.flash.present then complete p .notPresent (updateReply d) d
      else
        let d := { d with pad := { d.pad with flash := writeSlotImage (updateSlot d) (img.take (getLe img 24 4)) d.pad.flash } }
        complete p .ok (updateReply d) (raiseEvent 0x3E0 3 (ballIndex d) 0 d)

/-- ARB bits are blown, the lowest first, until `n` bits are. -/
def blowArb (n : Nat) (f : Fuses) : Fuses :=
  { f with arb := (List.range 64).foldl (fun a i =>
      if ((List.range 64).filter (fun j => a.getLsbD j)).length < n then a ||| ((1 : BitVec 64) <<< i) else a) f.arb }

def commitVersion (p : Packet) (d : Device) : Device :=
  let v := (d.pad.image.map (·.securityVersion)).getD 0
  if paddockDenies d then complete p .denied [] d
  else if !reservedZero p [(0, 1), (8, 12)] then complete p .badParam (updateReply d) d
  else if v ≤ fusedVersion d.pad.fuses then complete p .ok (updateReply d) d
  else
    let d := { d with pad := { d.pad with fuses := blowArb v d.pad.fuses } }
    complete p .ok (updateReply d) (raiseEvent 0x3E0 4 (ballIndex d) 0 d)

def imageUpdateStatus (p : Packet) (d : Device) : Device :=
  if !reservedZero p [(0, 1), (8, 12)] then complete p .badParam (updateReply d) d else complete p .ok (updateReply d) d

/-! ### Authentication (R553-R555) -/

/-- The session that a command of the packet's queue reads and writes. A queue of another member has its own. -/
def sessionOf (p : Packet) : Nat :=
  match p.src with
  | .queue q => q
  | .forwarded dev q _ => 64 + 64 * dev + q
  | .mailbox | .mirrored => 1024

def setNonce (q : Nat) (n : Option Nonce) (d : Device) : Device :=
  { d with pad := { d.pad with nonces := tset none d.pad.nonces q n } }

def authChallenge (p : Packet) (d : Device) : Device :=
  let op := pByte p 0
  if paddockDenies d then complete p .denied [] d
  else if !reservedZero p [(0, 1)] || decide (7 < op) then complete p .badParam [] d
  else if d.pad.lockedOut then complete p .busy [] d
  else
    let x := drbgBytes 48 d
    complete p .ok x.1 (setNonce (sessionOf p) (some { operator := op, bytes := x.1 }) x.2)

/-- ASCII RLH-AUTH. -/
def authLabel : List Byte := [0x52, 0x4C, 0x48, 0x2D, 0x41, 0x55, 0x54, 0x48]

/-- Role that a valid response grants: the operator's, where the signature over the message of R554 verifies. -/
def authRole (d : Device) (p : Packet) : Option Nat :=
  let op := pByte p 0
  match tget none d.pad.nonces (sessionOf p), (d.pad.image.map (·.operators)).bind (fun l => l[op]?) with
  | some n, some o =>
    let msg := authLabel ++ n.bytes ++ leBytes 8 d.pad.fuses.serial.toNat ++ leBytes 2 (queueOf p) ++ leBytes 1 op
    if n.operator == op && (o.1 == 1 || o.1 == 2) && Config.ecdsaVerify o.2 (Config.sha384 msg) ((p.params.drop 16).take 96)
    then some o.1 else none
  | _, _ => none

/-- A failed response: after auth_fail_limit of them in a row AUTH_CHALLENGE is locked out. -/
def authFailed (d : Device) : Device :=
  let n := d.pad.failures + 1
  let out := decide (cfgN d 0x12 0 3 ≤ n)
  let d := { d with pad := { d.pad with
    failures := if out then 0 else n, lockedOut := d.pad.lockedOut || out, authFailures := d.pad.authFailures + 1 } }
  let d := raiseEvent 0x3E4 2 (ballIndex d) 0 d
  if out then raiseEvent 0x3E4 3 (ballIndex d) 0 d else d

def authResponse (p : Packet) (d : Device) : Device :=
  if paddockDenies d then complete p .denied [] d
  else if !flagSet p 2 || !reservedZero p [(0, 1), (16, 96)] then complete p .badParam [] d
  else
    let role := authRole d p
    let d := setNonce (sessionOf p) none d
    match role with
    | none => complete p .denied [] (authFailed d)
    | some r =>
      let d := { d with pad := { d.pad with failures := 0, sessions := tset 0 d.pad.sessions (sessionOf p) r } }
      complete p .ok [] (raiseEvent 0x3E4 1 (ballIndex d) 0 d)

def authEnd (p : Packet) (d : Device) : Device :=
  if paddockDenies d then complete p .denied [] d
  else if !reservedZero p [] then complete p .badParam [] d
  else complete p .ok [] { d with pad := { d.pad with sessions := tset 0 d.pad.sessions (sessionOf p) 0 } }

/-! ### KEY_WRAP (R558, R559) -/

def setKeySlot (n : Nat) (k : Option (BitVec 256)) (d : Device) : Device :=
  { d with pad := { d.pad with slots := tset none d.pad.slots n k } }

/-- Op, slots and blob address are in range. -/
def keyParamsOk (p : Packet) : Bool :=
  reservedZero p [(0, 3), (8, 8)] && decide (1 ≤ pByte p 1) && decide (pByte p 1 ≤ 15) && decide (pByte p 2 ≤ 15)

def keyGenerate (p : Packet) (d : Device) : Device :=
  if paddockDenies d then complete p .denied [] d
  else if !keyParamsOk p then complete p .badParam [] d
  else if (tget none d.pad.slots (pByte p 1)).isSome then complete p .busy [] d
  else
    let x := drbgBytes 32 d
    complete p .ok [] (setKeySlot (pByte p 1) (some (bytesKey x.1)) x.2)

def keyImport (p : Packet) (d : Device) : Device :=
  if paddockDenies d then complete p .denied [] d
  else if !keyParamsOk p || !reachable d .cp false (p64 p 8) 40 then complete p .badParam [] d
  else if (tget none d.pad.slots (pByte p 1)).isSome then complete p .busy [] d
  else if pByte p 1 == pByte p 2 then complete p .badState [] d
  else match keyOfSlot d (pByte p 2) with
    | none => complete p .badState [] d
    | some w =>
      match Config.kwUnwrap w (memRead d (p64 p 8) 40) with
      | none => complete p .denied [] d
      | some k => complete p .ok [] (setKeySlot (pByte p 1) (some (bytesKey k)) d)

def keyExport (p : Packet) (d : Device) : Device :=
  if paddockDenies d then complete p .denied [] d
  else if !keyParamsOk p || !reachable d .cp true (p64 p 8) 40 then complete p .badParam [] d
  else if pByte p 1 == pByte p 2 then complete p .badState [] d
  else match keyOfSlot d (pByte p 1), keyOfSlot d (pByte p 2) with
    | some k, some w => complete p .ok [] (memWrite (p64 p 8) (padTo (Config.kwWrap w (keyBytes k)) 40) d)
    | _, _ => complete p .badState [] d

def keyDestroy (p : Packet) (d : Device) : Device :=
  if paddockDenies d then complete p .denied [] d
  else if !keyParamsOk p then complete p .badParam [] d
  else if (tget none d.pad.slots (pByte p 1)).isNone then complete p .badState [] d
  else complete p .ok [] (setKeySlot (pByte p 1) none d)

def keyWrapStatus (p : Packet) (d : Device) : Device :=
  if !reservedZero p [(0, 3), (8, 8)] then complete p .badParam [] d else complete p .ok (leBytes 2 (slotsLoaded d)) d

/-! ### Self-tests (R561, R562) -/

/-- A failing test: the error state, and the fault of the entropy source or of the self-test. -/
def failTest (entropy : Bool) (d : Device) : Device :=
  let d := { d with pad := { d.pad with errorState := true } }
  raiseFault (if entropy then plainFault 0x3E2 2 2 0 else plainFault 0x3E1 1 2 0) d

def testPassed (d : Device) : Device := raiseEvent 0x3E1 1 (ballIndex d) 0 d

/-- Pass bits of the three tests of R561: those of the silicon are free, the digest is that of the store that runs. -/
def testBits (d : Device) : Nat :=
  let got := Config.selfTestPass d.fresh
  maskOf 3 (fun i => if i == 2 then Config.sha384 (storeBytes d.pad.store) == d.pad.storeDigest else bit got i)

def selfTest (p : Packet) (d : Device) : Device :=
  let m := pByte p 0
  if paddockDenies d then complete p .denied [] d
  else if !reservedZero p [(0, 1)] || decide (7 < m) then complete p .badParam [] d
  else
    let got := testBits d
    let pass := maskOf 3 (fun i => bit m i && bit got i)
    let d := takeFresh d
    let d := if bit m 1 && !bit got 1 then failTest true d else d
    let d := if (bit m 0 && !bit got 0) || (bit m 2 && !bit got 2) then failTest false d else d
    complete p .ok (leBytes 1 pass) (if pass == m then testPassed d else d)

/-- PERIODIC_SELF_TEST: the three tests run every selftest_period_h hours, and pass as the bits say; the digest test also as the store
says. -/
def periodicSelfTest (pass : BitVec 3) (d : Device) : Device :=
  if cfgN d 0x12 0 2 == 0 || !(d.power.state == .ready || d.power.state == .safe) then d
  else
    let digest := pass.getLsbD 2 && bit (testBits d) 2
    let e := if pass.getLsbD 1 then d else failTest true d
    if pass.getLsbD 0 && digest then (if pass.getLsbD 1 then testPassed d else e) else failTest false e

/-! ### Zeroisation (R563) and JTAG (R564) -/

/-- ZEROIZE# low for `ns` nanoseconds: below 0.2 µs ignored, up to 1 µs free (R609). -/
def zeroizePin (ns : Nat) (d : Device) : Device :=
  if d.power.por || ns < 200 then d
  else if 1000 ≤ ns || Config.shortPulse d.fresh then zeroise (if 1000 ≤ ns then d else takeFresh d)
  else takeFresh d

def zeroizeCmd (permanent : Bool) (p : Packet) (d : Device) : Device :=
  if !reservedZero p [(0, 1), (8, 4)] || decide (1 < pByte p 0) then complete p .badParam [] d
  else if !permanent then complete p .ok [] (zeroise d)
  else if p32 p 8 != 0x5A45524F then complete p .badParam [] d
  else complete p .ok [] (zeroise { d with pad := { d.pad with fuses := { d.pad.fuses with kill := 0xFF } } })

/-- The JTAG mode in force: mode 1 before secure boot completes, then the field. -/
def jtagMode (d : Device) : Nat :=
  match d.power.state with
  | .bootRom | .waitImage | .loading | .bootFailed => 1
  | .ready | .safe | .sleep => cfgN d 0x12 0 1

/-- The instruction register after an instruction: what the mode does not permit is taken as BYPASS. -/
def tapTaken (mode : Nat) (t : TapInstr) : TapInstr :=
  match t with
  | .bypass | .idcode | .samplePreload => t
  | .extest | .clamp | .highz | .extestPulse | .extestTrain => if 1 ≤ mode then t else .bypass
  | .mehrikDebug _ => if 2 ≤ mode then t else .bypass

def setTap (t : TapInstr) (d : Device) : Device := { d with pad := { d.pad with tap := tapTaken (jtagMode d) t } }

def execImageUpdateWrite (p : Packet) (s : State) : Host.Outcome State Fault Refusal := act (accept p imageUpdateWrite) s
def execCommitVersion (p : Packet) (s : State) : Host.Outcome State Fault Refusal := act (accept p commitVersion) s
def execImageUpdateStatus (p : Packet) (s : State) : Host.Outcome State Fault Refusal := act (accept p imageUpdateStatus) s
def execAuthChallenge (p : Packet) (s : State) : Host.Outcome State Fault Refusal := act (accept p authChallenge) s
def execAuthResponse (p : Packet) (s : State) : Host.Outcome State Fault Refusal := act (accept p authResponse) s
def execAuthEnd (p : Packet) (s : State) : Host.Outcome State Fault Refusal := act (accept p authEnd) s
def execKeyGenerate (p : Packet) (s : State) : Host.Outcome State Fault Refusal := act (accept p keyGenerate) s
def execKeyImport (p : Packet) (s : State) : Host.Outcome State Fault Refusal := act (accept p keyImport) s
def execKeyExport (p : Packet) (s : State) : Host.Outcome State Fault Refusal := act (accept p keyExport) s
def execKeyDestroy (p : Packet) (s : State) : Host.Outcome State Fault Refusal := act (accept p keyDestroy) s
def execKeyWrapStatus (p : Packet) (s : State) : Host.Outcome State Fault Refusal := act (accept p keyWrapStatus) s
def execZeroize (p : Packet) (s : State) : Host.Outcome State Fault Refusal := act (accept p (zeroizeCmd false)) s
def execZeroizePermanent (p : Packet) (s : State) : Host.Outcome State Fault Refusal := act (accept p (zeroizeCmd true)) s
def execSelfTest (p : Packet) (s : State) : Host.Outcome State Fault Refusal := act (accept p selfTest) s
def execZeroizePin (ns : Nat) (s : State) : Host.Outcome State Fault Refusal := act (zeroizePin ns) s
def execNonceExpiry (q : Fin 576) (s : State) : Host.Outcome State Fault Refusal := act (setNonce q.val none) s
/-- R554: auth_lockout_ms has passed. -/
def execLockoutEnd (s : State) : Host.Outcome State Fault Refusal :=
  act (fun d => { d with pad := { d.pad with lockedOut := false } }) s
def execPeriodicSelfTest (pass : BitVec 3) (s : State) : Host.Outcome State Fault Refusal := act (periodicSelfTest pass) s
/-- R564: of the Mehrik debug instructions that mode 2 permits the spec names no effect. -/
def execTapInstruction (t : TapInstr) (s : State) : Host.Outcome State Fault Refusal :=
  match tapTaken (jtagMode s.dev) t with
  | .mehrikDebug _ => .refused .mehrikDebug
  | _ => act (setTap t) s

end Sys2Proof.Machine
end

