-- ==== Sys2Proof/Machine/Settings.lean ====
section
/-! DEFINITION. The CFG commands: staged base, overlays, reading, validation, commits and aborts (R45-R49, R54-R57, R61, R65, R518). -/

namespace Sys2Proof.Machine

/-! ### Lists of field changes (R45, R46) -/

/-- One field change of 16 bytes; none where it fails the checks of R46. -/
def readChange (b : List Byte) : Option (Nat × Int) :=
  let key := getLe b 0 4
  let op := getLe b 4 2
  let raw := getLe b 8 8
  match fieldOf key with
  | none => none
  | some f =>
    if !fieldWritable key || getLe b 6 2 != 0 then none
    else if op == 1 then (if raw == 0 then some (key, fieldReset key) else none)
    else if op != 0 then none
    else match fieldDecode f raw with
      | some v => if fieldValueOk key v then some (key, v) else none
      | none => none

/-- Index of the first entry that fails. -/
def firstBad : List (List Byte) → Option Nat
  | [] => none
  | b :: bs => if (readChange b).isNone then some 0 else (firstBad bs).map (· + 1)

def noIndex : Nat := 0xFFFFFFFF

/-- A list of `n` changes: the changes, or the index that the reply names (R46). -/
def readChanges (d : Device) (a n : Nat) : Except Nat (List (Nat × Int)) :=
  if n == 0 || decide (4096 < n) || !reachable d .cp false a (16 * n) then .error noIndex
  else
    let es := readEntries d a 16 n
    match firstBad es with
    | some i => .error i
    | none => .ok (es.filterMap readChange)

/-- R47. -/
def cfgWriteBase (p : Packet) (d : Device) : Device :=
  if !reservedZero p [(0, 12)] then complete p .badParam (leBytes 4 noIndex) d
  else match readChanges d (p64 p 0) (p32 p 8) with
    | .error i => complete p .badParam (leBytes 4 i) d
    | .ok l => complete p .ok (leBytes 4 noIndex) (l.foldl (fun d e => stage e.1 e.2 d) d)

/-- An entry of a key replaces the earlier entry of that key (R48). -/
def addEntry (l : List (Nat × Int)) (e : Nat × Int) : List (Nat × Int) := l.filter (fun x => x.1 != e.1) ++ [e]

def overlay (d : Device) (i : Nat) : Option (List (Nat × Int)) := tget none d.cfg.overlays i

def overlayHeld (d : Device) (i : Nat) : Nat := ((overlay d i).getD []).length

/-- CFG_WRITE_OVERLAY with one of its modes (R48): the checks in their order. -/
def cfgWriteOverlay (mode : Nat) (p : Packet) (d : Device) : Device :=
  let i := pByte p 0
  let n := p32 p 16
  let bad (x : Nat) : List Byte := leBytes 4 x ++ leBytes 4 (overlayHeld d i)
  let countOk := if mode == 2 then n == 0 else decide (1 ≤ n) && decide (n ≤ 4096)
  if !reservedZero p [(0, 2), (8, 12)] || decide (2 < pByte p 1) || !countOk then complete p .badParam (bad noIndex) d
  else if 32 ≤ i then complete p .noResource (bad noIndex) d
  else if mode == 2 then
    complete p .ok (leBytes 4 noIndex ++ leBytes 4 0) { d with cfg := { d.cfg with overlays := tset none d.cfg.overlays i none } }
  else match readChanges d (p64 p 8) n with
    | .error x => complete p .badParam (bad x) d
    | .ok l =>
      let new := if mode == 0 then l else l.foldl addEntry ((overlay d i).getD [])
      if 4096 < new.length then complete p .noResource (bad noIndex) d
      else complete p .ok (leBytes 4 noIndex ++ leBytes 4 new.length)
        { d with cfg := { d.cfg with overlays := tset none d.cfg.overlays i (some new) } }

/-- R49. -/
def cfgRead (p : Packet) (d : Device) : Device :=
  let key := p32 p 0
  let sel := pByte p 4
  match fieldOf key with
  | none => complete p .badParam [] d
  | some f =>
    if !reservedZero p [(0, 5)] || decide (1 < sel) then complete p .badParam [] d
    else
      let v := if f.readOnly then readOnlyValue d (key / 16777216) (key / 65536 % 256) (key % 65536)
        else if sel == 0 then stagedVal d key else cfgVal d key
      complete p .ok (leInt 8 v ++ leBytes 4 d.cfg.generation.toNat ++ leBytes 4 d.cfg.pendingCommits.length) d

/-! ### Domains that a commit turns on (R517, R518) -/

/-- The condition under which a domain of bits 8 to 26 is powered. -/
def domainOn (c : Values) (b : Nat) : Bool :=
  if b < 8 then true
  else if b < 12 then vN c 2 (b - 8) 1 == 1
  else if b < 16 then (List.range 5).any (fun l => laneOn c ((b - 12) * 8 + l))
  else if b < 20 then (List.range 4).any (fun s => slotOn c ((b - 16) * 4 + s))
  else if b < 22 then vN c 0x0C (b - 20) 1 == 1
  else if b < 26 then vN c 0x0D (0x80 + (b - 22)) 1 == 1
  else if b == 26 then (List.range 8).any (fun q => vN c 0x0B (0x10 + q) 1 != 0)
  else false

/-- The commit turns on a domain whose blocks swap at a token. -/
def turnsOn (d : Device) (c : Values) : Bool :=
  ((List.range 12).map (· + 8)).any (fun b => domainOn c b && !(contexts d).any (fun x => domainOn x b))

/-- Sample periods of 20 microseconds, rounded up (R518). -/
def readySamples (d : Device) : Nat := ceilDiv (20 * fsclkHz d) 1000000

/-! ### Parameters and content of a commit (R55, R56) -/

/-- Dirty staged fields if INCLUDE_BASE, then the overlays of the mask in ascending ID. -/
def commitContent (p : Packet) (d : Device) : List (Nat × Int) :=
  (if bit (p16 p 12) 0 then d.cfg.dirty.filterMap (fun e => e.2.map (fun v => (e.1, v))) else [])
    ++ ((List.range 32).filter (fun i => bit (p32 p 8) i)).flatMap (fun i => (overlay d i).getD [])

def commitParamsOk (p : Packet) : Bool :=
  reservedZero p [(0, 19)] && decide (p16 p 12 < 4) && (groupFlag p || (p32 p 14 == 0 && pByte p 18 == 0))

/-- Target epoch (R55, R57, R518): with AT_EPOCH the one named; else the first epoch whose token forms later, and at least 20 µs later
where a domain is turned on. A group commit without AT_EPOCH takes the first epoch that R65 admits. -/
def targetEpoch (p : Packet) (turns : Bool) (d : Device) : Nat :=
  if atEpochFlag p then p64 p 0
  else if groupFlag p then epochIndex d + 3
  else
    let i := if turns then d.sampleIndex + readySamples d - 1 else d.sampleIndex
    max (nextToken d) (i / 2 ^ epochExp d + 1)

/-- The deadline of R57, R65 and R518 has passed. -/
def commitLate (p : Packet) (t : Nat) (turns : Bool) (d : Device) : Bool :=
  if groupFlag p then decide (t < epochIndex d + 3)
  else decide (epochStart d t ≤ d.sampleIndex) || decide (t < nextToken d)
    || (turns && decide (epochStart d t < d.sampleIndex + readySamples d))

/-! ### Validation (R51) -/

/-- Accepted commits as epochs and contents, in order of acceptance. -/
def acceptedCommits (d : Device) : List (Nat × List (Nat × Int)) := d.cfg.pendingCommits.map (fun m => (m.epoch, m.content))

/-- First failing check at one epoch: `keys` are those of the commit under test where the epoch is its target. -/
def checkEpoch (d : Device) (all : List (Nat × List (Nat × Int))) (t : Nat) (keys : List Nat) : Option (Nat × Nat × Status) :=
  let before := configAt d (all.filter (fun m => decide (m.1 < t))) t
  let written := (all.filter (fun m => m.1 == t)).flatMap (fun m => m.2.map (·.1))
  failingCheck d before (configAt d all t) (fun k => written.contains k) keys all

/-- The failing check with the lowest number over several epochs. -/
def lowestCheck (l : List (Option (Nat × Nat × Status))) : Option (Nat × Nat × Status) :=
  l.foldl (fun b x => match b, x with
    | none, y => y
    | some y, none => some y
    | some y, some z => if z.1 < y.1 then some z else some y) none

/-- Validation of a commit at its target epoch and at that of every later pending commit (R51). The paddock fields need the Crypto
Officer role (R58). -/
def validateCommit (d : Device) (t : Nat) (content : List (Nat × Int)) (officer : Bool) : Option (Nat × Nat × Status) :=
  let all := acceptedCommits d ++ [(t, content)]
  let keys := ((content.map (·.1)).eraseDups)
  let later := ((all.map (·.1)).filter (fun e => decide (t < e))).eraseDups
  match keys.find? (fun k => k / 16777216 == 0x12) with
  | some k => if officer then lowestCheck (checkEpoch d all t keys :: later.map (fun e => checkEpoch d all e []))
    else some (1, k, .denied)
  | none => lowestCheck (checkEpoch d all t keys :: later.map (fun e => checkEpoch d all e []))

/-- Highest channel spectral load and highest bank load over the epochs of R51, in units of 10^6 per second (R54). -/
def reportedLoads (d : Device) (t : Nat) (content : List (Nat × Int)) : Nat × Nat :=
  let all := acceptedCommits d ++ [(t, content)]
  let cs := (t :: ((all.map (·.1)).filter (fun e => decide (t < e))).eraseDups).map (fun e => ratedValues d (sclkRelocks all e) (configAt d all e))
  let spec := (cs.flatMap (fun c => (List.range 4).map (channelLoad c))).foldl max 0
  let bank := (cs.map (fun c => highestBankLoad (loftBuffers d c (bindingLoads d c)))).foldl max 0
  ((spec / 1000000).floor.toNat, (bank / 1000000).floor.toNat)

/-- R54. -/
def cfgValidate (p : Packet) (d : Device) : Device :=
  if !commitParamsOk p then complete p .badParam [] d
  else
    let content := commitContent p d
    let turns := turnsOn d (withChanges (valuesAfter d d.cfg.pendingCommits.length) content)
    let t := targetEpoch p turns d
    let loads := reportedLoads d t content
    let tail := leBytes 8 loads.1 ++ leBytes 8 loads.2
    match validateCommit d t content (roleHeld d p == 1) with
    | some x => complete p x.2.2 (leBytes 1 x.1 ++ zeroBytes 3 ++ leBytes 4 x.2.1 ++ tail) d
    | none =>
      let late := atEpochFlag p && decide (epochStart d t ≤ d.sampleIndex)
      complete p (if late then .late else .ok) (zeroBytes 8 ++ tail) d

/-! ### Commits (R56, R57, R65) -/

/-- The CP's copy is taken: the commit joins those that wait, and the copied fields are no longer dirty (R56). -/
def acceptCommit (m : Commit) (base : Bool) (d : Device) : Device :=
  { d with cfg := { d.cfg with pendingCommits := d.cfg.pendingCommits ++ [m], dirty := if base then [] else d.cfg.dirty } }

/-- The packet with AT_EPOCH and the T that the primary chose (R502). -/
def commitAt (p : Packet) (t : Nat) : Packet := { p with flags := p.flags ||| 1, params := leBytes 8 t ++ p.params.drop 8 }

def cfgCommitPlain (p : Packet) (d : Device) : Device :=
  if !commitParamsOk p then complete p .badParam [] d
  else
    let content := commitContent p d
    let turns := turnsOn d (withChanges (valuesAfter d d.cfg.pendingCommits.length) content)
    let t := targetEpoch p turns d
    match validateCommit d t content (roleHeld d p == 1) with
    | some x => complete p x.2.2 [] d
    | none =>
      if commitLate p t turns d then complete p .late [] d
      else
        let m : Commit := { packet := some p, epoch := t, content := content, waitAdopted := bit (p16 p 12) 1 }
        let d := if mirroring d && mirrorSource p then sendMirror p (commitAt p t) none d else d
        park p (acceptCommit m (bit (p16 p 12) 0) d)

/-- `a` is greater than `b` in serial-number order modulo 2^32 (R65). -/
def serialAfter (a b : BitVec 32) : Bool := a != b && decide ((a - b).toNat < 2 ^ 31)

/-- Phase 1 of a group commit at its master (R65). A master runs one group commit at a time (DESIGN CHOICE). It completes with the last
APPLIED whether or not WAIT_ADOPTED is set (DEDUCED). -/
def cfgCommitGroup (p : Packet) (d : Device) : Device :=
  let mask := pByte p 18
  if !commitParamsOk p || !bit mask d.group.id then complete p .badParam [] d
  else if (List.range 8).any (fun n => bit mask n && n != d.group.id && !bit d.group.members.toNat n) then complete p .notPresent [] d
  else if d.group.commit.isSome then complete p .busy [] d
  else
    let content := commitContent p d
    let turns := turnsOn d (withChanges (valuesAfter d d.cfg.pendingCommits.length) content)
    let t := targetEpoch p turns d
    let g : BitVec 32 := if p32 p 14 == 0 then d.cfg.generation + 1 else BitVec.ofNat 32 (p32 p 14)
    match validateCommit d t content (roleHeld d p == 1) with
    | some x => complete p x.2.2 [] d
    | none =>
      if commitLate p t turns d then complete p .late [] d
      else if !serialAfter g d.cfg.generation then complete p .badParam [] d
      else
        let own : BitVec 8 := BitVec.ofNat 8 (2 ^ d.group.id)
        let m : Commit := { packet := none, epoch := t, content := content, waitAdopted := false, generation := some g, master := some d.group.id }
        let d := acceptCommit m (bit (p16 p 12) 0) d
        let run : GroupCommit := { packet := p, epoch := t, generation := g, mask := BitVec.ofNat 8 mask, armed := own, refused := 0, applied := 0 }
        let d := { d with group := { d.group with commit := some run } }
        let others := (List.range 8).filter (fun n => bit mask n && n != d.group.id)
        park p (others.foldl (fun d n => sendMsg n (.prepare t g content (BitVec.ofNat 8 mask)) d) d)

def cfgCommit (p : Packet) (d : Device) : Device := if groupFlag p then cfgCommitGroup p d else cfgCommitPlain p d

/-! ### Abort (R61) -/

/-- Tag of the command that a commit waits for. -/
def commitTag (m : Commit) : Option Nat := m.packet.map (fun p => p.tag.toNat)

/-- The group commit at this master is abandoned: every member discards it, and the CFG_COMMIT completes with ABORTED and the members
that did not arm (R65). -/
def abandonGroupCommit (d : Device) : Device :=
  match d.group.commit with
  | none => d
  | some g =>
    let d := { d with
      group := { d.group with commit := none }
      cfg := { d.cfg with pendingCommits := d.cfg.pendingCommits.filter (fun m => m.master != some d.group.id) } }
    let others := (List.range 8).filter (fun n => bit g.mask.toNat n && n != d.group.id)
    let d := others.foldl (fun d n => sendMsg n .abort d) d
    complete g.packet .aborted (commitReply g.epoch g.generation (g.mask &&& ~~~g.armed).toNat) d

/-- Removing `gone` makes a later pending commit fail R51: one at or behind the first epoch of those removed that passes with them. -/
def removalFails (d : Device) (gone kept : List Commit) : Bool :=
  let all := acceptedCommits d
  let rest := kept.map (fun m => (m.epoch, m.content))
  let first := (gone.map (·.epoch)).foldl min (2 ^ 64)
  (((rest.map (·.1)).filter (fun e => decide (first ≤ e))).eraseDups).any (fun e =>
    (checkEpoch d all e []).isNone && (checkEpoch { d with cfg := { d.cfg with pendingCommits := kept } } rest e []).isSome)

/-- The group commit of this master still waits for its token. -/
def groupWaits (d : Device) : Bool := d.cfg.pendingCommits.any (fun m => m.master == some d.group.id && m.generation.isSome)

/-- Complete the aborted commits, then the CFG_ABORT itself; `all`: the abort of all commits, which also ends the hold of R66. -/
def finishAbort (p : Packet) (victims : List Commit) (group all : Bool) (d : Device) : Device :=
  let kept := d.cfg.pendingCommits.filter (fun m => !victims.contains m)
  let own := group && groupWaits d
  let gone := d.cfg.pendingCommits.filter (fun m => victims.contains m || (own && m.master == some d.group.id))
  if removalFails d gone (d.cfg.pendingCommits.filter (fun m => !gone.contains m)) then complete p .budget [] d
  else
    let d := { d with cfg := { d.cfg with pendingCommits := kept, skewed := if all then none else d.cfg.skewed } }
    let d := victims.foldl (fun d m => completeOpt m.packet .aborted [] d) d
    let d := if own then abandonGroupCommit d else d
    let d := if bit (pByte p 2) 0 then { d with cfg := { d.cfg with dirty := [] } } else d
    complete p .ok (leBytes 2 (victims.length + boolN own)) d

/-- CFG_ABORT. With 0xFFFF an armed group commit of another master stays pending: its master alone discards it (DEDUCED). -/
def cfgAbort (p : Packet) (d : Device) : Device :=
  let tag := p16 p 0
  if !reservedZero p [(0, 3)] || decide (1 < pByte p 2) then complete p .badParam [] d
  else if tag == 0xFFFF then
    finishAbort p (d.cfg.pendingCommits.filter (fun m => m.master.isNone)) true true d
  else
    let victims := d.cfg.pendingCommits.filter (fun m => commitTag m == some tag)
    let group := d.group.commit.any (fun g => g.packet.tag.toNat == tag)
    if !victims.isEmpty || (group && groupWaits d) then finishAbort p victims group false d
    else if group || d.cfg.adoptions.any (fun a => a.packet.tag.toNat == tag) then complete p .late [] d
    else complete p .badState [] d

/-- Safe-state entry, SLEEP and SYNC end every commit whose token has not formed (R63, R493). On entry into the safe state or SLEEP an armed
group commit of another master is kept apart: its token will form without it (R66). -/
def abortPending (keepArmed : Bool) (d : Device) : Device :=
  let ms := d.cfg.pendingCommits
  let armed := if keepArmed then ms.find? (fun m => m.master.isSome && m.master != some d.group.id) else none
  let d := if groupWaits d then abandonGroupCommit d else d
  let d := { d with cfg := { d.cfg with pendingCommits := [], skewed := if armed.isSome then armed else d.cfg.skewed } }
  ms.foldl (fun d m => completeOpt m.packet .aborted [] d) d

def execCfgWriteBase (p : Packet) (s : State) : Host.Outcome State Fault Refusal := act (accept p cfgWriteBase) s
def execCfgWriteOverlayReplace (p : Packet) (s : State) : Host.Outcome State Fault Refusal := act (accept p (cfgWriteOverlay 0)) s
def execCfgWriteOverlayAppend (p : Packet) (s : State) : Host.Outcome State Fault Refusal := act (accept p (cfgWriteOverlay 1)) s
def execCfgWriteOverlayFree (p : Packet) (s : State) : Host.Outcome State Fault Refusal := act (accept p (cfgWriteOverlay 2)) s
def execCfgRead (p : Packet) (s : State) : Host.Outcome State Fault Refusal := act (accept p cfgRead) s
def execCfgValidate (p : Packet) (s : State) : Host.Outcome State Fault Refusal := act (accept p cfgValidate) s
def execCfgCommit (p : Packet) (s : State) : Host.Outcome State Fault Refusal := act (accept p cfgCommit) s
def execCfgCommitGroup (p : Packet) (s : State) : Host.Outcome State Fault Refusal := act (accept p cfgCommitGroup) s
def execCfgAbort (p : Packet) (s : State) : Host.Outcome State Fault Refusal := act (accept p cfgAbort) s

end Sys2Proof.Machine
end

