-- ==== Sys2Proof/Machine/Group.lean ====
section
/-! DEFINITION. The Shunis link, the group, GROUP_SYNC control and group commits at a member (16_groups_and_pairs.md, R65, R66). -/

namespace Sys2Proof.Machine

/-! ### Members and routes (R489) -/

/-- Devices that this one can reach. -/
def knownDevices (d : Device) : List Nat := (List.range 8).filter (fun n => n != d.group.id && (routePort d n).isSome)

/-- Own bit of the member mask. -/
def ownBit (d : Device) : BitVec 8 := BitVec.ofNat 8 (2 ^ d.group.id)

def deviceBit (n : Nat) : BitVec 8 := BitVec.ofNat 8 (2 ^ (n % 8))

def inMask (m : BitVec 8) (n : Nat) : Bool := bit m.toNat n

/-- Neighbour of each own port. -/
def ownNeighbours (d : Device) : List (Option Nat) :=
  (List.range 4).map (fun i => let p := shunisPort d i; if p.up then p.neighbour else none)

/-- The neighbours of this device go to every device that it reaches. -/
def sendNeighbours (d : Device) : Device :=
  (knownDevices d).foldl (fun d n => sendMsg n (.form (.neighbours (ownNeighbours d))) d) d

/-- Commands forwarded to a member that can no longer be reached complete with NOT_PRESENT (R499). -/
def failFlights (n : Nat) (d : Device) : Device :=
  let ps := d.host.flights.filterMap (fun e => match e.2 with
    | some f => if f.forwardedTo == some n then some f.packet else none
    | none => none)
  ps.foldl (fun d p => finish p .notPresent [] d) { d with group := { d.group with
    forwardedOut := tset 0 d.group.forwardedOut n 0, held := d.group.held.filter (fun f => f.dest != n || !carriesCommand f) } }

/-! ### Group formation (R491) -/

/-- Largest number of hops between two devices of a mask, none where two of them do not reach each other. -/
def diameter (d : Device) (mask : BitVec 8) : Option Nat :=
  let ms := (List.range 8).filter (inMask mask)
  let hs := ms.flatMap (fun a => ms.map (fun b => hops d a b))
  if hs.any (·.isNone) then none else some ((hs.filterMap id).foldl max 0)

def portReply (d : Device) (n : Nat) : Nat :=
  match (ownNeighbours d)[n]?.getD none with
  | some k => k % 8 + 128
  | none => 0

/-- The reply of every op. -/
def formReply (d : Device) : List Byte :=
  let m := d.group.members
  let r := maskOf 8 (fun n => inMask m n && (n == d.group.id || (routePort d n).isSome))
  leBytes 1 m.toNat ++ leBytes 1 r ++ leBytes 1 ((diameter d (BitVec.ofNat 8 r)).getD 0) ++ zeroBytes 1
    ++ (List.range 4).flatMap (fun n => leBytes 1 (portReply d n))

/-- Two devices of the mask carry one ID: a neighbour carries the own one, or two neighbours with different serial numbers carry one. -/
def duplicateIds (d : Device) (mask : BitVec 8) : Bool :=
  (List.range 4).any (fun i =>
    let p := shunisPort d i
    p.up && (match p.neighbour with
      | some n => inMask mask n && (n == d.group.id || (List.range 4).any (fun j =>
          (shunisPort d j).neighbour == some n && (shunisPort d j).serial != p.serial))
      | none => false))

def setMembers (m : BitVec 8) (d : Device) : Device := { d with group := { d.group with members := m } }

/-- GROUP_FORM FORM ends without a group: the devices that were asked leave again. -/
def failForm (st : Status) (d : Device) : Device :=
  match d.group.forming with
  | none => d
  | some r =>
    let d := { d with group := { d.group with forming := none } }
    let asked := (List.range 8).filter (fun n => inMask r.mask n && n != d.group.id)
    let d := asked.foldl (fun d n => sendMsg n (.form .cannot) d) d
    complete r.packet st (formReply d) d

/-- Every listed device has joined. -/
def settleForm (d : Device) : Device :=
  match d.group.forming with
  | none => d
  | some r =>
    if r.joined == r.mask then
      let d := raiseEvent 0x3C4 1 (ballIndex d) 0 (setMembers r.mask { d with group := { d.group with forming := none } })
      complete r.packet .ok (formReply d) d
    else d

def formParamsOk (p : Packet) : Bool := reservedZero p [(0, 2)]

def groupForm (p : Packet) (d : Device) : Device :=
  let mask : BitVec 8 := BitVec.ofNat 8 (pByte p 1)
  let others := (List.range 8).filter (fun n => inMask mask n && n != d.group.id)
  if !formParamsOk p || !inMask mask d.group.id then complete p .badParam [] d
  else if d.group.members != 0 || d.group.forming.isSome || duplicateIds d mask then complete p .badState (formReply d) d
  else match diameter d mask with
    | none => complete p .notPresent (formReply d) d
    | some n =>
      if 4 < n then complete p .badState (formReply d) d
      else
        let d := { d with group := { d.group with forming := some { packet := p, mask := mask, joined := ownBit d } } }
        settleForm (others.foldl (fun d n => sendMsg n (.form (.join mask)) d) (park p d))

/-- This device belongs to no group any more. -/
def leaveGroup (d : Device) : Device :=
  let others := otherMembers d
  let d := setMembers 0 { d with group := { d.group with joinedBy := none } }
  others.foldl (fun d n => failFlights n d) (raiseEvent 0x3C4 2 (ballIndex d) d.group.id d)

def groupLeave (p : Packet) (d : Device) : Device :=
  if !formParamsOk p then complete p .badParam [] d
  else if d.group.members == 0 || d.group.pairFormed || d.group.pairPlan.isSome then complete p .badState (formReply d) d
  else
    let d := leaveGroup (broadcast (.form .leave) d)
    complete p .ok (formReply d) d

def groupStatus (p : Packet) (d : Device) : Device :=
  if !formParamsOk p then complete p .badParam [] d else complete p .ok (formReply d) d

/-! ### GROUP_SYNC (R494, R495) -/

def setSyncRun (r : Option SyncRun) (d : Device) : Device := { d with group := { d.group with syncRun := r } }

/-- Members that GROUP_SYNC acts on: the group, or this device alone outside a group. -/
def syncMembers (d : Device) : BitVec 8 := if d.group.members == 0 then ownBit d else d.group.members

/-- The pending values of the fields that R511 marks as common. -/
def commonFields (d : Device) : List Int := [1, 5, 6, 7].map (fun k => valuesAfter d 0 (cfgKey 0x0F 0 k))

/-- The member's own part of step 1. -/
def syncReady (d : Device) : Bool :=
  d.clk.sclk.locked && d.clk.refPresent && !relocking d.clk.sclk && !relocking d.clk.lo

def isRoot (d : Device) : Bool := cfgN d 0x0F 0 3 == 2

/-- Level of SYNC_OUT0 and SYNC_OUT1 by group.dev.sync_out (R492): low, SYNC_IN, or the pulse of the root. -/
def syncOutHigh (d : Device) : Bool :=
  match cfgN d 0x0F 0 3 with
  | 1 => (tget ({} : TiuInput) d.tiu.inputs 4).level
  | 2 => d.group.syncOut
  | _ => false

def armSync (master : Nat) (noBus : Bool) (d : Device) : Device :=
  { d with group := { d.group with syncArmed := true, syncMaster := some (master, noBus) } }

def disarmSync (d : Device) : Device := { d with group := { d.group with syncArmed := false, syncMaster := none } }

/-- Board SYNC trace delay in 2^-16 sample periods. -/
def traceDelay (d : Device) : Int := roundHalfEven (cfgInt d 0x0F 0 4 * ((fsclkHz d * 65536 : Nat) : Int)) 2048000000000

/-- Skew of a member against the coordinator, where both captures are there. -/
def skewOf (d : Device) (r : SyncRun) (k : Nat) : Option Int :=
  match tget none r.captures d.group.id, tget none r.captures k with
  | some c, some x => some (c - x)
  | _, _ => none

/-- The skew lies beyond half a REFIN period. -/
def slipped (d : Device) (x : Int) : Bool :=
  let q := fsclkFrac d
  decide (65536 * q.1 < x.natAbs * 2 * q.2 * d.clk.sclk.inForce.refinHz)

def slipMask (d : Device) (r : SyncRun) : Nat := maskOf 8 (fun k => ((skewOf d r k).map (slipped d)).getD false)

def syncReply (d : Device) (r : SyncRun) (missed slip : Nat) : List Byte :=
  (List.range 8).flatMap (fun k => leInt 4 ((skewOf d r k).getD 0)) ++ leBytes 4 r.transitMax ++ leBytes 1 missed ++ leBytes 1 slip
    ++ zeroBytes 2

/-- PHASE_UNVERIFIED returns to 0 while both synthesisers are locked and REFIN is qualified (R76). -/
def clearPhase (d : Device) : Device :=
  if d.clk.sclk.locked && d.clk.lo.locked && d.clk.refPresent then { d with clk := { d.clk with phaseUnverified := false } } else d

def toSyncOthers (m : SyncCtl) (d : Device) : Device :=
  ((List.range 8).filter (fun n => inMask (syncMembers d) n && n != d.group.id)).foldl (fun d n => sendMsg n (.syncCtl m) d) d

/-- GROUP_SYNC ends at its coordinator: `missed` also names the members that failed step 1. -/
def endSync (st : Status) (missed slip : Nat) (r : SyncRun) (d : Device) : Device :=
  let d := toSyncOthers (.complete (st == .ok)) (setSyncRun none d)
  let d := if st == .ok then clearPhase d else d
  complete r.packet st (syncReply d r missed slip) d

/-- The run goes on as far as the answers that came allow. -/
def advanceSync (d : Device) : Device :=
  match d.group.syncRun with
  | none => d
  | some r =>
    let all := syncMembers d
    match r.phase with
    | .query =>
      if r.reported != all then d
      else
        let n := ((List.range 8).filter (inMask r.roots)).length
        let bad := if r.external then r.roots else if n == 1 then 0 else if n == 0 then all else r.roots
        let failing := r.failing ||| bad
        if failing != 0 then complete r.packet .badState (syncReply d r failing.toNat 0) (setSyncRun none d)
        else
          let d := armSync d.group.id r.noBus d
          let r := { r with phase := .arming, armed := r.armed ||| ownBit d }
          let r := if r.armed == all && r.external then { r with phase := .pulsed } else r
          toSyncOthers (.arm r.noBus) (setSyncRun (some r) d)
    | .arming => if r.armed == all && r.external then setSyncRun (some { r with phase := .pulsed }) d else d
    | .pulsed =>
      if (List.range 8).any (fun k => inMask all k && (tget none r.captures k).isNone) then d
      else
        let others := (List.range 8).filter (fun k => inMask all k && k != d.group.id)
        let d := others.foldl (fun d k => sendMsg k (.syncCtl (.skew ((skewOf d r k).getD 0))) d) d
        let d := { d with group := { d.group with syncSkew := 0 } }
        let slip := slipMask d r
        if r.noBus || r.transits == all then endSync (if slip == 0 then .ok else .badState) 0 slip r d
        else setSyncRun (some { r with phase := .transit }) d
    | .transit =>
      if r.transits == all then
        let slip := slipMask d r
        endSync (if slip == 0 then .ok else .badState) 0 slip r d
      else d

/-- The report of a member for step 1. -/
def noteReport (k fsclk : Nat) (common : List Int) (root ready : Bool) (d : Device) : Device :=
  match d.group.syncRun with
  | none => d
  | some r =>
    let bad := !ready || fsclk != fsclkHz d || common != commonFields d
    let r := { r with
      reported := r.reported ||| deviceBit k
      failing := if bad then r.failing ||| deviceBit k else r.failing
      roots := if root then r.roots ||| deviceBit k else r.roots }
    advanceSync (setSyncRun (some r) d)

def noteArmed (k : Nat) (d : Device) : Device :=
  match d.group.syncRun with
  | none => d
  | some r => advanceSync (setSyncRun (some { r with armed := r.armed ||| deviceBit k }) d)

def noteCapture (k : Nat) (x : Int) (d : Device) : Device :=
  match d.group.syncRun with
  | none => d
  | some r =>
    if r.phase == .pulsed then advanceSync (setSyncRun (some { r with captures := tset none r.captures k (some x) }) d) else d

def noteTransit (k t : Nat) (d : Device) : Device :=
  match d.group.syncRun with
  | none => d
  | some r =>
    advanceSync (setSyncRun (some { r with transits := r.transits ||| deviceBit k, transitMax := max r.transitMax t }) d)

def groupSync (p : Packet) (d : Device) : Device :=
  if !reservedZero p [(0, 1)] || decide (3 < pByte p 0) then complete p .badParam [] d
  else if d.group.syncRun.isSome || d.group.syncArmed then complete p .busy [] d
  else
    let all := syncMembers d
    let lost := (List.range 8).filter (fun n => inMask all n && n != d.group.id && (routePort d n).isNone)
    let gone : BitVec 8 := lost.foldl (fun m n => m ||| deviceBit n) 0
    let r : SyncRun := { packet := p, external := bit (pByte p 0) 0, noBus := bit (pByte p 0) 1, phase := .query, reported := gone,
                         failing := gone, roots := 0, armed := 0, captures := [], transits := 0, transitMax := 0 }
    let d := toSyncOthers .query (setSyncRun (some r) (park p d))
    noteReport d.group.id (fsclkHz d) (commonFields d) (isRoot d) (syncReady d) d

/-- 10 µs after the last ARMED the root drives the pulse. -/
def syncPulse (d : Device) : Device :=
  match d.group.syncRun with
  | none => d
  | some r =>
    if r.phase == .arming && !r.external && r.armed == syncMembers d then
      let d := setSyncRun (some { r with phase := .pulsed }) d
      if isRoot d then { d with group := { d.group with syncOut := true } }
      else ((List.range 8).filter (inMask r.roots)).foldl (fun d n => sendMsg n (.syncCtl .pulse) d) d
    else d

/-- A member has not taken the SYNC within 1 ms of the pulse: it keeps its old sample index and PHASE_UNVERIFIED. -/
def missSync (d : Device) : Device :=
  if d.group.syncArmed then raiseFault (plainFault 0x3C4 6 1 0) (disarmSync d) else d

def syncCaptureTimeout (d : Device) : Device :=
  match d.group.syncRun with
  | none => missSync d
  | some r =>
    if r.phase == .pulsed && (!r.external || !r.captures.isEmpty) then
      let missed := (List.range 8).filter (fun k => inMask (syncMembers d) k && (tget none r.captures k).isNone)
      let others := missed.filter (fun k => k != d.group.id)
      let d := others.foldl (fun d k => sendMsg k (.syncCtl .missed) d) d
      let d := if missed.contains d.group.id then missSync d else d
      let there := (List.range 8).filter (fun k => inMask (syncMembers d) k && !missed.contains k && k != d.group.id)
      let d := there.foldl (fun d k => sendMsg k (.syncCtl (.skew ((skewOf d r k).getD 0))) d) d
      endSync .timeout (maskOf 8 (fun k => missed.contains k)) (slipMask d r) r d
    else d

/-- With EXTERNAL no edge came within 100 ms: every member disarms. -/
def externalSyncTimeout (d : Device) : Device :=
  match d.group.syncRun with
  | none => d
  | some r =>
    if r.phase == .pulsed && r.external && r.captures.isEmpty then
      let d := disarmSync (toSyncOthers .disarm (setSyncRun none d))
      complete r.packet .timeout (syncReply d r 0 0) d
    else d

/-- A GROUP_SYNC message of another device. -/
def syncCtl (src : Nat) (m : SyncCtl) (d : Device) : Device :=
  let mine := d.group.syncMaster.any (fun x => x.1 == src)
  match m with
  | .query => sendMsg src (.syncCtl (.report (fsclkHz d) (commonFields d) (isRoot d) (syncReady d))) d
  | .report f c root ready => noteReport src f c root ready d
  | .arm noBus => sendMsg src (.syncCtl .armed) (armSync src noBus d)
  | .armed => noteArmed src d
  | .disarm => if mine then disarmSync d else d
  | .pulse => if d.group.syncArmed && isRoot d then { d with group := { d.group with syncOut := true } } else d
  | .captured x => noteCapture src x d
  | .transit t => noteTransit src t d
  | .skew x =>
    let d := { d with group := { d.group with syncSkew := x } }
    if slipped d x then raiseFault (plainFault 0x3C4 7 1 0) d else d
  | .missed => if mine then missSync d else d
  | .complete ok => if ok then clearPhase d else d

/-- PINGs of all other members have come: the largest transit goes to the coordinator. -/
def pingsDone (d : Device) : Device :=
  match d.group.syncMaster with
  | none => d
  | some (master, _) =>
    if d.group.pings < 16 * (otherMembers d).length then d
    else
      let d := { d with group := { d.group with syncMaster := none } }
      if master == d.group.id then noteTransit d.group.id d.group.busTransitMax d
      else sendMsg master (.syncCtl (.transit d.group.busTransitMax)) d

/-- The receiver of a PING records its transit. -/
def ping (src emit : Nat) (d : Device) : Device :=
  if !inMask d.group.members src then d
  else pingsDone { d with group := { d.group with
    busTransitMax := max d.group.busTransitMax (ballIndex d - emit), pings := d.group.pings + 1 } }

/-! ### Ports (R485-R487) -/

/-- Members that can no longer be reached: "member unreachable", forwarded commands end (R499), FORM ends (R491), and a running
GROUP_SYNC counts them as failing or as missed (R514). -/
def lostMembers (before : List Nat) (d : Device) : Device :=
  let gone := before.filter (fun n => (routePort d n).isNone)
  gone.foldl (fun d n =>
    let d := failFlights n (if inMask d.group.members n then raiseFault (plainFault 0x3C4 5 1 0) d else d)
    let d := if d.group.forming.any (fun r => inMask r.mask n) then failForm .notPresent d else d
    match d.group.syncRun with
    | some r =>
      if r.phase == .query && !inMask r.reported n then noteReport n 0 [] false false d
      else if r.phase == .arming then noteArmed n d
      else if r.phase == .transit then noteTransit n 0 d
      else d
    | none => d) d

/-- A port leaves service: its frames take the new routes, routes are recomputed and the other devices learn of it (R489, R490). -/
def portDown (n : Nat) (d : Device) : Device :=
  let before := knownDevices d
  let p := shunisPort d n
  let d := setShunisPort n { p with
    powered := false, training := false, up := false, trained := 0, neighbour := none, rxSeq := none, txSeq := 0, unacked := [],
    replays := 0, naks := 0 } d
  let d := p.unacked.foldl (fun d f => sendFrame { f with port := none } d) d
  sendNeighbours (lostMembers before d)

/-- SHUNIS_LINK_DOWN: the link of an UP port is lost. -/
def shunisLinkDown (n : Nat) (d : Device) : Device :=
  if !(shunisPort d n).up then d
  else raiseEvent (0x3C0 + n) 2 (ballIndex d) 0 (raiseFault (plainFault (0x3C0 + n) 3 1 0) (portDown n d))

/-- A lane whose symbol error ratio is too high is removed from an UP port; without a lane the link is lost (R485). -/
def removeLane (n lane : Nat) (d : Device) : Device :=
  let p := shunisPort d n
  let left := p.trained &&& ~~~ (BitVec.ofNat 4 (2 ^ lane))
  if !p.up then d else if left == 0 then shunisLinkDown n d else setShunisPort n { p with trained := left } d

def portTerminationDetect (n : Nat) (d : Device) : Device :=
  let p := shunisPort d n
  if p.up || p.training || d.power.state == .sleep || !(cpRuns d || d.power.state == .loading) then d
  else setShunisPort n { p with powered := true, training := true } d

/-- Interface version (R448). -/
def interfaceVersion : Nat := 1

/-- PORT_TRAINING_COMPLETE: `trained` are the lanes that trained; the others are removed (R485). -/
def portTrainingComplete (n : Nat) (trained : BitVec 4) (id serial version : Nat) (d : Device) : Device :=
  let p := shunisPort d n
  if !p.training then d
  else if version != interfaceVersion then
    raiseEvent (0x3C0 + n) 4 (ballIndex d) 0 (setShunisPort n { p with training := false } d)
  else if laneCode trained == 0 then setShunisPort n { p with training := false } d
  else
    let d := setShunisPort n { p with
      training := false, up := true, trained := trained, neighbour := some id, serial := serial, txSeq := 0, rxSeq := none, unacked := [],
      replays := 0, naks := 0 } d
    let d := if trained != 15 then raiseFault (plainFault (0x3C0 + n) 2 0 0) d else d
    let d := raiseEvent (0x3C0 + n) 1 (ballIndex d) 0 d
    let d := if p.serial == serial then d else raiseEvent (0x3C0 + n) 3 (ballIndex d) id d
    flushHeld (sendNeighbours d)

/-- Frames that an acknowledgement covers leave stall 0x26 (R487). -/
def ackFrames (ack : Nat) : List TxFrame → List TxFrame
  | [] => []
  | f :: fs => if (ack + 65536 - f.seq) % 65536 < 32768 then ackFrames ack fs else f :: fs

def ackTo (n ack : Nat) (d : Device) : Device :=
  let p := shunisPort d n
  let rest := ackFrames ack p.unacked
  if rest.length == p.unacked.length then d
  else flushHeld (setShunisPort n { p with unacked := rest, replays := 0 } d)

/-- A NAK: the frames after its ack are sent again; a frame that needs an eighth replay takes the port down (R487). -/
def nakReceived (n ack : Nat) (d : Device) : Device :=
  if !(shunisPort d n).up then d
  else
    let d := ackTo n ack d
    let p := shunisPort d n
    if p.unacked.isEmpty then d
    else if 7 ≤ p.replays then
      let d := raiseFault (plainFault (0x3C0 + n) 4 1 0) d
      raiseEvent (0x3C0 + n) 2 (ballIndex d) 0 (portDown n d)
    else raiseFault (plainFault (0x3C0 + n) 1 0 0) (setShunisPort n { p with replays := p.replays + 1 } d)

/-- A DATA frame in order: for this device, its end-to-end sequence is checked; else it is forwarded (R489, R490). -/
def dataFrame (f : LinkFrame) (d : Device) : Device :=
  if f.dest == d.group.id then
    let i := f.source * 4 + f.vc
    let e := tget 0 d.group.e2eRx i
    if (f.e2e + 65536 - e) % 65536 < 32768 then
      { d with group := { d.group with e2eRx := tset 0 d.group.e2eRx i ((f.e2e + 1) % 65536) } }
    else d
  else sendFrame { seq := 0, dest := f.dest, vc := f.vc, e2e := f.e2e, msg := none, source := f.source, payload := f.payload } d

/-- The fields of a 256-byte link frame, and whether its CRC and FEC codewords are good (R486, R487). -/
def readFrame (bs : List Byte) (fecGood : Bool) : LinkFrame :=
  { type := getLe bs 0 1, dest := bits (getLe bs 1 1) 0 3, source := bits (getLe bs 1 1) 3 3, vc := bits (getLe bs 1 1) 6 2,
    seq := getLe bs 2 2, ack := getLe bs 4 2, e2e := getLe bs 6 2, payload := (bs.drop 8).take 244,
    good := fecGood && bs.length == 256 && getLe bs 252 4 == (crc32c (bs.take 252)).toNat }

/-- LINK_FRAME_RECEIVE (R487). The content of a message arrives in the row of that message. -/
def linkFrameReceive (n : Nat) (f : LinkFrame) (d : Device) : Device :=
  let p := shunisPort d n
  if !p.up then d
  else
    let expected := match p.rxSeq with
      | some s => (s + 1) % 65536
      | none => 0
    if !f.good || f.seq != expected then setShunisPort n { p with naks := p.naks + 1 } d
    else if f.type == 2 then nakReceived n f.ack d
    else if f.type == 0 then ackTo n f.ack d
    else if f.type == 1 then
      dataFrame f (ackTo n f.ack (setShunisPort n { p with rxSeq := some f.seq, naks := 0 } d))
    else d

/-! ### FORM (R489, R491) -/

def formMsg (src : Nat) (m : FormMsg) (d : Device) : Device :=
  match m with
  | .join members =>
    if d.group.members != 0 || d.group.forming.isSome then sendMsg src (.form .cannot) d
    else
      let d := setMembers members { d with group := { d.group with joinedBy := some src } }
      sendMsg src (.form .joined) (raiseEvent 0x3C4 1 (ballIndex d) 0 d)
  | .joined =>
    match d.group.forming with
    | some r => settleForm { d with group := { d.group with forming := some { r with joined := r.joined ||| deviceBit src } } }
    | none => d
  | .cannot =>
    if d.group.forming.isSome then failForm .notPresent d
    else if d.group.joinedBy == some src then leaveGroup d
    else d
  | .leave =>
    if !inMask d.group.members src then d
    else
      let d := setMembers (d.group.members &&& ~~~ (deviceBit src)) d
      failFlights src (raiseEvent 0x3C4 2 (ballIndex d) src d)
  | .neighbours l =>
    if tget none d.group.neighbours src == some l then d
    else
      let before := knownDevices d
      let d := { d with group := { d.group with neighbours := tset none d.group.neighbours src (some l) } }
      let new := (knownDevices d).filter (fun n => !before.contains n)
      let d := new.foldl (fun d n => sendMsg n (.form (.neighbours (ownNeighbours d))) d) d
      flushHeld (lostMembers before d)

/-! ### Group commits (R65, R66) -/

/-- "commit skew" of the CP (R66). -/
def commitSkew (d : Device) : Device := raiseFault (plainFault 0x002 4 1 0) d

/-- PREPARE at a member. Its paddock fields pass as from a Crypto Officer: the master has checked the role (DESIGN CHOICE). -/
def prepare (src t : Nat) (g : BitVec 32) (content : List (Nat × Int)) (d : Device) : Device :=
  if !inMask d.group.members src || !cpRuns d then d
  else
    let d := { d with cfg := { d.cfg with groupApplied := none } }
    match validateCommit d t content true with
    | some x => sendMsg src (.refused (statusCode x.2.2)) d
    | none =>
      if t < epochIndex d + 3 then sendMsg src (.refused (statusCode .late)) d
      else if !serialAfter g d.cfg.generation then sendMsg src (.refused (statusCode .badParam)) d
      else
        let m : Commit := { packet := none, epoch := t, content := content, waitAdopted := false, generation := some g, master := some src }
        sendMsg src .armed (acceptCommit m false d)

def setGroupCommit (g : Option GroupCommit) (d : Device) : Device := { d with group := { d.group with commit := g } }

def armedReply (src : Nat) (d : Device) : Device :=
  match d.group.commit with
  | some g => setGroupCommit (some { g with armed := g.armed ||| (deviceBit src &&& g.mask) }) d
  | none => d

def refusedReply (src : Nat) (d : Device) : Device :=
  match d.group.commit with
  | some g => setGroupCommit (some { g with refused := g.refused ||| (deviceBit src &&& g.mask) }) d
  | none => d

/-- The master reaches (T - 2) × 2^e: it broadcasts ABORT unless every member has armed. -/
def armDeadline (d : Device) : Device :=
  match d.group.commit with
  | some g =>
    if decide (epochStart d g.epoch ≤ d.sampleIndex + 2 * 2 ^ epochExp d) && g.armed != g.mask && groupWaits d then abandonGroupCommit d
    else d
  | none => d

/-- ABORT at a member: it discards the commit, be it one that the safe state or SLEEP has set apart, or has applied it already. -/
def abortMsg (src : Nat) (d : Device) : Device :=
  let armed (m : Commit) : Bool := m.master == some src
  let apart := d.cfg.skewed.any (fun m => armed m && decide (nextToken d ≤ m.epoch))
  if src == d.group.id then d
  else if d.cfg.pendingCommits.any armed || apart then
    { d with cfg := { d.cfg with
        pendingCommits := d.cfg.pendingCommits.filter (fun m => !armed m), skewed := if apart then none else d.cfg.skewed } }
  else if d.cfg.groupApplied == some src then commitSkew { d with cfg := { d.cfg with groupApplied := none } }
  else d

/-- The group commit completes once every member has applied it. -/
def settleGroupCommit (d : Device) : Device :=
  match d.group.commit with
  | some g =>
    if g.applied == g.mask && decide (d.sampleIndex < epochStart d (g.epoch + 1)) then
      complete g.packet .ok (commitReply g.epoch g.generation 0) (setGroupCommit none d)
    else d
  | none => d

def appliedReply (src : Nat) (d : Device) : Device :=
  match d.group.commit with
  | some g => settleGroupCommit (setGroupCommit (some { g with applied := g.applied ||| (deviceBit src &&& g.mask) }) d)
  | none => d

/-- The master reaches (T + 1) × 2^e without every APPLIED. -/
def appliedTimeout (d : Device) : Device :=
  match d.group.commit with
  | some g =>
    if decide (epochStart d (g.epoch + 1) ≤ d.sampleIndex) && !groupWaits d then
      complete g.packet .timeout (commitReply g.epoch g.generation (g.mask &&& ~~~g.applied).toNat) (setGroupCommit none d)
    else d
  | none => d

/-! ### Completion of a forwarded command (R434, R437) -/

/-- A member has completed a command of this device: one that waits may be sent (R498). -/
def freeForwarded (n : Nat) (d : Device) : Device :=
  flushHeld { d with group := { d.group with forwardedOut := tset 0 d.group.forwardedOut n (tget 0 d.group.forwardedOut n - 1) } }

/-- CPL: the final entry of a forwarded command is written on the issuing queue with the member in origin. -/
def cplReceived (src tag status : Nat) (reply : List Byte) (d : Device) : Device :=
  match tget none d.host.flights tag with
  | some f =>
    if f.forwardedTo == some src then
      let d := freeForwarded src d
      let q := queueOf f.packet
      let sq := subQueue d q
      let long := decide (20 < reply.length)
      let written := long && f.packet.replyAddr != 0
      let d := if written then memWrite f.packet.replyAddr (padTo reply 256) d else d
      let flags := 2 * boolN (long && !written) + 4 * boolN written
      if d.host.silent.contains f.packet then
        dropFlight tag { d with host := { d.host with silent := d.host.silent.erase f.packet } }
      else settleDeletes (postRaw sq.cq
        { bytes := completionBytes tag status flags q sq.head reply.length src reply, frees := some tag, event := none } d)
    else d
  | none => d

def execGroupForm (p : Packet) (s : State) : Host.Outcome State Fault Refusal := act (accept p groupForm) s
def execGroupLeave (p : Packet) (s : State) : Host.Outcome State Fault Refusal := act (accept p groupLeave) s
def execGroupStatus (p : Packet) (s : State) : Host.Outcome State Fault Refusal := act (accept p groupStatus) s
def execGroupSync (p : Packet) (s : State) : Host.Outcome State Fault Refusal := act (accept p groupSync) s
def execPortTerminationDetect (port : Fin 4) (s : State) : Host.Outcome State Fault Refusal := act (portTerminationDetect port.val) s
def execPortTrainingComplete (port : Fin 4) (trained : BitVec 4) (id : Fin 8) (serial version : Nat) (s : State) :
    Host.Outcome State Fault Refusal := act (portTrainingComplete port.val trained id.val serial version) s
def execLinkFrameReceive (port : Fin 4) (frame : ArrivedFrame) (s : State) : Host.Outcome State Fault Refusal :=
  act (linkFrameReceive port.val (readFrame frame.bytes frame.fecGood)) s
def execNak (port : Fin 4) (ack : Nat) (s : State) : Host.Outcome State Fault Refusal := act (nakReceived port.val ack) s
def execShunisLinkDown (port : Fin 4) (s : State) : Host.Outcome State Fault Refusal := act (shunisLinkDown port.val) s
/-- BUS_ASSERT of another member (R496, R497). -/
def execBusAssert (src : Fin 8) (mask : BitVec 8) (instant _emit : Nat) (s : State) : Host.Outcome State Fault Refusal :=
  act (fun d => if inMask d.group.members src.val then assertBus mask.toNat instant d else d) s
def execPing (src : Fin 8) (emit : Nat) (s : State) : Host.Outcome State Fault Refusal := act (ping src.val emit) s
/-- PONG: only the receiver of a PING records a transit (R494); the spec gives a PONG no effect of its own. -/
def execPong (_src : Fin 8) (_emit : Nat) (s : State) : Host.Outcome State Fault Refusal := act (fun d => d) s
def execCpl (src : Fin 8) (tag status : Nat) (reply : List Byte) (s : State) : Host.Outcome State Fault Refusal :=
  act (cplReceived src.val tag status reply) s
def execPrepare (src : Fin 8) (epoch : Nat) (generation : BitVec 32) (content : List (Nat × Int)) (_mask : BitVec 8) (s : State) :
    Host.Outcome State Fault Refusal := act (prepare src.val epoch generation content) s
def execArmed (src : Fin 8) (s : State) : Host.Outcome State Fault Refusal := act (armedReply src.val) s
def execRefused (src : Fin 8) (_status : Nat) (s : State) : Host.Outcome State Fault Refusal := act (refusedReply src.val) s
def execAbort (src : Fin 8) (s : State) : Host.Outcome State Fault Refusal := act (abortMsg src.val) s
def execApplied (src : Fin 8) (s : State) : Host.Outcome State Fault Refusal := act (appliedReply src.val) s
def execArmDeadline (s : State) : Host.Outcome State Fault Refusal := act armDeadline s
def execAppliedTimeout (s : State) : Host.Outcome State Fault Refusal := act appliedTimeout s
def execForm (src : Fin 8) (m : FormMsg) (s : State) : Host.Outcome State Fault Refusal := act (formMsg src.val m) s
def execSyncCtl (src : Fin 8) (m : SyncCtl) (s : State) : Host.Outcome State Fault Refusal := act (syncCtl src.val m) s
def execSyncPulse (s : State) : Host.Outcome State Fault Refusal := act syncPulse s
def execSyncCaptureTimeout (s : State) : Host.Outcome State Fault Refusal := act syncCaptureTimeout s
def execExternalSyncTimeout (s : State) : Host.Outcome State Fault Refusal := act externalSyncTimeout s

end Sys2Proof.Machine
end

