-- ==== Sys2Proof/Machine/Pair.lean ====
section
/-! DEFINITION. The redundant pair: formation, heartbeats, takeover, mirrored streams and entry memory (R500-R509). -/

namespace Sys2Proof.Machine

/-! ### Fields that a pair leaves out (R500) -/

/-- Blocks yard, power, fault, paddock and group, the fields rec.portN and the fields reed.coreN.win_w. -/
def pairLeavesOut (key : Nat) : Bool :=
  let b := key / 16777216
  let inst := key / 65536 % 256
  let code := key % 65536
  b == 0x0E || b == 0x0F || b == 0x10 || b == 0x11 || b == 0x12 || (b == 0x0B && decide (0x10 ≤ inst))
    || (b == 0x0D && decide (inst < 32) && decide (0x10 ≤ code) && decide (code < 0x20))

def pairKept (l : List (Nat × Int)) : List (Nat × Int) := l.filter (fun e => !pairLeavesOut e.1)

/-- Listed values of a table. -/
def listed (t : Table (Option Int)) : List (Nat × Int) := t.filterMap (fun e => e.2.map (fun v => (e.1, v)))

/-- The listed active values of the clock block. -/
def clockValues (l : List (Nat × Int)) : List (Nat × Int) := l.filter (fun e => e.1 / 16777216 == 1)

/-! ### Formation (R500) -/

def streamsOf (m : BitVec 256) : List Nat := (List.range 256).filter (fun n => m.getLsbD n)

/-- What one member can tell of the conditions of FORM. -/
def pairReady (d : Device) (peer : Nat) (streams : BitVec 256) : Bool :=
  inMask d.group.members d.group.id && inMask d.group.members peer && !d.clk.phaseUnverified
    && (shunisPort d 3).up && (shunisPort d 3).neighbour == some peer
    && (streamsOf streams).all (fun n => isOpen (stream d n) && allocOffset (stream d n) == 0 && neverEnabled d n)

/-- A mirrored ring holds less than 1 ms of the stream's worst-case rate. -/
def ringTooShort (d : Device) (n : Nat) : Bool :=
  (contexts d).any (fun c => decide (((2 ^ (stream d n).ringLog2 : Nat) : Rat) * 1000 < streamRate c n))

/-- Bits 254 and 255 of the mask are the top bits of byte 47. -/
def pairStreams (p : Packet) : BitVec 256 := BitVec.ofNat 256 (getLe p.params 16 32)

def pairStatusWord (d : Device) : Nat :=
  boolN d.group.pairFormed + 2 * boolN d.group.pairDegraded + 4 * boolN (pairMutes d)

def pairForm (p : Packet) (d : Device) : Device :=
  let k := pByte p 1
  let t := p64 p 8
  let streams := pairStreams p
  let peer := 2 * k + 1
  if !reservedZero p [(0, 3), (8, 40)] || decide (3 < k) || pByte p 2 != 0 || decide (64 ≤ pByte p 47) || d.group.id != 2 * k then
    complete p .badParam [] d
  else if d.group.pairFormed || d.group.pairPlan.isSome || decide (t < epochIndex d + 3) || !pairReady d peer streams then
    complete p .badState [] d
  else if (streamsOf streams).any (ringTooShort d) then complete p .budget [] d
  else
    let plan : PairPlan := { packet := some p, epoch := t, role := 1, peer := peer, streams := streams, confirmed := false }
    let rings := (streamsOf streams).map (fun n => (n, (stream d n).ringLog2))
    let overlays := d.cfg.overlays.filterMap (fun e => e.2.map (fun l => (e.1, pairKept l)))
    let m : CmdMirrorMsg := .pairForm t streams d.cfg.generation (pairKept (listed d.cfg.active)) (pairKept (listed d.cfg.dirty)) overlays rings
    sendMsg peer (.cmdMirror m) { park p d with group := { (park p d).group with pairPlan := some plan } }

/-- The shadow's part of FORM: it answers, takes the staged base and the overlays, and commits the active values at T. -/
def pairFormMsg (src t : Nat) (streams : BitVec 256) (g : BitVec 32) (active staged : List (Nat × Int))
    (overlays : List (Nat × List (Nat × Int))) (rings : List (Nat × Nat)) (d : Device) : Device :=
  let ok := src / 2 == d.group.id / 2 && src % 2 == 0 && !d.group.pairFormed && d.group.pairPlan.isNone && pairReady d src streams
    && clockValues active == clockValues (listed d.cfg.active) && rings.all (fun r => (stream d r.1).ringLog2 == r.2)
    && decide (epochIndex d < t)
  if !ok then sendMsg src (.cmdMirror (.pairAnswer false)) d
  else
    let plan : PairPlan := { packet := none, epoch := t, role := 2, peer := src, streams := streams, confirmed := true }
    let away := (pairKept (listed d.cfg.active)).filter (fun e => !active.any (fun x => x.1 == e.1))
    let content := away.map (fun e => (e.1, fieldReset e.1)) ++ active
    let keptDirty := d.cfg.dirty.filter (fun e => pairLeavesOut e.1)
    let m : Commit := { packet := none, epoch := t, content := content, waitAdopted := false, generation := some g }
    let dirty := staged.foldl (fun x e => tset none x e.1 (some e.2)) keptDirty
    let ovl := overlays.foldl (fun x e => tset none x e.1 (some e.2)) ([] : Table (Option (List (Nat × Int))))
    let d := { d with
      group := { d.group with pairPlan := some plan }
      cfg := { d.cfg with dirty := dirty, overlays := ovl, pendingCommits := d.cfg.pendingCommits ++ [m] } }
    sendMsg src (.cmdMirror (.pairAnswer true)) d

/-- The shadow's answer at the primary. -/
def pairAnswer (ok : Bool) (d : Device) : Device :=
  match d.group.pairPlan with
  | some pl =>
    if pl.role != 1 || pl.confirmed then d
    else if ok then { d with group := { d.group with pairPlan := some { pl with confirmed := true } } }
    else completeOpt pl.packet .badState [] { d with group := { d.group with pairPlan := none } }
  | none => d

/-- Token T forms: both members act as a pair from here on. -/
def pairFormAt (t : Nat) (d : Device) : Device :=
  match d.group.pairPlan with
  | none => d
  | some pl =>
    if t < pl.epoch then d
    else if !pl.confirmed then completeOpt pl.packet .badState [] { d with group := { d.group with pairPlan := none } }
    else
      let d := { d with group := { d.group with
        pairPlan := none, pairFormed := true, pairDegraded := false, pairRole := pl.role, pairPeer := some pl.peer,
        mirrored := pl.streams, pairMuted := pl.role == 2, unmuteAt := none, lastHeartbeat := some d.time, heartbeatPort3 := true, reorder := [], keys := [],
        keySeq := [], mismatches := 0, mirroredCount := 0, lastTag := 0, unconfirmed := [], awaiting := [] } }
      completeOpt pl.packet .ok [] (raiseEvent 0x3C5 1 (ballIndex d) pl.peer d)

/-! ### End of the pair -/

/-- Commands that wait for the shadow complete (R505). -/
def finishUnconfirmed (d : Device) : Device :=
  let us := d.group.unconfirmed
  us.foldl (fun d u => finish u.packet u.status u.reply d) { d with group := { d.group with unconfirmed := [], awaiting := [] } }

/-- The pair is dissolved at this member: a former shadow keeps its outputs muted unless UNMUTE was given (R500, R501). -/
def dissolve (unmute : Bool) (d : Device) : Device :=
  let peer := d.group.pairPeer.getD 0
  let take := d.group.takeoverAt
  let d := { d with group := { d.group with
    pairFormed := false, pairDegraded := false, pairRole := 0, pairPeer := none, mirrored := 0,
    pairMuted := pairMutes d && !unmute, unmuteAt := none, takeoverAt := none, reorder := [], keys := [], lastHeartbeat := none } }
  let d := match take with
    | some (p, _) => completeOpt p .aborted [] d
    | none => d
  finishUnconfirmed (raiseEvent 0x3C5 3 (ballIndex d) peer d)

def pairDissolve (p : Packet) (d : Device) : Device :=
  let unmute := bit (pByte p 2) 0
  if !reservedZero p [(0, 3)] || decide (1 < pByte p 2) || d.group.id / 2 != pByte p 1 then complete p .badParam [] d
  else if !d.group.pairFormed then complete p .badState [] d
  else
    let peer := d.group.pairPeer.getD 0
    complete p .ok [] (dissolve unmute (sendMsg peer (.cmdMirror (.dissolve unmute)) d))

def pairStatus (p : Packet) (d : Device) : Device :=
  if !reservedZero p [(0, 2)] || d.group.id / 2 != pByte p 1 then complete p .badParam [] d
  else complete p .ok (leBytes 1 (pairStatusWord d)) d

/-- Mirroring stops (R505). -/
def degrade (d : Device) : Device := finishUnconfirmed { d with group := { d.group with pairDegraded := true } }

/-! ### Heartbeats (R505) -/

/-- A route to a device that does not use port 3. -/
def otherRoute (d : Device) (dest : Nat) : Option Nat :=
  let cands := (List.range 3).filterMap (fun i =>
    let p := shunisPort d i
    match p.neighbour with
    | some nb => if p.up then (hops d nb dest).map (fun h => (h, i)) else none
    | none => none)
  match cands with
  | [] => none
  | c :: cs => some (cs.foldl (fun b x => if x.1 < b.1 then x else b) c).2

/-- A message to the peer on port 3, and a copy on another route where there is one. -/
def sendEveryRoute (peer : Nat) (m : Msg) (d : Device) : Device :=
  let frame (port : Nat) (d : Device) : TxFrame :=
    { port := some port, seq := 0, dest := peer, vc := msgVc m, e2e := tget 0 d.group.e2eTx (peer * 4 + msgVc m), msg := some m, source := d.group.id, payload := [] }
  let count (d : Device) : Device :=
    let i := peer * 4 + msgVc m
    { d with group := { d.group with e2eTx := tset 0 d.group.e2eTx i ((tget 0 d.group.e2eTx i + 1) % 65536) } }
  let d := if (shunisPort d 3).up then count (sendFrame (frame 3 d) d) else d
  match otherRoute d peer with
  | some port => count (sendFrame (frame port d) d)
  | none => d

/-- Highest key sequence matched or sent in the mirrored streams. -/
def lastKeySeq (d : Device) : Nat :=
  ((streamsOf d.group.mirrored).map (fun n => if d.group.pairRole == 2 then tget 0 d.group.keySeq n else (stream d n).nextSeq - 1)).foldl max 0

def heartbeatSend (d : Device) : Device :=
  match d.group.pairFormed, d.group.pairPeer with
  | true, some peer =>
    let m : Msg := .heartbeat d.group.pairRole (ballIndex d) d.cfg.generation (lastKeySeq d) (pairStatusWord d)
    let d := sendEveryRoute peer m d
    { d with group := { d.group with heartbeatsSent := d.group.heartbeatsSent + 1 } }
  | _, _ => d

/-- A HEARTBEAT of the peer: on another route while port 3 is down it ends mirroring. A primary learns from the pair status of its shadow
that mirroring has stopped there, as at its entry into the safe state (R514, DEDUCED). -/
def heartbeat (onPort3 : Bool) (status : Nat) (d : Device) : Device :=
  if !d.group.pairFormed then d
  else
    let d := { d with group := { d.group with lastHeartbeat := some d.time, heartbeatPort3 := onPort3 } }
    if !onPort3 && !(shunisPort d 3).up && !d.group.pairDegraded then degrade (raiseFault (plainFault 0x3C5 9 1 0) d)
    else if mirroring d && bit status 1 then degrade (raiseFault (plainFault 0x3C5 0x0A 1 0) d)
    else d

/-! ### Takeover (R506, R508, R509) -/

/-- The TAKEOVER record of a mirrored stream. -/
def takeoverRec (cause old unkeyed n : Nat) (d : Device) : Rec :=
  let s := stream d n
  let g := d.group
  let payload := leBytes 1 cause ++ leBytes 1 old ++ leBytes 1 g.id ++ leBytes 1 (boolN (g.mismatches != 0) + 2 * boolN (unkeyed != 0))
    ++ leBytes 4 unkeyed ++ leBytes 8 (ballIndex d) ++ leBytes 8 (g.lastHeartbeat.getD 0) ++ leBytes 8 d.time
    ++ leBytes 8 (s.hostSeq.getD (2 ^ 64 - 1) + 1) ++ leBytes 8 s.hostOffset ++ leBytes 8 (tget 0 g.keySeq n)
    ++ leBytes 4 d.cfg.generation.toNat ++ leBytes 2 g.lastTag ++ zeroBytes 2 ++ leBytes 8 g.mirroredCount ++ leBytes 8 g.mismatches
    ++ zeroBytes 8
  { type := 0x0E, source := 0, flags := headerFlags d [], firstIndex := ballIndex d, generation := d.cfg.generation, payload := payload }

/-- Held records that no key has matched are written in their own order (R506 step 2). -/
def writeUnkeyed (n : Nat) (d : Device) : Device :=
  let rs := reorderArea d n
  rs.foldl (fun d r => gather n r d) (setReorder n [] (setKeys n [] d))

/-- TAKEOVER into each mirrored stream, and into every other stream that subscribes to it; the event. -/
def writeTakeovers (cause old : Nat) (unkeyed : Nat → Nat) (d : Device) : Device :=
  let ms := streamsOf d.group.mirrored
  let d := ms.foldl (fun d n => if isOpen (stream d n) then gather n (takeoverRec cause old (unkeyed n) n d) d else d) d
  let others := (openStreams d).filter (fun n => !ms.contains n && streamTakes d n 0 (fun m => bit m 0x0E))
  let d := others.foldl (fun d n => pushStall n (takeoverRec cause old 0 n d) d) d
  raiseEvent 0x3C5 2 (ballIndex d) cause d

/-- The shadow takes over after a failure (R506): role, FENCE, unkeyed records, TAKEOVER records, outputs. -/
def takeOver (cause : Nat) (d : Device) : Device :=
  match d.group.pairPeer with
  | none => d
  | some old =>
    let counts := d.group.reorder.map (fun e => (e.1, e.2.length))
    let take := d.group.takeoverAt
    let d := { d with group := { d.group with pairRole := 1, takeoverAt := none } }
    let d := sendEveryRoute old .fence d
    let d := (streamsOf d.group.mirrored).foldl (fun d n => writeUnkeyed n d) d
    let d := writeTakeovers cause old (tget 0 counts) d
    let d := { d with group := { d.group with unmuteAt := some (ceilDiv (ballIndex d) 256 * 256) } }
    match take with
    | some (p, _) => completeOpt p .aborted [] d
    | none => d

/-- This member is the shadow of a pair that may take over by itself. -/
def canTakeOver (d : Device) : Bool := d.group.pairFormed && d.group.pairRole == 2 && !d.group.pairDegraded

/-- No heartbeat has arrived on any route for 200 µs. -/
def heartbeatTimeout (d : Device) : Device :=
  if canTakeOver d then takeOver 0 d
  else if mirroring d then degrade (raiseFault (plainFault 0x3C5 0x0A 1 0) d)
  else d

/-- Source of the FATAL_NOTICE that announces an entry into the safe state. -/
def safeNoticeSource : Nat := 0x3FD

def fatalNotice (source : Nat) (d : Device) : Device :=
  if canTakeOver d then takeOver (if source == safeNoticeSource then 3 else 1) d else d

/-- FENCE (R506, R514): "pair fenced"; a PAIR_TAKEOVER that waited is overtaken. -/
def fenced (d : Device) : Device :=
  let take := d.group.takeoverAt
  let d := raiseFault (plainFault 0x3C5 0x0B 2 0) { d with group := { d.group with takeoverAt := none } }
  match take with
  | some (p, _) => completeOpt p .aborted [] d
  | none => d

def pairTakeover (p : Packet) (d : Device) : Device :=
  let named := bit (pByte p 2) 0
  let t := if named then p64 p 8 else epochIndex d + 3
  if !reservedZero p [(1, 2), (8, 8)] || decide (1 < pByte p 2) || d.group.id / 2 != pByte p 1 then complete p .badParam [] d
  else if !d.group.pairFormed || d.group.pairRole != 1 || d.group.pairDegraded then complete p .badState [] d
  else if d.group.takeoverAt.isSome then complete p .busy [] d
  else if decide (epochStart d t ≤ d.sampleIndex) then complete p .late [] d
  else
    let d := park p d
    let d := { d with group := { d.group with takeoverAt := some (some p, t) } }
    sendMsg (d.group.pairPeer.getD 0) (.cmdMirror (.takeoverAt t)) d

/-- Sequence of the last record of each mirrored stream: what a former primary has of keys (R508). -/
def lastSequences (d : Device) : Table Nat := (streamsOf d.group.mirrored).map (fun n => (n, (stream d n).nextSeq - 1))

/-- PAIR_TAKEOVER_ACT (R509): at T × 2^e the old primary mutes and the shadow unmutes. Records that no key has matched are written as
in step 2 of R506 (DEDUCED). -/
def pairTakeoverAct (d : Device) : Device :=
  match d.group.takeoverAt, d.group.pairPeer with
  | some (p, t), some peer =>
    if d.sampleIndex < epochStart d t then d
    else if d.group.pairRole == 1 then
      { d with group := { d.group with
          pairRole := 2, pairMuted := true, unmuteAt := none, keySeq := lastSequences d, takeoverAt := p.map (fun x => (some x, t)) } }
    else if p.isSome then d
    else
      let d := { d with group := { d.group with pairRole := 1, takeoverAt := none } }
      let counts := d.group.reorder.map (fun e => (e.1, e.2.length))
      let d := (streamsOf d.group.mirrored).foldl (fun d n => writeUnkeyed n d) d
      let d := writeTakeovers 2 peer (tget 0 counts) d
      sendMsg peer (.cmdMirror .switched) { d with group := { d.group with pairMuted := false, unmuteAt := none } }
  | _, _ => d

/-- The new primary has switched: PAIR_TAKEOVER completes. -/
def switchedMsg (d : Device) : Device :=
  match d.group.takeoverAt with
  | some (p, _) =>
    if d.group.pairRole == 2 then completeOpt p .ok [] { d with group := { d.group with takeoverAt := none } } else d
  | none => d

/-! ### Mirrored streams (R503, R504) -/

/-- A record key of the primary: a matching held record is written, and recordings that wait for it begin or end. -/
def keyLog (k : RecKey) (d : Device) : Device :=
  if !mirrorsIn d k.stream then d
  else
    let o := allocOffset (stream d k.stream)
    let d := setKeys k.stream (keyQueue d k.stream ++ [k]) d
    settleRequests k.stream o (matchKeys k.stream ((keyQueue d k.stream).length) d)

/-- pair_match_us has passed: the oldest key becomes a GAP of cause 0x0B; without a key the oldest held record is dropped. -/
def keyMatchTimeout (n : Nat) (d : Device) : Device :=
  if !mirrorsIn d n then d
  else match keyQueue d n with
    | k :: ks =>
      let o := allocOffset (stream d n)
      let d := setStream n { stream d n with nextSeq := k.seq } (setKeys n ks d)
      let d := appendRec n (gapRec d k.source 0x0B k.firstIndex 0 0 d.cfg.generation []) d
      let d := raiseFault (plainFault 0x3C5 8 0 0) { d with group := { d.group with
        mismatches := d.group.mismatches + 1, keySeq := tset 0 d.group.keySeq n k.seq } }
      settleRequests n o (matchKeys n ((keyQueue d n).length) d)
    | [] => setReorder n (reorderArea d n).tail d

/-- A mirrored STREAM_ACK at the shadow, or its confirmation at the primary. -/
def ackMirror (confirm : Bool) (tag n seq offset : Nat) (d : Device) : Device :=
  if confirm then
    match d.group.unconfirmed.find? (fun u => u.tag == tag) with
    | some u => finish u.packet .ok (stateBlock d n) { d with group := { d.group with unconfirmed := d.group.unconfirmed.erase u } }
    | none => d
  else if mirrorsIn d n then
    sendMsg (d.group.pairPeer.getD 0) (.ackMirror true tag n seq offset) (applyAck n seq offset d)
  else d

/-- Mirrored entry-memory writes and ring commits at the shadow (R502). -/
def memMirror (m : MemMirrorMsg) (d : Device) : Device :=
  if !canTakeOver d then d
  else match m with
    | .write g e v => entryMemoryWrite g.val e v d
    | .ringCommit g n => mirrorCommit g.val n d

/-! ### Outputs (R202, R203, R501) -/

/-- TRIG_OUTn is high: a pulse runs, or an armed sequencer is in a state of its mask, after the polarity; low while disarmed with no
pulse, in the safe state, in SLEEP, with the CP halted and while the pair mutes it. -/
def trigOutHigh (d : Device) (n : Nat) : Bool :=
  let on := (tget none d.trig.pulses n).isSome || (d.trig.armed && bit (trigN d (0x18 + n)) d.trig.state)
  if pairMutes d || d.power.state == .safe || d.power.state == .sleep || d.power.cpHalted then false
  else if d.trig.armed || on then on != (trigN d (0x14 + n) == 1)
  else false

def execPairForm (p : Packet) (s : State) : Host.Outcome State Fault Refusal := act (accept p pairForm) s
def execPairDissolve (p : Packet) (s : State) : Host.Outcome State Fault Refusal := act (accept p pairDissolve) s
def execPairStatus (p : Packet) (s : State) : Host.Outcome State Fault Refusal := act (accept p pairStatus) s
def execPairTakeover (p : Packet) (s : State) : Host.Outcome State Fault Refusal := act (accept p pairTakeover) s
def execHeartbeatSend (s : State) : Host.Outcome State Fault Refusal := act heartbeatSend s
def execHeartbeat (onPort3 : Bool) (_index _keySeq status : Nat) (s : State) : Host.Outcome State Fault Refusal :=
  act (heartbeat onPort3 status) s
def execHeartbeatTimeout (s : State) : Host.Outcome State Fault Refusal := act heartbeatTimeout s
def execFatalNotice (source _kind : Nat) (s : State) : Host.Outcome State Fault Refusal := act (fatalNotice source) s
def execFence (s : State) : Host.Outcome State Fault Refusal := act fenced s
def execKeyLog (k : RecKey) (s : State) : Host.Outcome State Fault Refusal := act (keyLog k) s
def execKeyMatchTimeout (stream : Fin 256) (s : State) : Host.Outcome State Fault Refusal := act (keyMatchTimeout stream.val) s
def execAckMirror (confirm : Bool) (tag : Nat) (stream : Fin 256) (seq offset : Nat) (s : State) :
    Host.Outcome State Fault Refusal := act (ackMirror confirm tag stream.val seq offset) s
def execMemMirror (m : MemMirrorMsg) (s : State) : Host.Outcome State Fault Refusal := act (memMirror m) s
def execPairTakeoverAct (s : State) : Host.Outcome State Fault Refusal := act pairTakeoverAct s

end Sys2Proof.Machine
end

