-- ==== Sys2Proof/Machine/FaultCodes.lean ====
section
/-! DEFINITION. The fault kinds and event codes of every source (R570, R571, R589 and the source tables of the chapters), the blocks
that BLOCK_RESET names (R581) and the kinds with the reset reaction (R574). -/

namespace Sys2Proof.Machine

/-- Kinds and classes of a converter source, by offset (04_converters.md, Faults and events). -/
def converterKinds : Nat → List (Nat × Nat)
  | 0 => [(1, 0), (2, 0)]
  | 1 => [(3, 0), (4, 1), (5, 1)]
  | 3 => [(6, 1)]
  | 4 => [(7, 1)]
  | _ => []

/-- Kinds and classes of a lane or spectral engine source, by offset (R145, R177). -/
def laneKinds (o : Nat) : List (Nat × Nat) :=
  if o ≤ 4 then [(1, 1), (2, 1)]
  else if 8 ≤ o ∧ o ≤ 0x0B then [(1, 1)]
  else if o == 0x0C then [(3, 1)]
  else if o == 0x0D then [(4, 1)]
  else []

/-- Kinds and classes that a source raises: 0 CORRECTED, 1 CONTAINED, 2 FATAL. -/
def sourceKinds (s : Nat) : List (Nat × Nat) :=
  if 0x080 ≤ s ∧ s ≤ 0x0FF then converterKinds (s % 32)
  else if 0x100 ≤ s ∧ s ≤ 0x17F then laneKinds (s % 32)
  else if 0x180 ≤ s ∧ s ≤ 0x187 then [(1, 1)]
  else if s == 0x191 ∨ s == 0x192 then [(5, 0)]
  else if 0x1E1 ≤ s ∧ s ≤ 0x1E6 then [(2, 0), (3, 1)]
  else if 0x240 ≤ s ∧ s ≤ 0x27F then [(1, 1)]
  else if 0x288 ≤ s ∧ s ≤ 0x28F then [(4, 0), (5, 1)]
  else if 0x300 ≤ s ∧ s ≤ 0x31F then [(1, 0), (2, 1), (3, 1)]
  else if 0x320 ≤ s ∧ s ≤ 0x323 then [(4, 1)]
  else if 0x340 ≤ s ∧ s ≤ 0x37F then [(1, 0), (2, 1), (3, 1)]
  else if 0x380 ≤ s ∧ s ≤ 0x38B then [(1, 0), (2, 1), (3, 1), (4, 0), (5, 2), (6, 1), (7, 1), (8, 1)]
  else if 0x3C0 ≤ s ∧ s ≤ 0x3C3 then [(1, 0), (2, 0), (3, 1), (4, 1)]
  else match s with
    | 0x000 => [(1, 2)]
    | 0x001 => [(2, 1), (3, 2)]
    | 0x002 => [(4, 1)]
    | 0x003 => [(5, 2)]
    | 0x030 => [(1, 1), (2, 1)]
    | 0x031 => [(3, 2), (4, 1), (5, 0)]
    | 0x032 => [(6, 2), (7, 2), (8, 1)]
    | 0x033 => [(9, 2)]
    | 0x040 | 0x041 => [(1, 1)]
    | 0x044 => [(1, 2)]
    | 0x188 => [(2, 1)]
    | 0x18A => [(3, 1)]
    | 0x190 => [(4, 0)]
    | 0x1C0 => [(1, 1), (2, 1)]
    | 0x1C1 | 0x1C2 => [(1, 1)]
    | 0x1C3 => [(3, 1)]
    | 0x1E0 => [(1, 1)]
    | 0x200 => [(1, 1)]
    | 0x201 => [(2, 1)]
    | 0x280 => [(2, 1), (3, 1)]
    | 0x2C0 | 0x2C1 => [(1, 1)]
    | 0x2C2 | 0x2C3 => [(2, 0), (3, 1)]
    | 0x2C4 | 0x2C5 => [(4, 1)]
    | 0x38C => [(9, 2), (0x0A, 2)]
    | 0x3C4 => [(5, 1), (6, 1), (7, 1)]
    | 0x3C5 => [(8, 0), (9, 1), (0x0A, 1), (0x0B, 2)]
    | 0x3E1 => [(1, 2)]
    | 0x3E2 => [(2, 2)]
    | 0x3E3 => [(3, 2)]
    | 0x3F0 => [(1, 2)]
    | _ => []

/-- Class of a kind of a source, none where no chapter lists it. -/
def kindClass (s k : Nat) : Option Nat := ((sourceKinds s).find? (fun x => x.1 == k)).map (·.2)

/-- How many events a source names (R589, R590). -/
def sourceEvents (s : Nat) : Nat :=
  if 0x080 ≤ s ∧ s ≤ 0x0FF then (if s % 32 == 0 then 3 else if s % 32 == 2 then 1 else 0)
  else if 0x100 ≤ s ∧ s ≤ 0x17F then
    (if s % 32 ≤ 4 then 2 else if 8 ≤ s % 32 ∧ s % 32 ≤ 0x0B then 2 else if s % 32 == 0x0C then 1 else 0)
  else if 0x180 ≤ s ∧ s ≤ 0x187 then 2
  else if s == 0x191 ∨ s == 0x192 then 5
  else if 0x1E0 ≤ s ∧ s ≤ 0x1E6 then 1
  else if 0x240 ≤ s ∧ s ≤ 0x27F then 3
  else if 0x288 ≤ s ∧ s ≤ 0x28F then 6
  else if 0x300 ≤ s ∧ s ≤ 0x31F then 2
  else if 0x320 ≤ s ∧ s ≤ 0x323 then 3
  else if 0x380 ≤ s ∧ s ≤ 0x38B then 4
  else if 0x3C0 ≤ s ∧ s ≤ 0x3C3 then 4
  else match s with
    | 0x000 => 2 | 0x001 => 1
    | 0x030 => 3 | 0x032 => 1 | 0x033 => 1
    | 0x040 | 0x041 | 0x042 => 3 | 0x043 => 2 | 0x045 => 1
    | 0x188 | 0x190 => 1
    | 0x1C0 => 4 | 0x1C3 => 2 | 0x1C4 => 1
    | 0x201 => 2 | 0x280 => 3
    | 0x2C0 | 0x2C1 => 6 | 0x2C2 | 0x2C3 => 1
    | 0x340 => 1
    | 0x3C4 => 5 | 0x3C5 => 3
    | 0x3E0 => 4 | 0x3E1 => 1 | 0x3E3 => 1 | 0x3E4 => 3 | 0x3E5 => 1
    | 0x3F0 => 6
    | _ => 0

/-- First source ID of the resettable block that owns a source ID (R581). -/
def resetBlockOf (s : Nat) : Option Nat :=
  if 0x080 ≤ s ∧ s ≤ 0x0FF ∧ s % 32 ≤ 4 then some (s - s % 32)
  else if 0x100 ≤ s ∧ s ≤ 0x17F ∧ s % 32 ≤ 4 then some s
  else if 0x100 ≤ s ∧ s ≤ 0x17F ∧ 8 ≤ s % 32 ∧ s % 32 ≤ 0x0D then some (s - s % 32 + 8)
  else if 0x180 ≤ s ∧ s ≤ 0x187 then some s
  else if s == 0x188 ∨ s == 0x18A then some 0x188
  else if 0x190 ≤ s ∧ s ≤ 0x192 then some s
  else if 0x1C0 ≤ s ∧ s ≤ 0x1C4 then some 0x1C0
  else if 0x1E0 ≤ s ∧ s ≤ 0x1E6 then some 0x1E0
  else if s == 0x200 ∨ s == 0x201 then some 0x200
  else if 0x240 ≤ s ∧ s ≤ 0x27F then some s
  else if 0x288 ≤ s ∧ s ≤ 0x28F then some s
  else if 0x2C0 ≤ s ∧ s ≤ 0x2C5 then some (0x2C0 + s % 2)
  else if 0x300 ≤ s ∧ s ≤ 0x31F then some (0x320 + (s - 0x300) / 8)
  else if 0x320 ≤ s ∧ s ≤ 0x323 then some s
  else if 0x3C0 ≤ s ∧ s ≤ 0x3C3 then some s
  else none

/-- Kinds with the reset reaction (R574). -/
def resetReaction (s k : Nat) : Bool :=
  (decide (0x100 ≤ s) && decide (s ≤ 0x17F)
      && ((decide (s % 32 ≤ 4) && k == 2) || (s % 32 == 0x0C && k == 3) || (s % 32 == 0x0D && k == 4)))
    || (s == 0x1C0 && k == 2) || (s == 0x1E0 && k == 1) || ((s == 0x2C0 || s == 0x2C1) && k == 1)
    || ((s == 0x2C4 || s == 0x2C5) && k == 4)

/-- Kinds that only POR# ends (R585). -/
def onlyPor (s k : Nat) : Bool :=
  (s == 0x001 && k == 3) || (s == 0x003 && k == 5) || (s == 0x033 && k == 9) || (s == 0x032 && k == 7) || (s == 0x044 && k == 1)
    || (decide (0x380 ≤ s) && decide (s ≤ 0x38B) && k == 5) || (s == 0x38C && (k == 9 || k == 0x0A)) || (s == 0x3F0 && k == 1)

/-- Bytes 0-1 of a fault entry (R576). -/
def faultId (s k : Nat) : Nat := s % 1024 + 1024 * (k % 64)

/-- The 64 bytes of a fault entry (R576). -/
def faultBytes (e : FaultEntry) : List Byte :=
  leBytes 2 (faultId e.source e.kind)
    ++ leBytes 1 (e.handled % 4 + 4 * (e.reported % 4) + 16 * boolN e.escalated + 32 * boolN e.noLonger + 64 * boolN e.collateral)
    ++ leBytes 1 (e.access % 16) ++ leBytes 2 (e.master % 1024) ++ zeroBytes 2 ++ leBytes 8 (e.address % 2 ^ 52)
    ++ leBytes 8 e.firstTime ++ leBytes 8 e.sampleIndex ++ leBytes 4 e.count ++ leBytes 4 e.generation.toNat ++ leBytes 8 e.lastTime
    ++ padTo e.detail 16

end Sys2Proof.Machine
end

