-- ==== Sys2Proof/Machine/Tokens.lean ====
section
/-! DEFINITION. Epoch tokens: TOKEN_FORM and TOKEN_ADOPT, and the swap points of the blocks that take their part at the instant of R58
(R24-R31, R57-R60, R65, R66, R284, R500). -/

namespace Sys2Proof.Machine

/-! ### Formation (R24, R57-R60) -/

/-- Commits of one epoch in order of acceptance, earlier epochs first. -/
def dueCommits (d : Device) (t : Nat) : List Commit :=
  (d.cfg.pendingCommits.filter (fun m => decide (m.epoch < t))) ++ (d.cfg.pendingCommits.filter (fun m => m.epoch == t))

/-- Block instances that a commit touches. -/
def touched (content : List (Nat × Int)) : List Nat := (content.map (fun e => blockOfKey e.1)).eraseDups

/-- The parts of a commit, one for each block instance. -/
def partsOf (t : Nat) (content : List (Nat × Int)) : List Part :=
  (touched content).map (fun b => { block := b, epoch := t, changes := content.filter (fun e => blockOfKey e.1 == b) })

/-- Settings contexts that token `t` replaces, beside those that still deliver (R28). -/
def noteContexts (t : Nat) (due : List Commit) (d : Device) : Device :=
  let l := due.map (fun m => (t, m.content))
  let new := ((due.flatMap (fun m => touched m.content)).eraseDups.filter tokenBlockKeyed).flatMap (fun b =>
    (contextEnds d l b).map (fun x => (b, x)))
  { d with cfg := { d.cfg with oldContexts := d.cfg.oldContexts.filter (fun x => decide (epochStart d t < x.2.2)) ++ new } }

/-- A commit takes effect at token `t` (R60, R65): the generation, its parts, and what its command waits for. -/
def applyCommit (t : Nat) (m : Commit) (d : Device) : Device :=
  let g := m.generation.getD (d.cfg.generation + 1)
  { d with cfg := { d.cfg with
      generation := g, parts := d.cfg.parts ++ partsOf t m.content,
      skewed := if m.master.isSome then none else d.cfg.skewed
      groupApplied := match m.master with
        | some x => if x == d.group.id then d.cfg.groupApplied else some x
        | none => d.cfg.groupApplied
      adoptions := match m.packet, m.waitAdopted with
        | some p, true => d.cfg.adoptions ++ [{ packet := p, epoch := t, generation := g, blocks := touched m.content ++ relocksOf m.content }]
        | _, _ => d.cfg.adoptions } }

/-- The command of a commit that does not wait for adoption completes, and a member of a group commit reports APPLIED (R59, R65). -/
def reportCommit (m : Commit) (g : BitVec 32) (d : Device) : Device :=
  let d := if m.waitAdopted then d else completeOpt m.packet .ok (commitReply m.epoch g 0) d
  match m.master with
  | none => d
  | some x => if x == d.group.id then appliedReply x d else sendMsg x .applied d

/-- Generation that each due commit produces. -/
def generationsOf : BitVec 32 → List Commit → List (Commit × BitVec 32)
  | _, [] => []
  | g, m :: ms => let n := m.generation.getD (g + 1); (m, n) :: generationsOf n ms

/-! ### EPOCH records that become due (R284) -/

/-- What token `t` means for stream `n`: `prev` is the generation of the token before. -/
def dueOf (t n : Nat) (prev : BitVec 32) (first : Bool) (d : Device) : EpochDue :=
  let s := stream d n
  let after := valuesAfter d 0
  let x := vN after 9 n 4
  let changed := d.cfg.generation != prev
  let requested := d.nvme.waits.any (fun w => w.stream == n && w.epoch == t)
  let every := decide (2 ≤ x) && t % 2 ^ (x - 2) == 0
  let on := streamEnabled d n || vN after 9 n 1 == 1
  let wanted := (x != 0 && (changed || every || first)) || (requested && on)
  { epoch := t, deviceTime := d.time, generation := d.cfg.generation, prevGeneration := prev, fsclkHz := fsclkHz d,
    refinHz := cfgN d 1 2 1, exponent := epochExp d,
    flags := boolN changed + 4 * boolN d.clk.holdover + 8 * boolN (s.paused && wanted) + 16 * boolN requested,
    merged := 1, syncCount := d.strm.syncCount, pauseNs := d.strm.pauseNs, wanted := wanted, enabled := on }

/-- Every open stream notes the token. -/
def noteEpochs (t : Nat) (prev : BitVec 32) (first : Bool) (d : Device) : Device :=
  (openStreams d).foldl (fun d n =>
    let e := dueOf t n prev first d
    let s := stream d n
    setStream n { s with epochDue := s.epochDue ++ [e], paused := s.paused && !e.wanted } d) d

/-! ### Blocks that swap at the instant of R58, and idle blocks -/

/-- Only some of the changes of a block's waiting parts become active. -/
def swapKeys (b : Nat) (p : Nat → Bool) (d : Device) : Device :=
  let ps := d.cfg.parts.filter (fun x => x.block == b)
  let d := ps.foldl (fun d x => (x.changes.filter (fun e => p e.1)).foldl (fun d e => setActive e.1 e.2 d) d) d
  let parts := d.cfg.parts.map (fun x => if x.block == b then { x with changes := x.changes.filter (fun e => !p e.1) } else x)
  { d with cfg := { d.cfg with parts := parts.filter (fun x => !(x.block == b && x.changes.isEmpty)) } }

/-- Clock block (R69, R81, R82): writing a divider relocks its synthesiser even where the value stays. A commit that relocks the LO and
sets ramp_enable to 1 starts the ramp at the swap instant, while the relock runs (DESIGN CHOICE). -/
def swapClock (d : Device) : Device :=
  let w0 := (waitingChanges d 0x0100 (2 ^ 64)).map (·.1)
  let w1 := (waitingChanges d 0x0101 (2 ^ 64)).map (·.1)
  let was := cfgOn d 1 1 0x10
  let d := swapIn 0x0102 (2 ^ 64) (swapIn 0x0101 (2 ^ 64) (swapIn 0x0100 (2 ^ 64) d))
  let d := if w0.contains (cfgKey 1 0 1) || w0.contains (cfgKey 1 0 2) then startRelock .sclk false d else d
  let lo := [1, 2, 3, 4].any (fun c => w1.contains (cfgKey 1 1 c))
  let d := if lo then startRelock .lo false d else d
  let on := cfgOn d 1 1 0x10
  if on && !was then armRamp d else if !on && was then stopRamp d else d

/-- Fault block (R592): a change of log_log2 empties the log, and its unread entries count as lost. -/
def swapFault (d : Device) : Device :=
  let old := cfgN d 0x11 0 1
  let d := swapIn 0x1100 (2 ^ 64) d
  if cfgN d 0x11 0 1 == old then d
  else { d with fault := { d.fault with corrected := none, log := [], logLost := d.fault.logLost + BitVec.ofNat 32 d.fault.log.length } }

/-- Paddock block: jtag_mode 2 zeroises first (R564) and is remembered until POR# (R562). -/
def swapPaddock (d : Device) : Device :=
  let mode := cfgN d 0x12 0 1
  let d := if mode != 2 && (waitingChanges d 0x1200 (2 ^ 64)).any (fun e => e.1 == cfgKey 0x12 0 1 && e.2 == 2) then zeroise d else d
  let d := swapIn 0x1200 (2 ^ 64) d
  let d := if cfgN d 0x12 0 1 == mode then d else raiseEvent 0x3E5 1 (ballIndex d) 0 d
  { d with pad := { d.pad with debugged := d.pad.debugged || cfgN d 0x12 0 1 == 2 } }

/-- Storage ports in no mounted volume swap at once; a change of width or max_gen retrains the port (R341). -/
def swapPort (p : Nat) (d : Device) : Device :=
  if d.nvme.volumes.any (fun e => match e.2 with
      | some v => v.ports.contains (some p)
      | none => false) then d
  else
    let keys := changedKeys d (waitingChanges d (0x0B10 + p) (2 ^ 64))
    let d := swapIn (0x0B10 + p) (2 ^ 64) d
    if keys.contains (cfgKey 0x0B (0x10 + p) 1) || keys.contains (cfgKey 0x0B (0x10 + p) 2) then retrainPort p d else d

/-- Domain bit of R517 is on. -/
def domainReady (d : Device) (b : Nat) : Bool := d.power.domains.getLsbD b

/-- STOPPED, EXCEPTION or FAULTED (R412). -/
def coreIdle (d : Device) (n : Nat) : Bool :=
  let m := (core d n).mode
  m == .stopped || m == .exception || m == .faulted

/-- Parts that need not wait: the blocks that swap at the instant of R58, and those that stand idle (R58, R81, R323, R341, R371, R412). -/
def swapAtOnce (d : Device) : Device :=
  let d := swapPaddock (swapFault (swapIn 0x1000 (2 ^ 64) (swapKeys 0x0E00 (fun k => k % 65536 != 1) (swapClock d))))
  let d := (List.range 64).foldl (fun d c => xferSwapNow c (swapKeys (0x0A00 + c) (fun k => decide (16 ≤ k % 65536)) d)) d
  let d := (List.range 4).foldl (fun d n => swapIn (0x0D80 + n) (2 ^ 64) d) d
  let d := (List.range 32).foldl (fun d n => if coreIdle d n then swapIn (0x0D00 + n) (2 ^ 64) d else d) d
  let d := (List.range 8).foldl (fun d p => swapPort p d) d
  let d := if d.nvme.running.isEmpty && !(mainWaiting d).isEmpty then swapMain d else d
  let d := if (runActive d).isSome then d else tiuBlocks.foldl (fun d b => swapIn b (2 ^ 64) d) d
  let d := (List.range 2).foldl (fun d g =>
    if (generator d g).mode == .stopped && (domainReady d (20 + g) || cfgN d 0x0C g 1 == 1) then swapStoppedGen g d else d) d
  let d := if d.disp.running then d else dispBlocks.foldl (fun d b => swapIn b (2 ^ 64) d) d
  settleAdoptions d

/-- Record generation of the two generators: blocks without tokens work under the generation in force when their part is applied. -/
def genGeneration (d : Device) : Device :=
  [0x0C00, 0x0C01].foldl (fun d b =>
    if d.cfg.parts.any (fun p => p.block == b) then d
    else { d with cfg := { d.cfg with blockGen := tset 0 d.cfg.blockGen b d.cfg.generation } }) d

/-- The epoch source of the sequencer (R191). -/
def epochPulse (t : Nat) (d : Device) : Device :=
  if t % 2 ^ (valueIn d t (cfgKey 5 0 3)).toNat == 0 then postEvent (pulseEvent 46 (epochStart d t) none false) d else d

/-- The next token may form: its boundary has passed the output of stall 0x01 and the sample index is not held. -/
def tokenReady (d : Device) : Bool :=
  decide (epochStart d (nextToken d) ≤ d.sampleIndex) && d.strm.pauseFrom.isNone
    && (d.power.state == .ready || d.power.state == .safe)

/-- TOKEN_FORM (R24). -/
def tokenForm (d : Device) : Device :=
  if !tokenReady d then d
  else
    let t := nextToken d
    let first := d.cfg.tokenZero
    let prev := d.cfg.generation
    let due := dueCommits d t
    let d := noteContexts t due d
    let d := { d with cfg := { d.cfg with
      pendingCommits := d.cfg.pendingCommits.filter (fun m => decide (t < m.epoch)), lastToken := t, tokenZero := false } }
    let d := due.foldl (fun d m => applyCommit t m d) d
    let d := if due.isEmpty then d else noteUnits t d
    let d := if d.cfg.generation == prev then d
      else { d with cfg := { d.cfg with genAt := d.cfg.genAt ++ [(t, d.cfg.generation)] } }
    let d := epochPulse t (noteEpochs t prev first d)
    let d := genGeneration (swapAtOnce d)
    let d := (generationsOf prev due).foldl (fun d x => reportCommit x.1 x.2 d) d
    let d := if d.cfg.skewed.any (fun m => m.epoch == t) then commitSkew d else d
    pairFormAt t d

/-! ### Adoption (R25-R28) -/

def adoptedBy (d : Device) (b : Nat) : Nat := tget 0 d.cfg.adopted b

/-- Value of a field of another block in an epoch. -/
def nIn (d : Device) (t block inst code : Nat) : Nat := (valueIn d t (cfgKey block inst code)).toNat

/-- Lanes that feed a slot before and behind token `t`. -/
def slotLanes (d : Device) (t key : Nat) : List Nat :=
  [key / 4 * 8 + slotN d key 2, key / 4 * 8 + nIn d t 4 key 2].eraseDups

/-- Slots that feed a map before and behind token `t`. -/
def mapSlots (d : Device) (t m : Nat) : List Nat := [m / 2 * 4 + mapN d m 2, m / 2 * 4 + nIn d t 7 m 2].eraseDups

/-- Sources that a stream subscribes to before and behind token `t`. -/
def streamSources (d : Device) (t n : Nat) : List Nat :=
  ((subscriptions (cfgVal d) n ++ subscriptions (fun k => valueIn d t k) n).map (·.1)).eraseDups

/-- Values of one field of the units, before and behind token `t`, where the unit is enabled (R201). -/
def unitSources (d : Device) (t n base : Nat) : List Nat :=
  ((List.range n).flatMap (fun u =>
    (if cfgN d 5 0 (base + 0x10 * u + 1) != 0 then [cfgN d 5 0 (base + 0x10 * u)] else [])
      ++ (if nIn d t 5 0 (base + 0x10 * u + 1) != 0 then [nIn d t 5 0 (base + 0x10 * u)] else []))).eraseDups

/-- Lanes that feed an enabled envelope unit. -/
def envLanes (d : Device) (t : Nat) : List Nat := unitSources d t 16 0x1000

/-- Slots that feed an enabled frequency unit. -/
def frqSlots (d : Device) (t : Nat) : List Nat := unitSources d t 8 0x2000

/-- A source has delivered every record below boundary `b` of token `t` (R300). -/
def sourcePassed (d : Device) (t b s : Nat) : Bool :=
  match sourceBlock s with
  | none => true
  | some x =>
    decide (t ≤ adoptedBy d x) &&
      (if s / 4096 == 1 then
        let v := laneAt d (s % 4096 / 8) (s % 4096 % 8)
        let started := match v.openRec with
          | some r => r.points.any (fun p => decide (p.stamp < b))
          | none => false
        !laneEnabled d (s % 4096 / 8) (s % 4096 % 8) || (decide (b ≤ v.recNext) && !started)
       else if s / 4096 == 2 then !(slotAt d (s % 4096)).old.any (fun f => decide (f.1 < b))
       else true)

/-- The token of epoch `t` stands at the front of the input of block `b`: everything below its boundary has left the block (R25, R26, R618). -/
def canAdopt (d : Device) (b t : Nat) : Bool :=
  let i := b % 256
  let bound := epochStart d t
  match b / 256 with
  | 2 => decide (bound ≤ (converter d i).next)
  | 3 => decide (t ≤ adoptedBy d (0x0200 + i / 8)) && (!laneEnabled d (i / 8) (i % 8) || decide (bound ≤ (laneAt d (i / 8) (i % 8)).next))
  | 4 => (slotLanes d t i).all (fun l => decide (t ≤ adoptedBy d (0x0300 + l)))
  | 5 =>
    if aligned d then decide (bound ≤ d.trig.evalNext)
    else
      (envLanes d t).all (fun l => decide (t ≤ adoptedBy d (0x0300 + l))) && (frqSlots d t).all (fun k => decide (t ≤ adoptedBy d (0x0400 + k)))
        && (List.range 16).all (fun u => (envItem d u).all (fun x => decide (bound ≤ x.stamp)))
        && (List.range 8).all (fun u => (frqItem d u).all (fun x => decide (bound ≤ x.stamp)))
  | 7 =>
    (mapSlots d t i).all (fun s => decide (t ≤ adoptedBy d (0x0400 + s)) && !(slotAt d s).old.any (fun f => decide (f.1 < bound)))
      && (densMap d i).stall.items.all (fun x => decide (bound ≤ x.stamp))
  | 9 => (streamSources d t i).all (sourcePassed d t bound)
  | _ => false

/-- A stall that has discarded every unit since before index `lo`. -/
def emptySince (s : RtStall α) (lo : Nat) : Bool := s.discarding.any (fun f => decide (f ≤ lo)) && s.items.isEmpty

/-- No unit of the input of block `b` stands between the boundaries of the tokens `t` and `t + 1` (R27): none falls there by the grid of its
source, or all have been lost or discarded. -/
def nothingBetween (d : Device) (b t : Nat) : Bool :=
  let i := b % 256
  let lo := epochStart d t
  let hi := epochStart d (t + 1)
  let lost (l : Nat) : Bool := (laneAt d (l / 8) (l % 8)).lost.any (fun r => decide (r.1 ≤ lo) && decide (hi ≤ r.2))
  let laneQuiet (l : Nat) : Bool := decide (hi ≤ gridUp (nIn d t 3 l 4) lo) || lost l || !laneEnabled d (l / 8) (l % 8)
  let slotQuiet (s : Nat) : Bool :=
    let c := slotCtx d s
    !slotEnabled d s || decide (hi ≤ (slotAt d s).next) || decide (hi ≤ c.origin + ceilDiv (lo - c.origin) (hopLen c) * hopLen c)
  match b / 256 with
  | 3 => laneEnabled d (i / 8) (i % 8) && lost i
  | 4 => (slotLanes d t i).all laneQuiet || emptySince (slotAt d i).stall lo
  | 5 =>
    !aligned d && (envLanes d t).all (fun l => laneQuiet l || emptySince (laneAt d (l / 8) (l % 8)).envStall lo)
      && (frqSlots d t).all (fun k => slotQuiet k || emptySince (frqStall d k) lo)
  | 7 => (mapSlots d t i).all slotQuiet || emptySince (densMap d i).stall lo
  | 9 =>
    let ss := streamSources d t i
    !ss.isEmpty && ss.all (fun s => if s / 4096 == 1 then laneQuiet (s % 4096) else if s / 4096 == 2 then slotQuiet (s % 4096) else s / 4096 != 4)
  | _ => false

/-- The newest token that stands with token `t` at the front of the input. -/
def mergedWith (d : Device) (b lim : Nat) : Nat → Nat → Nat
  | 0, t => t
  | fuel + 1, t => if decide (t < lim) && nothingBetween d b t && canAdopt d b (t + 1) then mergedWith d b lim fuel (t + 1) else t

/-- Tokens that merge at a stream write one EPOCH record, of the newest one (R27, R284). -/
def mergeDue (a t : Nat) (l : List EpochDue) : List EpochDue :=
  let ms := l.filter (fun e => decide (a ≤ e.epoch) && decide (e.epoch ≤ t))
  let rest := l.filter (fun e => !(decide (a ≤ e.epoch) && decide (e.epoch ≤ t)))
  match ms, ms.getLast? with
  | e :: _, some z =>
    let changed := ms.any (fun x => bit x.flags 0)
    let held := ms.any (fun x => bit x.flags 3)
    let asked := ms.any (fun x => bit x.flags 4)
    let flags := boolN changed + 2 + boolN (bit z.flags 2) * 4 + 8 * boolN held + 16 * boolN asked
    let one := { z with
      prevGeneration := e.prevGeneration, flags := flags, merged := t - a + 1, wanted := ms.any (·.wanted), enabled := ms.any (·.enabled) }
    rest.filter (fun x => decide (x.epoch < a)) ++ [one] ++ rest.filter (fun x => decide (t < x.epoch))
  | _, _ => l

/-- The generation that token `t` carries, where it or an earlier one that the block has not adopted changes it. -/
def noteAdopted (b t : Nat) (d : Device) : Device :=
  let g := match (d.cfg.genAt.filter (fun e => decide (e.1 ≤ t))).getLast? with
    | some e => tset 0 d.cfg.blockGen b e.2
    | none => d.cfg.blockGen
  { d with cfg := { d.cfg with adopted := tset 0 d.cfg.adopted b t, blockGen := g } }

/-- Codes of the fields of a block instance that change at token `t`. -/
def codesAt (d : Device) (b t : Nat) : List Nat := ((changedKeys d (waitingChanges d b t)).map (· % 65536)).eraseDups

/-- A channel that token `t` switches on delivers 2^18 lost sample periods (R115). -/
def startConverter (ch t : Nat) (d : Device) : Device :=
  let b := epochStart d t
  let d := setConverter ch { converter d ch with zeroBelow := b + 262144 } d
  let d := (List.range 5).foldl (fun d l =>
    let v := laneAt d ch l
    setLane ch l { v with lost := v.lost ++ [(b, b + 262144)] } d) d
  let c : Values := fun k => valueIn d t k
  (openStreams d).foldl (fun e n =>
    match (((subscriptions c n).map (·.1)).filter (fun s => vN c 9 n 1 == 1 && channelSource ch s)).eraseDups with
    | [] => e
    | ss => pushStall n (gapRec d (gapSource ss) 0x03 b 262144 0 (blockGeneration d (0x0200 + ch)) [ch]) e) d

def adoptConverter (ch t : Nat) (d : Device) : Device :=
  let was := convEnabled d ch
  let d := noteAdopted (0x0200 + ch) t (swapIn (0x0200 + ch) t d)
  if convEnabled d ch && !was then startConverter ch t d
  else if !convEnabled d ch && was then stopCalibration ch d
  else d

def adoptLane (i t : Nat) (d : Device) : Device :=
  let ch := i / 8
  let l := i % 8
  let b := epochStart d t
  let old := recSettings d ch l
  let codes := codesAt d (0x0300 + i) t
  let d := noteAdopted (0x0300 + i) t (swapIn (0x0300 + i) t d)
  let d := laneAdopt ch l b old codes d
  let d := if codes.any (fun c => decide (1 ≤ c) && decide (c ≤ 5)) then cutLaneBatches i d else d
  if codes.any (fun c => decide (1 ≤ c) && decide (c ≤ 4)) then cutMeasurements ch l b d else d

/-- Fields of a lane that differ between two epochs. -/
def laneDiff (d : Device) (l a t : Nat) : List Nat :=
  ((List.range 0x20).filter (fun c => valueIn d a (cfgKey 3 l c) != valueIn d t (cfgKey 3 l c)))

def adoptSlot (key t : Nat) (d : Device) : Device :=
  let old := slotCtx d key
  let was := slotEnabled d key
  let codes := codesAt d (0x0400 + key) t
  let a := adoptedBy d (0x0400 + key)
  let lanes := laneDiff d (key / 4 * 8 + slotN d key 2) a t
  let d := if was && 0 < transitionExcess (valueIn d a) (valueIn d t) key then
      raiseEvent (0x10C + 0x20 * (key / 4)) 1 (ballIndex d) 0 d else d
  let d := noteAdopted (0x0400 + key) t (swapIn (0x0400 + key) t d)
  slotAdopt key (epochStart d t) old was codes lanes d

def adoptTrig (t : Nat) (d : Device) : Device :=
  let was := aligned d
  let horizon := trigN d 2
  let keys := changedKeys d (waitingChanges d 0x0500 t)
  trigAdopt (epochStart d t) was horizon keys (noteAdopted 0x0500 t (swapIn 0x0500 t d))

/-- The source slot of a map, or its lane, changes under R245. -/
def mapFed (d : Device) (m a t : Nat) : Bool :=
  let s := m / 2 * 4 + mapN d m 2
  let l := m / 2 * 8 + nIn d a 4 s 2
  [1, 2, 3, 4, 5].any (fun c => valueIn d a (cfgKey 4 s c) != valueIn d t (cfgKey 4 s c))
    || [1, 2, 3, 4, 5].any (fun c => valueIn d a (cfgKey 3 l c) != valueIn d t (cfgKey 3 l c))

def adoptMap (m t : Nat) (d : Device) : Device :=
  let old := mapCtx d m
  let was := mapN d m 1 == 1
  let codes := codesAt d (0x0700 + m) t
  let fed := mapFed d m (adoptedBy d (0x0700 + m)) t
  mapAdopt m t old was codes fed (noteAdopted (0x0700 + m) t (swapIn (0x0700 + m) t d))

def adoptStream (n a t : Nat) (d : Device) : Device :=
  let old := consumers d n
  let d := noteAdopted (0x0900 + n) t (swapIn (0x0900 + n) t d)
  let d := if a == t then d else setStream n { stream d n with epochDue := mergeDue a t (stream d n).epochDue } d
  recorderLeaves n (consumersChanged n old d)

/-- Block `b` adopts the tokens from `a` to `t` as one. -/
def adoptOne (b a t : Nat) (d : Device) : Device :=
  let i := b % 256
  match b / 256 with
  | 2 => adoptConverter i t d
  | 3 => adoptLane i t d
  | 4 => adoptSlot i t d
  | 5 => adoptTrig t d
  | 7 => adoptMap i t d
  | 9 => adoptStream i a t d
  | _ => d

/-- The tokens up to `lim`, as far as they stand at the front of the block's input. -/
def adoptUpTo (b lim : Nat) : Nat → Device → Device
  | 0, d => d
  | fuel + 1, d =>
    let a := adoptedBy d b + 1
    if lim < a || !canAdopt d b a then d
    else
      let t := mergedWith d b lim fuel a
      adoptUpTo b lim fuel (adoptOne b a t d)

/-- Every block that adopts tokens, by its block key. -/
def tokenBlocks : List Nat :=
  (List.range 4).map (· + 0x0200) ++ (List.range 20).map (fun n => 0x0300 + n / 5 * 8 + n % 5) ++ (List.range 16).map (· + 0x0400)
    ++ [0x0500] ++ (List.range 8).map (· + 0x0700) ++ (List.range 256).map (· + 0x0900)

/-- Blocks that still read older settings of the blocks before them. -/
def undoReaders (d : Device) : List Nat :=
  0x0500 :: (((List.range 16).filter (slotEnabled d)).map (· + 0x0400) ++ ((List.range 8).filter (fun m => mapN d m 1 == 1)).map (· + 0x0700))

/-- Old generations and old values that no block needs any more are forgotten. -/
def pruneTokens (d : Device) : Device :=
  let genAt := if d.cfg.genAt.isEmpty then [] else
    d.cfg.genAt.filter (fun e => tokenBlocks.any (fun b => decide (adoptedBy d b < e.1)))
  let undo := d.cfg.undo.filter (fun e => (undoReaders d).any (fun b => decide (adoptedBy d b < e.1)))
  { d with cfg := { d.cfg with genAt := genAt, undo := undo } }

/-- TOKEN_ADOPT (R26-R29): a block adopts the tokens at the front of its input, up to the named epoch. -/
def tokenAdopt (b : TokenBlock) (upTo : Nat) (d : Device) : Device :=
  let key := tokenBlockKey b
  let lim := min upTo d.cfg.lastToken
  if d.power.state == .sleep then d
  else settleAdoptions (pruneTokens (adoptUpTo key lim (lim - adoptedBy d key) d))

def execTokenForm (s : State) : Host.Outcome State Fault Refusal := act tokenForm s
def execTokenAdopt (b : TokenBlock) (upTo : Nat) (s : State) : Host.Outcome State Fault Refusal := act (tokenAdopt b upTo) s

end Sys2Proof.Machine
end

