-- ==== Sys2Proof/Machine/Relock.lean ====
section
/-! DEFINITION. The end of a relock and SYNC: LOCK_DETECT and SYNC, which act on every part of the real-time section
(R72-R76, R96, R118-R120, R138, R149, R219, R373, R493). -/

namespace Sys2Proof.Machine

/-! ### LOCK_DETECT (R72 steps 4 and 5) -/

/-- What the relock means for a converter (R98, R118-R120): a new pass where f_SCLK has changed; at the first lock one, unless a
CAL_WRITE has replaced it; else the current step is repeated. At WAKE the temperature is tested with its next sample, and continuous
calibration goes on. -/
def relockConverter (changed first waking : Bool) (ch : Nat) (d : Device) : Device :=
  if first then (if (converter d ch).codesValid && !sclkDiffers d ch then d else startPass ch 4 d)
  else if changed then startPass ch 3 (abandonPass ch d)
  else
    let d := setConverter ch (mapStages repeatStep (converter d ch)) d
    if waking && calMode d ch == 2 then startPass ch 5 d else d

/-- Lanes, measurements and spectral slots do not use samples from both sides of a pause (R75, R130, R151). -/
def markPause (d : Device) : Device :=
  let p := ballIndex d
  let d := allLanes.foldl (fun d x =>
    let v := laneAt d x.1 x.2
    cutMeasurements x.1 x.2 p (setLane x.1 x.2 { v with lost := v.lost ++ [(p, p)] } d)) d
  (List.range 16).foldl (fun d s =>
    if slotEnabled d s then setSlot s { slotAt d s with pauses := (slotAt d s).pauses ++ [p] } d else d) d

/-- The sample index resumes behind an SCLK relock (R75); open lane batches close with CUT (R414). -/
def resumeAfterRelock (d : Device) : Device :=
  let d := emitGap (gapRec d 0 0x02 (ballIndex d) 0 0 d.cfg.generation []) (streamsWith d realTimeSource) d
  resumeIndex (laneCodes.foldl (fun d code => cutLaneBatches code d) (tiuPause (markPause d)))

/-- Step 5 of a relock: the output is released, and the commit counts as applied. In a wake the sample index resumes with
WAKE_COMPLETE. -/
def lockDetect (y : Synth) (d : Device) : Device :=
  let v := synth d y
  if v.relock != .closing || !d.clk.refPresent then d
  else
    let before := fsclkHz d
    let d := setSynth y { v with locked := true, gated := false, relock := .idle, repeated := false, inForce := activeDividers d y } d
    let d := raiseEvent (synthSource y) 1 (ballIndex d) 0 d
    let d := match y with
      | .lo => { d with clk := { d.clk with loHeld := false } }
      | .sclk =>
        let first := !d.clk.sclkEver
        let waking := d.power.waking.isSome
        let d := { d with clk := { d.clk with sclkEver := true } }
        let changed := fsclkHz d != before
        let d := (List.range 4).foldl (fun d ch => relockConverter changed first waking ch d) d
        if waking then d else resumeAfterRelock d
    settleAdoptions d

/-! ### SYNC (R493) -/

/-- Parts that wait for tokens of the old count are applied. -/
def adoptOldTokens (d : Device) : Device :=
  tokenBlocks.foldl (fun d b =>
    if d.cfg.parts.any (fun p => p.block == b) then adoptOne b d.cfg.lastToken d.cfg.lastToken d else d) d

/-- EPOCH records of the old count that are due stand before the GAP record, and before the records that wait for them (R300). -/
def flushDue (n : Nat) (d : Device) : Device :=
  (stream d n).epochDue.foldl (fun d e =>
    let s := stream d n
    let held := s.stall.filter (epochBefore s)
    let d := setStream n { s with epochDue := s.epochDue.drop 1, stall := s.stall.filter (fun r => !epochBefore s r) } d
    let d := if e.wanted && e.enabled then pushStall n (epochRecord d e) d
      else if e.enabled then d else missRequests n e.epoch false d
    setStream n { stream d n with stall := (stream d n).stall ++ held } d) d

/-- The old count ends: open records and blocks end, and the GAP record of cause 0x0E is written (R138, R149, R285). -/
def endOldCount (d : Device) : Device :=
  let d := allLanes.foldl (fun d x => laneSync x.1 x.2 d) d
  let d := (List.range 16).foldl (fun d s => slotSync s d) d
  let d := (openStreams d).foldl (fun d n => flushDue n d) d
  emitGap (gapRec d 0 0x0E (ballIndex d - 1) 0 0 d.cfg.generation []) (streamsWith d realTimeSource) d

/-- Counters of the token mechanism at the start of a new count: every block works under the present generation. -/
def restartTokens (d : Device) : Device :=
  let gen := (tokenBlocks ++ [0x0C00, 0x0C01]).foldl (fun t b => tset 0 t b d.cfg.generation) d.cfg.blockGen
  { d with cfg := { d.cfg with
      lastToken := 0, tokenZero := true, adopted := [], genAt := [], undo := [], oldContexts := [], blockGen := gen } }

/-- The new count starts at sample index 0. -/
def startNewCount (d : Device) : Device :=
  let d := restartTokens (swapBlocks [0x0F00] (abortPending false d))
  { d with
    sampleIndex := 0
    strm := { d.strm with syncCount := d.strm.syncCount + 1, pauseNs := 0 }
    clk := { d.clk with
      loPeriods := 0
      sclk := { d.clk.sclk with alignedRef := d.clk.sclk.inForce.refDiv }
      lo := { d.clk.lo with alignedRef := d.clk.lo.inForce.refDiv } }
    group := { d.group with busIntervals := [], busLateEpoch := none, syncOut := false, pairMuted := pairMutes d && d.group.unmuteAt.isNone, unmuteAt := none } }

/-- A member that GROUP_SYNC armed reports its capture and sends its PINGs; without GROUP_SYNC the SYNC itself verifies the phase
(R76, R494). -/
def reportSync (capture : Int) (d : Device) : Device :=
  match d.group.syncArmed, d.group.syncMaster with
  | true, some (master, noBus) =>
    let x := capture - traceDelay d
    let d := { d with group := { d.group with
      syncArmed := false, busTransitMax := 0, pings := 0, syncMaster := if noBus then none else d.group.syncMaster } }
    let d := if noBus then d
      else (otherMembers d).foldl (fun d n => (List.range 16).foldl (fun d _ => sendMsg n (.ping (ballIndex d)) d) d) d
    let d := if master == d.group.id then noteCapture master x d else sendMsg master (.syncCtl (.captured x)) d
    if noBus then d else pingsDone d
  | _, _ => clearPhase (disarmSync d)

/-- SYNC: `capture` is the stamp of the SYNC_IN edge in the new sample index, in units of 2^-16 sample periods. -/
def sync (capture : Int) (d : Device) : Device :=
  if d.power.state == .sleep || !d.clk.refPresent || !(cfgN d 0x0F 0 2 == 1 || d.group.syncArmed) then d
  else if relocking d.clk.sclk then
    raiseEvent 0x3C4 4 (ballIndex d) 0 (raiseEvent 0x040 3 (ballIndex d) 0 { d with clk := { d.clk with syncIgnored := true } })
  else
    let d := endOldCount (adoptOldTokens d)
    let d := syncLaneBatches (trigSync (tiuSync (convSync d)))
    let d := haltGen 1 2 .aborted (haltGen 0 2 .aborted d)
    reportSync capture (raiseEvent 0x3C4 3 0 0 (startNewCount d))

def execLockDetect (syn : Synth) (s : State) : Host.Outcome State Fault Refusal := act (lockDetect syn) s
def execSync (capture : Int) (s : State) : Host.Outcome State Fault Refusal := act (sync capture) s

end Sys2Proof.Machine
end

