-- ==== Sys2Proof/Machine/Resets.lean ====
section
/-! DEFINITION. Block resets and reaction windows (R34, R449, R574, R581, R582). A block discards its state where its reset starts, takes
in nothing while it runs, and restarts where it completes. -/

namespace Sys2Proof.Machine

/-- First sample index that the reset of a block loses. -/
def resetStart (d : Device) (b : Nat) : Nat :=
  if b < 0x100 then
    let c := converter d ((b - 0x080) / 32)
    match c.discarding, c.stall with
    | some f, _ => f
    | none, x :: _ => x.1
    | none, [] => c.next
  else if b < 0x180 && b % 32 ≤ 4 then (laneAt d ((b - 0x100) / 32) (b % 32)).next
  else d.sampleIndex

/-- Batches of stall 0x12 on their way to kernel bindings are discarded (R34). -/
def dropBatches (p : Binding → Bool) (d : Device) : Device :=
  { d with reed := { d.reed with bindings := d.reed.bindings.map (fun e => (e.1, e.2.map (fun b => if p b then { b with stall := [] } else b))) } }

/-- Stalls 0x06, 0x07 and 0x12 behind a slot: what the units and the maps do not get is marked as not computed. -/
def dropSlotOutputs (key : Nat) (d : Device) : Device :=
  let gone (l : List Spectrum) : List Spectrum := l.map (fun x => { x with computed := false, bins := [], trace := [] })
  let d := setFrqStall key { frqStall d key with items := gone (frqStall d key).items, discarding := none } d
  let d := ((List.range 2).map (fun i => key / 4 * 2 + i)).foldl (fun d m =>
    let v := densMap d m
    setMap m { v with stall := { v.stall with items := v.stall.items.map (fun x =>
      if x.slot == key then { x with computed := false, bins := [], trace := [] } else x) } } d) d
  dropBatches (fun b => b.kind == .slot && b.source == key) d

/-- The stalls and the state of a block are discarded (R34 and the rule of R581 for the block). -/
def discardBlock (b : Nat) (d : Device) : Device :=
  if b < 0x100 then
    let ch := (b - 0x080) / 32
    let f := resetStart d b
    let d := resetConverter ch d
    setConverter ch { converter d ch with discarding := some f } d
  else if b < 0x180 then
    let ch := (b - 0x100) / 32
    if b % 32 ≤ 4 then
      -- stalls 0x02 to 0x05 and 0x12 of the lane
      let d := (boundSlots d ch (b % 32) (laneAt d ch (b % 32)).next).foldl (fun d key => dropSlotStall key d) d
      dropBatches (fun x => x.kind == .lane && x.source == laneKey ch (b % 32)) (resetLaneBlock ch (b % 32) d)
    else
      let d := { d with spec := { d.spec with romFailed := d.spec.romFailed.filter (fun e => e.1 / 8 != ch) } }
      (List.range 4).foldl (fun d n => dropSlotOutputs (slotKey ch n) (resetSlot (slotKey ch n) d)) d
  else if b < 0x188 then resetMap (b - 0x180) d
  else if b == 0x188 then
    (List.range 8).foldl (fun d m =>
      let v := densMap d m
      setMap m { v with colour := [], colourFull := false, colourDropped := v.colourDropped + BitVec.ofNat 32 v.colour.length } d) d
  else if b == 0x190 then clearPlanes d
  else if b == 0x191 || b == 0x192 then linkLost (b - 0x191) d
  else if b == 0x1C0 then
    let d := disarmAll true d
    let d := { d with trig := { d.trig with
        events := [], actions := [], actionsFull := false, pulses := [], pulsed := 0 } }
    let d := allLanes.foldl (fun d x => setLane x.1 x.2 { laneAt d x.1 x.2 with envStall := {} } d) d
    restartUnits d
  else if b == 0x1E0 then serviceInterpolators (disarmRun .aborted d)
  else if b == 0x200 then d
  else if b < 0x280 then
    let c := b - 0x240
    if (chan d c).desc.isSome then finishDescriptor c 5 0x40 true d else chanIdle c d
  else if b < 0x290 then
    let p := b - 0x288
    retrainPort p (if driveReady d p && inVolume d p then driveFailed p d else d)
  else if b < 0x2C6 then resetGen (b - 0x2C0) d
  else if b < 0x340 then resetCluster (b - 0x320) d
  else
    let n := b - 0x3C0
    let powered := (shunisPort d n).powered
    let d := portDown n d
    setShunisPort n { shunisPort d n with powered := powered } d

/-- Record sources fed from a block (R34: the streams that its reset affects). -/
def resetFeeds (d : Device) (b s : Nat) : Bool :=
  if b < 0x100 then channelSource ((b - 0x080) / 32) s
  else if b < 0x180 then
    if b % 32 ≤ 4 then laneFedSource d ((b - 0x100) / 32) (b % 32) s
    else channelSource ((b - 0x100) / 32) s && s / 4096 != 1
  else if b < 0x188 then s == mapSource (b - 0x180)
  else if b == 0x188 then s / 4096 == 3
  else if b == 0x1C0 then s == markSource || s / 4096 == 5
  else if b == 0x1E0 then s == intervalSource
  else if b == 0x2C0 || b == 0x2C1 then s == generatorSource (b - 0x2C0)
  else if 0x320 ≤ b ∧ b < 0x340 then
    s / 4096 == 8 && (match tget none d.reed.bindings (s % 4096) with
      | some x => x.core / 8 == b - 0x320
      | none => false)
  else false

/-- Channel whose converter degrades the data of a block (R276). -/
def resetChannels (b : Nat) : List Nat :=
  if b < 0x100 then [(b - 0x080) / 32] else if b < 0x180 then [(b - 0x100) / 32] else if b < 0x188 then [(b - 0x180) / 2] else []

/-! ### Reaction windows (R582) -/

/-- Collateral kinds of the window of a block, by first source, last source and kind. -/
def windowCovers (d : Device) (b : Nat) : List (Nat × Nat × Nat) :=
  if b < 0x100 then let l := b + 0x080; [(l, l + 4, 1)]
  else if b < 0x180 then
    let ch := (b - 0x100) / 32
    if b % 32 ≤ 4 then
      let slots := (List.range 4).filter (fun n => slotN d (slotKey ch n) 2 == b % 32)
      [(b, b, 1), (0x1C1, 0x1C1, 1)] ++ slots.map (fun n => (slotFault (slotKey ch n), slotFault (slotKey ch n), 1))
    else
      let l := 0x100 + 0x20 * ch
      [(l, l + 4, 1), (0x180 + 2 * ch, 0x181 + 2 * ch, 1), (0x1C2, 0x1C2, 1), (0x320, 0x323, 4)]
  else if b < 0x188 then
    let s := slotFault (slotKey ((b - 0x180) / 2) (mapN d (b - 0x180) 2))
    [(s, s, 1), (b, b, 1)]
  else if b == 0x188 then
    let maps := (List.range 8).filter (fun m => mapN d m 1 == 1)
    (0x180, 0x187, 1) :: maps.map (fun m => let s := slotFault (slotKey (m / 2) (mapN d m 2)); (s, s, 1))
  else if b == 0x1C0 then [(0x1C1, 0x1C1, 1), (0x1C2, 0x1C2, 1)]
  else if b == 0x200 then
    let cs := (List.range 64).filter (fun c => (chan d c).desc.any ringSource)
    (0x201, 0x201, 2) :: cs.map (fun c => (0x240 + c, 0x240 + c, 1))
  else if 0x288 ≤ b ∧ b < 0x290 then [(0x280, 0x280, 2)]
  else if 0x320 ≤ b ∧ b < 0x340 then [(b, b, 4)]
  else if 0x3C0 ≤ b then [(0x3C4, 0x3C4, 5), (0x3C5, 0x3C5, 8)]
  else []

def openReaction (b : Nat) (d : Device) : Device :=
  { d with fault := { d.fault with
      windows := d.fault.windows ++ [{ block := b, openedAt := d.time, covers := windowCovers d b }] } }

/-- The message is collateral: its kind stands in an open window that its source belongs to. -/
def isCollateral (d : Device) (source kind : Nat) : Bool :=
  d.fault.windows.any (fun w => w.covers.any (fun c => decide (c.1 ≤ source) && decide (source ≤ c.2.1) && kind == c.2.2))

/-! ### A reset starts and completes (R581) -/

/-- A reset starts, by the host's command or by the reset reaction; while one of the block runs, it is that one (R593). -/
def beginReset (b : Nat) (p : Option Packet) (d : Device) : Device :=
  let ps := match p with
    | some p => [p]
    | none => []
  if resetRuns d b then
    { d with fault := { d.fault with
        resets := d.fault.resets.map (fun r => if r.block == b then { r with waiters := r.waiters ++ ps } else r) } }
  else
    let r : RunningReset := { block := b, waiters := ps, startIndex := resetStart d b }
    let d := openReaction b d
    let d := { d with fault := { d.fault with resets := d.fault.resets ++ [r] } }
    discardBlock b d

/-- Index up to which the reset of a block lost its input. -/
def resetStop (d : Device) (b : Nat) : Nat :=
  if b < 0x100 then (converter d ((b - 0x080) / 32)).next
  else if b < 0x180 then (converter d ((b - 0x100) / 32)).next
  else d.sampleIndex

/-- The block restarts with the active settings: what reached it meanwhile is lost (R34, R130, R149, R262, R306, R514). -/
def restartBlock (b start : Nat) (d : Device) : Device :=
  if b < 0x100 then
    let ch := (b - 0x080) / 32
    let stop := (converter d ch).next
    let d := loseRun ch start stop (setConverter ch { converter d ch with stall := [], discarding := none } d)
    if calMode d ch == 2 then startPass ch 5 d else d
  else if b < 0x180 && b % 32 ≤ 4 then
    let ch := (b - 0x100) / 32
    let v := laneAt d ch (b % 32)
    let stop := (converter d ch).next
    setLane ch (b % 32) { v with lost := v.lost ++ [(min v.next stop, stop)] } d
  else if b == 0x200 then resetGatherer d
  else if 0x3C0 ≤ b then
    let v := shunisPort d (b - 0x3C0)
    setShunisPort (b - 0x3C0) { v with training := v.training || (v.powered && !v.up) } d
  else d

/-- BLOCK_RESET_COMPLETE. -/
def completeReset (b : Nat) (d : Device) : Device :=
  match d.fault.resets.find? (fun r => r.block == b) with
  | none => d
  | some r =>
    let d := { d with fault := { d.fault with resets := d.fault.resets.filter (fun x => x.block != b) } }
    let stop := resetStop d b
    let d := gapFor 0x06 r.startIndex (stop - r.startIndex) d.cfg.generation (resetChannels b) (resetFeeds d b) d
    let d := restartBlock b r.startIndex d
    r.waiters.foldl (fun d p => complete p .ok (leBytes 8 d.time) d) d

def blockReset (p : Packet) (d : Device) : Device :=
  match resetBlockOf (unitOf p) with
  | none => complete p .badParam [] d
  | some b => if !reservedZero p [] then complete p .badParam [] d else beginReset b (some p) (park p d)

def blockResetComplete (src : Nat) (d : Device) : Device :=
  match resetBlockOf src with
  | some b => completeReset b d
  | none => d

/-- REACTION_WINDOW_CLOSE: the window at a place in the list of open windows closes. -/
def reactionWindowClose (idx : Nat) (d : Device) : Device :=
  { d with fault := { d.fault with windows := d.fault.windows.eraseIdx idx } }

def execBlockReset (p : Packet) (s : State) : Host.Outcome State Fault Refusal := act (accept p blockReset) s
def execBlockResetComplete (src : Nat) (s : State) : Host.Outcome State Fault Refusal := act (blockResetComplete src) s
def execReactionWindowClose (idx : Nat) (s : State) : Host.Outcome State Fault Refusal := act (reactionWindowClose idx) s

end Sys2Proof.Machine
end

