-- ==== Sys2Proof/Machine/Faults.lean ====
section
/-! DEFINITION. The fault collector: acceptance, capture, escalation, the log, the safe state and the commands of the fault chapter
(R568-R593). -/

namespace Sys2Proof.Machine

/-! ### The log (R578, R580) -/

/-- Entries of the log ring. -/
def logSize (d : Device) : Nat := 2 ^ cfgN d 0x11 0 1

/-- The FAULT_NOTICE record of an entry (R580). -/
def noticeRec (d : Device) (e : FaultEntry) : Rec :=
  { type := 0x0C, source := faultSource, flags := headerFlags d [], firstIndex := e.sampleIndex, generation := e.generation,
    payload := faultBytes e }

/-- An entry is written, or lost where the ring is full; a written entry acknowledges the CORRECTED record that it filled. -/
def writeLog (e : FaultEntry) (d : Device) : Device :=
  if logSize d ≤ d.fault.log.length then
    raiseEvent 0x3F0 6 (ballIndex d) 0 { d with fault := { d.fault with logLost := d.fault.logLost + 1 } }
  else
    let d := { d with fault := { d.fault with log := d.fault.log ++ [e], logWrite := d.fault.logWrite + 1, corrected := none } }
    let d := if d.fault.log.length * 4 == logSize d * 3 then raiseEvent 0x3F0 5 (ballIndex d) 0 d else d
    if bit (cfgN d 0x11 0 3) e.handled then emitRec (noticeRec d e) d else d

/-! ### First-error records (R575, R579) -/

def faultRecord (d : Device) (cls : Nat) : Option FaultEntry :=
  match cls with
  | 0 => d.fault.corrected
  | 1 => d.fault.contained
  | _ => d.fault.fatal

def setFaultRecord (cls : Nat) (r : Option FaultEntry) (d : Device) : Device :=
  match cls with
  | 0 => { d with fault := { d.fault with corrected := r } }
  | 1 => { d with fault := { d.fault with contained := r } }
  | _ => { d with fault := { d.fault with fatal := r } }

def satCount (n : Nat) : Nat := min 0xFFFFFFFF n

/-- The message of an entry counts in a filled record. -/
def countFault (cls n : Nat) (d : Device) : Device :=
  setFaultRecord cls ((faultRecord d cls).map (fun r => { r with count := satCount (r.count + n), lastTime := d.time })) d

/-- An entry fills a record with count 1; its log entry keeps the count of R578. -/
def captureFault (e : FaultEntry) (d : Device) : Device :=
  let d := setFaultRecord e.handled (some { e with count := 1 }) d
  let d := if e.handled == 2 then
      { d with fault := { d.fault with fatalKinds := d.fault.fatalKinds ++ [(e.source, e.kind)] } } else d
  raiseEvent 0x3F0 1 (ballIndex d) 0 d

/-! ### The safe state (R584) -/

/-- The safe state is entered from READY, or while the firmware starts; in SLEEP the device stays in SLEEP (R541, R593). A command in
progress that the safe state ends completes as its chapter says. -/
def enterSafe (d : Device) : Device :=
  if d.power.state != .ready && d.power.state != .loading then d
  else
    let d := match d.group.pairRole, d.group.pairPeer with
      | 1, some peer => if d.group.pairFormed then sendMsg peer (.fatalNotice safeNoticeSource 0) d else d
      | 2, some _ => degrade d
      | _, _ => d
    let d := { d with power := { d.power with state := .safe } }
    let d := haltGen 1 3 .aborted (haltGen 0 3 .aborted d)
    let d := disarmRun .safeState (disarmAll true (stopRamp d))
    let d := { d with trig := { d.trig with pulses := [] } }
    let d := recorderHalt (stopAllChans (abortPending true d))
    raiseEvent 0x3F0 3 (ballIndex d) 0 d

/-- The primary of a pair announces a FATAL fault before it reacts (R505, R584). -/
def announceFatal (source kind : Nat) (d : Device) : Device :=
  match d.group.pairPeer with
  | some peer => if d.group.pairFormed && d.group.pairRole == 1 then sendMsg peer (.fatalNotice source kind) d else d
  | none => d

/-- The faults that stop the CP (R551, R584): the Drone carries out the output part. -/
def stopsCp (s k : Nat) : Bool := (s == 0x044 && k == 1) || (s == 0x001 && k == 3)

/-! ### Acceptance (R569, R573, R579, R582, R583) -/

/-- A fault in the collector's own registers (R583). -/
def collectorFault (d : Device) : Device :=
  let mark (r : Option FaultEntry) : Option FaultEntry := r.map (fun e => { e with count := 0xFFFFFFFF })
  enterSafe (announceFatal 0x3F0 1 { d with fault := { d.fault with
    corrected := mark d.fault.corrected, contained := mark d.fault.contained, fatal := mark d.fault.fatal, log := []
    fatalKinds := d.fault.fatalKinds ++ [(0x3F0, 1)] } })

/-- Reaction of the class that a message is handled as (R573). -/
def reactFault (e : FaultEntry) (d : Device) : Device :=
  if e.handled == 2 then
    let d := enterSafe (announceFatal e.source e.kind d)
    if stopsCp e.source e.kind then { d with power := { d.power with cpHalted := true }, disp := { d.disp with running := false } } else d
  else if e.handled == 1 && !e.escalated && resetReaction e.source e.kind && cfgOn d 0x11 0 4 then
    match resetBlockOf e.source with
    | some b => beginReset b none d
    | none => d
  else d

def sameFault (a b : FaultEntry) : Bool := a.source == b.source && a.kind == b.kind && a.address == b.address

/-- A message that is not collateral: captured, counted, or escalated (R575, R579). -/
def handleFault (e : FaultEntry) (d : Device) : Device :=
  match faultRecord d e.reported with
  | none => reactFault e (writeLog e (captureFault e d))
  | some r =>
    if sameFault r e then reactFault e (writeLog e (countFault e.reported e.count d))
    else if e.reported == 2 then writeLog e d
    else
      let e := { e with handled := e.reported + 1, escalated := true }
      let d := raiseEvent 0x3F0 2 (ballIndex d) 0
        { d with fault := { d.fault with
            escalations := d.fault.escalations + 1
            fatalHandled := if e.handled == 2 then d.fault.fatalHandled ++ [(e.source, e.kind)] else d.fault.fatalHandled } }
      if (faultRecord d e.handled).isNone then reactFault e (writeLog e (captureFault e d))
      else writeLog e (countFault e.handled e.count d)

/-- The entry of a message at acceptance, with the occurrences lost under R569. -/
def faultEntry (d : Device) (m : FaultMsg) (lost : Nat) : FaultEntry :=
  { source := m.source, kind := m.kind, handled := m.cls, reported := m.cls, access := m.access, master := m.master,
    address := m.address, firstTime := d.time, sampleIndex := ballIndex d, count := satCount (1 + lost),
    generation := d.cfg.generation, lastTime := d.time, detail := m.detail }

/-- The collector accepts one message. -/
def acceptFault (m : FaultMsg) (d : Device) : Device :=
  let i := m.source * 64 + m.kind
  let e := faultEntry d m (tget 0 d.fault.lost i)
  let d := { d with fault := { d.fault with lost := tset 0 d.fault.lost i 0, live := tset none d.fault.live i (some d.time) } }
  if m.source == 0x3F0 then collectorFault d
  else if isCollateral d m.source m.kind then
    writeLog { e with collateral := true } { d with fault := { d.fault with collateral := d.fault.collateral + 1 } }
  else handleFault e d

/-- The block's own handling of kinds that no other command of the model detects (R573 and the source tables). Where the table gives the
address field no content, its low bits name the unit. -/
def ownHandling (m : FaultMsg) (d : Device) : Device :=
  let s := m.source
  let a := m.address
  if 0x080 ≤ s ∧ s ≤ 0x0FF ∧ m.kind == 7 then
    let ch := (s - 0x080) / 32
    setConverter ch { converter d ch with sensorFailed := true } d
  else if 0x100 ≤ s ∧ s ≤ 0x17F ∧ s % 32 == 0x0C then
    -- the frame in the transform is the one that the engine takes next
    match (tget [] d.spec.order ((s - 0x100) / 32)).head? with
    | some n =>
      let key := slotKey ((s - 0x100) / 32) n
      setSlot key { slotAt d key with parity := true } d
    | none => d
  else if 0x100 ≤ s ∧ s ≤ 0x17F ∧ s % 32 == 0x0D then
    { d with spec := { d.spec with romFailed := tset false d.spec.romFailed ((s - 0x100) / 32 * 8 + a % 8) true } }
  else if s == 0x188 then
    let v := densMap d (a % 8)
    if v.colour.isEmpty then d
    else raiseEvent 0x188 1 (ballIndex d) 0
      (setMap (a % 8) { v with colour := v.colour.drop 1, colourDropped := v.colourDropped + 1 } d)
  else if s == 0x18A then
    let v := densMap d (a % 8)
    match v.drain with
    | some (f, c) =>
      let due := c.snapEvery != 0 && v.frameNumber % c.snapEvery == 0
      let d := setMap (a % 8) { v with drain := some (f, { c with snapEvery := 0 }) } d
      if !due then d else emitGap (gapRec d (mapSource (a % 8)) 0x0B f.firstStamp 0 1 d.cfg.generation [])
        (streamsWith d (fun x => x == mapSource (a % 8))) d
    | none => d
  else if s == 0x1C0 && m.kind == 2 then disarmAll false d
  else if 0x3C0 ≤ s ∧ s ≤ 0x3C3 ∧ m.kind == 2 then removeLane (s - 0x3C0) (a % 4) d
  else if s == 0x1C3 then
    { d with trig := { d.trig with ended := match d.trig.ended.find? (fun x => x.window == a % 8) with
        | some x => d.trig.ended.erase x
        | none => d.trig.ended } }
  else if s == 0x1E0 then disarmRun .aborted d
  else if s == 0x200 then
    let n := a % 256
    match (stream d n).stall with
    | r :: rest =>
      setStream n { stream d n with stall := gapRec d r.source 0x0B r.firstIndex 0 1 d.cfg.generation [] :: rest } d
    | [] => d
  else if s == 0x201 then
    if isOpen (stream d (a % 256)) && !(stream d (a % 256)).halted then haltStream (a % 256) 0 d.sampleIndex d else d
  else if 0x288 ≤ s ∧ s ≤ 0x28F ∧ m.kind == 5 then loseDrive (s - 0x288) d
  else if s == 0x2C0 || s == 0x2C1 then haltGen (s - 0x2C0) 6 .aborted d
  else if (s == 0x2C2 || s == 0x2C3) && m.kind == 3 then entryError (s - 0x2C2) (a % 2 ^ 20) d
  else if s == 0x2C4 || s == 0x2C5 then haltGen (s - 0x2C4) 6 .aborted d
  else if 0x300 ≤ s ∧ s ≤ 0x31F ∧ m.cls == 1 then faultCore (s - 0x300) d
  else if 0x320 ≤ s ∧ s ≤ 0x323 then
    match tget none d.reed.bindings (a % 128) with
    | some b =>
      if b.stall.isEmpty then d
      else dropBatch (a % 128) (setBinding (a % 128) (some { b with stall := b.stall.drop 1 }) d)
    | none => d
  else if s == 0x3E1 || s == 0x3E2 then { d with pad := { d.pad with errorState := true } }
  else if s == 0x3E3 then zeroise d
  else d

/-- A message that a block sends by itself: what no chapter lists raises no fault (R570). -/
def sendFault (m : FaultMsg) (d : Device) : Device :=
  if kindClass m.source m.kind == some m.cls then raiseFault m (ownHandling m d) else d

/-- FAULT_MESSAGE: a block's message enters stall 0x27, and the collector accepts the oldest one (R569). -/
def faultMessage (m : Option FaultMsg) (d : Device) : Device :=
  let d := match m with
    | some m => sendFault m d
    | none => d
  match d.fault.inbox with
  | [] => d
  | x :: rest => acceptFault x { d with fault := { d.fault with inbox := rest } }

def liveBitTimeout (source kind : Nat) (d : Device) : Device := clearLive source kind d

/-! ### SAFE_EXIT (R585) -/

/-- Kinds whose live bit is set, by source × 64 + kind, ascending. -/
def liveKinds (d : Device) : List (Nat × Nat) :=
  (d.fault.live.filter (fun e => e.2.isSome)).map (fun e => (e.1 / 64, e.1 % 64))

/-- The id that blocks the exit: the FATAL record, a live FATAL kind, or a kind that only POR# ends. -/
def exitBlocker (d : Device) : Option Nat :=
  match d.fault.fatal with
  | some e => some (faultId e.source e.kind)
  | none =>
    let fatal (x : Nat × Nat) : Bool := kindClass x.1 x.2 == some 2 || d.fault.fatalKinds.contains x || d.fault.fatalHandled.contains x
    match (liveKinds d).find? fatal with
    | some x => some (faultId x.1 x.2)
    | none => (d.fault.fatalKinds.find? (fun x => onlyPor x.1 x.2)).map (fun x => faultId x.1 x.2)

def safeExit (p : Packet) (d : Device) : Device :=
  if !reservedZero p [] then complete p .badParam [] d
  else if d.power.state != .safe then complete p .badState (leBytes 2 0) d
  else match exitBlocker d with
    | some i => complete p .badState (leBytes 2 i) d
    | none =>
      let d := { d with
        power := { d.power with state := .ready }
        clk := { d.clk with loHeld := !d.clk.lo.locked }
        fault := { d.fault with fatalKinds := [], fatalHandled := [] } }
      complete p .ok [] (raiseEvent 0x3F0 4 (ballIndex d) 0 d)

/-! ### FAULT_READ, FAULT_ACK, FAULT_DUMP (R586-R588) -/

def recordBytesOf (r : Option FaultEntry) : List Byte :=
  match r with
  | some e => faultBytes e
  | none => zeroBytes 64

/-- The three first-error records. -/
def threeRecords (d : Device) : List Byte :=
  recordBytesOf d.fault.corrected ++ recordBytesOf d.fault.contained ++ recordBytesOf d.fault.fatal

/-- Bit n of 1,024: any kind of source n is live. -/
def liveBytes (d : Device) : List Byte :=
  leBytes 128 (maskOf 1024 (fun n => (liveKinds d).any (fun x => x.1 == n)))

/-- The parameters of FAULT_READ; LOG, LIVE and EVENTS need a destination of `n` bytes. -/
def faultReadOk (d : Device) (p : Packet) (n : Nat) : Bool :=
  reservedZero p [(0, 1), (4, 12)] && p64 p 8 != 0 && p64 p 8 % 64 == 0 && (n == 0 || reachable d .cp true (p64 p 8) n)

def faultReadRecords (p : Packet) (d : Device) : Device :=
  if !reservedZero p [(0, 1), (4, 12)] then complete p .badParam [] d
  else complete p .ok (threeRecords d ++ leBytes 4 d.fault.logLost.toNat ++ leBytes 4 d.fault.log.length) d

/-- LOG: entries that leave the ring make room, so a CORRECTED record does not stay filled (R578). -/
def faultReadLog (p : Packet) (d : Device) : Device :=
  let es := d.fault.log.take (p32 p 4)
  let n := es.length
  if !faultReadOk d p (64 * n) then complete p .badParam [] d
  else
    let d := memWrite (p64 p 8) (es.flatMap faultBytes) d
    let d := { d with fault := { d.fault with
      log := d.fault.log.drop n, logRead := d.fault.logRead + BitVec.ofNat 32 n
      corrected := if n == 0 then d.fault.corrected else none } }
    complete p .ok (leBytes 4 n ++ leBytes 4 d.fault.log.length) d

def faultReadLive (p : Packet) (d : Device) : Device :=
  if !faultReadOk d p 128 then complete p .badParam [] d
  else complete p .ok [] (memWrite (p64 p 8) (liveBytes d) d)

def faultReadEvents (p : Packet) (d : Device) : Device :=
  if !faultReadOk d p 128 then complete p .badParam [] d
  else
    let d := memWrite (p64 p 8) (leBytes 128 d.fault.eventPending.toNat) d
    complete p .ok [] { d with fault := { d.fault with eventPending := 0 } }

def faultAck (p : Packet) (d : Device) : Device :=
  let c := pByte p 0
  if !reservedZero p [(0, 1), (8, 8)] || decide (2 < c) then complete p .badParam [] d
  else match faultRecord d c with
    | none => complete p .badState [] d
    | some e =>
      if e.firstTime != p64 p 8 then complete p .badState [] d
      else complete p .ok (leBytes 4 e.count) (setFaultRecord c none d)

/-- What FAULT_DUMP writes, in its order: the CP program counter is the microcode's own and free. -/
def dumpBytes (d : Device) : List Byte :=
  threeRecords d ++ leBytes 4 d.fault.logWrite.toNat ++ leBytes 4 d.fault.logRead.toNat ++ leBytes 4 d.fault.logLost.toNat
    ++ liveBytes d ++ stallSection d ++ leBytes 4 (Config.cpCounter d.fresh)
    ++ leBytes 4 ((d.pad.image.map (·.microcode)).getD 0) 
    ++ (d.host.flights.filter (fun e => e.2.isSome)).flatMap (fun e => leBytes 2 e.1)

def faultDump (p : Packet) (d : Device) : Device :=
  let all := dumpBytes d
  let n := min (p32 p 16) all.length
  if !reservedZero p [(8, 12)] || p64 p 8 == 0 || (n != 0 && !reachable d .cp true (p64 p 8) n) then complete p .badParam [] d
  else complete p .ok (leBytes 4 n ++ leBytes 1 (boolN (decide (n < all.length)))) (memWrite (p64 p 8) (all.take n) (takeFresh d))

/-! ### EVENT_MAP (R590) -/

def eventMapOk (d : Device) (p : Packet) : Bool :=
  let mode := pByte p 2
  reservedZero p [(0, 5), (8, 8)] && decide (sourceEvents (p16 p 0) ≠ 0) && decide (p16 p 0 < 1024) && decide (mode ≤ 2)
    && decide (pByte p 4 ≤ 1) && (mode != 1 || (decide (pByte p 3 < 64) && (cplQueue d (pByte p 3)).live))

def setEventMap (p : Packet) (d : Device) : Device :=
  if !eventMapOk d p then complete p .badParam [] d
  else
    let s := p16 p 0
    let old := Sys2Proof.Machine.eventMap d s
    let new : EventMap := { mode := pByte p 2, target := pByte p 3, alert := bit (pByte p 4) 0, codeMask := p64 p 8 }
    complete p .ok (leBytes 1 old.mode ++ leBytes 1 old.target ++ zeroBytes 6 ++ leBytes 8 old.codeMask)
      { d with fault := { d.fault with eventMaps := tset {} d.fault.eventMaps s new } }

def execFaultMessage (m : Option FaultMsg) (s : State) : Host.Outcome State Fault Refusal := act (faultMessage m) s
def execLiveBitTimeout (src kind : Nat) (s : State) : Host.Outcome State Fault Refusal := act (liveBitTimeout src kind) s
def execSafeExit (p : Packet) (s : State) : Host.Outcome State Fault Refusal := act (accept p safeExit) s
def execFaultReadRecords (p : Packet) (s : State) : Host.Outcome State Fault Refusal := act (accept p faultReadRecords) s
def execFaultReadLog (p : Packet) (s : State) : Host.Outcome State Fault Refusal := act (accept p faultReadLog) s
def execFaultReadLive (p : Packet) (s : State) : Host.Outcome State Fault Refusal := act (accept p faultReadLive) s
def execFaultReadEvents (p : Packet) (s : State) : Host.Outcome State Fault Refusal := act (accept p faultReadEvents) s
def execFaultAck (p : Packet) (s : State) : Host.Outcome State Fault Refusal := act (accept p faultAck) s
def execFaultDump (p : Packet) (s : State) : Host.Outcome State Fault Refusal := act (accept p faultDump) s
def execEventMap (p : Packet) (s : State) : Host.Outcome State Fault Refusal := act (accept p setEventMap) s

end Sys2Proof.Machine
end

