-- ==== Sys2Proof/Machine/Power.lean ====
section
/-! DEFINITION. Bellows and the Drone: power domains, SLEEP and WAKE, regulators, power cap, thermal limits and telemetry
(R517-R529, R533-R542, and the SLEEP rules of the blocks). -/

namespace Sys2Proof.Machine

/-- Bellows works: the CP runs outside SLEEP. -/
def bellowsRuns (d : Device) : Bool := cpRuns d && d.power.state != .sleep

/-! ### Power domains (R517-R519) -/

/-- The condition of R517 for a gated domain, in the active or any pending context. -/
def domainCondition (d : Device) (b : Nat) : Bool :=
  if b < 27 then (contexts d).any (fun c => domainOn c b)
  else if b < 31 then (shunisPort d (b - 27)).powered
  else false

def setDomain (b : Nat) (on : Bool) (d : Device) : Device :=
  let m : BitVec 32 := (1 : BitVec 32) <<< b
  { d with power := { d.power with domains := if on then d.power.domains ||| m else d.power.domains &&& ~~~m } }

/-- The event "state changed" where power.dev.state has changed from `was`. -/
def noteState (was : Nat) (d : Device) : Device :=
  if powerState d == was then d else raiseEvent 0x030 1 (ballIndex d) 0 d

/-- DOMAIN_POWER_UP: the domain is ready; a block without token applies its part (R518). -/
def domainPowerUp (b : Nat) (d : Device) : Device :=
  if b < 8 || 31 ≤ b || !bellowsRuns d || domainReady d b || !domainCondition d b then d
  else
    let was := powerState d
    let d := setDomain b true d
    let d := if 22 ≤ b ∧ b < 26 then { d with reed := { d.reed with usable := tset false d.reed.usable (b - 22) true } } else d
    noteState was (swapAtOnce d)

/-- What the power-down of a gated domain discards, as the block's chapter states for BLOCK_RESET (R519). -/
def discardDomain (b : Nat) (d : Device) : Device :=
  if b < 12 then resetConverter (b - 8) d
  else if b < 16 then (List.range 5).foldl (fun d l => resetLaneBlock (b - 12) l d) d
  else if b < 20 then (List.range 4).foldl (fun d n => resetSlot (slotKey (b - 16) n) d) d
  else if b < 22 then resetGen (b - 20) d
  else if b < 26 then
    let d := resetCluster (b - 22) d
    { d with reed := { d.reed with usable := tset false d.reed.usable (b - 22) false } }
  else if b == 26 then (List.range 8).foldl (fun d p => retrainPort p d) d
  else portDown (b - 27) d

/-- DOMAIN_POWER_DOWN: the condition has been false for 1 ms (R519). -/
def domainPowerDown (b : Nat) (d : Device) : Device :=
  if b < 8 || 31 ≤ b || !bellowsRuns d || !domainReady d b || domainCondition d b then d
  else
    let was := powerState d
    noteState was (setDomain b false (discardDomain b d))

/-! ### SLEEP (R522-R524) -/

/-- A channel's lanes lose what has not reached them; their history is gone (R146). -/
def laneSleep (ch l : Nat) (d : Device) : Device :=
  let d := cutBlock ch l false (closeRecord ch l d)
  let v := laneAt d ch l
  let stop := (converter d ch).next
  setLane ch l (emptyHist { v with
    recStall := {}, histStall := {}, envStall := dropEnvStall v.envStall, chain := [], out := none, recent := [], readBlock := []
    lost := if v.next < stop then v.lost ++ [(v.next, stop)] else v.lost }) d

/-- The real-time section powers down: converters, lanes, engines, sequencer, interval unit and maps (R146, R178, R221, R239, R274). -/
def realTimeSleep (d : Device) : Device :=
  let d := (List.range 4).foldl (fun d ch =>
    (List.range 5).foldl (fun d l => laneSleep ch l d) (stopCalibration ch d)) (sleepRun (disarmAll true d))
  let d := (List.range 4).foldl (fun d ch => setConverter ch { converter d ch with stall := [], discarding := none } d) d
  let d := (List.range 8).foldl (fun d m => resetMap m d) ((List.range 16).foldl (fun d s => resetSlot s d) d)
  let lost (i : Interpolator) : Interpolator := { i with r1 := 0, r2 := 1600, lastEdge := none }
  { d with trig := { d.trig with pulses := [] }, tiu := { d.tiu with
      ticks := [], waiting := [],
      inputs := (d.tiu.inputs.map (fun e => (e.1, { e.2 with
          interp0 := lost e.2.interp0, interp1 := lost e.2.interp1, lastEdge := none, toCal := [], calibrated := false }))).filter
        (fun e => decide (e.2 ≠ ({} : TiuInput))) } }

/-- Scan-out and both ports power down and hold no buffer, and no colour frame is shown again at WAKE (R274). -/
def displaySleep (d : Device) : Device :=
  let d := (List.range 8).foldl (fun d m => setMap m { densMap d m with colourDone := none } d) (clearPlanes d)
  let d := { d with disp := { d.disp with running := false } }
  (List.range 2).foldl (fun d n => setDpPort n { dpPort d n with trained := false } d) d

/-- Records in flight of a stream are completed (R306). -/
def drainStream (n : Nat) (d : Device) : Device :=
  let d := (List.range (stream d n).stall.length).foldl (fun d _ => recordArrival n d) d
  let d := (List.range (stream d n).inFlight.length).foldl (fun d _ => ringWriteComplete n d) d
  stateBlockWrite n d

/-- Both synthesisers are off (R86). -/
def clockSleep (d : Device) : Device :=
  let off (y : Synthesiser) : Synthesiser := { y with locked := false, gated := true, relock := .idle, repeated := false }
  { d with clk := { d.clk with sclk := off d.clk.sclk, lo := off d.clk.lo } }

/-- Steps 1 to 5 of R523. -/
def enterSleep (wakeTime : Nat) (trig : Bool) (d : Device) : Device :=
  let d := sleepGen 1 (sleepGen 0 (stopRamp (abortPending true d)))
  let d := displaySleep (realTimeSleep d)
  let d := recorderSleep (abortAllChans (reedSleep d))
  let d := (openStreams d).foldl (fun d n => drainStream n d) d
  let d := (List.range 4).foldl (fun d n => if (shunisPort d n).powered then portDown n d else d) d
  let d := yardSleep (holdIndex (clockSleep d))
  let d := { d with power := { d.power with
      domains := 0x0000000F#32, sleepRails := !d.power.extSeq, sleepCount := d.power.sleepCount + 1, state := .sleep
      wakeTime := wakeTime, wakeTrig := trig } }
  raiseEvent 0x030 1 (ballIndex d) 0 d

def sleepCmd (p : Packet) (d : Device) : Device :=
  let o := pByte p 8
  if !reservedZero p [(0, 9)] || decide (4 ≤ o) then complete p .badParam [] d
  else if d.group.pairRole != 0 then complete p .badState [] d
  else if !bit o 0 && (!d.nvme.running.isEmpty || !d.nvme.playing.isEmpty) then complete p .busy [] d
  else
    let d := enterSleep (p64 p 0) (bit o 1) d
    complete p .ok (leBytes 8 d.time) d

/-- CP_CLOCK_STOP (R524). -/
def cpClockStop (d : Device) : Device :=
  if d.power.state == .sleep && d.power.waking.isNone then { d with power := { d.power with cpClock := false } } else d

/-! ### WAKE (R525) -/

/-- Steps 1 to 3 begin: rails, domains, retraining and relock. -/
def startWake (p : Option Packet) (d : Device) : Device :=
  let up : BitVec 32 := (List.range 27).foldl (fun (m : BitVec 32) b => if b < 8 || domainCondition d b then m ||| ((1 : BitVec 32) <<< b) else m) 0#32
  let d := { d with
    power := { d.power with sleepRails := false, cpClock := true, domains := up, waking := some (p, d.time), wakeTime := 0, wakeTrig := false }
    reed := { d.reed with usable := (List.range 4).foldl (fun t c => tset false t c (up.getLsbD (22 + c))) d.reed.usable } }
  let d := startRelock .lo false (startRelock .sclk false d)
  { d with clk := { d.clk with phaseUnverified := true } }

def wakeCmd (p : Packet) (d : Device) : Device :=
  if !reservedZero p [] then complete p .badParam [] d
  else if d.power.state != .sleep then complete p .badState [] d
  else if d.power.waking.isSome then complete p .busy [] d
  else startWake (some p) (park p d)

/-- A wake source of R522 acts as a WAKE and raises the event with its cause. -/
def wakeSource (cause : Nat) (d : Device) : Device :=
  if d.power.state != .sleep || d.power.waking.isSome then d
  else raiseEvent 0x033 1 (ballIndex d) (Config.wakeCause cause) (startWake none d)

def timedWake (d : Device) : Device :=
  if d.power.wakeTime == 0 || d.power.state != .sleep || d.power.waking.isSome then d
  else wakeSource 0 { d with time := max d.time d.power.wakeTime }

def wakeTrig (d : Device) : Device := if d.power.wakeTrig then wakeSource 1 d else d

/-- A slice word with a parity error at WAKE: STATE and POSITION come from the second copy, or are derived from the other 67 words, and
the codes are reset (R119). -/
def restoreSlice (ch s : Nat) (second : Bool) (d : Device) : Device :=
  let c := converter d ch
  let w := sliceAt c s
  let d := raiseFault (plainFault (convSource ch + 3) 6 1 s) d
  if second then setConverter ch (setSlice c s ({ position := w.position, state := w.state } : Slice)) d
  else
    let held (p : Nat) : Bool := (List.range 68).any (fun n => n != s && (sliceAt c n).state == 0 && (sliceAt c n).position == p)
    match (List.range 64).find? (fun p => !held p) with
    | some p => setConverter ch { setSlice c s ({ position := p, state := 0 } : Slice) with spareQueue := c.spareQueue.erase s } d
    | none => retireSlice ch s (setConverter ch (setSlice c s ({ position := w.position, state := w.state } : Slice)) d)

/-- The parity check of the slice words, and the passes that follow it (R119). -/
def restoreSlices (words : List (Nat × Nat × Bool)) (d : Device) : Device :=
  let d := words.foldl (fun d w => restoreSlice w.1 w.2.1 w.2.2 d) d
  (words.map (·.1)).eraseDups.foldl (fun d ch => startPass ch 7 (abandonPass ch d)) d

/-- Step 4: the index resumes where the SCLK has locked, streams receive their GAP record (R306), and STATE becomes READY. -/
def finishWake (p : Option Packet) (since : Nat) (failed : List Nat) (words : List (Nat × Nat × Bool)) (d : Device) : Device :=
  let d := restoreSlices words (yardWake failed (swapBlocks [0x0E00] d))
  let d := emitGap (gapRec d 0 0x0C (ballIndex d) 0 0 d.cfg.generation []) (streamsWith d realTimeSource) d
  let d := markPause d
  let d := if d.clk.sclk.locked then resumeIndex d else d
  let d := calibrateInputs (List.range 6) (startScan d)
  let d := { d with power := { d.power with state := .ready, waking := none } }
  let d := raiseEvent 0x030 1 (ballIndex d) 0 d
  let d := if d.fault.fatal.isSome then enterSafe d else d
  completeOpt p .ok (leBytes 8 d.time ++ leBytes 4 ((d.time - since) / 1000)) d

def wakeComplete (failed : List Nat) (words : List (Nat × Nat × Bool)) (d : Device) : Device :=
  let busy (y : Synthesiser) : Bool := y.relock == .search || y.relock == .closing
  match d.power.waking with
  | none => d
  | some (p, since) => if busy d.clk.sclk || busy d.clk.lo then d else finishWake p since failed words d

/-! ### Power cap (R533, R534) -/

def powerCap (p : Packet) (d : Device) : Device :=
  let w := p16 p 0
  if !reservedZero p [(0, 2)] || !(decide (30 ≤ w) && decide (w ≤ 230)) then complete p .badParam [] d
  else
    complete p .ok (leBytes 2 w ++ leBytes 4 d.power.powerMw ++ leBytes 1 d.power.throttle) { d with power := { d.power with capW := w } }

/-- Next throttle level and the milliseconds of its present cool-down. -/
def throttleNext (w : PowerState) (power : Nat) (temp tj : Int) : Nat × Nat :=
  if w.capW * 1000 < power || tj ≤ temp then (min 7 (w.throttle + 1), 0)
  else if power + 5000 ≤ w.capW * 1000 && temp + 48 ≤ tj then
    if 9 ≤ w.coolMs then (w.throttle - 1, 0) else (w.throttle, w.coolMs + 1)
  else (w.throttle, 0)

/-- THROTTLE_EVALUATE: measured power in mW and the hottest die sensor in 1/16 °C. -/
def throttleEvaluate (power : Nat) (temp : Int) (d : Device) : Device :=
  if !bellowsRuns d then d
  else
    let w := d.power
    let tj : Int := 16 * cfgInt d 0x10 0 4
    let n := throttleNext w power temp tj
    let hot := decide (tj ≤ temp)
    let seven := if w.throttle == 7 && n.1 == 7 && decide (w.capW * 1000 < power) then w.sevenMs + 1 else 0
    let ms := if w.throttle == 0 then w.throttleMs else w.throttleMs + 1
    let d := { d with power := { w with
        throttle := n.1, coolMs := n.2, sevenMs := seven, throttleMs := ms % 2 ^ 64, powerMw := power, overThrottle := hot } }
    let d := if n.1 == w.throttle then d else raiseEvent 0x030 2 (ballIndex d) 0 d
    if hot && !w.overThrottle then raiseEvent 0x032 1 (ballIndex d) 0 d else d

/-- POWER_CAP_UNREACHABLE (R534). -/
def powerCapUnreachable (d : Device) : Device :=
  if 100 ≤ d.power.sevenMs then raiseFault (plainFault 0x030 1 1 0) d else d

/-! ### The Drone's own record (R528, R535, R541) -/

/-- A FATAL fault that the Drone records while the fault collector has no power or no clock. -/
def droneRecord (source kind address : Nat) (d : Device) : Device :=
  let e := faultEntry d (plainFault source kind 2 address) 0
  let d := { d with fault := { d.fault with live := tset none d.fault.live (source * 64 + kind) (some d.time) } }
  match d.fault.fatal with
  | none => captureFault e d
  | some r => if sameFault r e then countFault 2 1 d else d

/-- The managed rails are off, or every clock stands, until POR# (R535). -/
def thermalTrip (d : Device) : Device :=
  let d := droneRecord 0x032 7 0 d
  let d := clockSleep (haltGen 1 6 .aborted (haltGen 0 6 .aborted d))
  { d with
    clk := { d.clk with sysPll := false }
    host := { d.host with linkUp := false }
    power := { d.power with
      thermalTrip := true, cpHalted := true, railsGood := if d.power.extSeq then d.power.railsGood else 0
      railsRunning := false, domains := if d.power.extSeq then d.power.domains else 1#32 }
    disp := { d.disp with running := false } }

/-- OVER_TEMPERATURE: a die sensor in 1/16 °C (R535). -/
def overTemperature (t : Int) (d : Device) : Device :=
  if t < 110 * 16 || d.power.por || d.power.thermalTrip then d
  else
    let d := if d.power.state == .sleep then droneRecord 0x032 6 0 d else raiseFault (plainFault 0x032 6 2 0) d
    if 125 * 16 ≤ t then thermalTrip d else d

/-! ### Regulators (R529) -/

/-- AVS_UPDATE: the lowest voltage with positive margin, on the 5 mV grid within 0.62 to 0.85 V. -/
def avsUpdate (mv : Nat) (d : Device) : Device :=
  if !bellowsRuns d then d
  else { d with power := { d.power with vddCoreMv := min 850 (max 620 (ceilDiv mv 5 * 5)) } }

/-- A fault bit, and a warning bit without one, of a PMBus 1.3 STATUS_WORD (PRESUMED: R529 names the standard only). -/
def railFaultBit (w : Nat) : Bool := bits w 3 3 != 0
def railWarningBit (w : Nat) : Bool :=
  bits w 0 3 != 0 || bits w 8 3 != 0 || bits w 12 4 != 0

/-- PMB_ALERT: the STATUS_WORD of each managed rail, in power-up order. -/
def pmbAlert (statuses : List Nat) (d : Device) : Device :=
  if d.power.por then d
  else
    let ws := statuses.take 10
    let d := { d with power := { d.power with railStatus := ws } }
    (List.range ws.length).foldl (fun d i =>
      let w := ws.getD i 0
      if railFaultBit w then
        (if d.power.state == .sleep then droneRecord 0x031 3 (i + 1) d else raiseFault (plainFault 0x031 3 2 (i + 1)) d)
      else if railWarningBit w then raiseFault (plainFault 0x031 5 0 (i + 1)) d
      else d) d

/-! ### Telemetry (R524, R536-R538) -/

/-- No sensor, or a failed one (R537). -/
def absentTemp : Int := -32768

/-- The 32 temperatures of a sample: the sensors of R537, and the rest absent. -/
def sensorTemps (d : Device) (r : Readings) : List Int :=
  (List.range 32).map (fun i =>
    let t := r.temps.getD i absentTemp
    if i < 14 then t
    else if 16 ≤ i ∧ i < 28 then (if (yardChannel d (i - 16)).present then t else absentTemp)
    else absentTemp)

/-- The hottest die sensor (values 0 to 13). -/
def hottest (ts : List Int) : Int := (ts.take 14).foldl max absentTemp

/-- Places of VDD_AON, VDD_IO and VDD_MGMT, which the board supplies. -/
def boardRail (i : Nat) : Bool := i == 0 || i == 11 || i == 12

/-- Entries of the rails section: millivolt, status, milliampere. -/
def railEntries (r : Readings) : List (Nat × Nat × Nat) :=
  (List.range 13).map (fun i =>
    let e := r.rails.getD i (0, 0, 0)
    if boardRail i then (0, 4, 0) else (e.1, e.2.1 % 4, e.2.2))

/-- Input power in 1/16 W: the sum over the managed rails. -/
def inputPower (r : Readings) : Nat := ((railEntries r).map (fun e => e.1 * e.2.2)).foldl (· + ·) 0 * 16 / 1000000

/-- Bellows keeps a sample. -/
def takeReadings (r : Readings) (d : Device) : Device :=
  let ts := sensorTemps d r
  let d := (List.range 12).foldl (fun d n =>
    let t := ts.getD (16 + n) absentTemp
    if (yardChannel d n).present && t != absentTemp then setYardChannel n { yardChannel d n with temp := t } d else d) d
  { d with power := { d.power with last := { r with temps := ts }, tempMax := hottest ts, powerNow := inputPower r } }

/-- The 64-byte prefix (R536). -/
def telePrefix (d : Device) (sections stalls : Nat) : List Byte :=
  let w := d.power
  leBytes 8 d.time ++ leBytes 2 (cfgN d 0x10 0 1) ++ leBytes 1 sections
    ++ leBytes 1 (boolN (w.throttle != 0) + 2 * boolN w.overThrottle + 4 * boolN w.last.pmbusError)
    ++ leBytes 1 w.throttle ++ leBytes 1 (powerState d % 2) ++ leBytes 2 w.vddCoreMv ++ leBytes 4 w.powerMw ++ leBytes 2 w.capW
    ++ leInt 2 w.tempMax ++ leBytes 4 w.domains.toNat ++ leBytes 2 stalls ++ zeroBytes 34

def tempSection (r : Readings) : List Byte := r.temps.flatMap (fun t => leInt 2 t)

def railSection (r : Readings) : List Byte :=
  (railEntries r).flatMap (fun e => leBytes 2 e.1 ++ leBytes 2 e.2.1 ++ leBytes 4 e.2.2) ++ zeroBytes 24

/-- The prefix and the selected sections of the last sample. -/
def teleBytes (d : Device) (sections : Nat) : List Byte :=
  let stalls := if bit sections 2 then stallSection d else []
  telePrefix d sections (stalls.length / 16)
    ++ (if bit sections 0 then tempSection d.power.last else []) ++ (if bit sections 1 then railSection d.power.last else []) ++ stalls

/-- Reading a high-water mark clears it (R538). -/
def clearMarks (sections : Nat) (d : Device) : Device := if bit sections 2 then { d with marks := [] } else d

/-- TELEMETRY_SAMPLE: the record of R536; the stall section stands in every tele_stall_div-th one. -/
def telemetrySample (r : Readings) (d : Device) : Device :=
  if !bellowsRuns d then d
  else
    let d := takeReadings r d
    let n := d.power.teleCount + 1
    let d := { d with power := { d.power with teleCount := n } }
    let mask := cfgN d 0x10 0 2
    let sections := if bit mask 2 && n % cfgN d 0x10 0 3 != 0 then mask - 4 else mask
    let d := emitRec { type := 0x0A, source := telemetrySource, flags := headerFlags d [], firstIndex := ballIndex d,
                       generation := d.cfg.generation, payload := teleBytes d sections } d
    clearMarks sections d

/-- SLEEP_SAMPLE: the Drone's sample (R524), and the thermal limits. -/
def sleepSample (r : Readings) (d : Device) : Device :=
  if d.power.state != .sleep then d
  else
    let t := hottest (sensorTemps d r)
    overTemperature t { d with power := { d.power with tempMax := t, powerNow := inputPower r } }

/-- Readings that TELE_READ takes at once: what they are is the outside world's. -/
def freshReadings (fresh : Nat) : Readings :=
  { temps := (List.range 32).map (fun i => signed 16 (Config.sensor fresh i % 65536)),
    rails := (List.range 13).map (fun i =>
      (Config.sensor fresh (32 + 3 * i) % 65536, Config.sensor fresh (33 + 3 * i) % 65536, Config.sensor fresh (34 + 3 * i) % 2 ^ 32)),
    pmbusError := false }

/-- The prefix in SLEEP: only power_mw and tj_max are valid (R538). -/
def sleepPrefix (d : Device) : List Byte :=
  let stale (a n : Nat) : List Byte := (List.range n).map (fun i => Config.staleByte d.fresh (a + i))
  stale 0 16 ++ leBytes 4 (d.power.powerNow * 1000 / 16) ++ stale 20 2 ++ leInt 2 d.power.tempMax ++ stale 24 40

/-- Bytes of the sections that follow the prefix. -/
def sectionBytes (d : Device) (sections : Nat) : Nat :=
  64 * boolN (bit sections 0) + 128 * boolN (bit sections 1) + (if bit sections 2 then (stallSection d).length else 0)

/-- What TELE_READ returns: a fresh sample, or in SLEEP the Drone's last one with sections of no meaning. -/
def teleData (asleep : Bool) (d : Device) (sections : Nat) : List Byte :=
  if asleep then sleepPrefix d ++ (List.range (sectionBytes d sections)).map (fun i => Config.staleByte d.fresh (64 + i))
  else teleBytes d sections

def teleRead (p : Packet) (d : Device) : Device :=
  let sections := pByte p 0
  let a := p64 p 8
  let asleep := d.power.state == .sleep
  let e := if asleep then takeFresh d else takeReadings (freshReadings d.fresh) (takeFresh d)
  let bs := teleData asleep e sections
  if !reservedZero p [(0, 1), (8, 8)] || decide (8 ≤ sections) || a % 64 != 0 then complete p .badParam [] d
  else if asleep && a != 0 && regionOf a != .host then complete p .badState [] d
  else if a != 0 && !reachable d .cp true a bs.length then complete p .badParam [] d
  else complete p .ok (bs.take 20) (clearMarks (if asleep then 0 else sections) (if a == 0 then e else memWrite a bs e))

def execSleep (p : Packet) (s : State) : Host.Outcome State Fault Refusal := act (accept p sleepCmd) s
def execWake (p : Packet) (s : State) : Host.Outcome State Fault Refusal := act (accept p wakeCmd) s
def execWakeComplete (failed : List Nat) (words : List (Fin 4 × Fin 68 × Bool)) (s : State) : Host.Outcome State Fault Refusal :=
  act (wakeComplete failed (words.map (fun w => (w.1.val, w.2.1.val, w.2.2)))) s
def execTimedWake (s : State) : Host.Outcome State Fault Refusal := act timedWake s
def execWakeTrig (s : State) : Host.Outcome State Fault Refusal := act wakeTrig s
def execCpClockStop (s : State) : Host.Outcome State Fault Refusal := act cpClockStop s
def execDomainPowerUp (b : Nat) (s : State) : Host.Outcome State Fault Refusal := act (domainPowerUp b) s
def execDomainPowerDown (b : Nat) (s : State) : Host.Outcome State Fault Refusal := act (domainPowerDown b) s
def execAvsUpdate (mv : Nat) (s : State) : Host.Outcome State Fault Refusal := act (avsUpdate mv) s
def execThrottleEvaluate (power : Nat) (temp : Int) (s : State) : Host.Outcome State Fault Refusal := act (throttleEvaluate power temp) s
def execPowerCapUnreachable (s : State) : Host.Outcome State Fault Refusal := act powerCapUnreachable s
def execOverTemperature (t : Int) (s : State) : Host.Outcome State Fault Refusal := act (overTemperature t) s
def execPmbAlert (statuses : List Nat) (s : State) : Host.Outcome State Fault Refusal := act (pmbAlert statuses) s
def execTelemetrySample (r : Readings) (s : State) : Host.Outcome State Fault Refusal := act (telemetrySample r) s
def execSleepSample (r : Readings) (s : State) : Host.Outcome State Fault Refusal := act (sleepSample r) s
def execTeleRead (p : Packet) (s : State) : Host.Outcome State Fault Refusal := act (accept p teleRead) s
def execPowerCap (p : Packet) (s : State) : Host.Outcome State Fault Refusal := act (accept p powerCap) s

end Sys2Proof.Machine
end

