-- ==== Sys2Proof/Machine/Host.lean ====
section
/-! DEFINITION. The command interface: BAR0 registers, queues and doorbells, BAR2 and BAR4, MSI-X, configuration requests, and the
commands NOP, IDENTIFY, GET_STATUS, QUEUE_CREATE and QUEUE_DELETE (14_command_interface.md). -/

namespace Sys2Proof.Machine

/-- The host reaches the BARs: the link is out of reset and configuration space has been released (R531). -/
def hostLink (d : Device) : Bool := d.host.linkUp && d.host.configReady

/-! ### NOP, IDENTIFY, GET_STATUS (R447, R448) -/

def nop (p : Packet) (d : Device) : Device :=
  if reservedZero p [] then complete p .ok [] d else complete p .badParam [] d

/-- The IDENTIFY reply. -/
def identifyBytes (d : Device) : List Byte :=
  let f := d.pad.fuses
  leBytes 2 Config.vendorId.toNat ++ leBytes 2 0x8840 ++ leBytes 1 0xB0 ++ leBytes 1 f.grade.toNat ++ leBytes 2 interfaceVersion
    ++ leBytes 8 f.serial.toNat ++ leBytes 4 ((d.pad.image.map (·.microcode)).getD 0) ++ leBytes 4 ((d.pad.image.map (·.patch)).getD 0)
    ++ leBytes 4 (fusedVersion f) ++ leBytes 1 (originId d) ++ leBytes 1 d.group.pairRole
    ++ leBytes 2 (maskOf 12 (fun n => d.yard.kept.contains n)) ++ leBytes 8 (yardBytes d) ++ leBytes 4 268435456
    ++ leBytes 2 (Config.linkSetting 0) ++ leBytes 2 (Config.linkSetting 1) ++ leBytes 1 (Config.linkSetting 2)
    ++ leBytes 1 (Config.linkSetting 3) ++ zeroBytes 14

def identify (p : Packet) (d : Device) : Device :=
  if reservedZero p [] then complete p .ok (identifyBytes d) d else complete p .badParam [] d

/-- The GET_STATUS reply. -/
def statusBytes (d : Device) : List Byte :=
  leBytes 4 (devStatus d) ++ leBytes 2 (tagsInFlight d) ++ zeroBytes 2 ++ leBytes 8 d.sampleIndex ++ leBytes 8 d.time
    ++ leBytes 4 d.cfg.generation.toNat ++ leBytes 4 d.cfg.pendingCommits.length

def getStatus (p : Packet) (d : Device) : Device :=
  if reservedZero p [] then complete p .ok (statusBytes d) d else complete p .badParam [] d

/-! ### QUEUE_CREATE and QUEUE_DELETE (R426-R428) -/

/-- Parameters of QUEUE_CREATE. -/
def queueParamsOk (d : Device) (p : Packet) : Bool :=
  let kind := pByte p 0
  let id := pByte p 1
  let n := p16 p 2
  let base := p64 p 8
  let common := decide (kind < 2) && (id == 0xFF || (decide (1 ≤ id) && decide (id ≤ 63))) && decide (2 ≤ n) && decide (n ≤ 4096)
    && decide (hostBase ≤ base) && base % 4096 == 0 && decide (base + n * (if kind == 0 then 64 else 32) ≤ addressEnd)
  let own := if kind == 0 then
      reservedZero p [(0, 6), (8, 8)] && decide (pByte p 4 < 64) && (cplQueue d (pByte p 4)).live
        && decide (1 ≤ pByte p 5) && decide (pByte p 5 ≤ 16)
    else reservedZero p [(0, 4), (6, 11), (18, 2)] && decide (p16 p 6 < 256)
  common && own

def queueExists (d : Device) (kind id : Nat) : Bool := if kind == 0 then (subQueue d id).live else (cplQueue d id).live

def makeQueue (kind id : Nat) (p : Packet) (d : Device) : Device :=
  if kind == 0 then
    setSubQueue id { live := true, entries := p16 p 2, base := p64 p 8, cq := pByte p 4, weight := pByte p 5 } d
  else
    setCplQueue id { live := true, entries := p16 p 2, base := p64 p 8, vector := p16 p 6, coCount := pByte p 16, coUs := p16 p 18 } d

def queueCreate (p : Packet) (d : Device) : Device :=
  let kind := pByte p 0
  let id := pByte p 1
  if !queueParamsOk d p then complete p .badParam [] d
  else if id == 0xFF then
    match (List.range 64).find? (fun i => i != 0 && !queueExists d kind i) with
    | none => complete p .noResource [] d
    | some i => complete p .ok (leBytes 1 i) (makeQueue kind i p d)
  else if queueExists d kind id then complete p .badState [] d
  else complete p .ok (leBytes 1 id) (makeQueue kind id p d)

/-- A submission queue or an EVENT_MAP entry names the completion queue (R428). -/
def cqNamed (d : Device) (id : Nat) : Bool :=
  d.host.sqs.any (fun e => e.2.live && e.2.cq == id) || d.fault.eventMaps.any (fun e => e.2.mode == 1 && e.2.target == id)

/-- Commands of a queue that have not written their final entry. -/
def earlierRuns (d : Device) (q : Nat) : Bool :=
  d.host.flights.any (fun f => match f.2 with
    | some x => x.packet.src == .queue q
    | none => false)

def queueDelete (p : Packet) (d : Device) : Device :=
  let kind := pByte p 0
  let id := pByte p 1
  if !reservedZero p [(0, 2)] || 2 ≤ kind || id == 0 || 63 < id then complete p .badParam [] d
  else if !queueExists d kind id then complete p .badState [] d
  else if kind == 1 then
    (if cqNamed d id then complete p .busy [] d else complete p .ok [] (setCplQueue id {} d))
  else if (subQueue d id).deleting.isSome then complete p .busy [] d
  else
    let q := subQueue d id
    settleDeletes (setSubQueue id { q with tail := q.head, deleting := some p } (if earlierRuns d id then park p d else d))

/-! ### MSI-X table and configuration space (R416, R417, R454, R531) -/

/-- A pending vector that may send now sends its message. -/
def flushVector (v : Nat) (d : Device) : Device :=
  if d.host.pba.getLsbD v && !(msixEntry d v).masked && d.host.msixEnable && !d.host.functionMask then sendMsix v (setPba v false d)
  else d

def setMsix (v : Nat) (e : MsixEntry) (d : Device) : Device :=
  flushVector v { d with host := { d.host with msix := tset {} d.host.msix v e } }

/-- A write of one dword of the MSI-X table: address low, address high, data, vector control. -/
def writeMsix (i x : Nat) (d : Device) : Device :=
  let v := i / 4
  let e := msixEntry d v
  setMsix v (match i % 4 with
    | 0 => { e with addr := e.addr / 2 ^ 32 * 2 ^ 32 + x }
    | 1 => { e with addr := e.addr % 2 ^ 32 + x * 2 ^ 32 }
    | 2 => { e with data := x }
    | _ => { e with masked := bit x 0 }) d

/-- Dword `i` of the MSI-X table. -/
def readMsix (d : Device) (i : Nat) : Nat :=
  let e := msixEntry d (i / 4)
  match i % 4 with
  | 0 => e.addr % 2 ^ 32
  | 1 => e.addr / 2 ^ 32 % 2 ^ 32
  | 2 => e.data
  | _ => boolN e.masked

/-- MSIX_UNMASK: the vector's mask is cleared, and a pending message is sent. -/
def msixUnmask (v : Nat) (d : Device) : Device :=
  if !hostLink d then d else setMsix v { msixEntry d v with masked := false } d

/-- A dword of configuration space: the identity of R2; what no rule describes is a free value, the programming-interface byte under
the 16-bit class code among it (DESIGN CHOICE). -/
def configRead (off : Nat) : Nat :=
  if off == 0 then 0x8840 * 2 ^ 16 + Config.vendorId.toNat
  else if off == 8 then 0x11800000 + 2 ^ 8 * Config.progIf.toNat + 0xB0
  else (Config.configSpace off).toNat

/-- CONFIG_REQUEST: Configuration Request Retry Status until step 4 of start-up ends (R531). -/
def configRequest (r : ConfigReq) (d : Device) : Device :=
  if !d.host.linkUp then d
  else if !d.host.configReady then { d with host := { d.host with configAnswer := none } }
  else match r with
    | .read off => { d with host := { d.host with configAnswer := some (configRead off) } }
    | .msixControl e m =>
      let d := { d with host := { d.host with msixEnable := e, functionMask := m, configAnswer := some 0 } }
      (List.range 256).foldl (fun d v => flushVector v d) d
    | .resizeBar4 n =>
      let ok := decide (30 ≤ n) && decide (n ≤ 41)
      { d with host := { d.host with bar4Log2 := if ok then n else d.host.bar4Log2, configAnswer := some 0 } }

/-! ### ENABLE (R425) -/

/-- The admin queue registers are valid. -/
def adminOk (h : HostState) : Bool :=
  h.asqBase % 4096 == 0 && h.acqBase % 4096 == 0 && bits h.aqSize 0 12 != 0 && bits h.aqSize 16 12 != 0
    && bits h.aqSize 12 4 == 0 && bits h.aqSize 28 4 == 0

/-- The host sets ENABLE. -/
def enable (d : Device) : Device :=
  let h := d.host
  if !hostLink d || h.enable then d
  else if !adminOk h then { d with host := { h with enable := true, enableError := true } }
  else
    let d := { d with host := { h with enable := true, enabled := true } }
    let d := setSubQueue 0 { live := true, entries := bits h.aqSize 0 12 + 1, base := hostBase + h.asqBase % 2 ^ 51, cq := 0 } d
    setCplQueue 0 { live := true, entries := bits h.aqSize 16 12 + 1, base := hostBase + h.acqBase % 2 ^ 51, vector := 0,
                    coCount := bits h.aqCoalesce 0 8, coUs := bits h.aqCoalesce 16 16 } d

/-- A queue's own QUEUE_DELETE has nothing left to wait for once every queue is gone. -/
def waitsForDelete (d : Device) (p : Packet) : Bool := d.host.sqs.any (fun e => e.2.deleting == some p)

/-- Steps 1 to 4 of a clear of ENABLE: commands in flight run to their end without entries (R425), sessions end with their queues
(R555). -/
def enableCleared (d : Device) : Device :=
  let running := d.host.flights.filterMap (fun e => e.2.bind (fun f =>
    if f.forwardedTo.isSome || waitsForDelete d f.packet then none else some f.packet))
  { d with
    host := { d.host with
      enable := false, enabled := false, enableError := false, silent := d.host.silent ++ running, flights := [], sqs := [], cqs := []
      turn := (0, 0) }
    pad := { d.pad with sessions := [], nonces := [] } }

def enableClear (d : Device) : Device := if hostLink d then enableCleared d else d

/-- A Function Level Reset. The MSI-X capability and the Resizable BAR keep to PCIe (PRESUMED). -/
def functionReset (d : Device) : Device :=
  let d := enableCleared d
  { d with host := { d.host with
      bar4Window := 0, lowHalves := tset 0 d.host.lowHalves 0x28 0, msix := [], pba := 0, msixEnable := false, functionMask := false } }

def functionLevelReset (d : Device) : Device := if hostLink d then functionReset d else d

/-! ### Doorbells (R429) -/

/-- In SLEEP a doorbell or a mailbox submission starts the CP clock (R524). -/
def startCpClock (d : Device) : Device := { d with power := { d.power with cpClock := true } }

def tailDoorbell (q v : Nat) (d : Device) : Device :=
  if !hostLink d then d
  else
    let s := subQueue d q
    let d := startCpClock d
    if !s.live || s.entries ≤ v then setSubQueue q { s with dbError := true } d
    else if s.deleting.isSome then d
    else setSubQueue q { s with tail := v } d

def headDoorbell (q v : Nat) (d : Device) : Device :=
  if !hostLink d then d
  else
    let c := cplQueue d q
    let d := startCpClock d
    let n := c.entries
    let ok := c.live && decide (v < n) && decide ((v + n - c.head) % n ≤ (c.tail + n - c.head) % n)
    setCplQueue q (if ok then { c with head := v } else { c with dbError := true }) d

def fetchErrorClear (q : Nat) (d : Device) : Device :=
  if hostLink d then setSubQueue q { subQueue d q with fetchError := false } d else d

def writeErrorClear (q : Nat) (d : Device) : Device :=
  if hostLink d then setCplQueue q { cplQueue d q with writeError := false } d else d

/-- W1C bits of a queue status register (R423, R424). -/
def writeSqStatus (q x : Nat) (d : Device) : Device :=
  let s := subQueue d q
  setSubQueue q { s with dbError := s.dbError && !bit x 13, fetchError := s.fetchError && !bit x 14 } d

def writeCqStatus (q x : Nat) (d : Device) : Device :=
  let c := cplQueue d q
  setCplQueue q { c with dbError := c.dbError && !bit x 13, writeError := c.writeError && !bit x 14 } d

/-! ### Waiting entries (R429, R431, R454) -/

/-- COMPLETION_WRITE: the oldest waiting entry of a completion queue, once a slot is released; where the write fails, the entry waits. -/
def completionWrite (q : Nat) (ok : Bool) (d : Device) : Device :=
  let c := cplQueue d q
  if !c.live || c.writeError || !slotFree c then d
  else if !ok then raiseEvent 0x000 2 (ballIndex d) 0 (setCplQueue q { c with writeError := true } d)
  else match c.waiting with
    | [] => d
    | e :: rest => settleDeletes (dropFlightOpt e.frees (writeSlot q e.bytes (setCplQueue q { c with waiting := rest } d)))

/-- COALESCE_TIMEOUT: co_us after the first unsignalled entry. -/
def coalesceTimeout (q : Nat) (d : Device) : Device :=
  let c := cplQueue d q
  if !c.live || c.coUs == 0 || c.unsignalled == 0 then d
  else signalVector c.vector (setCplQueue q { c with unsignalled := 0 } d)

/-! ### BAR0 (R418, R421) -/

/-- BAR4_WINDOW takes a multiple of the BAR4 size (R420). -/
def setWindow4 (v : Nat) (d : Device) : Device :=
  if v % 2 ^ d.host.bar4Log2 == 0 then { d with host := { d.host with bar4Window := v } } else d

/-- An 8-byte register, written whole or by its upper half. -/
def writeWide (off v : Nat) (d : Device) : Device :=
  match off with
  | 0x10 => { d with host := { d.host with asqBase := v } }
  | 0x18 => { d with host := { d.host with acqBase := v } }
  | 0x28 => setWindow4 v d
  | 0x80 => { d with host := { d.host with bootImageAddr := v } }
  | _ => d

/-- Offsets of the 8-byte registers that the host writes. -/
def wideRegister (off : Nat) : Bool := off == 0x10 || off == 0x18 || off == 0x28 || off == 0x80

/-- A 4-byte write. The rows ENABLE, ENABLE_CLEAR, SQ_TAIL_DOORBELL, CQ_HEAD_DOORBELL and BOOT_PUSH carry the registers with an act of
their own; DEV_CONTROL and the doorbells act here too. -/
def writeDword (off x : Nat) (d : Device) : Device :=
  if wideRegister off then { d with host := { d.host with lowHalves := tset 0 d.host.lowHalves off x } }
  else if 4 ≤ off && wideRegister (off - 4) then writeWide (off - 4) (tget 0 d.host.lowHalves (off - 4) + x * 2 ^ 32) d
  else if off == 0x08 then (if bit x 0 then enable d else if d.host.enable then enableClear d else d)
  else if off == 0x0C then { d with host := { d.host with scratch := x } }
  else if off == 0x20 then { d with host := { d.host with aqSize := x } }
  else if off == 0x24 then { d with host := { d.host with aqCoalesce := x } }
  else if off == 0x88 then { d with host := { d.host with bootImageLen := x } }
  else if 0x400 ≤ off ∧ off < 0x500 then writeSqStatus ((off - 0x400) / 4) x d
  else if 0x500 ≤ off ∧ off < 0x600 then writeCqStatus ((off - 0x500) / 4) x d
  else if 0x1000 ≤ off ∧ off < 0x1200 then
    (if off % 8 == 0 then tailDoorbell ((off - 0x1000) / 8) x d else headDoorbell ((off - 0x1000) / 8) x d)
  else if 0x2000 ≤ off ∧ off < 0x3000 then writeMsix ((off - 0x2000) / 4) x d
  else d

/-- What a 4-byte read of BAR0 returns (R9, R418, R421): reserved bits, write-only registers and unlisted offsets read as zero. -/
def readDword (d : Device) (off : Nat) : Nat :=
  let h := d.host
  let half (base v : Nat) : Nat := if off == base then v % 2 ^ 32 else v / 2 ^ 32 % 2 ^ 32
  if off == 0x00 then 0x01B08840
  else if off == 0x04 then devStatus d
  else if off == 0x08 then boolN h.enable
  else if off == 0x0C then h.scratch
  else if off == 0x10 || off == 0x14 then half 0x10 h.asqBase
  else if off == 0x18 || off == 0x1C then half 0x18 h.acqBase
  else if off == 0x20 then bits h.aqSize 0 12 + 2 ^ 16 * bits h.aqSize 16 12
  else if off == 0x24 then bits h.aqCoalesce 0 8 + 2 ^ 16 * bits h.aqCoalesce 16 16
  else if off == 0x28 || off == 0x2C then half 0x28 h.bar4Window
  else if off == 0x30 || off == 0x34 then half 0x30 d.time
  else if off == 0x38 || off == 0x3C then half 0x38 d.sampleIndex
  else if off == 0x40 then d.cfg.generation.toNat
  else if off == 0x44 then tagsInFlight d
  else if off == 0x48 then faultSummary d
  else if off == 0x4C then h.writeDiscards.toNat
  else if off == 0x80 || off == 0x84 then half 0x80 h.bootImageAddr
  else if off == 0x88 then h.bootImageLen
  else if 0x400 ≤ off ∧ off < 0x500 then sqStatus d ((off - 0x400) / 4)
  else if 0x500 ≤ off ∧ off < 0x600 then cqStatus d ((off - 0x500) / 4)
  else if 0x2000 ≤ off ∧ off < 0x3000 then readMsix d ((off - 0x2000) / 4)
  else if 0x3000 ≤ off ∧ off < 0x3020 then bits h.pba.toNat (8 * (off - 0x3000)) 32
  else 0

/-- A read of BAR0: naturally aligned, 4 or 8 bytes; any other returns zero (R418). -/
def registerRead (d : Device) (off n : Nat) : Nat :=
  if n == 4 && off % 4 == 0 then readDword d off
  else if n == 8 && off % 8 == 0 then readDword d off + 2 ^ 32 * readDword d (off + 4)
  else 0

/-- REGISTER_WRITE: naturally aligned, 4 or 8 bytes. -/
def registerWrite (off : Nat) (size8 : Bool) (v : Nat) (d : Device) : Device :=
  if !hostLink d || off % (if size8 then 8 else 4) != 0 then d
  else if size8 then writeDword (off + 4) (v / 2 ^ 32 % 2 ^ 32) (writeDword off (v % 2 ^ 32) d)
  else writeDword off (v % 2 ^ 32) d

/-! ### BAR2 and BAR4 (R419, R420, R572) -/

def countDiscard (d : Device) : Device := { d with host := { d.host with writeDiscards := d.host.writeDiscards + 1 } }

/-- Bytes at addresses that a test admits, written; the TLP counts once where a byte is discarded. -/
def writeAdmitted (ok : Nat → Bool) (a : Nat) (bs : List Byte) (d : Device) : Device :=
  let skip := ((List.range bs.length).takeWhile (fun i => !ok (a + i))).length
  let kept := ((bs.drop skip).zip (List.range bs.length)).takeWhile (fun x => ok (a + skip + x.2))
  let d := if kept.isEmpty then d else memWrite (a + skip) (kept.map (·.1)) d
  if kept.length == bs.length then d else countDiscard d

/-- The Reed window region, the one that BAR2 writes. -/
def bar2Writable (a : Nat) : Bool := decide (0xF000000 ≤ a) && decide (a < 0x10000000)

def bar2Readable (a : Nat) : Bool := decide (a < 0xE000000) || bar2Writable a

/-- An access of `n` bytes lies within BAR2 (R417); no other reaches it. -/
def inBar2 (off n : Nat) : Bool := decide (0 < n) && decide (off + n ≤ 0x10000000)

def bar2Write (off : Nat) (bs : List Byte) (d : Device) : Device :=
  if !hostLink d || !inBar2 off bs.length then d else writeAdmitted bar2Writable off bs d

/-- Read data: the bytes that a test admits, zero for the others, and whether a poisoned line is among them. -/
def readAdmitted (ok : Nat → Bool) (a n : Nat) (d : Device) : Device :=
  let bad := (List.range n).any (fun i => ok (a + i) && poisoned d (a + i) 1)
  let bs := (List.range n).map (fun i => if ok (a + i) then readByte d (a + i) else 0)
  freshLoft a { d with host := { d.host with readData := (bs, bad) } }

def bar2Read (off len : Nat) (d : Device) : Device := 
  if hostLink d && inBar2 off len then readAdmitted bar2Readable off len d else d

/-- Device address of BAR4 offset `off`. -/
def bar4Address (d : Device) (off : Nat) : Nat := yardBase + d.host.bar4Window + off

/-- Populated Yard memory. -/
def populatedYard (d : Device) (a : Nat) : Bool := decide (yardBase ≤ a) && decide (a < yardBase + yardBytes d)

/-- An access of `n` bytes lies within BAR4 at its present size (R417). -/
def inBar4 (d : Device) (off n : Nat) : Bool := decide (0 < n) && decide (off + n ≤ 2 ^ d.host.bar4Log2)

def bar4Write (off : Nat) (bs : List Byte) (d : Device) : Device :=
  if !hostLink d || !inBar4 d off bs.length then d else writeAdmitted (populatedYard d) (bar4Address d off) bs d

def bar4Read (off len : Nat) (d : Device) : Device :=
  if hostLink d && inBar4 d off len then readAdmitted (populatedYard d) (bar4Address d off) len d else d

/-! ### Management SPI: reads (R457, R458) -/

/-- A little-endian register of the SPI map: its first address, its bytes. -/
def spiRegisters (d : Device) : List (Nat × List Byte) :=
  [(0x0000, leBytes 4 0x01B08840), (0x0004, leBytes 4 (devStatus d)), (0x0008, leBytes 8 d.time), (0x0010, leBytes 4 (faultSummary d)),
   (0x0014, leInt 4 d.power.tempMax), (0x0018, leBytes 4 d.power.powerNow), (0x1000, d.host.mboxCmd), (0x1060, d.host.mboxCpl),
   (0x1100, d.host.mboxReply)]

def spiByte (d : Device) (a : Nat) : Byte :=
  match (spiRegisters d).find? (fun r => decide (r.1 ≤ a) && decide (a < r.1 + r.2.length)) with
  | some r => r.2.getD (a - r.1) 0
  | none => 0

/-- SPI_READ: the port answers from POR# onward. -/
def spiRead (addr n : Nat) (d : Device) : Device :=
  if d.power.por then d
  else { d with host := { d.host with spiOut := (List.range n).map (fun i => spiByte d ((addr + i) % 2 ^ 24)) } }

def readStatus (d : Device) : Device :=
  if d.power.por then d else { d with host := { d.host with spiOut := leBytes 1 (readStatusByte d) } }

def execNop (p : Packet) (s : State) : Host.Outcome State Fault Refusal := act (accept p nop) s
def execIdentify (p : Packet) (s : State) : Host.Outcome State Fault Refusal := act (accept p identify) s
def execGetStatus (p : Packet) (s : State) : Host.Outcome State Fault Refusal := act (accept p getStatus) s
def execQueueCreate (p : Packet) (s : State) : Host.Outcome State Fault Refusal := act (accept p queueCreate) s
def execQueueDelete (p : Packet) (s : State) : Host.Outcome State Fault Refusal := act (accept p queueDelete) s
def execMsixUnmask (vector : Fin 256) (s : State) : Host.Outcome State Fault Refusal := act (msixUnmask vector.val) s
def execConfigRequest (r : ConfigReq) (s : State) : Host.Outcome State Fault Refusal := act (configRequest r) s
def execEnable (s : State) : Host.Outcome State Fault Refusal := act enable s
def execEnableClear (s : State) : Host.Outcome State Fault Refusal := act enableClear s
def execFunctionLevelReset (s : State) : Host.Outcome State Fault Refusal := act functionLevelReset s
def execSqTailDoorbell (q : Fin 64) (v : Nat) (s : State) : Host.Outcome State Fault Refusal := act (tailDoorbell q.val v) s
def execCqHeadDoorbell (q : Fin 64) (v : Nat) (s : State) : Host.Outcome State Fault Refusal := act (headDoorbell q.val v) s
def execFetchErrorClear (q : Fin 64) (s : State) : Host.Outcome State Fault Refusal := act (fetchErrorClear q.val) s
def execWriteErrorClear (q : Fin 64) (s : State) : Host.Outcome State Fault Refusal := act (writeErrorClear q.val) s
def execCompletionWrite (q : Fin 64) (ok : Bool) (s : State) : Host.Outcome State Fault Refusal := act (completionWrite q.val ok) s
def execCoalesceTimeout (q : Fin 64) (s : State) : Host.Outcome State Fault Refusal := act (coalesceTimeout q.val) s
def execRegisterWrite (off : Nat) (size8 : Bool) (v : Nat) (s : State) : Host.Outcome State Fault Refusal :=
  act (registerWrite off size8 v) s
def execBar2Write (off : Nat) (bytes : List Byte) (s : State) : Host.Outcome State Fault Refusal := act (bar2Write off bytes) s
def execBar2Read (off len : Nat) (s : State) : Host.Outcome State Fault Refusal := act (bar2Read off len) s
def execBar4Write (off : Nat) (bytes : List Byte) (s : State) : Host.Outcome State Fault Refusal := act (bar4Write off bytes) s
def execBar4Read (off len : Nat) (s : State) : Host.Outcome State Fault Refusal := act (bar4Read off len) s
def execSpiRead (addr n : Nat) (s : State) : Host.Outcome State Fault Refusal := act (spiRead addr n) s
def execReadStatus (s : State) : Host.Outcome State Fault Refusal := act readStatus s

end Sys2Proof.Machine
end

