-- ==== Sys2Proof/Machine/Startup.lean ====
section
/-! DEFINITION. From POR# to READY: rails, boot ROM, image, firmware start, Yard bring-up; POR#, PERST# and VDD_AON (R526-R532, R547,
R548, R601). The steps of R530 that no row of the table separates run within the row before them. -/

namespace Sys2Proof.Machine

/-! ### POR# (R532, R601) -/

/-- POR# is asserted: every domain resets. Host memory, the drives, the fuses, the flash and what the board holds stay. -/
def porAssert (d : Device) : Device :=
  { ({} : Device) with
    host := { ({} : HostState) with perst := d.host.perst }
    power := { ({} : PowerState) with board := d.power.board }
    pad := { ({} : PaddockState) with fuses := d.pad.fuses, flash := d.pad.flash }
    nvme := { ({} : RecState) with ports := d.nvme.ports.map (fun e => (e.1, { ({} : StoragePort) with disk := e.2.disk })) }
    mem := d.mem.filter (fun c => decide (hostBase ≤ c.1))
    fresh := d.fresh }

/-! ### Firmware start (R530 step 6) -/

/-- Loft is cleared to zero. -/
def clearLoft (d : Device) : Device :=
  { d with mem := d.mem.filter (fun c => decide (0x10000000 ≤ c.1)), poison := d.poison.filter (fun e => decide (0x10000000 ≤ e.1)) }

/-- The control store runs: scan-out starts, the ports may train, the first interpolator calibrations begin (R240), and the synthesisers
lock where REFIN is qualified. -/
def firmwareStart (d : Device) : Device :=
  let d := calibrateInputs (List.range 6) (startScan (clearLoft d))
  let d := { d with
    power := { d.power with state := .loading, domains := 0x000000FF#32 }
    clk := { d.clk with started := true } }
  if d.clk.refPresent then startRelock .lo false (startRelock .sclk false d) else d

/-! ### Boot ROM (R530 steps 3 to 5, R547, R548) -/

def bootFail (code : Nat) (d : Device) : Device := { d with power := { d.power with state := .bootFailed, bootError := code } }

/-- The slots of the flash in the order of R547: the first image that verifies runs. -/
def tryImages : List Nat → Device → Device
  | [], d => { d with power := { d.power with state := .bootFailed } }
  | n :: rest, d =>
    let img := slotImage d.pad.flash n
    if !holdsImage img then tryImages rest d
    else
      let e := blowOwner img d
      match verifyImage d.pad.fuses img with
      | .error c => tryImages rest { e with power := { e.power with bootError := c } }
      | .ok x => firmwareStart (takeImage n x e)

def bootFlash (d : Device) : Device :=
  let f := d.pad.flash
  let first := (preferredSlot f.bootRecord).getD 0
  let order := [first, 1 - first]
  if f.present && order.any (fun n => holdsImage (slotImage f n)) then tryImages order { d with power := { d.power with state := .loading } }
  else { d with power := { d.power with state := .waitImage } }

/-- Steps 3 to 5: the system PLL locks and the link may train; fuses and self-tests; then the image. -/
def bootRom (d : Device) : Device :=
  let d := { d with
    clk := { d.clk with sysPll := true }
    host := { d.host with linkUp := !d.host.perst, configReady := true } }
  match d.power.board with
  | none => d
  | some b =>
    if !b.fuseRead then bootFail 0x09 d
    else if !b.selfTest then bootFail 0x01 (failTest false d)
    else
      let d := testPassed { d with pad := { d.pad with testsPassed := true } }
      if killed d.pad.fuses then bootFail 0x0A d else bootFlash d

/-- POR_DEASSERT: straps are sampled, the Drone checks XTAL32, and the rail sequence starts or is skipped. Fuses and flash are read from
the board at the first POR# only; from then on the device's own stand. -/
def porDeassert (b : Board) (d : Device) : Device :=
  if !d.power.por then d
  else
    let d := match d.power.board with
      | none => { d with pad := { d.pad with fuses := b.fuses, flash := b.flash } }
      | some _ => d
    let d := { d with
      power := { d.power with por := false, extSeq := b.pwrSeqExt, board := some b, state := .bootRom, railsRunning := !b.pwrSeqExt }
      group := { d.group with id := b.groupId.val }
      host := { d.host with perst := b.perst }
      clk := { d.clk with refPresent := b.refin } }
    let d := if b.xtal32 then d else droneFallback d
    if b.pwrSeqExt then bootRom d else d

/-- Managed rails in power-up order: PMBus address and the value set, in mV (R527). -/
def managedRails : List (Nat × Nat) :=
  [(0x40, 750), (0x41, 800), (0x42, 1200), (0x43, 750), (0x44, 1200), (0x45, 1100), (0x46, 900), (0x47, 1800), (0x48, 900), (0x49, 1800)]

/-- A rail is good when its STATUS_WORD shows POWER_GOOD# clear and READ_VOUT, in mV, lies within 3 % of the value set (R527). POWER_GOOD#
is bit 11 of the STATUS_WORD of PMBus 1.3 (PRESUMED: R529 names the standard only). -/
def railIsGood (r status vout : Nat) : Bool :=
  let set := ((managedRails[r - 1]?).map (·.2)).getD 0
  !bit status 11 && decide (97 * set ≤ 100 * vout) && decide (100 * vout ≤ 103 * set)

/-- RAIL_GOOD: rail `r` of R527, counted from 1, in power-up order, with its STATUS_WORD and READ_VOUT. After the tenth the boot ROM
runs. -/
def railGood (r status vout : Nat) (d : Device) : Device :=
  if !d.power.railsRunning || r != d.power.railsGood + 1 || !railIsGood r status vout then d
  else
    let d := { d with power := { d.power with railsGood := r, railsRunning := decide (r < 10) } }
    if r < 10 then d else bootRom d

/-- RAIL_TIMEOUT (R528): the rails go down, and the device stays in BOOT_ROM until POR#. -/
def railTimeout (r : Nat) (d : Device) : Device :=
  if !d.power.railsRunning || r != d.power.railsGood + 1 then d
  else
    droneRecord 0x033 9 (r % 16) { d with power := { d.power with railsGood := 0, railsRunning := false, railFailure := true } }

/-- BOOT_PUSH: the pushed image of WAIT_IMAGE; `ok` is false where the host read fails. -/
def bootPush (v : BitVec 32) (ok : Bool) (d : Device) : Device :=
  if !hostLink d || v != 1 || d.power.state != .waitImage then d
  else
    let a := hostBase + d.host.bootImageAddr
    let n := d.host.bootImageLen
    if !ok || addressEnd < a + n then bootFail 0x08 d
    else
      let img := memRead d a n
      let e := blowOwner img d
      match verifyImage d.pad.fuses img with
      | .error c => bootFail c e
      | .ok x => firmwareStart (takeImage 2 x e)

/-! ### READY (R530 steps 7 and 8) -/

/-- Streams 254 and 255 open with 64 MiB rings (10_stream_records.md, Streams and subscriptions). -/
def openReserved (n : Nat) (d : Device) : Device :=
  match openStream n 26 d with
  | some r => r.2
  | none => d

/-- YARD_BRING_UP_COMPLETE: each channel's DIMM and the step that failed, 0 for none. -/
def yardBringUpComplete (found : List (Option Dimm × Nat)) (d : Device) : Device :=
  if !(d.power.state == .loading || d.power.state == .safe) || isOpen (stream d 254) then d
  else
    let d := openReserved 255 (openReserved 254 (bringUpYard found d))
    let d := if d.power.state == .loading then { d with power := { d.power with state := .ready } } else d
    raiseEvent 0x030 3 (ballIndex d) 0 d

/-! ### PERST# (R532) -/

/-- PERST_ASSERT: after step 3 a Function Level Reset; before, it only holds the link. -/
def perstAssert (d : Device) : Device :=
  if d.host.perst then d
  else
    let d := if d.clk.sysPll then functionReset d else d
    { d with host := { d.host with perst := true, linkUp := false } }

def perstDeassert (d : Device) : Device :=
  if !d.host.perst then d
  else { d with host := { d.host with perst := false, linkUp := d.clk.sysPll } }

def execPorAssert (s : State) : Host.Outcome State Fault Refusal := act porAssert s
/-- R601: the monitor on VDD_AON acts as POR#. -/
def execVddAonLow (s : State) : Host.Outcome State Fault Refusal := act porAssert s
def execPorDeassert (b : Board) (s : State) : Host.Outcome State Fault Refusal := act (porDeassert b) s
def execRailGood (reading : RailReading) (s : State) : Host.Outcome State Fault Refusal :=
  act (railGood reading.rail reading.status reading.vout) s
def execRailTimeout (r : Nat) (s : State) : Host.Outcome State Fault Refusal := act (railTimeout r) s
def execBootPush (v : BitVec 32) (ok : Bool) (s : State) : Host.Outcome State Fault Refusal := act (bootPush v ok) s
def execYardBringUpComplete (found : List (Option Dimm × Nat)) (s : State) : Host.Outcome State Fault Refusal :=
  act (yardBringUpComplete found) s
def execPerstAssert (s : State) : Host.Outcome State Fault Refusal := act perstAssert s
def execPerstDeassert (s : State) : Host.Outcome State Fault Refusal := act perstDeassert s

end Sys2Proof.Machine
end

