-- ==== Sys2Proof/Machine/Run.lean ====
section
/-! DEFINITION. Where command packets come from: fetching from submission queues, the mailbox, forwarded and mirrored commands, and the
machine check of the command processor (R430, R435, R441, R442, R455, R457-R459, R498, R502, R550, R551). -/

namespace Sys2Proof.Machine

/-! ### The meaning of a packet (R447) -/

/-- An op or mode that the command's rule does not list. -/
def badOp (p : Packet) (d : Device) : Device := complete p .badParam [] d

/-- CFG_WRITE_OVERLAY with a mode above 2. -/
def badOverlay (p : Packet) (d : Device) : Device :=
  complete p .badParam (leBytes 4 noIndex ++ leBytes 4 (overlayHeld d (pByte p 0))) d

/-- The body of an opcode, and of the op that its parameters name. -/
def commandBody (p : Packet) : Packet → Device → Device :=
  let op (i : Nat) (l : List (Packet → Device → Device)) : Packet → Device → Device := (l[pByte p i]?).getD badOp
  match p.opcode with
  | 0x0000 => nop
  | 0x0001 => identify
  | 0x0002 => getStatus
  | 0x0003 => sleepCmd
  | 0x0004 => wakeCmd
  | 0x0005 => blockReset
  | 0x0006 => safeExit
  | 0x0008 => queueCreate
  | 0x0009 => queueDelete
  | 0x0100 => cfgWriteBase
  | 0x0101 => ([cfgWriteOverlay 0, cfgWriteOverlay 1, cfgWriteOverlay 2][pByte p 1]?).getD badOverlay
  | 0x0102 => cfgRead
  | 0x0103 => cfgValidate
  | 0x0104 => cfgCommit
  | 0x0105 => cfgAbort
  | 0x0200 => clkSet
  | 0x0201 => clkStatus
  | 0x0202 => loRampLoad
  | 0x0300 => calRun
  | 0x0301 => calRead
  | 0x0302 => calWrite
  | 0x0500 => maskLoad
  | 0x0501 => windowLoad
  | 0x0600 => op 0 [trigArm 0, trigArm 1, trigArm 2]
  | 0x0601 => trigForce
  | 0x0602 => trigStatus
  | 0x0700 => tiuRun (bit (pByte p 2) 1)
  | 0x0800 => yardAlloc
  | 0x0801 => yardFree
  | 0x0802 => dispCommit
  | 0x0803 => paletteLoad
  | 0x0900 => op 0 [streamOpen, streamClose, streamResume]
  | 0x0901 => streamAck
  | 0x0902 => op 0 [xferStart, xferResume, xferStop, xferAbort]
  | 0x0A00 => op 0 [volCreate, volMount, volUnmount]
  | 0x0A01 => recStart
  | 0x0A02 => recStop
  | 0x0A03 => play
  | 0x0A04 => recDelete
  | 0x0B00 => op 1 [segDefine false, segDefine true, segClear]
  | 0x0B01 => seqLoad
  | 0x0B02 => op 0 [genJump, genStart, genStop, genStatus]
  | 0x0C00 => kernelLoad
  | 0x0C01 => op 0 [kernelBind, kernelUnbind, kernelStart, kernelStop, kernelStatus]
  | 0x0D00 => op 0 [groupForm, groupLeave, groupStatus]
  | 0x0D01 => groupSync
  | 0x0D02 => op 0 [pairForm, pairDissolve, pairStatus]
  | 0x0D03 => pairTakeover
  | 0x0E00 => faultAck
  | 0x0E01 => op 0 [faultReadRecords, faultReadLog, faultReadLive, faultReadEvents]
  | 0x0E02 => setEventMap
  | 0x0E03 => faultDump
  | 0x0F00 => authChallenge
  | 0x0F01 => authResponse
  | 0x0F02 => authEnd
  | 0x0F03 => op 0 [keyGenerate, keyImport, keyExport, keyDestroy, keyWrapStatus]
  | 0x0F04 => zeroizeCmd (bit (pByte p 0) 0)
  | 0x0F05 => selfTest
  | 0x0F06 => op 0 [imageUpdateWrite, commitVersion, imageUpdateStatus]
  | 0x1000 => teleRead
  | 0x1001 => powerCap
  | _ => badOp

def runPacket (p : Packet) (d : Device) : Device := accept p (commandBody p) d

/-! ### Reading a packet (R432, R433, R435) -/

/-- The extended block of a packet with EXT; none where it is not valid or not readable. -/
def extendedBlock (d : Device) (p : Packet) : Option (List Byte) :=
  let a := p64 p 0
  let n := p32 p 8
  if reservedZero p [(0, 12)] && n % 16 == 0 && decide (48 ≤ n) && decide (n ≤ 4096) && reachable d .cp false a n then
    some (memRead d a n)
  else none

/-- A packet of 64 bytes. A packet whose extended block cannot be read keeps no parameters, which check 2 of R436 refuses. -/
def readPacket (d : Device) (src : CmdSource) (bs : List Byte) : Packet :=
  let p : Packet := {
    src := src, opcode := getLe bs 0 2, flags := BitVec.ofNat 16 (getLe bs 2 2), tag := BitVec.ofNat 16 (getLe bs 4 2)
    target := BitVec.ofNat 16 (getLe bs 6 2), replyAddr := if src == .mailbox then 0 else getLe bs 8 8
    params := padTo (bs.drop 16) 48 }
  if flagSet p 2 then { p with params := (extendedBlock d p).getD [] } else p

/-! ### Fetching (R430, R431, R442) -/

def entryAddr (s : SubQueue) : Nat := s.base + 64 * s.head

/-- The queue may be fetched from: it holds an entry, its completion queue has space, and a FENCE waits for no earlier command. -/
def fetchable (d : Device) (q : Nat) : Bool :=
  let s := subQueue d q
  let c := cplQueue d s.cq
  s.live && s.deleting.isNone && !s.fetchError && s.head != s.tail && c.waiting.isEmpty && slotFree c
    && !(bit (memNat d (entryAddr s + 2) 2) 3 && earlierRuns d q)

/-- The queue whose turn it is, and the entries left in its turn after this one (R430). -/
def nextQueue (d : Device) : Option (Nat × (Nat × Nat)) :=
  let t := d.host.turn
  if fetchable d 0 then some (0, t)
  else if 0 < t.2 && t.1 != 0 && fetchable d t.1 then some (t.1, (t.1, t.2 - 1))
  else
    let order := (List.range 63).map (fun i => (t.1 + i) % 63 + 1)
    (order.find? (fetchable d)).map (fun q => (q, (q, (subQueue d q).weight - 1)))

/-- The CP fetches: queues are served, the CP and its clock run, and a tag is free (R32, R524). -/
def mayFetch (d : Device) : Bool := d.host.enabled && cpRuns d && d.power.cpClock && decide (tagsInFlight d < 4096)

/-- The entry at HEAD, and the queue behind it. -/
def takeEntry (q : Nat) (d : Device) : Packet × Device :=
  let s := subQueue d q
  (readPacket d (.queue q) (memRead d (entryAddr s) 64), setSubQueue q { s with head := (s.head + 1) % s.entries } d)

/-- COMMAND_FETCH: `ok` is false where the read of the entry completes with an error (R429). -/
def commandFetch (ok : Bool) (d : Device) : Device :=
  if !mayFetch d then d
  else match nextQueue d with
    | none => d
    | some (q, turn) =>
      if !ok then raiseEvent 0x000 1 (ballIndex d) 0 (setSubQueue q { subQueue d q with fetchError := true } d)
      else
        let x := takeEntry q { d with host := { d.host with turn := turn } }
        runPacket x.1 x.2

/-! ### Mailbox (R457-R459) -/

/-- Writing 0x1 to MBOX_CONTROL. -/
def mboxSubmit (d : Device) : Device :=
  if d.power.por || d.host.mboxBusy then d
  else
    let d := startCpClock { d with host := { d.host with mboxBusy := true, mboxDone := false } }
    runPacket (readPacket d .mailbox d.host.mboxCmd) d

/-- One data byte of an SPI WRITE. -/
def spiWriteByte (a : Nat) (b : Byte) (d : Device) : Device :=
  if d.host.mboxBusy then d
  else if 0x1000 ≤ a ∧ a < 0x1040 then { d with host := { d.host with mboxCmd := d.host.mboxCmd.set (a - 0x1000) b } }
  else if a == 0x1040 && b == 1 then mboxSubmit d
  else d

def spiWriteFrom : Nat → List Byte → Device → Device
  | _, [], d => d
  | a, b :: bs, d => spiWriteFrom ((a + 1) % 2 ^ 24) bs (spiWriteByte (a % 2 ^ 24) b d)

def spiWrite (addr : Nat) (bs : List Byte) (d : Device) : Device := if d.power.por then d else spiWriteFrom addr bs d

/-! ### Machine check (R455, R550, R551) -/

/-- A command fetched during the restart completes with RETRY. -/
def retryFetched (q : Nat) (d : Device) : Device :=
  if mayFetch d && fetchable d q then
    let x := takeEntry q d
    rejectEarly x.1 .retry x.2
  else d

/-- What the handler reads of the two copies: of each nothing where a line is uncorrectable, else its bytes with those that read
wrong. The first that reads is taken (R550). -/
def readCopy (d : Device) (reads : List (Option (List (Nat × Byte)))) : Option (List Byte) :=
  (List.range 2).findSome? (fun i => (reads.getD i none).map (fun wrong =>
    wrong.foldl (fun bs e => bs.set e.1 e.2) (d.pad.copies.getD i [])))

/-- The handler: the store is reloaded from a copy whose digest is the one that Paddock keeps, and the CP restarts; else it halts
(R550, R551). -/
def reloadStore (reads : List (Option (List (Nat × Byte)))) (d : Device) : Device :=
  match (readCopy d reads).filter (fun c => Config.sha384 c == d.pad.storeDigest) with
  | some c => raiseEvent 0x001 1 (ballIndex d) 0
      { d with host := { d.host with mcheck := false }, pad := { d.pad with store := loadStore c } }
  | none => raiseFault (plainFault 0x001 3 2 0) { d with power := { d.power with cpHalted := true }, disp := { d.disp with running := false } }

/-- MACHINE_CHECK: a bit of the word that the CP fetches from an address has turned over and its parity fails. With what the reads of the
two copies give, and the queues from which commands were fetched meanwhile. -/
def machineCheck (addr upset : Nat) (reads : List (Option (List (Nat × Byte)))) (fetched : List Nat) (d : Device) : Device :=
  if !cpRuns d then d
  else
    let d := { d with pad := { d.pad with store := upsetWord d.pad.store addr upset } }
    if parityHolds (fetchWord d.pad.store addr) then d
    else
      let d := raiseFault (plainFault 0x001 2 1 0) { d with host := { d.host with mcheck := true } }
      reloadStore reads (fetched.foldl (fun d q => retryFetched q d) d)

/-! ### Forwarded commands (R498) -/

/-- CMD: the member executes the command with the role of the issuing queue; a 513th waits on the issuing side. -/
def forwardedCommand (src q role : Nat) (p : Packet) (d : Device) : Device :=
  if 512 ≤ d.group.forwardedRunning then d
  else
    let r : Packet := { p with src := .forwarded src q role, target := 0xF000#16 ||| (p.target &&& 0x0FFF#16) }
    runPacket r { d with group := { d.group with forwardedRunning := d.group.forwardedRunning + 1 } }

/-! ### Mirrored commands (R500, R502, R509) -/

/-- Entries of the fields that a pair leaves out are stripped from a list of field changes (16 bytes each, the key first). -/
def stripList (bs : List Byte) : List Byte :=
  (List.range (bs.length / 16)).flatMap (fun i =>
    let e := (bs.drop (16 * i)).take 16
    if pairLeavesOut (getLe e 0 4) then [] else e)

/-- The command as the shadow runs it, and the blocks that it reads. -/
def shadowCommand (p : Packet) (actAt : Option Nat) (data : List (Nat × List Byte)) : Packet × List (Nat × List Byte) :=
  let q := actAtInstant { p with src := .mirrored } actAt
  let place := if p.opcode == 0x0100 then some 8 else if p.opcode == 0x0101 then some 16 else none
  match place with
  | none => (q, data)
  | some i =>
    let l := data.map (fun e => (e.1, stripList e.2))
    let n := ((l.map (fun e => e.2.length / 16)).foldl (· + ·) 0)
    ({ q with params := q.params.take i ++ leBytes 4 n ++ q.params.drop (i + 4) }, l)

/-- Run a command with the given bytes standing at the addresses of its blocks. -/
def withBlocks (data : List (Nat × List Byte)) (f : Device → Device) (d : Device) : Device :=
  let old := data.map (fun e => (e.1, (List.range e.2.length).map (fun i => memByte d.mem (e.1 + i))))
  let poison := d.poison
  let d := f (data.foldl (fun d e => memWrite e.1 e.2 d) d)
  { old.foldl (fun d e => memWrite e.1 e.2 d) d with poison := poison }

/-- A mirrored command at the shadow: run, counted and confirmed. A list of which no entry is left changes nothing. -/
def mirroredCommand (p : Packet) (actAt : Option Nat) (data : List (Nat × List Byte)) (d : Device) : Device :=
  if d.group.pairRole != 2 then d
  else
    let x := shadowCommand p actAt data
    let gone := (p.opcode == 0x0100 || (p.opcode == 0x0101 && pByte p 1 != 2)) && x.2.all (fun e => e.2.isEmpty)
    let d := if gone then d else withBlocks x.2 (runPacket x.1) d
    let d := { d with group := { d.group with mirroredCount := d.group.mirroredCount + 1, lastTag := p.tag.toNat } }
    sendMsg (d.group.pairPeer.getD 0) (.cmdMirror (.confirm p.tag.toNat)) d

/-- The shadow's confirmation at the primary: the final entry is written, now or once the command completes. -/
def confirmCommand (tag : Nat) (d : Device) : Device :=
  match d.group.unconfirmed.find? (fun u => u.tag == tag) with
  | some u => finish u.packet u.status u.reply { d with group := { d.group with unconfirmed := d.group.unconfirmed.erase u } }
  | none =>
    let l := d.group.awaiting
    let i := l.findIdx (fun x => x.1.tag.toNat == tag && !x.2)
    { d with group := { d.group with awaiting := (List.range l.length).zip l |>.map (fun x => if x.1 == i then (x.2.1, true) else x.2) } }

/-- CMD_MIRROR. -/
def cmdMirror (m : CmdMirrorMsg) (d : Device) : Device :=
  match m with
  | .command p actAt data => mirroredCommand p actAt data d
  | .confirm tag => confirmCommand tag d
  | .pairForm t streams g active staged overlays rings =>
    pairFormMsg (d.group.id / 2 * 2) t streams g active staged overlays rings d
  | .pairAnswer ok => pairAnswer ok d
  | .dissolve unmute => if d.group.pairFormed then dissolve unmute d else d
  | .takeoverAt t =>
    if d.group.pairRole == 2 && d.group.pairFormed then { d with group := { d.group with takeoverAt := some (none, t) } } else d
  | .switched => switchedMsg d

def execCommandFetch (ok : Bool) (s : State) : Host.Outcome State Fault Refusal := act (commandFetch ok) s
def execMboxSubmit (s : State) : Host.Outcome State Fault Refusal := act mboxSubmit s
def execSpiWrite (addr : Nat) (bytes : List Byte) (s : State) : Host.Outcome State Fault Refusal := act (spiWrite addr bytes) s
def execMachineCheck (addr : Fin 16384) (upset : Fin 148) (copies : List (Option (List (Nat × Byte)))) (fetched : List (Fin 64))
    (s : State) : Host.Outcome State Fault Refusal :=
  act (machineCheck addr.val upset.val copies (fetched.map (·.val))) s
def execCmd (src : Fin 8) (q role : Nat) (p : Packet) (s : State) : Host.Outcome State Fault Refusal :=
  act (forwardedCommand src.val q role p) s
def execCmdMirror (m : CmdMirrorMsg) (s : State) : Host.Outcome State Fault Refusal := act (cmdMirror m) s

end Sys2Proof.Machine
end

