-- ==== Sys2Proof/Machine/Dispatch.lean ====
section
/-! DEFINITION. One arm per command: the meaning of each row. -/

namespace Sys2Proof.Machine

def exec (i : Instr) (s : State) : Host.Outcome State Fault Refusal :=
  match i with
  | .nop p => Sys2Proof.Machine.execNop p s
  | .identify p => Sys2Proof.Machine.execIdentify p s
  | .getStatus p => Sys2Proof.Machine.execGetStatus p s
  | .sleep p => Sys2Proof.Machine.execSleep p s
  | .wake p => Sys2Proof.Machine.execWake p s
  | .wakeComplete failed words => Sys2Proof.Machine.execWakeComplete failed words s
  | .blockReset p => Sys2Proof.Machine.execBlockReset p s
  | .blockResetComplete src => Sys2Proof.Machine.execBlockResetComplete src s
  | .safeExit p => Sys2Proof.Machine.execSafeExit p s
  | .queueCreate p => Sys2Proof.Machine.execQueueCreate p s
  | .queueDelete p => Sys2Proof.Machine.execQueueDelete p s
  | .cfgWriteBase p => Sys2Proof.Machine.execCfgWriteBase p s
  | .cfgWriteOverlayReplace p => Sys2Proof.Machine.execCfgWriteOverlayReplace p s
  | .cfgWriteOverlayAppend p => Sys2Proof.Machine.execCfgWriteOverlayAppend p s
  | .cfgWriteOverlayFree p => Sys2Proof.Machine.execCfgWriteOverlayFree p s
  | .cfgRead p => Sys2Proof.Machine.execCfgRead p s
  | .cfgValidate p => Sys2Proof.Machine.execCfgValidate p s
  | .cfgCommit p => Sys2Proof.Machine.execCfgCommit p s
  | .cfgCommitGroup p => Sys2Proof.Machine.execCfgCommitGroup p s
  | .cfgAbort p => Sys2Proof.Machine.execCfgAbort p s
  | .clkSet p => Sys2Proof.Machine.execClkSet p s
  | .clkStatus p => Sys2Proof.Machine.execClkStatus p s
  | .loRampLoad p => Sys2Proof.Machine.execLoRampLoad p s
  | .calRun p => Sys2Proof.Machine.execCalRun p s
  | .calRead p => Sys2Proof.Machine.execCalRead p s
  | .calWrite p => Sys2Proof.Machine.execCalWrite p s
  | .maskLoad p => Sys2Proof.Machine.execMaskLoad p s
  | .windowLoad p => Sys2Proof.Machine.execWindowLoad p s
  | .disarm p => Sys2Proof.Machine.execDisarm p s
  | .arm p => Sys2Proof.Machine.execArm p s
  | .rearm p => Sys2Proof.Machine.execRearm p s
  | .trigArmAtSample => Sys2Proof.Machine.execTrigArmAtSample s
  | .trigForce p => Sys2Proof.Machine.execTrigForce p s
  | .trigStatus p => Sys2Proof.Machine.execTrigStatus p s
  | .tiuRun p => Sys2Proof.Machine.execTiuRun p s
  | .tiuRunAbort p => Sys2Proof.Machine.execTiuRunAbort p s
  | .yardAlloc p => Sys2Proof.Machine.execYardAlloc p s
  | .yardFree p => Sys2Proof.Machine.execYardFree p s
  | .dispCommit p => Sys2Proof.Machine.execDispCommit p s
  | .paletteLoad p => Sys2Proof.Machine.execPaletteLoad p s
  | .streamOpen p => Sys2Proof.Machine.execStreamOpen p s
  | .streamClose p => Sys2Proof.Machine.execStreamClose p s
  | .streamResume p => Sys2Proof.Machine.execStreamResume p s
  | .streamAck p => Sys2Proof.Machine.execStreamAck p s
  | .xferStart p => Sys2Proof.Machine.execXferStart p s
  | .xferResume p => Sys2Proof.Machine.execXferResume p s
  | .xferStop p => Sys2Proof.Machine.execXferStop p s
  | .xferAbort p => Sys2Proof.Machine.execXferAbort p s
  | .volCreate p => Sys2Proof.Machine.execVolCreate p s
  | .volMount p => Sys2Proof.Machine.execVolMount p s
  | .volUnmount p => Sys2Proof.Machine.execVolUnmount p s
  | .recStart p => Sys2Proof.Machine.execRecStart p s
  | .recStop p => Sys2Proof.Machine.execRecStop p s
  | .play p => Sys2Proof.Machine.execPlay p s
  | .recDelete p => Sys2Proof.Machine.execRecDelete p s
  | .segDefine p => Sys2Proof.Machine.execSegDefine p s
  | .segCopy p => Sys2Proof.Machine.execSegCopy p s
  | .segClear p => Sys2Proof.Machine.execSegClear p s
  | .seqLoad p => Sys2Proof.Machine.execSeqLoad p s
  | .genJump p => Sys2Proof.Machine.execGenJump p s
  | .genStart p => Sys2Proof.Machine.execGenStart p s
  | .genStop p => Sys2Proof.Machine.execGenStop p s
  | .genStatus p => Sys2Proof.Machine.execGenStatus p s
  | .kernelLoad p => Sys2Proof.Machine.execKernelLoad p s
  | .kernelBind p => Sys2Proof.Machine.execKernelBind p s
  | .kernelUnbind p => Sys2Proof.Machine.execKernelUnbind p s
  | .kernelStart p => Sys2Proof.Machine.execKernelStart p s
  | .kernelStop p => Sys2Proof.Machine.execKernelStop p s
  | .kernelStatus p => Sys2Proof.Machine.execKernelStatus p s
  | .groupForm p => Sys2Proof.Machine.execGroupForm p s
  | .groupLeave p => Sys2Proof.Machine.execGroupLeave p s
  | .groupStatus p => Sys2Proof.Machine.execGroupStatus p s
  | .groupSync p => Sys2Proof.Machine.execGroupSync p s
  | .pairForm p => Sys2Proof.Machine.execPairForm p s
  | .pairDissolve p => Sys2Proof.Machine.execPairDissolve p s
  | .pairStatus p => Sys2Proof.Machine.execPairStatus p s
  | .pairTakeover p => Sys2Proof.Machine.execPairTakeover p s
  | .faultAck p => Sys2Proof.Machine.execFaultAck p s
  | .faultReadRecords p => Sys2Proof.Machine.execFaultReadRecords p s
  | .faultReadLog p => Sys2Proof.Machine.execFaultReadLog p s
  | .faultReadLive p => Sys2Proof.Machine.execFaultReadLive p s
  | .faultReadEvents p => Sys2Proof.Machine.execFaultReadEvents p s
  | .eventMap p => Sys2Proof.Machine.execEventMap p s
  | .faultDump p => Sys2Proof.Machine.execFaultDump p s
  | .authChallenge p => Sys2Proof.Machine.execAuthChallenge p s
  | .authResponse p => Sys2Proof.Machine.execAuthResponse p s
  | .authEnd p => Sys2Proof.Machine.execAuthEnd p s
  | .keyGenerate p => Sys2Proof.Machine.execKeyGenerate p s
  | .keyImport p => Sys2Proof.Machine.execKeyImport p s
  | .keyExport p => Sys2Proof.Machine.execKeyExport p s
  | .keyDestroy p => Sys2Proof.Machine.execKeyDestroy p s
  | .keyWrapStatus p => Sys2Proof.Machine.execKeyWrapStatus p s
  | .zeroize p => Sys2Proof.Machine.execZeroize p s
  | .zeroizePermanent p => Sys2Proof.Machine.execZeroizePermanent p s
  | .selfTest p => Sys2Proof.Machine.execSelfTest p s
  | .imageUpdateWrite p => Sys2Proof.Machine.execImageUpdateWrite p s
  | .commitVersion p => Sys2Proof.Machine.execCommitVersion p s
  | .imageUpdateStatus p => Sys2Proof.Machine.execImageUpdateStatus p s
  | .teleRead p => Sys2Proof.Machine.execTeleRead p s
  | .powerCap p => Sys2Proof.Machine.execPowerCap p s
  | .enable => Sys2Proof.Machine.execEnable s
  | .enableClear => Sys2Proof.Machine.execEnableClear s
  | .sqTailDoorbell q v => Sys2Proof.Machine.execSqTailDoorbell q v s
  | .cqHeadDoorbell q v => Sys2Proof.Machine.execCqHeadDoorbell q v s
  | .fetchErrorClear q => Sys2Proof.Machine.execFetchErrorClear q s
  | .writeErrorClear q => Sys2Proof.Machine.execWriteErrorClear q s
  | .bootPush v ok => Sys2Proof.Machine.execBootPush v ok s
  | .registerWrite off size8 v => Sys2Proof.Machine.execRegisterWrite off size8 v s
  | .msixUnmask vector => Sys2Proof.Machine.execMsixUnmask vector s
  | .functionLevelReset => Sys2Proof.Machine.execFunctionLevelReset s
  | .configRequest r => Sys2Proof.Machine.execConfigRequest r s
  | .bar2Write off bytes => Sys2Proof.Machine.execBar2Write off bytes s
  | .bar2Read off len => Sys2Proof.Machine.execBar2Read off len s
  | .bar4Write off bytes => Sys2Proof.Machine.execBar4Write off bytes s
  | .bar4Read off len => Sys2Proof.Machine.execBar4Read off len s
  | .commandFetch ok => Sys2Proof.Machine.execCommandFetch ok s
  | .completionWrite q ok => Sys2Proof.Machine.execCompletionWrite q ok s
  | .coalesceTimeout q => Sys2Proof.Machine.execCoalesceTimeout q s
  | .spiRead addr n => Sys2Proof.Machine.execSpiRead addr n s
  | .spiWrite addr bytes => Sys2Proof.Machine.execSpiWrite addr bytes s
  | .readStatus => Sys2Proof.Machine.execReadStatus s
  | .mboxSubmit => Sys2Proof.Machine.execMboxSubmit s
  | .machineCheck addr upset copies fetched => Sys2Proof.Machine.execMachineCheck addr upset copies fetched s
  | .sampleDelivery ch codes => Sys2Proof.Machine.execSampleDelivery ch codes s
  | .tokenForm => Sys2Proof.Machine.execTokenForm s
  | .tokenAdopt b upTo => Sys2Proof.Machine.execTokenAdopt b upTo s
  | .bandSearchDone syn found periods => Sys2Proof.Machine.execBandSearchDone syn found periods s
  | .lockDetect syn => Sys2Proof.Machine.execLockDetect syn s
  | .relockTimeout syn => Sys2Proof.Machine.execRelockTimeout syn s
  | .lossOfLock syn => Sys2Proof.Machine.execLossOfLock syn s
  | .referenceLost hz => Sys2Proof.Machine.execReferenceLost s hz
  | .referenceQualified hz => Sys2Proof.Machine.execReferenceQualified s hz
  | .slewComplete => Sys2Proof.Machine.execSlewComplete s
  | .rampStep crossing => Sys2Proof.Machine.execRampStep crossing s
  | .bandCrossingMuteEnd => Sys2Proof.Machine.execBandCrossingMuteEnd s
  | .droneFallback => Sys2Proof.Machine.execDroneFallback s
  | .systemClockFailure => Sys2Proof.Machine.execSystemClockFailure s
  | .temperatureSample ch t => Sys2Proof.Machine.execTemperatureSample ch t s
  | .calibrationStepEnd work blocks => Sys2Proof.Machine.execCalibrationStepEnd work blocks s
  | .calibrationRunEnd work => Sys2Proof.Machine.execCalibrationRunEnd work s
  | .verificationEnd work sums => Sys2Proof.Machine.execVerificationEnd work sums s
  | .handOver work => Sys2Proof.Machine.execHandOver work s
  | .runTimeout work => Sys2Proof.Machine.execRunTimeout work s
  | .calibrationRetry ch => Sys2Proof.Machine.execCalibrationRetry ch s
  | .healthCheck ch pos sums => Sys2Proof.Machine.execHealthCheck ch pos sums s
  | .setHandOver ch => Sys2Proof.Machine.execSetHandOver ch s
  | .laneSample ch lane => Sys2Proof.Machine.execLaneSample ch lane s
  | .frameCompute ch slot => Sys2Proof.Machine.execFrameCompute ch slot s
  | .envelopeEvaluate unit => Sys2Proof.Machine.execEnvelopeEvaluate unit s
  | .frequencyUnitEvaluate unit => Sys2Proof.Machine.execFrequencyUnitEvaluate unit s
  | .sequencerEvaluate => Sys2Proof.Machine.execSequencerEvaluate s
  | .fastEvent => Sys2Proof.Machine.execFastEvent s
  | .timerExpiry tm => Sys2Proof.Machine.execTimerExpiry tm s
  | .transitionTimer t => Sys2Proof.Machine.execTransitionTimer t s
  | .trigOutPulseEnd o => Sys2Proof.Machine.execTrigOutPulseEnd o s
  | .windowAutoClose w => Sys2Proof.Machine.execWindowAutoClose w s
  | .actionArrival => Sys2Proof.Machine.execActionArrival s
  | .stampDecide ch lane => Sys2Proof.Machine.execStampDecide ch lane s
  | .measurementComplete w => Sys2Proof.Machine.execMeasurementComplete w s
  | .jumpRequestArrival gen => Sys2Proof.Machine.execJumpRequestArrival gen s
  | .busLineRelease line => Sys2Proof.Machine.execBusLineRelease line s
  | .edgeStamp input rising interp stamp => Sys2Proof.Machine.execEdgeStamp input rising interp stamp s
  | .indexTick stamp => Sys2Proof.Machine.execIndexTick stamp s
  | .interpolatorCalibration input interp sum1 sum2 => Sys2Proof.Machine.execInterpolatorCalibration input interp sum1 sum2 s
  | .runCalibrationComplete => Sys2Proof.Machine.execRunCalibrationComplete s
  | .pendingStartExpiry => Sys2Proof.Machine.execPendingStartExpiry s
  | .tiuTimeout => Sys2Proof.Machine.execTiuTimeout s
  | .spectrumIntake map => Sys2Proof.Machine.execSpectrumIntake map s
  | .drainComplete map => Sys2Proof.Machine.execDrainComplete map s
  | .colourFrameComplete map => Sys2Proof.Machine.execColourFrameComplete map s
  | .latchInstant => Sys2Proof.Machine.execLatchInstant s
  | .displayFrameStart lines => Sys2Proof.Machine.execDisplayFrameStart s lines
  | .lineFetch line late => Sys2Proof.Machine.execLineFetch line late s
  | .hotPlug port sink => Sys2Proof.Machine.execHotPlug port sink s
  | .unplug port => Sys2Proof.Machine.execUnplug port s
  | .linkTrained port lanes rate => Sys2Proof.Machine.execLinkTrained port lanes rate s
  | .linkLost port => Sys2Proof.Machine.execLinkLost port s
  | .recordArrival stream => Sys2Proof.Machine.execRecordArrival stream s
  | .ringWriteComplete stream => Sys2Proof.Machine.execRingWriteComplete stream s
  | .epochRecordWrite stream => Sys2Proof.Machine.execEpochRecordWrite stream s
  | .stateBlockWrite stream => Sys2Proof.Machine.execStateBlockWrite stream s
  | .descriptorFetch ch => Sys2Proof.Machine.execDescriptorFetch ch s
  | .ownPoll ch => Sys2Proof.Machine.execOwnPoll ch s
  | .burstIssue ch => Sys2Proof.Machine.execBurstIssue ch s
  | .burstComplete ch how => Sys2Proof.Machine.execBurstComplete ch how s
  | .descriptorComplete ch => Sys2Proof.Machine.execDescriptorComplete ch s
  | .requestLineTimeout ch => Sys2Proof.Machine.execRequestLineTimeout ch s
  | .unitWriteComplete rec => Sys2Proof.Machine.execUnitWriteComplete rec s
  | .checkpoint => Sys2Proof.Machine.execCheckpoint s
  | .smartPoll port percent critical => Sys2Proof.Machine.execSmartPoll port percent critical s
  | .deallocationBatch port => Sys2Proof.Machine.execDeallocationBatch port s
  | .nvmeCompletion port ok => Sys2Proof.Machine.execNvmeCompletion port ok s
  | .nvmeCommandTimeout port => Sys2Proof.Machine.execNvmeCommandTimeout port s
  | .driveLinkDown port => Sys2Proof.Machine.execDriveLinkDown port s
  | .playbackRead ok authOk => Sys2Proof.Machine.execPlaybackRead ok authOk s
  | .decisionPoint gen => Sys2Proof.Machine.execDecisionPoint gen s
  | .segmentBoundary gen => Sys2Proof.Machine.execSegmentBoundary gen s
  | .startBoundary gen => Sys2Proof.Machine.execStartBoundary gen s
  | .markerPulseEnd gen m => Sys2Proof.Machine.execMarkerPulseEnd gen m s
  | .entryMemoryWrite gen entry value => Sys2Proof.Machine.execEntryMemoryWrite gen entry value s
  | .reedNop core => Sys2Proof.Machine.execReedNop core s
  | .vstep core => Sys2Proof.Machine.execVstep core s
  | .vmac core => Sys2Proof.Machine.execVmac core s
  | .vmul core => Sys2Proof.Machine.execVmul core s
  | .vmacb core => Sys2Proof.Machine.execVmacb core s
  | .vcmac core => Sys2Proof.Machine.execVcmac core s
  | .vcmul core => Sys2Proof.Machine.execVcmul core s
  | .vpwr core => Sys2Proof.Machine.execVpwr core s
  | .accclr core => Sys2Proof.Machine.execAccclr core s
  | .accadd core => Sys2Proof.Machine.execAccadd core s
  | .accsum core => Sys2Proof.Machine.execAccsum core s
  | .vrnd core => Sys2Proof.Machine.execVrnd core s
  | .vadd core => Sys2Proof.Machine.execVadd core s
  | .vsub core => Sys2Proof.Machine.execVsub core s
  | .vmax core => Sys2Proof.Machine.execVmax core s
  | .vmin core => Sys2Proof.Machine.execVmin core s
  | .vshr core => Sys2Proof.Machine.execVshr core s
  | .vshl core => Sys2Proof.Machine.execVshl core s
  | .valign core => Sys2Proof.Machine.execValign core s
  | .vmov core => Sys2Proof.Machine.execVmov core s
  | .vbcast core => Sys2Proof.Machine.execVbcast core s
  | .vconj core => Sys2Proof.Machine.execVconj core s
  | .seta core => Sys2Proof.Machine.execSeta core s
  | .setm core => Sys2Proof.Machine.execSetm core s
  | .adda core => Sys2Proof.Machine.execAdda core s
  | .lda core => Sys2Proof.Machine.execLda core s
  | .loop core => Sys2Proof.Machine.execLoop core s
  | .br core => Sys2Proof.Machine.execBr core s
  | .bget core => Sys2Proof.Machine.execBget core s
  | .bput core => Sys2Proof.Machine.execBput core s
  | .evt core => Sys2Proof.Machine.execEvt core s
  | .sig core => Sys2Proof.Machine.execSig core s
  | .xfer core => Sys2Proof.Machine.execXfer core s
  | .xwait core => Sys2Proof.Machine.execXwait core s
  | .stop core => Sys2Proof.Machine.execStop core s
  | .batchDelivery binding => Sys2Proof.Machine.execBatchDelivery binding s
  | .windowTransferComplete core => Sys2Proof.Machine.execWindowTransferComplete core s
  | .watchdog core => Sys2Proof.Machine.execWatchdog core s
  | .yardRequest ch arriving err => Sys2Proof.Machine.execYardRequest ch arriving err s
  | .agePromotion ch idx => Sys2Proof.Machine.execAgePromotion ch idx s
  | .refresh ch rank => Sys2Proof.Machine.execRefresh ch rank s
  | .mr4Poll ch m => Sys2Proof.Machine.execMr4Poll ch m s
  | .patrolScrubRead ch err written => Sys2Proof.Machine.execPatrolScrubRead ch err written s
  | .correctableErrorHour => Sys2Proof.Machine.execCorrectableErrorHour s
  | .alertN ch sub => Sys2Proof.Machine.execAlertN ch sub s
  | .replayComplete ch sub => Sys2Proof.Machine.execReplayComplete ch sub s
  | .loftScrubAccess bank ecc use => Sys2Proof.Machine.execLoftScrubAccess bank ecc use s
  | .portTerminationDetect port => Sys2Proof.Machine.execPortTerminationDetect port s
  | .portTrainingComplete port trained id serial version => Sys2Proof.Machine.execPortTrainingComplete port trained id serial version s
  | .linkFrameReceive port frame => Sys2Proof.Machine.execLinkFrameReceive port frame s
  | .nak port ack => Sys2Proof.Machine.execNak port ack s
  | .shunisLinkDown port => Sys2Proof.Machine.execShunisLinkDown port s
  | .busAssert src mask instant emit => Sys2Proof.Machine.execBusAssert src mask instant emit s
  | .ping src emit => Sys2Proof.Machine.execPing src emit s
  | .pong src emit => Sys2Proof.Machine.execPong src emit s
  | .heartbeatSend => Sys2Proof.Machine.execHeartbeatSend s
  | .heartbeat onPort3 index keySeq status => Sys2Proof.Machine.execHeartbeat onPort3 index keySeq status s
  | .heartbeatTimeout => Sys2Proof.Machine.execHeartbeatTimeout s
  | .fatalNotice source kind => Sys2Proof.Machine.execFatalNotice source kind s
  | .fence => Sys2Proof.Machine.execFence s
  | .cmd src q role p => Sys2Proof.Machine.execCmd src q role p s
  | .cpl src tag status reply => Sys2Proof.Machine.execCpl src tag status reply s
  | .prepare src epoch generation content mask => Sys2Proof.Machine.execPrepare src epoch generation content mask s
  | .armed src => Sys2Proof.Machine.execArmed src s
  | .refused src status => Sys2Proof.Machine.execRefused src status s
  | .abort src => Sys2Proof.Machine.execAbort src s
  | .applied src => Sys2Proof.Machine.execApplied src s
  | .armDeadline => Sys2Proof.Machine.execArmDeadline s
  | .appliedTimeout => Sys2Proof.Machine.execAppliedTimeout s
  | .form src m => Sys2Proof.Machine.execForm src m s
  | .syncCtl src m => Sys2Proof.Machine.execSyncCtl src m s
  | .syncPulse => Sys2Proof.Machine.execSyncPulse s
  | .sync capture => Sys2Proof.Machine.execSync capture s
  | .syncCaptureTimeout => Sys2Proof.Machine.execSyncCaptureTimeout s
  | .externalSyncTimeout => Sys2Proof.Machine.execExternalSyncTimeout s
  | .keyLog k => Sys2Proof.Machine.execKeyLog k s
  | .keyMatchTimeout stream => Sys2Proof.Machine.execKeyMatchTimeout stream s
  | .ackMirror confirm tag stream seq offset => Sys2Proof.Machine.execAckMirror confirm tag stream seq offset s
  | .cmdMirror m => Sys2Proof.Machine.execCmdMirror m s
  | .memMirror m => Sys2Proof.Machine.execMemMirror m s
  | .pairTakeoverAct => Sys2Proof.Machine.execPairTakeoverAct s
  | .domainPowerUp bit => Sys2Proof.Machine.execDomainPowerUp bit s
  | .domainPowerDown bit => Sys2Proof.Machine.execDomainPowerDown bit s
  | .avsUpdate mv => Sys2Proof.Machine.execAvsUpdate mv s
  | .throttleEvaluate power temp => Sys2Proof.Machine.execThrottleEvaluate power temp s
  | .powerCapUnreachable => Sys2Proof.Machine.execPowerCapUnreachable s
  | .overTemperature t => Sys2Proof.Machine.execOverTemperature t s
  | .pmbAlert statuses => Sys2Proof.Machine.execPmbAlert statuses s
  | .railGood reading => Sys2Proof.Machine.execRailGood reading s
  | .railTimeout r => Sys2Proof.Machine.execRailTimeout r s
  | .telemetrySample r => Sys2Proof.Machine.execTelemetrySample r s
  | .sleepSample r => Sys2Proof.Machine.execSleepSample r s
  | .cpClockStop => Sys2Proof.Machine.execCpClockStop s
  | .timedWake => Sys2Proof.Machine.execTimedWake s
  | .wakeTrig => Sys2Proof.Machine.execWakeTrig s
  | .porAssert => Sys2Proof.Machine.execPorAssert s
  | .porDeassert b => Sys2Proof.Machine.execPorDeassert b s
  | .vddAonLow => Sys2Proof.Machine.execVddAonLow s
  | .perstAssert => Sys2Proof.Machine.execPerstAssert s
  | .zeroizePin ns => Sys2Proof.Machine.execZeroizePin ns s
  | .faultMessage m => Sys2Proof.Machine.execFaultMessage m s
  | .liveBitTimeout src kind => Sys2Proof.Machine.execLiveBitTimeout src kind s
  | .reactionWindowClose idx => Sys2Proof.Machine.execReactionWindowClose idx s
  | .nonceExpiry q => Sys2Proof.Machine.execNonceExpiry q s
  | .lockoutEnd => Sys2Proof.Machine.execLockoutEnd s
  | .periodicSelfTest pass => Sys2Proof.Machine.execPeriodicSelfTest pass s
  | .tapInstruction t => Sys2Proof.Machine.execTapInstruction t s
  | .perstDeassert => Sys2Proof.Machine.execPerstDeassert s
  | .yardBringUpComplete found => Sys2Proof.Machine.execYardBringUpComplete found s
  | .storageLinkUp port d => Sys2Proof.Machine.execStorageLinkUp port d s
  | .outputBlockComplete core => Sys2Proof.Machine.execOutputBlockComplete core s
  | .markerChangePoint gen => Sys2Proof.Machine.execMarkerChangePoint gen s
  | .trigForceAtSample => Sys2Proof.Machine.execTrigForceAtSample s

end Sys2Proof.Machine
end

