-- ==== Sys2Proof/Machine/Step.lean ====
section
/-! DEFINITION. One step: the command at the front of the queue, or a nanosecond of device time on an empty queue. -/

namespace Sys2Proof.Machine

/-- Take the front command and run it with the queue's rest; on an empty queue device time advances by one nanosecond
(DESIGN CHOICE, log entry 1). -/
def step (s : State) : Host.Outcome State Fault Refusal :=
  match s.pending with
  | [] => .next { s with dev := Sys2Proof.Machine.tickDevice s.dev }
  | c :: rest => exec c { s with pending := rest }

/-- The table gives no bits to any row, so no word spells a command and the state stays (log entry 2). -/
def State.withFetchWord (s : State) (nbits w : Nat) : State :=
  match decodeTableWord nbits w with
  | some c => { s with pending := c :: s.pending }
  | none => s

end Sys2Proof.Machine
end

