-- ==== Sys2Proof/Safety.lean ====
section
/-! DEFINITION. What a sound state and a safe run are, and the words the statements use for "the command passes its acceptance checks"
and "the block has become this device". -/

namespace Sys2Proof.Safety

open Sys2Proof.Machine

/-- The memory of the state is in its canonical form. -/
def MemoryCanonical (s : State) : Prop := memoryWf s.dev.mem = true

/-- A step of the block answers a next state. -/
def Runs (s : State) : Prop := ∃ t, step s = .next t

/-- No stall holds more than its high-water mark says it ever held (R23). -/
def MarksHold (s : State) : Prop :=
  ∀ x ∈ allStalls s.dev, stallOccupancy s.dev x.1 x.2 ≤ tget 0 s.dev.marks (markKey x)

/-- The state in which a command leaves the block: the device `d` with its high-water marks brought up to date (R23), the queue of
waiting commands untouched. -/
def after (s : State) (d : Device) : State := { s with dev := noteMarks d }

/-- The packet carries the opcode and passes every check of R436 at this device: the CP runs, no machine check is under way, the header
is well formed, its tag is free, it addresses this device, state, mailbox, role and pair permit it, and its op byte is one that the
command has. A command that the primary of a pair mirrors is told apart. -/
def admitted (d : Device) (op : Nat) (p : Packet) : Bool :=
  p.opcode == op && cpRuns d && !d.host.mcheck
    && (match cmdSpec op with
        | some c => headerOk d c p && executeCheck d c p == none
        | none => false)
    && !(isQueue p && tagInFlight d p.tag.toNat) && targetsSelf d p && !opReserved p && !(mirroring d && mirroredClass p && mirrorSource p)

/-- What acceptance itself does: the tag of a command from a submission queue is held (R32), and the command passes stall 0x21. -/
def taken (p : Packet) (d : Device) : Device := toPort p (if isQueue p then holdTag p none d else d)

/-! ### Command packets (R434) -/

/-- The rows of the table that are a command packet (R434), by the instruction each makes of its packet. -/
def packetRows : List (Packet → Instr) :=
  [.nop, .identify, .getStatus, .sleep, .wake, .blockReset, .safeExit, .queueCreate, .queueDelete, .cfgWriteBase,
   .cfgWriteOverlayReplace, .cfgWriteOverlayAppend, .cfgWriteOverlayFree, .cfgRead, .cfgValidate, .cfgCommit,
   .cfgCommitGroup, .cfgAbort, .clkSet, .clkStatus, .loRampLoad, .calRun, .calRead, .calWrite, .maskLoad,
   .windowLoad, .disarm, .arm, .rearm, .trigForce, .trigStatus, .tiuRun, .tiuRunAbort]
  ++ [.yardAlloc, .yardFree, .dispCommit, .paletteLoad, .streamOpen, .streamClose, .streamResume, .streamAck,
   .xferStart, .xferResume, .xferStop, .xferAbort, .volCreate, .volMount, .volUnmount, .recStart, .recStop, .play,
   .recDelete, .segDefine, .segCopy, .segClear, .seqLoad, .genJump, .genStart, .genStop, .genStatus, .kernelLoad,
   .kernelBind, .kernelUnbind, .kernelStart, .kernelStop, .kernelStatus]
  ++ [.groupForm, .groupLeave, .groupStatus, .groupSync, .pairForm, .pairDissolve, .pairStatus, .pairTakeover,
   .faultAck, .faultReadRecords, .faultReadLog, .faultReadLive, .faultReadEvents, .eventMap, .faultDump,
   .authChallenge, .authResponse, .authEnd, .keyGenerate, .keyImport, .keyExport, .keyDestroy, .keyWrapStatus,
   .zeroize, .zeroizePermanent, .selfTest, .imageUpdateWrite, .commitVersion, .imageUpdateStatus, .teleRead, .powerCap]

/-- Opcode and defined parameter bytes of the rows whose own first check is that the others are zero (R10). -/
def reservedRows : List ((Packet → Instr) × Nat × List (Nat × Nat)) :=
  [(.nop, 0x0000, []), (.identify, 0x0001, []), (.getStatus, 0x0002, []), (.sleep, 0x0003, [(0, 9)]),
   (.wake, 0x0004, []), (.blockReset, 0x0005, []), (.safeExit, 0x0006, []), (.queueDelete, 0x0009, [(0, 2)]),
   (.cfgWriteBase, 0x0100, [(0, 12)]), (.cfgWriteOverlayReplace, 0x0101, [(0, 2), (8, 12)]),
   (.cfgWriteOverlayAppend, 0x0101, [(0, 2), (8, 12)]), (.cfgWriteOverlayFree, 0x0101, [(0, 2), (8, 12)]),
   (.cfgRead, 0x0102, [(0, 5)]), (.cfgValidate, 0x0103, [(0, 19)]), (.cfgCommit, 0x0104, [(0, 19)]),
   (.cfgCommitGroup, 0x0104, [(0, 19)]), (.cfgAbort, 0x0105, [(0, 3)]), (.clkSet, 0x0200, [(0, 1), (8, 8)]),
   (.clkStatus, 0x0201, [(0, 8)]), (.loRampLoad, 0x0202, [(0, 1), (2, 2), (8, 8)]), (.calRun, 0x0300, [(0, 2)]),
   (.calRead, 0x0301, [(0, 2), (8, 16)]), (.calWrite, 0x0302, [(0, 2), (8, 8)]),
   (.maskLoad, 0x0500, [(0, 1), (8, 8)]), (.windowLoad, 0x0501, [(0, 2), (8, 8)]),
   (.disarm, 0x0600, [(0, 3), (8, 8)]), (.arm, 0x0600, [(0, 3), (8, 8)]), (.rearm, 0x0600, [(0, 3), (8, 8)])]
  ++ [(.trigForce, 0x0601, [(2, 1), (8, 8)]), (.trigStatus, 0x0602, [(0, 8)]), (.tiuRun, 0x0700, [(0, 3), (4, 44)]),
   (.tiuRunAbort, 0x0700, [(0, 3), (4, 44)]), (.yardAlloc, 0x0800, [(0, 8)]), (.yardFree, 0x0801, [(0, 2)]),
   (.dispCommit, 0x0802, [(0, 1), (2, 4), (8, 28)]), (.paletteLoad, 0x0803, [(0, 1), (8, 8)]),
   (.streamOpen, 0x0900, [(0, 3)]), (.streamClose, 0x0900, [(0, 2)]), (.streamResume, 0x0900, [(0, 2)]),
   (.streamAck, 0x0901, [(0, 2), (8, 16)]), (.xferStart, 0x0902, [(0, 2), (8, 8)]),
   (.xferResume, 0x0902, [(0, 2), (8, 8)]), (.xferStop, 0x0902, [(0, 2), (8, 8)]),
   (.xferAbort, 0x0902, [(0, 2), (8, 8)]), (.volCreate, 0x0A00, [(0, 6), (8, 20)]),
   (.volMount, 0x0A00, [(0, 6), (8, 20)]), (.volUnmount, 0x0A00, [(0, 6), (8, 20)]),
   (.recStart, 0x0A01, [(0, 3), (8, 24)]), (.recStop, 0x0A02, [(0, 5), (8, 8)]), (.play, 0x0A03, [(0, 2), (4, 24)]),
   (.recDelete, 0x0A04, [(0, 4)]), (.segDefine, 0x0B00, [(0, 12), (16, 8)]), (.segCopy, 0x0B00, [(0, 12), (16, 8)]),
   (.segClear, 0x0B00, [(0, 12), (16, 8)]), (.seqLoad, 0x0B01, [(0, 2), (4, 12)]), (.genJump, 0x0B02, [(0, 4)])]
  ++ [(.genStart, 0x0B02, [(0, 5), (8, 8)]), (.genStop, 0x0B02, [(0, 2)]), (.genStatus, 0x0B02, [(0, 2), (16, 8)]),
   (.kernelLoad, 0x0C00, [(0, 17)]), (.kernelBind, 0x0C01, [(0, 41), (42, 2)]),
   (.kernelUnbind, 0x0C01, [(0, 41), (42, 2)]), (.kernelStart, 0x0C01, [(0, 41), (42, 2)]),
   (.kernelStop, 0x0C01, [(0, 41), (42, 2)]), (.kernelStatus, 0x0C01, [(0, 41), (42, 2)]),
   (.groupForm, 0x0D00, [(0, 2)]), (.groupLeave, 0x0D00, [(0, 2)]), (.groupStatus, 0x0D00, [(0, 2)]),
   (.groupSync, 0x0D01, [(0, 1)]), (.pairForm, 0x0D02, [(0, 3), (8, 40)]), (.pairDissolve, 0x0D02, [(0, 3)]),
   (.pairStatus, 0x0D02, [(0, 2)]), (.pairTakeover, 0x0D03, [(1, 2), (8, 8)]), (.faultAck, 0x0E00, [(0, 1), (8, 8)]),
   (.faultReadRecords, 0x0E01, [(0, 1), (4, 12)]), (.faultReadLog, 0x0E01, [(0, 1), (4, 12)]),
   (.faultReadLive, 0x0E01, [(0, 1), (4, 12)]), (.faultReadEvents, 0x0E01, [(0, 1), (4, 12)]),
   (.eventMap, 0x0E02, [(0, 5), (8, 8)]), (.faultDump, 0x0E03, [(8, 12)]),
   (.keyWrapStatus, 0x0F03, [(0, 3), (8, 8)]), (.zeroize, 0x0F04, [(0, 1), (8, 4)]),
   (.zeroizePermanent, 0x0F04, [(0, 1), (8, 4)]), (.imageUpdateStatus, 0x0F06, [(0, 1), (8, 12)])]
  ++ [(.teleRead, 0x1000, [(0, 1), (8, 8)]), (.powerCap, 0x1001, [(0, 2)])]

/-- The same for the rows of Paddock, which answer DENIED first in the error state (R562). -/
def reservedPaddockRows : List ((Packet → Instr) × Nat × List (Nat × Nat)) :=
  [(.authChallenge, 0x0F00, [(0, 1)]), (.authResponse, 0x0F01, [(0, 1), (16, 96)]), (.authEnd, 0x0F02, []),
   (.keyGenerate, 0x0F03, [(0, 3), (8, 8)]), (.keyImport, 0x0F03, [(0, 3), (8, 8)]),
   (.keyExport, 0x0F03, [(0, 3), (8, 8)]), (.keyDestroy, 0x0F03, [(0, 3), (8, 8)]), (.selfTest, 0x0F05, [(0, 1)]),
   (.imageUpdateWrite, 0x0F06, [(0, 1), (8, 12)]), (.commitVersion, 0x0F06, [(0, 1), (8, 12)])]

/-! ### A Reed core about to issue -/

/-- Core `n` runs, waits for nothing, and its next instruction is the word `w`, which R386 does not call illegal. -/
def issuesNext (d : Device) (n w : Nat) : Bool :=
  let v := Machine.core d n
  v.mode == .running && v.wait == .none && v.stopping.isEmpty && (tget 0 v.program v.pc).toNat == w && !illegal w

/-- The core with every write settled that is visible at its issue position (R387). -/
def settled (d : Device) (n : Nat) : ReedCore := settleWrites (Machine.core d n).position (Machine.core d n)

/-- The writes of an instruction clash with none on their way, and its moves raise no exception (R388, R410). -/
def issuesClean (v : ReedCore) (w : Nat) (ws : List (Nat × CoreWrite)) : Bool :=
  !clash v ws && !(moves w).any (moveOdd v) && !(moves w).any (moveBeyond v)

/-- The writes of the moves of an instruction (R383). -/
def moved (v : ReedCore) (w : Nat) : List (Nat × CoreWrite) := (moves w).flatMap (moveWrites v)

end Sys2Proof.Safety
end

