-- ==== Sys2Proof/Certificates/Slice0/Obligations.lean ====
section
/-! DEFINITION. The statements for the provers. First the rules of the whole block (a step, reset, acceptance, memory, queues, stalls,
check 1 of a commit), then the commands and events of the table, family by family. `admitted s.dev op p` says that the packet passes the
checks of R436; `after s d` is the state that a command leaves with the device `d`, its high-water marks noted (R23). Every row's
statement gives its whole next state, so it states its frame as well: what `d` does not mention is as before. -/

open Sys2Proof Sys2Proof.Machine Sys2Proof.Safety

/-- A step runs the command at the front of the queue; an empty queue lets a nanosecond pass. With the command c at the front, a
step is exec of c on the state with the queue's rest. On an empty queue device time advances by one nanosecond and nothing
else changes: that is the model's choice, log entry 1. -/
def Obligations.StepRunsFront : Prop :=
  (∀ (c : Instr) (rest : List Instr) (s : State), step { s with pending := c :: rest } = exec c { s with pending := rest })
  ∧ (∀ s : State, s.pending = [] → step s = .next { s with dev := { s.dev with time := (s.dev.time + 1) % 2 ^ 64 } })

/-- State.reset holds the values that the spec gives after POR#, and meets the invariants. Every field of the configuration reads
its reset value, no field is dirty, no overlay is stored and the generation is zero (R50); every core is STOPPED with an
empty program and no binding exists (R415); every transfer channel is IDLE (R345); the power cap is 230 W (R533); no queue
exists; sample index and device time are zero, fault log and inbox empty; memory is in its canonical form, and no stall holds
more than its high-water mark says (R23). That unlisted memory reads as zero is the model's choice, log entry 3. -/
def Obligations.ResetState : Prop :=
  (∀ key, cfgVal State.reset.dev key = fieldReset key)
  ∧ (∀ a, memByte State.reset.dev.mem a = 0)
  ∧ (∀ ci, (cplQueue State.reset.dev ci).live = false) ∧ (∀ q, (subQueue State.reset.dev q).live = false)
  ∧ (∀ n, (Machine.core State.reset.dev n).mode = .stopped ∧ (Machine.core State.reset.dev n).program = [] ∧ binding State.reset.dev n = none)
  ∧ (∀ n, (chan State.reset.dev n).state = .idle)
  ∧ (∀ n, isOpen (stream State.reset.dev n) = false)
  ∧ State.reset.dev.cfg.generation = 0 ∧ State.reset.dev.cfg.dirty = [] ∧ State.reset.dev.cfg.overlays = []
  ∧ State.reset.dev.cfg.pendingCommits = [] ∧ State.reset.dev.sampleIndex = 0 ∧ State.reset.dev.time = 0
  ∧ State.reset.dev.power.capW = 230 ∧ State.reset.dev.fault.log = [] ∧ State.reset.dev.fault.inbox = []
  ∧ State.reset.pending = [] ∧ MemoryCanonical State.reset ∧ MarksHold State.reset

/-- Every command answers a next state, except the debug instructions of Mehrik under mode 2. For every command and every state
exec answers a next state that keeps the queue of waiting commands. The one exception is a TAP instruction of the Mehrik
debug set while jtag_mode permits it: the spec gives it no effect, and it is refused by name. -/
def Obligations.EveryCommandRuns : Prop :=
  ∀ (c : Instr) (s : State),
    (∃ t, exec c s = .next t ∧ t.pending = s.pending)
  ∨ (∃ code, c = .tapInstruction (.mehrikDebug code) ∧ 2 ≤ jtagMode s.dev ∧ exec c s = .refused .mehrikDebug)

/-- No step lets a stall hold more than its high-water mark. From every state in which no stall holds more than its high-water
mark, every step that answers a next state leads to such a state: of every instance that then exists, the mark is at least
the occupancy. -/
def Obligations.MarksKept : Prop :=
  ∀ s t : State, MarksHold s → step s = .next t → MarksHold t

/-- Memory reads back what was written, and a write touches no other byte. In canonical memory a write keeps the canonical form,
each written byte reads back, every other byte keeps its value, and a number written as n bytes reads back modulo 256^n, the
least significant byte at the lowest address. -/
def Obligations.MemoryReadsBack : Prop :=
  ∀ (a : Nat) (bs : List Byte) (d : Device), MemoryCanonical { dev := d, pending := [] } →
      MemoryCanonical { dev := memWrite a bs d, pending := [] }
  ∧ (∀ x, a ≤ x → x < a + bs.length → memByte (memWrite a bs d).mem x = bs.getD (x - a) 0)
  ∧ (∀ x, x < a ∨ a + bs.length ≤ x → memByte (memWrite a bs d).mem x = memByte d.mem x)
  ∧ ∀ (n v : Nat), 0xF000000 ≤ a → memNat (memWrite a (leBytes n v) d) a n = v % 256 ^ n

/-- An entry is written only into a released slot; otherwise it waits and memory stays. An entry for an existing completion queue
goes to slot TAIL, with the phase of the pass, only while no entry waits, no write error stands and (TAIL + 1) mod n differs
from the head that the host last wrote; TAIL then advances, never onto the head, the phase inverts at the wrap, and the only
bytes of memory that change are the 32 of the slot and the 4 of the MSI-X message. In every other case the entry waits in the
CP, and memory, TAIL, head and phase stay. -/
def Obligations.CompletionSlots : Prop :=
  ∀ (ci : Nat) (e : WaitingEntry) (d : Device), (cplQueue d ci).live = true → e.bytes.length = 32 →
    let c := cplQueue d ci
    let t := postRaw ci e d
    let slot := c.base + 32 * c.tail
    let msg := hostBase + (msixEntry d c.vector).addr % 2 ^ 51
    (c.waiting = [] → c.writeError = false → slotFree c = true →
        (cplQueue t ci).tail = (c.tail + 1) % c.entries ∧ (cplQueue t ci).head = c.head ∧ (cplQueue t ci).tail ≠ (cplQueue t ci).head
      ∧ (cplQueue t ci).waiting = [] ∧ ((cplQueue t ci).phase = c.phase ↔ (c.tail + 1) % c.entries ≠ 0)
      ∧ (∀ x, (x < slot ∨ slot + 32 ≤ x) → (x < msg ∨ msg + 4 ≤ x) → memByte t.mem x = memByte d.mem x)
      ∧ (memoryWf d.mem = true → ∀ x, slot ≤ x → x < slot + 32 → (x < msg ∨ msg + 4 ≤ x) →
          memByte t.mem x = (withPhase e.bytes c.phase).getD (x - slot) 0))
  ∧ (c.waiting ≠ [] ∨ c.writeError = true ∨ slotFree c = false →
        t.mem = d.mem ∧ (cplQueue t ci).tail = c.tail ∧ (cplQueue t ci).head = c.head ∧ (cplQueue t ci).phase = c.phase
      ∧ (cplQueue t ci).waiting ≠ [])

/-- The checks of acceptance are made in their order, and the first failure decides. For every row that is a command packet:
nothing happens to a queue packet while the CP does not run; the mailbox then answers BAD_STATE, and BAD_PARAM to a
GET_STATUS with a wrong header, target or op byte; during the restart after a machine check the answer is RETRY; an unknown
opcode gives BAD_OPCODE, a bad header BAD_PARAM, a tag in flight BAD_STATE, a mailbox packet for another device BAD_PARAM, a
target outside the group or without a route NOT_PRESENT; a command for a reachable member is forwarded with the role of its
queue and holds its tag; then the safe state gives SAFE_STATE, SLEEP gives BAD_STATE, the executing device's other checks
give their status, and last a reserved op byte gives BAD_PARAM. -/
def Obligations.AcceptanceOrder : Prop :=
  ∀ f ∈ packetRows, ∀ (s : State) (p : Packet),
    (cpRuns s.dev = false → p.src ≠ .mailbox → exec (f p) s = .next (after s s.dev))
  ∧ (cpRuns s.dev = false → p.src = .mailbox → p.opcode ≠ 0x0002 → exec (f p) s = .next (after s (mailboxResult p .badState [] s.dev)))
  ∧ (cpRuns s.dev = false → p.src = .mailbox → p.opcode = 0x0002 →
      ((cmdSpec 0x0002).any (fun c => headerOk s.dev c p) && targetsSelf s.dev p && !opReserved p) = false →
      exec (f p) s = .next (after s (mailboxResult p .badParam [] s.dev)))
  ∧ (cpRuns s.dev = true → s.dev.host.mcheck = true → exec (f p) s = .next (after s (rejectEarly p .retry s.dev)))
  ∧ (cpRuns s.dev = true → s.dev.host.mcheck = false →
      (cmdSpec p.opcode = none → exec (f p) s = .next (after s (rejectEarly p .badOpcode s.dev)))
    ∧ ∀ c, cmdSpec p.opcode = some c →
        (headerOk s.dev c p = false → exec (f p) s = .next (after s (rejectEarly p .badParam s.dev)))
      ∧ (headerOk s.dev c p = true → isQueue p = true → tagInFlight s.dev p.tag.toNat = true →
          exec (f p) s = .next (after s (rejectEarly p .badState s.dev)))
      ∧ (headerOk s.dev c p = true → p.src = .mailbox → targetsSelf s.dev p = false →
          exec (f p) s = .next (after s (rejectEarly p .badParam s.dev)))
      ∧ (headerOk s.dev c p = true → isQueue p = true → tagInFlight s.dev p.tag.toNat = false → targetsSelf s.dev p = false →
          (bit s.dev.group.members.toNat (targetDevice p) = false ∨ routePort s.dev (targetDevice p) = none →
            exec (f p) s = .next (after s (rejectEarly p .notPresent s.dev)))
        ∧ (bit s.dev.group.members.toNat (targetDevice p) = true → routePort s.dev (targetDevice p) ≠ none →
            exec (f p) s = .next (after s (sendMsg (targetDevice p) (.cmd p (roleHeld s.dev p)) (holdTag p (some (targetDevice p)) s.dev)))))
      ∧ (headerOk s.dev c p = true → (isQueue p && tagInFlight s.dev p.tag.toNat) = false → targetsSelf s.dev p = true →
          s.dev.power.state = .safe → c.safeOk = false → exec (f p) s = .next (after s (rejectEarly p .safeState s.dev)))
      ∧ (headerOk s.dev c p = true → (isQueue p && tagInFlight s.dev p.tag.toNat) = false → targetsSelf s.dev p = true →
          s.dev.power.state = .sleep → c.sleepOk = false → exec (f p) s = .next (after s (rejectEarly p .badState s.dev)))
      ∧ (headerOk s.dev c p = true → (isQueue p && tagInFlight s.dev p.tag.toNat) = false → targetsSelf s.dev p = true →
          executeCheck s.dev c p = none → opReserved p = true →
          exec (f p) s = .next (after s (complete p .badParam [] (if isQueue p then holdTag p none s.dev else s.dev))))
      ∧ ∀ st, headerOk s.dev c p = true → (isQueue p && tagInFlight s.dev p.tag.toNat) = false → targetsSelf s.dev p = true →
          executeCheck s.dev c p = some st → exec (f p) s = .next (after s (rejectEarly p st s.dev)))

/-- A non-zero reserved parameter byte is refused with BAD_PARAM and changes no state. For every row that is a command packet:
where an admitted packet has a byte set that its parameter table reserves, the command completes with BAD_PARAM and does
nothing else. The rows of Paddock do so outside the error state, in which R562 denies them. -/
def Obligations.ReservedFieldsRefused : Prop :=
  (∀ x ∈ reservedRows, ∀ (s : State) (p : Packet), admitted s.dev x.2.1 p = true → reservedZero p x.2.2 = false →
    ∃ reply, exec (x.1 p) s = .next (after s (complete p .badParam reply (taken p s.dev))))
  ∧ (∀ x ∈ reservedPaddockRows, ∀ (s : State) (p : Packet), admitted s.dev x.2.1 p = true → reservedZero p x.2.2 = false →
    (taken p s.dev).pad.errorState = false →
    ∃ reply, exec (x.1 p) s = .next (after s (complete p .badParam reply (taken p s.dev))))
  ∧ (∀ (s : State) (p : Packet), admitted s.dev 0x0008 p = true →
    (pByte p 0 = 0 ∧ reservedZero p [(0, 6), (8, 8)] = false) ∨ (pByte p 0 = 1 ∧ reservedZero p [(0, 4), (6, 11), (18, 2)] = false) →
    exec (.queueCreate p) s = .next (after s (complete p .badParam [] (taken p s.dev))))

/-- POWER_CAP sets the cap between 30 and 230 W at once, and the cap is 230 W after POR#. With a cap of 30 to 230 W and no
reserved byte set, POWER_CAP completes with OK, the cap in force, the measured power and the throttle level; the cap is that
one at once, and the configuration, with its generation, stays. Another cap or a set reserved byte gives BAD_PARAM. After
POR# the cap is 230 W. -/
def Obligations.PowerCapRule : Prop :=
  (∀ (s : State) (p : Packet), admitted s.dev 0x1001 p = true → reservedZero p [(0, 2)] = true → 30 ≤ p16 p 0 → p16 p 0 ≤ 230 →
    let t := after s (complete p .ok (leBytes 2 (p16 p 0) ++ leBytes 4 s.dev.power.powerMw ++ leBytes 1 s.dev.power.throttle)
      { taken p s.dev with power := { s.dev.power with capW := p16 p 0 } })
    exec (.powerCap p) s = .next t ∧ t.dev.power.capW = p16 p 0 ∧ t.dev.cfg = s.dev.cfg)
  ∧ (∀ (s : State) (p : Packet), admitted s.dev 0x1001 p = true → reservedZero p [(0, 2)] = false ∨ p16 p 0 < 30 ∨ 230 < p16 p 0 →
    exec (.powerCap p) s = .next (after s (complete p .badParam [] (taken p s.dev))))
  ∧ (∀ s : State, ∃ t, exec .porAssert s = .next t ∧ t.dev.power.capW = 230)

/-- A request line of a generator is asserted while its ring holds a released, unlocked segment. A request line with line_src 2
and line_inst g is asserted exactly while some defined segment of the ring of generator g (ring_first to ring_first +
ring_len - 1) is released, that is not committed, and is neither playing nor chosen to follow. -/
def Obligations.RefillRequestRule : Prop :=
  ∀ (d : Device) (n : Nat) (g : Fin 2), xferN d n 0x10 = 2 → xferN d n 0x11 = g.val →
    (lineAsserted d n = true ↔ ∃ m seg, (m, some seg) ∈ (generator d g.val).segments
      ∧ genN d g.val 3 ≤ m ∧ m < genN d g.val 3 + genN d g.val 4 ∧ seg.committed = false ∧ segLocked (generator d g.val) m = false)

/-- A configuration that passes check 1 keeps the bus delay and uses enabled bus lines only. If check 1 does not fail, bus_delay
is at least bus_horizon + 512 + bus_transit_max, and every bus line that an enabled transition uses stands in bus_enable. -/
def Obligations.CommitChecksBus : Prop :=
  ∀ (d : Device) (old c : Values) (writes : Nat → Bool) (keys : List Nat) (commits : List (Nat × List (Nat × Int))),
    (∀ k st, failingCheck d old c writes keys commits ≠ some (1, k, st)) →
      vN c 0x0F 0 6 + 512 + d.group.busTransitMax ≤ vN c 0x0F 0 5
    ∧ ∀ (i : Fin 16) (t j : Fin 4) (n : Fin 8), vN c 5 (0x10 + i.val) (0x100 * (t.val + 1) + 0x0F) ≠ 0 →
        bit (bits (vN c 5 (0x10 + i.val) (0x100 * (t.val + 1))) (8 * j.val) 8) 7 = true →
        bits (vN c 5 (0x10 + i.val) (0x100 * (t.val + 1))) (8 * j.val) 8 % 64 = 28 + n.val →
        bit (vN c 0x0F 0 8) n.val = true

/-- A commit that turns a busy cluster off fails check 1. If a configuration turns an enabled cluster off while one of its cores
is RUNNING or WAITING or one of its ports is bound, check 1 fails with BAD_PARAM. -/
def Obligations.CommitKeepsBusyClusters : Prop :=
  ∀ (d : Device) (old c : Values) (writes : Nat → Bool) (keys : List Nat) (commits : List (Nat × List (Nat × Int))) (cl : Fin 4),
    cfgOn d 0x0D (0x80 + cl.val) 1 = true → vN c 0x0D (0x80 + cl.val) 1 = 0 →
    ((∃ i : Fin 8, (Machine.core d (8 * cl.val + i.val)).mode = .running ∨ (Machine.core d (8 * cl.val + i.val)).mode = .waiting)
      ∨ ∃ (n : Nat) (b : Binding), (n, some b) ∈ d.reed.bindings ∧ b.core / 8 = cl.val) →
    ∃ k, failingCheck d old c writes keys commits = some (1, k, .badParam)

/-- Stall 0x27 and stall 0x10 never overfill, and what they drop is counted. A fault message that finds 64 messages waiting is
not stored, and the count of its own source and kind rises by one; otherwise it joins the end of the inbox. A record enters
stall 0x10 behind the GAP record of earlier drops where both fit the depth of R298 (and, for the notice streams 254 and 255,
their 0.1 GB/s share), and is otherwise dropped, counted, and widens the range of dropped first indices. Neither touches
another stream, the log, memory or the configuration. -/
def Obligations.StallsDropAndCount : Prop :=
  (∀ (m : FaultMsg) (d : Device),
      (d.fault.inbox.length ≤ 64 → (raiseFault m d).fault.inbox.length ≤ 64)
    ∧ (d.fault.inbox.length < 64 → (raiseFault m d).fault.inbox = d.fault.inbox ++ [m] ∧ (raiseFault m d).fault.lost = d.fault.lost)
    ∧ (64 ≤ d.fault.inbox.length → (raiseFault m d).fault.inbox = d.fault.inbox
        ∧ tget 0 (raiseFault m d).fault.lost (m.source * 64 + m.kind) = tget 0 d.fault.lost (m.source * 64 + m.kind) + 1
        ∧ ∀ k, k ≠ m.source * 64 + m.kind → tget 0 (raiseFault m d).fault.lost k = tget 0 d.fault.lost k)
    ∧ (raiseFault m d).fault.log = d.fault.log ∧ (raiseFault m d).mem = d.mem ∧ (raiseFault m d).cfg = d.cfg)
  ∧ (∀ (n : Nat) (r : Rec) (d : Device),
      let s := stream d n
      let t := stream (pushStall n r d) n
      let gap := if s.stallDrops.count = 0 then [] else [dropsRec d 0x07 s.stallDrops]
      (stallLines s ≤ stallDepth d n → stallLines t ≤ stallDepth d n)
    ∧ (stallLines s + recUnits r + gap.length ≤ stallDepth d n → noticeRoom d n (recUnits r + gap.length) = true → t.stall = s.stall ++ gap ++ [r] ∧ t.stallDrops.count = 0)
    ∧ (stallDepth d n < stallLines s + recUnits r + gap.length ∨ noticeRoom d n (recUnits r + gap.length) = false → t.stall = s.stall ∧ t.stallDrops.count = s.stallDrops.count + 1
        ∧ t.stallDrops.first = (if s.stallDrops.count = 0 then r.firstIndex else min s.stallDrops.first r.firstIndex)
        ∧ t.stallDrops.last = (if s.stallDrops.count = 0 then r.firstIndex else max s.stallDrops.last r.firstIndex))
    ∧ ∀ k, k ≠ n → stream (pushStall n r d) k = stream d k)

/-- NOP, IDENTIFY, GET_STATUS, QUEUE_CREATE and QUEUE_DELETE complete with OK. An admitted NOP, IDENTIFY or GET_STATUS whose
reserved parameter bytes are zero completes with OK at once, with the reply block of R448, and does nothing else. With valid
parameters QUEUE_CREATE makes an empty submission or completion queue under the requested ID, or under the lowest free one
for 0xFF, and returns the ID. QUEUE_DELETE frees an unused completion queue at once; it empties a submission queue, which
vanishes, and completes, once no command of the queue is in flight. -/
def Obligations.QueueAndQuietCommandsComplete : Prop :=
  (∀ (s : State) (p : Packet), admitted s.dev 0x0000 p = true → reservedZero p [] = true →
    exec (.nop p) s = .next (after s (complete p .ok [] (taken p s.dev))))
  ∧ (∀ (s : State) (p : Packet), admitted s.dev 0x0001 p = true → reservedZero p [] = true →
    exec (.identify p) s = .next (after s (complete p .ok (identifyBytes (taken p s.dev)) (taken p s.dev))))
  ∧ (∀ (s : State) (p : Packet), admitted s.dev 0x0002 p = true → reservedZero p [] = true →
    exec (.getStatus p) s = .next (after s (complete p .ok (statusBytes (taken p s.dev)) (taken p s.dev))))
  ∧ (∀ (s : State) (p : Packet), admitted s.dev 0x0008 p = true → queueParamsOk (taken p s.dev) p = true → pByte p 1 ≠ 0xFF →
    pByte p 0 = 0 → queueExists (taken p s.dev) 0 (pByte p 1) = false →
    exec (.queueCreate p) s = .next (after s (complete p .ok (leBytes 1 (pByte p 1))
      (setSubQueue (pByte p 1)
        { live := true, entries := p16 p 2, base := p64 p 8, cq := pByte p 4, weight := pByte p 5 } (taken p s.dev)))))
  ∧ (∀ (s : State) (p : Packet), admitted s.dev 0x0008 p = true → queueParamsOk (taken p s.dev) p = true → pByte p 1 ≠ 0xFF →
    pByte p 0 = 1 → queueExists (taken p s.dev) 1 (pByte p 1) = false →
    exec (.queueCreate p) s = .next (after s (complete p .ok (leBytes 1 (pByte p 1))
      (setCplQueue (pByte p 1)
        { live := true, entries := p16 p 2, base := p64 p 8, vector := p16 p 6, coCount := pByte p 16, coUs := p16 p 18 }
        (taken p s.dev)))))
  ∧ (∀ (s : State) (p : Packet) (i : Nat), admitted s.dev 0x0008 p = true → queueParamsOk (taken p s.dev) p = true →
    pByte p 1 = 0xFF → (List.range 64).find? (fun i => i != 0 && !queueExists (taken p s.dev) (pByte p 0) i) = some i →
    exec (.queueCreate p) s =
      .next (after s (complete p .ok (leBytes 1 i) (makeQueue (pByte p 0) i p (taken p s.dev)))))
  ∧ (∀ (s : State) (p : Packet), admitted s.dev 0x0009 p = true → reservedZero p [(0, 2)] = true → pByte p 0 = 1 →
    1 ≤ pByte p 1 → pByte p 1 ≤ 63 → (cplQueue (taken p s.dev) (pByte p 1)).live = true → cqNamed (taken p s.dev) (pByte p 1) = false →
    exec (.queueDelete p) s = .next (after s (complete p .ok [] (setCplQueue (pByte p 1) {} (taken p s.dev)))))
  ∧ (∀ (s : State) (p : Packet), admitted s.dev 0x0009 p = true → reservedZero p [(0, 2)] = true → pByte p 0 = 0 →
    1 ≤ pByte p 1 → pByte p 1 ≤ 63 → (subQueue (taken p s.dev) (pByte p 1)).live = true →
    (subQueue (taken p s.dev) (pByte p 1)).deleting = none → earlierRuns (taken p s.dev) (pByte p 1) = false →
    exec (.queueDelete p) s = .next (after s (settleDeletes (setSubQueue (pByte p 1)
      { subQueue (taken p s.dev) (pByte p 1) with
        tail := (subQueue (taken p s.dev) (pByte p 1)).head, deleting := some p } (taken p s.dev)))))

/-- ENABLE, ENABLE_CLEAR and a Function Level Reset act on the queues as R425 says. With valid admin queue registers ENABLE makes
submission queue 0 and completion queue 0 from them and sets ENABLED; with invalid ones it sets ENABLE_ERROR and makes no
queue. A clear of ENABLE ends every queue and every session, and the commands in flight run to their end without an entry. A
Function Level Reset clears ENABLE and the MSI-X and BAR4 window state (PCIe behaviour: log entry 15, the model's
presumption). -/
def Obligations.EnableStartsAdminQueues : Prop :=
  (∀ s : State, hostLink s.dev = true → s.dev.host.enable = false → adminOk s.dev.host = true →
    exec .enable s = .next (after s
      (setCplQueue 0 { live := true, entries := bits s.dev.host.aqSize 16 12 + 1, base := hostBase + s.dev.host.acqBase % 2 ^ 51
                       vector := 0, coCount := bits s.dev.host.aqCoalesce 0 8, coUs := bits s.dev.host.aqCoalesce 16 16 }
        (setSubQueue 0 { live := true, entries := bits s.dev.host.aqSize 0 12 + 1, base := hostBase + s.dev.host.asqBase % 2 ^ 51, cq := 0 }
          { s.dev with host := { s.dev.host with enable := true, enabled := true } }))))
  ∧ (∀ s : State, hostLink s.dev = true → s.dev.host.enable = false → adminOk s.dev.host = false →
    exec .enable s = .next (after s { s.dev with host := { s.dev.host with enable := true, enableError := true } }))
  ∧ (∀ s : State, hostLink s.dev = true → ∃ t, exec .enableClear s = .next t ∧ t.dev.host.enable = false ∧ t.dev.host.enabled = false
    ∧ t.dev.host.enableError = false ∧ t.dev.host.sqs = [] ∧ t.dev.host.cqs = [] ∧ t.dev.host.flights = [] ∧ t.dev.pad.sessions = []
    ∧ t.dev.pad.nonces = [] ∧ t.dev.mem = s.dev.mem ∧ t.dev.cfg = s.dev.cfg ∧ t.pending = s.pending)
  ∧ (∀ s : State, hostLink s.dev = true → ∃ t, exec .functionLevelReset s = .next t ∧ t.dev.host.enable = false ∧ t.dev.host.enabled = false
    ∧ t.dev.host.sqs = [] ∧ t.dev.host.cqs = [] ∧ t.dev.host.flights = [] ∧ t.dev.pad.sessions = [] ∧ t.dev.host.msixEnable = false
    ∧ t.dev.host.bar4Window = 0 ∧ t.dev.mem = s.dev.mem ∧ t.dev.cfg = s.dev.cfg ∧ t.pending = s.pending)

/-- Doorbells move the tail and the head of a queue; the error bits clear. A tail doorbell below the queue's length moves the
tail of its live submission queue and nothing else but the CP clock (R524); one at or above it, or to a missing queue, sets
DB_ERROR. A head doorbell within the entries that the device has written moves the head of its completion queue; another sets
DB_ERROR. FETCH_ERROR_CLEAR and WRITE_ERROR_CLEAR clear their bit. -/
def Obligations.DoorbellsMoveTheirQueues : Prop :=
  (∀ (s : State) (q : Fin 64) (v : Nat), hostLink s.dev = true → (subQueue s.dev q.val).live = true → v < (subQueue s.dev q.val).entries →
    (subQueue s.dev q.val).deleting = none →
    exec (.sqTailDoorbell q v) s = .next (after s (setSubQueue q.val { subQueue s.dev q.val with tail := v } (startCpClock s.dev))))
  ∧ (∀ (s : State) (q : Fin 64) (v : Nat), hostLink s.dev = true →
    ((subQueue s.dev q.val).live = false ∨ (subQueue s.dev q.val).entries ≤ v) →
    exec (.sqTailDoorbell q v) s = .next (after s (setSubQueue q.val { subQueue s.dev q.val with dbError := true } (startCpClock s.dev))))
  ∧ (∀ (s : State) (q : Fin 64) (v : Nat), hostLink s.dev = true → (cplQueue s.dev q.val).live = true → v < (cplQueue s.dev q.val).entries →
    (v + (cplQueue s.dev q.val).entries - (cplQueue s.dev q.val).head) % (cplQueue s.dev q.val).entries
      ≤ ((cplQueue s.dev q.val).tail + (cplQueue s.dev q.val).entries - (cplQueue s.dev q.val).head) % (cplQueue s.dev q.val).entries →
    exec (.cqHeadDoorbell q v) s = .next (after s (setCplQueue q.val { cplQueue s.dev q.val with head := v } (startCpClock s.dev))))
  ∧ (∀ (s : State) (q : Fin 64) (v : Nat), hostLink s.dev = true →
    ((cplQueue s.dev q.val).live = false ∨ (cplQueue s.dev q.val).entries ≤ v) →
    exec (.cqHeadDoorbell q v) s = .next (after s (setCplQueue q.val { cplQueue s.dev q.val with dbError := true } (startCpClock s.dev))))
  ∧ (∀ (s : State) (q : Fin 64), hostLink s.dev = true →
    exec (.fetchErrorClear q) s = .next (after s (setSubQueue q.val { subQueue s.dev q.val with fetchError := false } s.dev)))
  ∧ (∀ (s : State) (q : Fin 64), hostLink s.dev = true →
    exec (.writeErrorClear q) s = .next (after s (setCplQueue q.val { cplQueue s.dev q.val with writeError := false } s.dev)))

/-- Waiting entries, coalesced signals and unmasked vectors reach the host; the CP fetches one entry. COMPLETION_WRITE writes the
oldest waiting entry into a released slot and frees its tag; with a failing write the entry waits and WRITE_ERROR and its
event rise. COALESCE_TIMEOUT signals the vector of a queue with unsignalled entries. MSIX_UNMASK clears a mask and sends what
was pending. COMMAND_FETCH takes the entry at HEAD of the queue whose turn it is and runs it; a failing read sets
FETCH_ERROR. -/
def Obligations.EntriesReachTheHost : Prop :=
  (∀ (s : State) (q : Fin 64) (e : WaitingEntry) (rest : List WaitingEntry), (cplQueue s.dev q.val).live = true →
    (cplQueue s.dev q.val).writeError = false → slotFree (cplQueue s.dev q.val) = true → (cplQueue s.dev q.val).waiting = e :: rest →
    exec (.completionWrite q true) s = .next (after s (settleDeletes (dropFlightOpt e.frees
      (writeSlot q.val e.bytes (setCplQueue q.val { cplQueue s.dev q.val with waiting := rest } s.dev))))))
  ∧ (∀ (s : State) (q : Fin 64), (cplQueue s.dev q.val).live = true → (cplQueue s.dev q.val).writeError = false →
    slotFree (cplQueue s.dev q.val) = true →
    exec (.completionWrite q false) s = .next (after s (raiseEvent 0x000 2 (ballIndex s.dev) 0
      (setCplQueue q.val { cplQueue s.dev q.val with writeError := true } s.dev))))
  ∧ (∀ (s : State) (q : Fin 64), (cplQueue s.dev q.val).live = true → (cplQueue s.dev q.val).coUs ≠ 0 →
    (cplQueue s.dev q.val).unsignalled ≠ 0 →
    exec (.coalesceTimeout q) s = .next (after s (signalVector (cplQueue s.dev q.val).vector
      (setCplQueue q.val { cplQueue s.dev q.val with unsignalled := 0 } s.dev))))
  ∧ (∀ (s : State) (v : Fin 256), hostLink s.dev = true →
    exec (.msixUnmask v) s = .next (after s (flushVector v.val
      { s.dev with host := { s.dev.host with msix := tset {} s.dev.host.msix v.val { msixEntry s.dev v.val with masked := false } } })))
  ∧ (∀ (s : State) (q : Nat) (turn : Nat × Nat), mayFetch s.dev = true → nextQueue s.dev = some (q, turn) →
    exec (.commandFetch true) s = .next (after s
      (runPacket (readPacket { s.dev with host := { s.dev.host with turn := turn } } (.queue q)
          (memRead { s.dev with host := { s.dev.host with turn := turn } } ((subQueue s.dev q).base + 64 * (subQueue s.dev q).head) 64))
        (setSubQueue q { subQueue s.dev q with head := ((subQueue s.dev q).head + 1) % (subQueue s.dev q).entries }
          { s.dev with host := { s.dev.host with turn := turn } }))))
  ∧ (∀ (s : State) (q : Nat) (turn : Nat × Nat), mayFetch s.dev = true → nextQueue s.dev = some (q, turn) →
    exec (.commandFetch false) s = .next (after s (raiseEvent 0x000 1 (ballIndex s.dev) 0
      (setSubQueue q { subQueue s.dev q with fetchError := true } s.dev))))

/-- Register, configuration, BAR and SPI accesses take effect. A REGISTER_WRITE of 4 or 8 bytes at its alignment, with the link
up and not in reset, writes the register at each of its dwords; the SCRATCH register takes the dword, an 8-byte write of an
8-byte register takes both halves. A CONFIG_REQUEST with the link up is answered once the configuration space is released (a
read, an MSI-X control write, a BAR4 resize to 2^30 to 2^41 bytes) and with a retry before. MSI-X control writes send what is
pending and no longer masked. A BAR2 or BAR4 access inside its window writes its bytes to the addresses that the window lets
through, or reads them. The management port, out of POR#, answers SPI_READ and READ_STATUS, takes the bytes of a SPI_WRITE
one after the other while the mailbox is not busy, and MBOX_SUBMIT runs the packet of the mailbox. -/
def Obligations.HostWindowsReadAndWrite : Prop :=
  (∀ (s : State) (off v : Nat), hostLink s.dev = true → off % 4 = 0 →
      exec (.registerWrite off false v) s = .next (after s (writeDword off (v % 2 ^ 32) s.dev)))
  ∧ (∀ (s : State) (off v : Nat), hostLink s.dev = true → off % 8 = 0 →
      exec (.registerWrite off true v) s =
        .next (after s (writeDword (off + 4) (v / 2 ^ 32 % 2 ^ 32) (writeDword off (v % 2 ^ 32) s.dev))))
  ∧ (∀ (s : State) (v : Nat), hostLink s.dev = true →
      exec (.registerWrite 0x0C false v) s = .next (after s { s.dev with host := { s.dev.host with scratch := v % 2 ^ 32 } }))
  ∧ (∀ (s : State) (off v : Nat), hostLink s.dev = true → (off = 0x10 ∨ off = 0x18 ∨ off = 0x28 ∨ off = 0x80) →
      let halves := tset 0 s.dev.host.lowHalves off (v % 2 ^ 32)
      exec (.registerWrite off true v) s = .next (after s
        (writeWide off (tget 0 halves off + v / 2 ^ 32 % 2 ^ 32 * 2 ^ 32) { s.dev with host := { s.dev.host with lowHalves := halves } })))
  ∧ (∀ (s : State) (r : ConfigReq), s.dev.host.linkUp = true → s.dev.host.configReady = true →
      exec (.configRequest r) s = .next (after s (match r with
        | .read off => { s.dev with host := { s.dev.host with configAnswer := some (configRead off) } }
        | .msixControl e m => (List.range 256).foldl (fun d v => flushVector v d)
            { s.dev with host := { s.dev.host with msixEnable := e, functionMask := m, configAnswer := some 0 } }
        | .resizeBar4 n => { s.dev with host := { s.dev.host with
            bar4Log2 := if 30 ≤ n ∧ n ≤ 41 then n else s.dev.host.bar4Log2, configAnswer := some 0 } })))
  ∧ (∀ (s : State) (r : ConfigReq), s.dev.host.linkUp = true → s.dev.host.configReady = false →
      exec (.configRequest r) s = .next (after s { s.dev with host := { s.dev.host with configAnswer := none } }))
  ∧ (∀ (s : State) (off : Nat) (bs : List Byte), hostLink s.dev = true → bs ≠ [] → off + bs.length ≤ 0x10000000 →
      exec (.bar2Write off bs) s = .next (after s (writeAdmitted bar2Writable off bs s.dev)))
  ∧ (∀ (s : State) (off n : Nat), hostLink s.dev = true → 0 < n → off + n ≤ 0x10000000 →
      exec (.bar2Read off n) s = .next (after s (readAdmitted bar2Readable off n s.dev)))
  ∧ (∀ (s : State) (off : Nat) (bs : List Byte), hostLink s.dev = true → bs ≠ [] → off + bs.length ≤ 2 ^ s.dev.host.bar4Log2 →
      exec (.bar4Write off bs) s =
        .next (after s (writeAdmitted (populatedYard s.dev) (yardBase + s.dev.host.bar4Window + off) bs s.dev)))
  ∧ (∀ (s : State) (off n : Nat), hostLink s.dev = true → 0 < n → off + n ≤ 2 ^ s.dev.host.bar4Log2 →
      exec (.bar4Read off n) s = .next (after s (readAdmitted (populatedYard s.dev) (yardBase + s.dev.host.bar4Window + off) n s.dev)))
  ∧ (∀ (s : State) (a n : Nat), s.dev.power.por = false →
      exec (.spiRead a n) s = .next (after s
        { s.dev with host := { s.dev.host with spiOut := (List.range n).map (fun i => spiByte s.dev ((a + i) % 2 ^ 24)) } }))
  ∧ (∀ (s : State) (a : Nat) (bs : List Byte), s.dev.power.por = false →
      exec (.spiWrite a bs) s = .next (after s (spiWriteFrom a bs s.dev)))
  ∧ (∀ (s : State) (a : Nat) (b : Byte), s.dev.power.por = false → s.dev.host.mboxBusy = false → 0x1000 ≤ a → a < 0x1040 →
      exec (.spiWrite a [b]) s = .next (after s { s.dev with host := { s.dev.host with mboxCmd := s.dev.host.mboxCmd.set (a - 0x1000) b } }))
  ∧ (∀ s : State, s.dev.power.por = false →
      exec .readStatus s = .next (after s { s.dev with host := { s.dev.host with spiOut := leBytes 1 (readStatusByte s.dev) } }))
  ∧ (∀ s : State, s.dev.power.por = false → s.dev.host.mboxBusy = false →
      exec .mboxSubmit s = .next (after s (let d := startCpClock { s.dev with host := { s.dev.host with mboxBusy := true, mboxDone := false } }
        runPacket (readPacket d .mailbox s.dev.host.mboxCmd) d)))

/-- Start-up goes from POR# to READY. POR# resets every domain and keeps host memory, fuses, flash and drives; VDD_AON low is
POR#. The release of POR# samples the straps and starts the rail sequence, or BOOT_ROM at once where the board sequences the
rails. The next rail of the sequence, in its voltage and without a fault, counts as good, and after rail 10 the boot ROM
runs; a rail that times out stops the sequence, takes the rails down and is recorded. In WAIT_IMAGE a BOOT_PUSH of 1 verifies
the image in host memory and starts it from slot 2, or leaves BOOT_FAILED with the step's code, 0x08 where the read fails.
Yard bring-up while loading ends in READY, in the safe state it keeps the state. PERST# takes the link down and resets the
function where the PLL runs, its release brings the link back where the PLL runs. -/
def Obligations.StartUpProceeds : Prop :=
  (∀ s : State, ∃ t, exec .porAssert s = .next t ∧ t.dev.power.por = true ∧ t.dev.sampleIndex = 0 ∧ t.dev.cfg = {} ∧ t.dev.strm = {}
      ∧ t.dev.pad.fuses = s.dev.pad.fuses ∧ t.dev.pad.flash = s.dev.pad.flash
      ∧ t.dev.mem = s.dev.mem.filter (fun c => decide (hostBase ≤ c.1)) ∧ t.pending = s.pending)
  ∧ (∀ s : State, exec .vddAonLow s = exec .porAssert s ∧ exec .porAssert s = .next (after s (porAssert s.dev)))
  ∧ (∀ (s : State) (b : Board), s.dev.power.por = true →
      exec (.porDeassert b) s = .next (after s (
        let d := if s.dev.power.board.isNone then { s.dev with pad := { s.dev.pad with fuses := b.fuses, flash := b.flash } } else s.dev
        let d := { d with
          power := { d.power with por := false, extSeq := b.pwrSeqExt, board := some b, state := .bootRom, railsRunning := !b.pwrSeqExt }
          group := { d.group with id := b.groupId.val }
          host := { d.host with perst := b.perst }
          clk := { d.clk with refPresent := b.refin } }
        let d := if b.xtal32 then d else droneFallback d
        if b.pwrSeqExt then bootRom d else d)))
  ∧ (∀ (s : State) (r status vout : Nat), s.dev.power.railsRunning = true → r = s.dev.power.railsGood + 1 →
      railIsGood r status vout = true →
      exec (.railGood { rail := r, status := status, vout := vout }) s = .next (after s (
        let d := { s.dev with power := { s.dev.power with railsGood := r, railsRunning := decide (r < 10) } }
        if r < 10 then d else bootRom d)))
  ∧ (∀ (s : State) (r : Nat), s.dev.power.railsRunning = true → r = s.dev.power.railsGood + 1 →
      exec (.railTimeout r) s = .next (after s (droneRecord 0x033 9 (r % 16)
        { s.dev with power := { s.dev.power with railsGood := 0, railsRunning := false, railFailure := true } })))
  ∧ (∀ (s : State) (ok : Bool), hostLink s.dev = true → s.dev.power.state = .waitImage →
      exec (.bootPush 1 ok) s = .next (after s (
        let a := hostBase + s.dev.host.bootImageAddr
        let img := memRead s.dev a s.dev.host.bootImageLen
        if ok = false ∨ addressEnd < a + s.dev.host.bootImageLen then bootFail 0x08 s.dev
        else match verifyImage s.dev.pad.fuses img with
          | .error c => bootFail c (blowOwner img s.dev)
          | .ok x => firmwareStart (takeImage 2 x (blowOwner img s.dev)))))
  ∧ (∀ (s : State) (found : List (Option Dimm × Nat)), (s.dev.power.state = .safe ∨ s.dev.power.state = .loading) →
      isOpen (stream s.dev 254) = false →
      exec (.yardBringUpComplete found) s = .next (after s
        (let d := openReserved 255 (openReserved 254 (bringUpYard found s.dev))
         let d := if d.power.state == .loading then { d with power := { d.power with state := .ready } } else d
         raiseEvent 0x030 3 (ballIndex d) 0 d)))
  ∧ (∀ s : State, s.dev.host.perst = false →
      exec .perstAssert s = .next (after s (
        let d := if s.dev.clk.sysPll then functionReset s.dev else s.dev
        { d with host := { d.host with perst := true, linkUp := false } })))
  ∧ (∀ s : State, s.dev.host.perst = true →
      exec .perstDeassert s = .next (after s { s.dev with host := { s.dev.host with perst := false, linkUp := s.dev.clk.sysPll } }))

/-- SLEEP, WAKE, TELE_READ and POWER_CAP have their effect. An admitted SLEEP with defined options enters SLEEP and returns the
device time, unless the device is paired, or a recording or playback runs and FORCE is not set. An admitted WAKE in SLEEP
starts the wake, at whose end it completes. POWER_CAP takes 30 to 230 W at once and replies the cap in force, the measured
power and the throttle level. TELE_READ writes a sample to an aligned destination that it can reach, or to none, replies its
first 20 bytes and clears the marks that it read; in SLEEP the sample is the Drone's last one, the destination lies in host
memory and no mark is read. -/
def Obligations.PowerCommandsAct : Prop :=
  (∀ (s : State) (p : Packet), admitted s.dev 0x0003 p = true → reservedZero p [(0, 9)] = true → pByte p 8 < 4 →
      s.dev.group.pairRole = 0 → (bit (pByte p 8) 0 = true ∨ (s.dev.nvme.running = [] ∧ s.dev.nvme.playing = [])) →
      exec (.sleep p) s = .next (after s (let d := enterSleep (p64 p 0) (bit (pByte p 8) 1) (taken p s.dev)
        complete p .ok (leBytes 8 d.time) d)))
  ∧ (∀ (s : State) (p : Packet), admitted s.dev 0x0004 p = true → reservedZero p [] = true → s.dev.power.state = .sleep →
      s.dev.power.waking = none → exec (.wake p) s = .next (after s (startWake (some p) (park p (taken p s.dev)))))
  ∧ (∀ (s : State) (p : Packet), admitted s.dev 0x1001 p = true → reservedZero p [(0, 2)] = true → 30 ≤ p16 p 0 → p16 p 0 ≤ 230 →
      exec (.powerCap p) s = .next (after s (complete p .ok
        (leBytes 2 (p16 p 0) ++ leBytes 4 (taken p s.dev).power.powerMw ++ leBytes 1 (taken p s.dev).power.throttle)
        { taken p s.dev with power := { (taken p s.dev).power with capW := p16 p 0 } })))
  ∧ (∀ (s : State) (p : Packet), admitted s.dev 0x1000 p = true → reservedZero p [(0, 1), (8, 8)] = true → pByte p 0 < 8 →
      p64 p 8 % 64 = 0 → s.dev.power.state ≠ .sleep →
      let d := takeReadings (freshReadings (taken p s.dev).fresh) (takeFresh (taken p s.dev))
      let bs := teleBytes d (pByte p 0)
      (p64 p 8 = 0 ∨ reachable (taken p s.dev) .cp true (p64 p 8) bs.length = true) →
      exec (.teleRead p) s = .next (after s (complete p .ok (bs.take 20)
        (clearMarks (pByte p 0) (if p64 p 8 = 0 then d else memWrite (p64 p 8) bs d)))))
  ∧ (∀ (s : State) (p : Packet), admitted s.dev 0x1000 p = true → reservedZero p [(0, 1), (8, 8)] = true → pByte p 0 < 8 →
      p64 p 8 % 64 = 0 → s.dev.power.state = .sleep →
      let d := takeFresh (taken p s.dev)
      let bs := teleData true d (pByte p 0)
      (p64 p 8 = 0 ∨ (regionOf (p64 p 8) = .host ∧ reachable (taken p s.dev) .cp true (p64 p 8) bs.length = true)) →
      exec (.teleRead p) s = .next (after s (complete p .ok (bs.take 20) (if p64 p 8 = 0 then d else memWrite (p64 p 8) bs d))))

/-- Power, temperature and wake events act. Each event of the power, regulator, temperature and wake rows acts where its rule
lets it. While Bellows runs, a gated domain whose condition holds powers up and one whose condition does not hold powers
down; VDD_CORE goes to the next 5 mV step between 620 and 850 mV; the throttle level follows the measured power and the
hottest sensor; a TELEMETRY record is written. Level 7 for 100 ms above the cap raises "power cap unreachable". A die sensor
from 110 °C raises "over temperature", recorded by the Drone in SLEEP, and from 125 °C trips. A status word with a fault bit
raises "rail fault", one with only a warning bit "rail warning". In SLEEP the Drone samples, the CP clock stops, and a timed
wake or a TRIG_IN0 edge that SLEEP asked for starts a wake with its event; WAKE_COMPLETE ends a wake once neither synthesiser
relocks. -/
def Obligations.PowerEventsAct : Prop :=
  (∀ (s : State) (b : Nat), 8 ≤ b → b < 31 → bellowsRuns s.dev = true → domainReady s.dev b = false → domainCondition s.dev b = true →
      exec (.domainPowerUp b) s = .next (after s (let d := setDomain b true s.dev
        let d := if 22 ≤ b ∧ b < 26 then { d with reed := { d.reed with usable := tset false d.reed.usable (b - 22) true } } else d
        noteState (powerState s.dev) (swapAtOnce d))))
  ∧ (∀ (s : State) (b : Nat), 8 ≤ b → b < 31 → bellowsRuns s.dev = true → domainReady s.dev b = true → domainCondition s.dev b = false →
      exec (.domainPowerDown b) s = .next (after s (noteState (powerState s.dev) (setDomain b false (discardDomain b s.dev)))))
  ∧ (∀ (s : State) (mv : Nat), bellowsRuns s.dev = true →
      exec (.avsUpdate mv) s = .next (after s
        { s.dev with power := { s.dev.power with vddCoreMv := min 850 (max 620 (ceilDiv mv 5 * 5)) } }))
  ∧ (∀ (s : State) (mw : Nat) (t : Int), bellowsRuns s.dev = true →
      exec (.throttleEvaluate mw t) s = .next (after s (
        let w := s.dev.power
        let tj : Int := 16 * cfgInt s.dev 0x10 0 4
        let n : Nat × Nat :=
          if w.capW * 1000 < mw || tj ≤ t then (min 7 (w.throttle + 1), 0)
          else if mw + 5000 ≤ w.capW * 1000 && t + 48 ≤ tj then
            if 9 ≤ w.coolMs then (w.throttle - 1, 0) else (w.throttle, w.coolMs + 1)
          else (w.throttle, 0)
        let d := { s.dev with power := { w with
          throttle := n.1, coolMs := n.2
          sevenMs := if w.throttle == 7 && n.1 == 7 && decide (w.capW * 1000 < mw) then w.sevenMs + 1 else 0
          throttleMs := (if w.throttle == 0 then w.throttleMs else w.throttleMs + 1) % 2 ^ 64
          powerMw := mw, overThrottle := decide (tj ≤ t) } }
        let d := if n.1 == w.throttle then d else raiseEvent 0x030 2 (ballIndex d) 0 d
        if decide (tj ≤ t) && !w.overThrottle then raiseEvent 0x032 1 (ballIndex d) 0 d else d)))
  ∧ (∀ s : State, 100 ≤ s.dev.power.sevenMs →
      exec .powerCapUnreachable s = .next (after s (raiseFault (plainFault 0x030 1 1 0) s.dev)))
  ∧ (∀ (s : State) (t : Int), 110 * 16 ≤ t → s.dev.power.por = false → s.dev.power.thermalTrip = false →
      exec (.overTemperature t) s = .next (after s (
        let d := if s.dev.power.state == .sleep then droneRecord 0x032 6 0 s.dev else raiseFault (plainFault 0x032 6 2 0) s.dev
        if 125 * 16 ≤ t then thermalTrip d else d)))
  ∧ (∀ (s : State) (l : List Nat), s.dev.power.por = false →
      exec (.pmbAlert l) s = .next (after s (
        let ws := l.take 10
        (List.range ws.length).foldl (fun d i =>
          let w := ws.getD i 0
          if railFaultBit w then
            (if d.power.state == .sleep then droneRecord 0x031 3 (i + 1) d else raiseFault (plainFault 0x031 3 2 (i + 1)) d)
          else if railWarningBit w then raiseFault (plainFault 0x031 5 0 (i + 1)) d
          else d) { s.dev with power := { s.dev.power with railStatus := ws } })))
  ∧ (∀ (s : State) (r : Readings), bellowsRuns s.dev = true →
      exec (.telemetrySample r) s = .next (after s (let d := takeReadings r s.dev
        let d := { d with power := { d.power with teleCount := d.power.teleCount + 1 } }
        let mask := cfgN d 0x10 0 2
        let sections := if bit mask 2 && d.power.teleCount % cfgN d 0x10 0 3 != 0 then mask - 4 else mask
        clearMarks sections (emitRec { type := 0x0A, source := telemetrySource, flags := headerFlags d [], firstIndex := ballIndex d,
                                       generation := d.cfg.generation, payload := teleBytes d sections } d))))
  ∧ (∀ (s : State) (r : Readings), s.dev.power.state = .sleep →
      exec (.sleepSample r) s = .next (after s (overTemperature (hottest (sensorTemps s.dev r))
        { s.dev with power := { s.dev.power with tempMax := hottest (sensorTemps s.dev r), powerNow := inputPower r } })))
  ∧ (∀ s : State, s.dev.power.state = .sleep → s.dev.power.waking = none →
      exec .cpClockStop s = .next (after s { s.dev with power := { s.dev.power with cpClock := false } }))
  ∧ (∀ s : State, s.dev.power.wakeTime ≠ 0 → s.dev.power.state = .sleep → s.dev.power.waking = none →
      exec .timedWake s = .next (after s (let d := { s.dev with time := max s.dev.time s.dev.power.wakeTime }
        raiseEvent 0x033 1 (ballIndex d) (Config.wakeCause 0) (startWake none d))))
  ∧ (∀ s : State, s.dev.power.wakeTrig = true → s.dev.power.state = .sleep → s.dev.power.waking = none →
      exec .wakeTrig s = .next (after s (raiseEvent 0x033 1 (ballIndex s.dev) (Config.wakeCause 1) (startWake none s.dev))))
  ∧ (∀ (s : State) (failed : List Nat) (words : List (Fin 4 × Fin 68 × Bool)) (since : Nat) (p : Option Packet),
      s.dev.power.waking = some (p, since) →
      s.dev.clk.sclk.relock ≠ .search → s.dev.clk.sclk.relock ≠ .closing → s.dev.clk.lo.relock ≠ .search → s.dev.clk.lo.relock ≠ .closing →
      exec (.wakeComplete failed words) s =
        .next (after s (finishWake p since failed (words.map (fun w => (w.1.val, w.2.1.val, w.2.2))) s.dev)))

/-- CFG_WRITE_BASE, the overlay commands and CFG_READ complete with OK. A valid list of field changes becomes the staged value of
each field, which is dirty from then on; replaced, it is the whole overlay; appended, it joins the overlay, each key once; a
freed overlay is gone. CFG_READ returns the staged or the active value with the generation and the number of pending commits.
Nothing else changes. -/
def Obligations.SettingsAreStagedAndRead : Prop :=
  (∀ (s : State) (p : Packet) (l : List (Nat × Int)), admitted s.dev 0x0100 p = true → reservedZero p [(0, 12)] = true →
      readChanges (taken p s.dev) (p64 p 0) (p32 p 8) = .ok l →
      exec (.cfgWriteBase p) s = .next (after s
        (complete p .ok (leBytes 4 0xFFFFFFFF) (l.foldl (fun d e => stage e.1 e.2 d) (taken p s.dev)))))
  ∧ (∀ (s : State) (p : Packet) (l : List (Nat × Int)), admitted s.dev 0x0101 p = true → reservedZero p [(0, 2), (8, 12)] = true →
      pByte p 1 = 0 → 1 ≤ p32 p 16 → p32 p 16 ≤ 4096 → pByte p 0 < 32 → readChanges (taken p s.dev) (p64 p 8) (p32 p 16) = .ok l →
      exec (.cfgWriteOverlayReplace p) s = .next (after s
        (complete p .ok (leBytes 4 0xFFFFFFFF ++ leBytes 4 l.length)
          { taken p s.dev with cfg := { (taken p s.dev).cfg with
              overlays := tset none (taken p s.dev).cfg.overlays (pByte p 0) (some l) } })))
  ∧ (∀ (s : State) (p : Packet) (l : List (Nat × Int)), admitted s.dev 0x0101 p = true → reservedZero p [(0, 2), (8, 12)] = true →
      pByte p 1 = 1 → 1 ≤ p32 p 16 → p32 p 16 ≤ 4096 → pByte p 0 < 32 → readChanges (taken p s.dev) (p64 p 8) (p32 p 16) = .ok l →
      (l.foldl addEntry ((overlay (taken p s.dev) (pByte p 0)).getD [])).length ≤ 4096 →
      exec (.cfgWriteOverlayAppend p) s = .next (after s
        (complete p .ok (leBytes 4 0xFFFFFFFF ++ leBytes 4 (l.foldl addEntry ((overlay (taken p s.dev) (pByte p 0)).getD [])).length)
          { taken p s.dev with cfg := { (taken p s.dev).cfg with
              overlays := tset none (taken p s.dev).cfg.overlays (pByte p 0)
                (some (l.foldl addEntry ((overlay (taken p s.dev) (pByte p 0)).getD []))) } })))
  ∧ (∀ (s : State) (p : Packet), admitted s.dev 0x0101 p = true → reservedZero p [(0, 2), (8, 12)] = true → pByte p 1 = 2 → p32 p 16 = 0 →
      pByte p 0 < 32 →
      exec (.cfgWriteOverlayFree p) s = .next (after s (complete p .ok (leBytes 4 0xFFFFFFFF ++ leBytes 4 0)
          { taken p s.dev with cfg := { (taken p s.dev).cfg with
              overlays := tset none (taken p s.dev).cfg.overlays (pByte p 0) none } })))
  ∧ (∀ (s : State) (p : Packet) (f : FieldSpec), admitted s.dev 0x0102 p = true → reservedZero p [(0, 5)] = true → pByte p 4 ≤ 1 →
      fieldOf (p32 p 0) = some f →
      exec (.cfgRead p) s = .next (after s (let d := taken p s.dev
        let v := if f.readOnly then readOnlyValue d (p32 p 0 / 16777216) (p32 p 0 / 65536 % 256) (p32 p 0 % 65536)
          else if pByte p 4 == 0 then stagedVal d (p32 p 0) else cfgVal d (p32 p 0)
        complete p .ok (leInt 8 v ++ leBytes 4 d.cfg.generation.toNat ++ leBytes 4 d.cfg.pendingCommits.length) d)))

/-- CFG_VALIDATE, CFG_COMMIT and CFG_ABORT have their effect. CFG_VALIDATE of a configuration that passes completes with OK and
both loads, or with LATE, and changes nothing. CFG_COMMIT of a content that passes every check, in time, joins the pending
commits, cleans the fields that it copied and waits. A group commit also arms this member and sends PREPARE to the others of
the mask. CFG_ABORT of a pending commit completes it with ABORTED where the rest still passes. -/
def Obligations.CommitsAreAcceptedAndAborted : Prop :=
  (∀ (s : State) (p : Packet), admitted s.dev 0x0103 p = true → commitParamsOk p = true →
      let d := taken p s.dev
      let content := commitContent p d
      let t := targetEpoch p (turnsOn d (withChanges (valuesAfter d d.cfg.pendingCommits.length) content)) d
      validateCommit d t content (roleHeld d p == 1) = none →
      exec (.cfgValidate p) s = .next (after s
        (complete p (if atEpochFlag p && decide (epochStart d t ≤ d.sampleIndex) then .late else .ok)
          (zeroBytes 8 ++ (leBytes 8 (reportedLoads d t content).1 ++ leBytes 8 (reportedLoads d t content).2)) d)))
  ∧ (∀ (s : State) (p : Packet), admitted s.dev 0x0104 p = true → groupFlag p = false → commitParamsOk p = true →
      let d := taken p s.dev
      let content := commitContent p d
      let turns := turnsOn d (withChanges (valuesAfter d d.cfg.pendingCommits.length) content)
      let t := targetEpoch p turns d
      validateCommit d t content (roleHeld d p == 1) = none → commitLate p t turns d = false →
      exec (.cfgCommit p) s = .next (after s (park p (acceptCommit
        { packet := some p, epoch := t, content := content, waitAdopted := bit (p16 p 12) 1 } (bit (p16 p 12) 0) d))))
  ∧ (∀ (s : State) (p : Packet), admitted s.dev 0x0104 p = true → commitParamsOk p = true →
      let d := taken p s.dev
      let mask := pByte p 18
      let content := commitContent p d
      let turns := turnsOn d (withChanges (valuesAfter d d.cfg.pendingCommits.length) content)
      let t := targetEpoch p turns d
      let g : BitVec 32 := if p32 p 14 == 0 then d.cfg.generation + 1 else BitVec.ofNat 32 (p32 p 14)
      let m : Commit := { packet := none, epoch := t, content := content, waitAdopted := false, generation := some g, master := some d.group.id }
      let run : GroupCommit := { packet := p, epoch := t, generation := g, mask := BitVec.ofNat 8 mask, armed := BitVec.ofNat 8 (2 ^ d.group.id)
                                 refused := 0, applied := 0 }
      bit mask d.group.id = true → (∀ n < 8, bit mask n = true → n ≠ d.group.id → bit d.group.members.toNat n = true) →
      d.group.commit = none → validateCommit d t content (roleHeld d p == 1) = none → commitLate p t turns d = false →
      serialAfter g d.cfg.generation = true →
      exec (.cfgCommitGroup p) s = .next (after s (park p
        (((List.range 8).filter (fun n => bit mask n && n != d.group.id)).foldl
          (fun d n => sendMsg n (.prepare t g content (BitVec.ofNat 8 mask)) d)
          (let e := acceptCommit m (bit (p16 p 12) 0) d
           { e with group := { e.group with commit := some run } })))))
  ∧ (∀ (s : State) (p : Packet), admitted s.dev 0x0105 p = true → reservedZero p [(0, 3)] = true → pByte p 2 ≤ 1 →
      let d := taken p s.dev
      let victims := d.cfg.pendingCommits.filter (fun m => commitTag m == some (p16 p 0))
      let kept := d.cfg.pendingCommits.filter (fun m => !victims.contains m)
      p16 p 0 ≠ 0xFFFF → victims ≠ [] → d.group.commit = none → removalFails d victims kept = false →
      exec (.cfgAbort p) s = .next (after s
        (let e := victims.foldl (fun d m => completeOpt m.packet .aborted [] d) { d with cfg := { d.cfg with pendingCommits := kept } }
         let e := if bit (pByte p 2) 0 then { e with cfg := { e.cfg with dirty := [] } } else e
         complete p .ok (leBytes 2 (victims.length + 0)) e)))

/-- TOKEN_FORM and TOKEN_ADOPT advance the epoch tokens. When the sample index at the output of stall 0x01 has reached the next
boundary and is not held, TOKEN_FORM forms that token: the commits due leave the pending list and apply in their order,
blocks that swap at once do so, and the reports, the pair and a skewed commit follow. Before that it changes nothing.
TOKEN_ADOPT outside SLEEP makes a block adopt the formed tokens up to the one named, one after the other, as long as the
block can; of the next one, which it can adopt, it adopts that one. -/
def Obligations.TokensFormAndAreAdopted : Prop :=
  (∀ s : State, tokenReady s.dev = true →
      exec .tokenForm s = .next (after s (let t := nextToken s.dev
        let due := dueCommits s.dev t
        let d := noteContexts t due s.dev
        let d := { d with cfg := { d.cfg with
          pendingCommits := d.cfg.pendingCommits.filter (fun m => decide (t < m.epoch)), lastToken := t, tokenZero := false } }
        let d := due.foldl (fun d m => applyCommit t m d) d
        let d := if due.isEmpty then d else noteUnits t d
        let d := if d.cfg.generation == s.dev.cfg.generation then d
          else { d with cfg := { d.cfg with genAt := d.cfg.genAt ++ [(t, d.cfg.generation)] } }
        let d := genGeneration (swapAtOnce (epochPulse t (noteEpochs t s.dev.cfg.generation s.dev.cfg.tokenZero d)))
        let d := (generationsOf s.dev.cfg.generation due).foldl (fun d x => reportCommit x.1 x.2 d) d
        let d := if d.cfg.skewed.any (fun m => m.epoch == t) then commitSkew d else d
        pairFormAt t d)))
  ∧ (∀ s : State, tokenReady s.dev = false → exec .tokenForm s = .next (after s s.dev))
  ∧ (∀ (s : State) (b : TokenBlock) (upTo : Nat), s.dev.power.state ≠ .sleep →
      exec (.tokenAdopt b upTo) s = .next (after s (let key := tokenBlockKey b
        let lim := min upTo s.dev.cfg.lastToken
        settleAdoptions (pruneTokens (adoptUpTo key lim (lim - adoptedBy s.dev key) s.dev)))))
  ∧ (∀ (s : State) (b : TokenBlock) (n : Nat), s.dev.power.state ≠ .sleep → adoptedBy s.dev (tokenBlockKey b) = n →
      n + 1 ≤ s.dev.cfg.lastToken → canAdopt s.dev (tokenBlockKey b) (n + 1) = true →
      exec (.tokenAdopt b (n + 1)) s = .next (after s (settleAdoptions (pruneTokens
        (adoptOne (tokenBlockKey b) (n + 1) (n + 1) s.dev)))))

/-- PREPARE, ARMED, REFUSED, ABORT, APPLIED and the two deadlines act as R65 says. A PREPARE of a member is checked: one that
holds arms this member, which keeps the commit and answers ARMED; one that fails a check, comes late or names a generation
not after the one in force is answered REFUSED with that status. ARMED, REFUSED and APPLIED set the member's bit at the
master, and APPLIED of every member completes the commit. At its deadlines the master abandons a commit that waits and is not
armed everywhere, and completes with TIMEOUT one that it applied itself. ABORT of a master makes another member discard the
commit of that master, pending or set apart with its epoch to come; of one already applied it raises the skew fault. -/
def Obligations.GroupCommitMessagesAct : Prop :=
  (∀ (s : State) (src : Fin 8) (t : Nat) (g : BitVec 32) (content : List (Nat × Int)) (mask : BitVec 8),
      inMask s.dev.group.members src.val = true → cpRuns s.dev = true →
      exec (.prepare src t g content mask) s = .next (after s (
        let d := { s.dev with cfg := { s.dev.cfg with groupApplied := none } }
        match validateCommit d t content true with
        | some x => sendMsg src.val (.refused (statusCode x.2.2)) d
        | none =>
          if t < epochIndex d + 3 then sendMsg src.val (.refused (statusCode .late)) d
          else if !serialAfter g d.cfg.generation then sendMsg src.val (.refused (statusCode .badParam)) d
          else sendMsg src.val .armed (acceptCommit
            { packet := none, epoch := t, content := content, waitAdopted := false, generation := some g, master := some src.val } false d))))
  ∧ (∀ (s : State) (src : Fin 8) (g : GroupCommit), s.dev.group.commit = some g →
      exec (.armed src) s = .next (after s (setGroupCommit (some { g with armed := g.armed ||| (deviceBit src.val &&& g.mask) }) s.dev)))
  ∧ (∀ (s : State) (src : Fin 8) (st : Nat) (g : GroupCommit), s.dev.group.commit = some g →
      exec (.refused src st) s = .next (after s (setGroupCommit (some { g with refused := g.refused ||| (deviceBit src.val &&& g.mask) }) s.dev)))
  ∧ (∀ (s : State) (src : Fin 8), src.val ≠ s.dev.group.id →
      exec (.abort src) s = .next (after s (
        let armed (m : Commit) : Bool := m.master == some src.val
        let apart := s.dev.cfg.skewed.any (fun m => armed m && decide (nextToken s.dev ≤ m.epoch))
        if s.dev.cfg.pendingCommits.any armed || apart then
          { s.dev with cfg := { s.dev.cfg with
              pendingCommits := s.dev.cfg.pendingCommits.filter (fun m => !armed m), skewed := if apart then none else s.dev.cfg.skewed } }
        else if s.dev.cfg.groupApplied == some src.val then commitSkew { s.dev with cfg := { s.dev.cfg with groupApplied := none } }
        else s.dev)))
  ∧ (∀ (s : State) (src : Fin 8) (g : GroupCommit), s.dev.group.commit = some g →
      exec (.applied src) s = .next (after s (settleGroupCommit
        (setGroupCommit (some { g with applied := g.applied ||| (deviceBit src.val &&& g.mask) }) s.dev))))
  ∧ (∀ (s : State) (g : GroupCommit), s.dev.group.commit = some g → epochStart s.dev g.epoch ≤ s.dev.sampleIndex + 2 * 2 ^ epochExp s.dev →
      g.armed ≠ g.mask → groupWaits s.dev = true → exec .armDeadline s = .next (after s (abandonGroupCommit s.dev)))
  ∧ (∀ (s : State) (g : GroupCommit), s.dev.group.commit = some g → epochStart s.dev (g.epoch + 1) ≤ s.dev.sampleIndex → groupWaits s.dev = false →
      exec .appliedTimeout s = .next (after s (complete g.packet .timeout (commitReply g.epoch g.generation (g.mask &&& ~~~g.applied).toNat)
        (setGroupCommit none s.dev))))

/-- GROUP_FORM, GROUP_LEAVE, GROUP_STATUS and GROUP_SYNC have their effect. GROUP_FORM outside a group, with this device in the
mask and every device of it within four hops, asks each other device to join and waits until all have; LEAVE of a group
without a pair tells the members and leaves; STATUS returns the masks and ports. GROUP_SYNC with none running starts the
query of its first step. Each FORM and SYNC_CTL message has the effect of its kind. The sync pulse goes out once every member
is armed; the capture and external deadlines end a GROUP_SYNC, or disarm a member whose capture did not come, with its fault. -/
def Obligations.GroupCommandsAct : Prop :=
  (∀ (s : State) (p : Packet) (n : Nat), admitted s.dev 0x0D00 p = true → reservedZero p [(0, 2)] = true →
      let d := taken p s.dev
      let mask : BitVec 8 := BitVec.ofNat 8 (pByte p 1)
      inMask mask d.group.id = true → d.group.members = 0 → d.group.forming = none → duplicateIds d mask = false →
      diameter d mask = some n → n ≤ 4 →
      exec (.groupForm p) s = .next (after s (settleForm
        (((List.range 8).filter (fun n => inMask mask n && n != d.group.id)).foldl (fun d n => sendMsg n (.form (.join mask)) d)
          (park p { d with group := { d.group with forming := some { packet := p, mask := mask, joined := ownBit d } } })))))
  ∧ (∀ (s : State) (p : Packet), admitted s.dev 0x0D00 p = true → reservedZero p [(0, 2)] = true → s.dev.group.members ≠ 0 →
      s.dev.group.pairFormed = false → s.dev.group.pairPlan = none →
      exec (.groupLeave p) s = .next (after s (let d := leaveGroup (broadcast (.form .leave) (taken p s.dev))
        complete p .ok (formReply d) d)))
  ∧ (∀ (s : State) (p : Packet), admitted s.dev 0x0D00 p = true → reservedZero p [(0, 2)] = true →
      exec (.groupStatus p) s = .next (after s (complete p .ok (formReply (taken p s.dev)) (taken p s.dev))))
  ∧ (∀ (s : State) (p : Packet), admitted s.dev 0x0D01 p = true → reservedZero p [(0, 1)] = true → pByte p 0 ≤ 3 →
      s.dev.group.syncRun = none → s.dev.group.syncArmed = false →
      exec (.groupSync p) s = .next (after s (let d := taken p s.dev
        let lost := (List.range 8).filter (fun n => inMask (syncMembers d) n && n != d.group.id && (routePort d n).isNone)
        let gone : BitVec 8 := lost.foldl (fun m n => m ||| deviceBit n) 0
        let d := toSyncOthers .query (setSyncRun (some
          { packet := p, external := bit (pByte p 0) 0, noBus := bit (pByte p 0) 1, phase := .query, reported := gone, failing := gone,
            roots := 0, armed := 0, captures := [], transits := 0, transitMax := 0 }) (park p d))
        noteReport d.group.id (fsclkHz d) (commonFields d) (isRoot d) (syncReady d) d)))
  ∧ (∀ (s : State) (src : Fin 8) (m : FormMsg),
      exec (.form src m) s = .next (after s (match m with
        | .join members =>
          if s.dev.group.members = 0 ∧ s.dev.group.forming = none then
            let d := setMembers members { s.dev with group := { s.dev.group with joinedBy := some src.val } }
            sendMsg src.val (.form .joined) (raiseEvent 0x3C4 1 (ballIndex d) 0 d)
          else sendMsg src.val (.form .cannot) s.dev
        | .joined =>
          match s.dev.group.forming with
          | some r => settleForm { s.dev with group := { s.dev.group with forming := some { r with joined := r.joined ||| deviceBit src.val } } }
          | none => s.dev
        | .cannot =>
          if s.dev.group.forming ≠ none then failForm .notPresent s.dev
          else if s.dev.group.joinedBy = some src.val then leaveGroup s.dev
          else s.dev
        | .leave =>
          if inMask s.dev.group.members src.val = true then
            let d := setMembers (s.dev.group.members &&& ~~~ (deviceBit src.val)) s.dev
            failFlights src.val (raiseEvent 0x3C4 2 (ballIndex d) src.val d)
          else s.dev
        | .neighbours l =>
          if tget none s.dev.group.neighbours src.val = some l then s.dev
          else
            let d := { s.dev with group := { s.dev.group with neighbours := tset none s.dev.group.neighbours src.val (some l) } }
            let new := (knownDevices d).filter (fun n => !(knownDevices s.dev).contains n)
            let d := new.foldl (fun d n => sendMsg n (.form (.neighbours (ownNeighbours d))) d) d
            flushHeld (lostMembers (knownDevices s.dev) d))))
  ∧ (∀ (s : State) (src : Fin 8) (m : SyncCtl),
      exec (.syncCtl src m) s = .next (after s (match m with
        | .query => sendMsg src.val (.syncCtl (.report (fsclkHz s.dev) (commonFields s.dev) (isRoot s.dev) (syncReady s.dev))) s.dev
        | .report f c root ready => noteReport src.val f c root ready s.dev
        | .arm noBus => sendMsg src.val (.syncCtl .armed)
            { s.dev with group := { s.dev.group with syncArmed := true, syncMaster := some (src.val, noBus) } }
        | .armed => noteArmed src.val s.dev
        | .disarm => if s.dev.group.syncMaster.any (fun x => x.1 == src.val) then disarmSync s.dev else s.dev
        | .pulse => if s.dev.group.syncArmed && isRoot s.dev then { s.dev with group := { s.dev.group with syncOut := true } } else s.dev
        | .captured x => noteCapture src.val x s.dev
        | .transit t => noteTransit src.val t s.dev
        | .skew x =>
          let d := { s.dev with group := { s.dev.group with syncSkew := x } }
          if slipped d x then raiseFault (plainFault 0x3C4 7 1 0) d else d
        | .missed => if s.dev.group.syncMaster.any (fun x => x.1 == src.val) then missSync s.dev else s.dev
        | .complete ok => if ok then clearPhase s.dev else s.dev)))
  ∧ (∀ (s : State) (r : SyncRun), s.dev.group.syncRun = some r → r.phase = .arming → r.external = false → r.armed = syncMembers s.dev →
      exec .syncPulse s = .next (after s (let d := setSyncRun (some { r with phase := .pulsed }) s.dev
        if isRoot d then { d with group := { d.group with syncOut := true } }
        else ((List.range 8).filter (inMask r.roots)).foldl (fun d n => sendMsg n (.syncCtl .pulse) d) d)))
  ∧ (∀ s : State, s.dev.group.syncRun = none → s.dev.group.syncArmed = true →
      exec .syncCaptureTimeout s = .next (after s (raiseFault (plainFault 0x3C4 6 1 0) (disarmSync s.dev))))
  ∧ (∀ (s : State) (r : SyncRun), s.dev.group.syncRun = some r → r.phase = .pulsed → (r.external = false ∨ r.captures ≠ []) →
      exec .syncCaptureTimeout s = .next (after s (
        let missed := (List.range 8).filter (fun k => inMask (syncMembers s.dev) k && (tget none r.captures k).isNone)
        let d := (missed.filter (fun k => k != s.dev.group.id)).foldl (fun d k => sendMsg k (.syncCtl .missed) d) s.dev
        let d := if missed.contains d.group.id then missSync d else d
        let there := (List.range 8).filter (fun k => inMask (syncMembers d) k && !missed.contains k && k != d.group.id)
        let d := there.foldl (fun d k => sendMsg k (.syncCtl (.skew ((skewOf d r k).getD 0))) d) d
        endSync .timeout (maskOf 8 (fun k => missed.contains k)) (slipMask d r) r d)))
  ∧ (∀ (s : State) (r : SyncRun), s.dev.group.syncRun = some r → r.phase = .pulsed → r.external = true → r.captures = [] →
      exec .externalSyncTimeout s = .next (after s (let d := disarmSync (toSyncOthers .disarm (setSyncRun none s.dev))
        complete r.packet .timeout (syncReply d r 0 0) d)))

/-- The Shunis link trains, carries, acknowledges, replays and goes down. A detected termination of a port that is down starts
training while the firmware runs or loads. Training that ends brings the port up at 4, 2 or 1 lanes with its neighbour and
serial number, with a fault for lost lanes and an event for another neighbour; another interface version or no lane leaves it
down. On a port that is up, a frame of 256 bytes that is good and in order acts by its type, another counts a NAK; a NAK
frees the frames that it acknowledges and replays the others, and takes the port down after the seventh replay. A lost link
leaves service with its fault and event. BUS_ASSERT and PING of a member act, the CPL of a forwarded command completes it and
frees its place, PONG has no effect. -/
def Obligations.LinkMessagesAct : Prop :=
  (∀ (s : State) (n : Fin 4), (shunisPort s.dev n.val).up = false → (shunisPort s.dev n.val).training = false →
      s.dev.power.state ≠ .sleep → (cpRuns s.dev = true ∨ s.dev.power.state = .loading) →
      exec (.portTerminationDetect n) s =
        .next (after s (setShunisPort n.val { shunisPort s.dev n.val with powered := true, training := true } s.dev)))
  ∧ (∀ (s : State) (n : Fin 4) (trained : BitVec 4) (id : Fin 8) (serial version : Nat), (shunisPort s.dev n.val).training = true →
      exec (.portTrainingComplete n trained id serial version) s = .next (after s (
        let p := shunisPort s.dev n.val
        if version ≠ interfaceVersion then
          raiseEvent (0x3C0 + n.val) 4 (ballIndex s.dev) 0 (setShunisPort n.val { p with training := false } s.dev)
        else if laneCode trained = 0 then setShunisPort n.val { p with training := false } s.dev
        else
          let d := setShunisPort n.val { p with
            training := false, up := true, trained := trained, neighbour := some id.val, serial := serial, txSeq := 0, rxSeq := none,
            unacked := [], replays := 0, naks := 0 } s.dev
          let d := if trained ≠ 15 then raiseFault (plainFault (0x3C0 + n.val) 2 0 0) d else d
          let d := raiseEvent (0x3C0 + n.val) 1 (ballIndex d) 0 d
          let d := if p.serial = serial then d else raiseEvent (0x3C0 + n.val) 3 (ballIndex d) id.val d
          flushHeld (sendNeighbours d))))
  ∧ (∀ (s : State) (n : Fin 4) (bs : List Byte) (fec : Bool), (shunisPort s.dev n.val).up = true →
      exec (.linkFrameReceive n { bytes := bs, fecGood := fec }) s = .next (after s (
        let p := shunisPort s.dev n.val
        let f := readFrame bs fec
        let expected := match p.rxSeq with
          | some s => (s + 1) % 65536
          | none => 0
        if f.good = false ∨ f.seq ≠ expected then setShunisPort n.val { p with naks := p.naks + 1 } s.dev
        else if f.type = 2 then nakReceived n.val f.ack s.dev
        else if f.type = 0 then ackTo n.val f.ack s.dev
        else if f.type = 1 then dataFrame f (ackTo n.val f.ack (setShunisPort n.val { p with rxSeq := some f.seq, naks := 0 } s.dev))
        else s.dev)))
  ∧ (∀ (s : State) (n : Fin 4) (ack : Nat), (shunisPort s.dev n.val).up = true →
      exec (.nak n ack) s = .next (after s (
        let d := ackTo n.val ack s.dev
        let p := shunisPort d n.val
        if p.unacked = [] then d
        else if 7 ≤ p.replays then
          let d := raiseFault (plainFault (0x3C0 + n.val) 4 1 0) d
          raiseEvent (0x3C0 + n.val) 2 (ballIndex d) 0 (portDown n.val d)
        else raiseFault (plainFault (0x3C0 + n.val) 1 0 0) (setShunisPort n.val { p with replays := p.replays + 1 } d))))
  ∧ (∀ (s : State) (n : Fin 4), (shunisPort s.dev n.val).up = true →
      exec (.shunisLinkDown n) s = .next (after s (raiseEvent (0x3C0 + n.val) 2
        (ballIndex s.dev) 0
        (raiseFault (plainFault (0x3C0 + n.val) 3 1 0) (portDown n.val s.dev)))))
  ∧ (∀ (s : State) (src : Fin 8) (mask : BitVec 8) (t emit : Nat), inMask s.dev.group.members src.val = true →
      exec (.busAssert src mask t emit) s = .next (after s (assertBus mask.toNat t s.dev)))
  ∧ (∀ (s : State) (src : Fin 8) (emit : Nat), inMask s.dev.group.members src.val = true →
      exec (.ping src emit) s = .next (after s (pingsDone { s.dev with group := { s.dev.group with
        busTransitMax := max s.dev.group.busTransitMax (ballIndex s.dev - emit), pings := s.dev.group.pings + 1 } })))
  ∧ (∀ (s : State) (src : Fin 8) (emit : Nat), exec (.pong src emit) s = .next (after s s.dev))
  ∧ (∀ (s : State) (src : Fin 8) (tag status : Nat) (reply : List Byte) (f : Flight), tget none s.dev.host.flights tag = some f →
      f.forwardedTo = some src.val →
      exec (.cpl src tag status reply) s = .next (after s (let d := freeForwarded src.val s.dev
        let q := queueOf f.packet
        let sq := subQueue d q
        let long := 20 < reply.length
        let written := long ∧ f.packet.replyAddr ≠ 0
        let d := if written then memWrite f.packet.replyAddr (padTo reply 256) d else d
        let flags := if written then 4 else if long then 2 else 0
        if d.host.silent.contains f.packet then dropFlight tag { d with host := { d.host with silent := d.host.silent.erase f.packet } }
        else settleDeletes (postRaw sq.cq
          { bytes := completionBytes tag status flags q sq.head reply.length src.val reply
            frees := some tag, event := none } d))))

/-- The pair commands have their effect. PAIR_FORM at the even member of the pair that it names, with the epoch at least three
ahead, the peer ready and every mirrored ring long enough, sends the shadow the settings and waits; DISSOLVE of a formed pair
ends it here and tells the peer; STATUS returns the pair's state byte; PAIR_TAKEOVER at a primary that is not degraded, with
no takeover planned and the epoch to come, announces the epoch and waits. -/
def Obligations.PairCommandsAct : Prop :=
  (∀ (s : State) (p : Packet), admitted s.dev 0x0D02 p = true → reservedZero p [(0, 3), (8, 40)] = true →
      let d := taken p s.dev
      let k := pByte p 1
      k ≤ 3 → pByte p 2 = 0 → pByte p 47 < 64 → d.group.id = 2 * k → d.group.pairFormed = false → d.group.pairPlan = none →
      epochIndex d + 3 ≤ p64 p 8 → pairReady d (2 * k + 1) (pairStreams p) = true → (streamsOf (pairStreams p)).any (ringTooShort d) = false →
      exec (.pairForm p) s = .next (after s (sendMsg (2 * k + 1)
        (.cmdMirror (.pairForm (p64 p 8) (pairStreams p) d.cfg.generation (pairKept (listed d.cfg.active)) (pairKept (listed d.cfg.dirty))
          (d.cfg.overlays.filterMap (fun e => e.2.map (fun l => (e.1, pairKept l))))
          ((streamsOf (pairStreams p)).map (fun n => (n, (stream d n).ringLog2)))))
        { park p d with group := { (park p d).group with
            pairPlan := some ⟨some p, p64 p 8, 1, 2 * k + 1, pairStreams p, false⟩ } })))
  ∧ (∀ (s : State) (p : Packet), admitted s.dev 0x0D02 p = true → reservedZero p [(0, 3)] = true → pByte p 2 ≤ 1 →
      s.dev.group.id / 2 = pByte p 1 → s.dev.group.pairFormed = true →
      exec (.pairDissolve p) s = .next (after s (complete p .ok [] (dissolve (bit (pByte p 2) 0)
        (sendMsg (s.dev.group.pairPeer.getD 0) (.cmdMirror (.dissolve (bit (pByte p 2) 0))) (taken p s.dev))))))
  ∧ (∀ (s : State) (p : Packet), admitted s.dev 0x0D02 p = true → reservedZero p [(0, 2)] = true → s.dev.group.id / 2 = pByte p 1 →
      exec (.pairStatus p) s = .next (after s (complete p .ok (leBytes 1 (pairStatusWord (taken p s.dev))) (taken p s.dev))))
  ∧ (∀ (s : State) (p : Packet), admitted s.dev 0x0D03 p = true → reservedZero p [(1, 2), (8, 8)] = true → pByte p 2 ≤ 1 →
      let d := taken p s.dev
      let t := if bit (pByte p 2) 0 then p64 p 8 else epochIndex d + 3
      d.group.id / 2 = pByte p 1 → d.group.pairFormed = true → d.group.pairRole = 1 → d.group.pairDegraded = false →
      d.group.takeoverAt = none → d.sampleIndex < epochStart d t →
      exec (.pairTakeover p) s = .next (after s
        (let e := { park p d with group := { (park p d).group with takeoverAt := some (some p, t) } }
         sendMsg (e.group.pairPeer.getD 0) (.cmdMirror (.takeoverAt t)) e)))

/-- Heartbeats, takeover and mirroring act as R502 to R509 say. A formed pair sends heartbeats on every route and notes those
that come; without port 3 up, or when the shadow says that it lost its peer, the heartbeat degrades the pair with its fault.
Without heartbeats, or at a FATAL_NOTICE, the shadow takes over; the primary degrades. A FENCE drops a planned takeover,
whose command ends ABORTED, and raises its FATAL fault. At its epoch a planned takeover mutes the old primary, and makes the
shadow the primary that tells it so. Keys, acknowledgements, memory writes and commands of the primary act at the shadow,
their confirmations at the primary. A CMD of another member runs while fewer than 512 run. An upset of a word of the control
store that its parity shows raises the machine check, returns the fetched commands and reloads the store. -/
def Obligations.PairEventsAct : Prop :=
  (∀ (s : State) (peer : Nat), s.dev.group.pairFormed = true → s.dev.group.pairPeer = some peer →
      exec .heartbeatSend s = .next (after s (
        let m := Msg.heartbeat s.dev.group.pairRole (ballIndex s.dev) s.dev.cfg.generation (lastKeySeq s.dev) (pairStatusWord s.dev)
        let d := sendEveryRoute peer m s.dev
        { d with group := { d.group with heartbeatsSent := d.group.heartbeatsSent + 1 } })))
  ∧ (∀ (s : State) (port3 : Bool) (i k st : Nat), s.dev.group.pairFormed = true →
      exec (.heartbeat port3 i k st) s = .next (after s (
        let d := { s.dev with group := { s.dev.group with lastHeartbeat := some s.dev.time, heartbeatPort3 := port3 } }
        if port3 = false ∧ (shunisPort d 3).up = false ∧ d.group.pairDegraded = false then degrade (raiseFault (plainFault 0x3C5 9 1 0) d)
        else if mirroring d = true ∧ bit st 1 = true then degrade (raiseFault (plainFault 0x3C5 0x0A 1 0) d)
        else d)))
  ∧ (∀ s : State, s.dev.group.pairFormed = true → s.dev.group.pairRole = 2 → s.dev.group.pairDegraded = false →
      exec .heartbeatTimeout s = .next (after s (takeOver 0 s.dev)))
  ∧ (∀ s : State, s.dev.group.pairFormed = true → s.dev.group.pairRole = 1 → s.dev.group.pairDegraded = false →
      exec .heartbeatTimeout s = .next (after s (degrade (raiseFault (plainFault 0x3C5 0x0A 1 0) s.dev))))
  ∧ (∀ (s : State) (src kind : Nat), s.dev.group.pairFormed = true → s.dev.group.pairRole = 2 → s.dev.group.pairDegraded = false →
      exec (.fatalNotice src kind) s = .next (after s (takeOver (if src = 0x3FD then 3 else 1) s.dev)))
  ∧ (∀ s : State,
      exec .fence s = .next (after s (
        let d := raiseFault (plainFault 0x3C5 0x0B 2 0) { s.dev with group := { s.dev.group with takeoverAt := none } }
        match s.dev.group.takeoverAt with
        | some (p, _) => completeOpt p .aborted [] d
        | none => d)))
  ∧ (∀ (s : State) (p : Option Packet) (t peer : Nat), s.dev.group.takeoverAt = some (p, t) → s.dev.group.pairPeer = some peer →
      epochStart s.dev t ≤ s.dev.sampleIndex → (s.dev.group.pairRole = 1 ∨ p = none) →
      exec .pairTakeoverAct s = .next (after s (
        if s.dev.group.pairRole = 1 then
          { s.dev with group := { s.dev.group with
              pairRole := 2, pairMuted := true, unmuteAt := none, keySeq := lastSequences s.dev, takeoverAt := p.map (fun x => (some x, t)) } }
        else
          let d := { s.dev with group := { s.dev.group with pairRole := 1, takeoverAt := none } }
          let counts := d.group.reorder.map (fun e => (e.1, e.2.length))
          let d := (streamsOf d.group.mirrored).foldl (fun d n => writeUnkeyed n d) d
          let d := writeTakeovers 2 peer (tget 0 counts) d
          sendMsg peer (.cmdMirror .switched) { d with group := { d.group with pairMuted := false, unmuteAt := none } })))
  ∧ (∀ (s : State) (k : RecKey), mirrorsIn s.dev k.stream = true →
      exec (.keyLog k) s = .next (after s (let d := setKeys k.stream (keyQueue s.dev k.stream ++ [k]) s.dev
        settleRequests k.stream (allocOffset (stream s.dev k.stream)) (matchKeys k.stream ((keyQueue d k.stream).length) d))))
  ∧ (∀ (s : State) (n : Fin 256), mirrorsIn s.dev n.val = true →
      exec (.keyMatchTimeout n) s = .next (after s (match keyQueue s.dev n.val with
        | [] => setReorder n.val (reorderArea s.dev n.val).tail s.dev
        | k :: ks =>
          let o := allocOffset (stream s.dev n.val)
          let d := setStream n.val { stream s.dev n.val with nextSeq := k.seq } (setKeys n.val ks s.dev)
          let d := appendRec n.val (gapRec d k.source 0x0B k.firstIndex 0 0 d.cfg.generation []) d
          let d := raiseFault (plainFault 0x3C5 8 0 0) { d with group := { d.group with
            mismatches := d.group.mismatches + 1, keySeq := tset 0 d.group.keySeq n.val k.seq } }
          settleRequests n.val o (matchKeys n.val ((keyQueue d n.val).length) d))))
  ∧ (∀ (s : State) (n : Fin 256) (tag seq off : Nat), mirrorsIn s.dev n.val = true →
      exec (.ackMirror false tag n seq off) s = .next (after s
        (sendMsg (s.dev.group.pairPeer.getD 0) (.ackMirror true tag n.val seq off) (applyAck n.val seq off s.dev))))
  ∧ (∀ (s : State) (n : Fin 256) (tag seq off : Nat) (u : Unconfirmed), s.dev.group.unconfirmed.find? (fun u => u.tag == tag) = some u →
      exec (.ackMirror true tag n seq off) s = .next (after s (finish u.packet .ok (stateBlock s.dev n.val)
        { s.dev with group := { s.dev.group with unconfirmed := s.dev.group.unconfirmed.erase u } })))
  ∧ (∀ (s : State) (m : MemMirrorMsg), s.dev.group.pairFormed = true → s.dev.group.pairRole = 2 → s.dev.group.pairDegraded = false →
      exec (.memMirror m) s = .next (after s (match m with
        | .write g i v => entryMemoryWrite g.val i v s.dev
        | .ringCommit g n => match segDef (generator s.dev g.val) n with
          | some x => setGenerator g.val (setSeg n (some { x with committed := true, committedAt := ballIndex s.dev, written := [] })
              (generator s.dev g.val)) s.dev
          | none => s.dev)))
  ∧ (∀ (s : State) (p : Packet) (i : Option Nat), s.dev.group.pairRole = 2 → p.opcode ≠ 0x0100 → p.opcode ≠ 0x0101 →
      exec (.cmdMirror (.command p i [])) s = .next (after s
        (let d := withBlocks [] (runPacket (actAtInstant { p with src := .mirrored } i)) s.dev
         let d := { d with group := { d.group with mirroredCount := d.group.mirroredCount + 1, lastTag := p.tag.toNat } }
         sendMsg (d.group.pairPeer.getD 0) (.cmdMirror (.confirm p.tag.toNat)) d)))
  ∧ (∀ (s : State) (m : CmdMirrorMsg),
      exec (.cmdMirror m) s = .next (after s (match m with
        | .command p i data =>
          if s.dev.group.pairRole ≠ 2 then s.dev
          else
            let x := shadowCommand p i data
            let gone := (p.opcode == 0x0100 || (p.opcode == 0x0101 && pByte p 1 != 2)) && x.2.all (fun e => e.2.isEmpty)
            let d := if gone then s.dev else withBlocks x.2 (runPacket x.1) s.dev
            let d := { d with group := { d.group with mirroredCount := d.group.mirroredCount + 1, lastTag := p.tag.toNat } }
            sendMsg (d.group.pairPeer.getD 0) (.cmdMirror (.confirm p.tag.toNat)) d
        | .confirm tag => confirmCommand tag s.dev
        | .pairForm t streams g active staged overlays rings =>
          pairFormMsg (s.dev.group.id / 2 * 2) t streams g active staged overlays rings s.dev
        | .pairAnswer ok => pairAnswer ok s.dev
        | .dissolve unmute => if s.dev.group.pairFormed then dissolve unmute s.dev else s.dev
        | .takeoverAt t =>
          if s.dev.group.pairRole = 2 ∧ s.dev.group.pairFormed = true then
            { s.dev with group := { s.dev.group with takeoverAt := some (none, t) } }
          else s.dev
        | .switched => switchedMsg s.dev)))
  ∧ (∀ (s : State) (src : Fin 8) (q role : Nat) (p : Packet), s.dev.group.forwardedRunning < 512 →
      exec (.cmd src q role p) s = .next (after s (runPacket
        { p with src := .forwarded src.val q role, target := 0xF000#16 ||| (p.target &&& 0x0FFF#16) }
        { s.dev with group := { s.dev.group with forwardedRunning := s.dev.group.forwardedRunning + 1 } })))
  ∧ (∀ (s : State) (addr : Fin 16384) (upset : Fin 148) (reads : List (Option (List (Nat × Byte)))) (fetched : List (Fin 64)),
      cpRuns s.dev = true → parityHolds (fetchWord (upsetWord s.dev.pad.store addr.val upset.val) addr.val) = false →
      exec (.machineCheck addr upset reads fetched) s = .next (after s (
        let d := { s.dev with pad := { s.dev.pad with store := upsetWord s.dev.pad.store addr.val upset.val } }
        let d := raiseFault (plainFault 0x001 2 1 0) { d with host := { d.host with mcheck := true } }
        reloadStore reads ((fetched.map (·.val)).foldl (fun d q => retryFetched q d) d))))

/-- The clock commands stage, report and load. CLK_SET stages the divider set of R70 and returns it with the residual error.
CLK_STATUS returns the status word and clears the status bits of its mask. LO_RAMP_LOAD replaces a ramp store that no context
uses. -/
def Obligations.ClockCommandsAct : Prop :=
  (∀ (s : State) (p : Packet) (r fb : Nat), admitted s.dev 0x0200 p = true → reservedZero p [(0, 1), (8, 8)] = true → pByte p 0 = 0 →
      let d := taken p s.dev
      sclkDividers (stagedVal d (cfgKey 1 2 1)).toNat (p64 p 8) = some (r, fb) →
      exec (.clkSet p) s = .next (after s (complete p .ok (leInt 8 0 ++ leBytes 1 r ++ leBytes 1 0 ++ leBytes 2 fb ++ leBytes 4 0)
        (stage (cfgKey 1 0 2) fb (stage (cfgKey 1 0 1) r d)))))
  ∧ (∀ (s : State) (p : Packet) (o word : Nat), admitted s.dev 0x0200 p = true → reservedZero p [(0, 1), (8, 8)] = true → pByte p 0 = 1 →
      let d := taken p s.dev
      let r := (stagedVal d (cfgKey 1 1 1)).toNat
      let refin := (stagedVal d (cfgKey 1 2 1)).toNat
      loDividers refin r (p64 p 8) = some (o, word) →
      exec (.clkSet p) s = .next (after s (complete p .ok (leInt 8 (loError refin r o word (p64 p 8)) ++ leBytes 1 r ++ leBytes 1 o
          ++ leBytes 2 (word / 4294967296) ++ leBytes 4 (word % 4294967296))
        (stage (cfgKey 1 1 4) o (stage (cfgKey 1 1 3) ((word % 4294967296 : Nat) : Int)
          (stage (cfgKey 1 1 2) ((word / 4294967296 : Nat) : Int) d))))))
  ∧ (∀ (s : State) (p : Packet), admitted s.dev 0x0201 p = true → reservedZero p [(0, 8)] = true →
      exec (.clkStatus p) s = .next (after s (complete p .ok (leBytes 8 (clockStatus (taken p s.dev)))
        (clearClockBits (p64 p 0) (taken p s.dev)))))
  ∧ (∀ (s : State) (p : Packet) (g : List RampSegment), admitted s.dev 0x0202 p = true → reservedZero p [(0, 1), (2, 2), (8, 8)] = true →
      let d := taken p s.dev
      pByte p 0 < 4 → 0 < p16 p 2 → p16 p 2 ≤ 1024 → reachable d .cp false (p64 p 8) (16 * p16 p 2) = true →
      decodeAll readSegment (readEntries d (p64 p 8) 16 (p16 p 2)) = some g → rampStoreBusy d (pByte p 0) = false →
      exec (.loRampLoad p) s = .next (after s (complete p .ok []
        { d with clk := { d.clk with rampStores := tset [] d.clk.rampStores (pByte p 0) g } })))

/-- Relocks, holdover and ramps act as R72 to R88 say. While a synthesiser searches with the reference present, BAND_SEARCH_DONE
takes core and band and closes the loop, for the LO with its accumulator preloaded. LOCK_DETECT of a closing loop ends the
relock, releases the output, puts the dividers in force, raises the event and settles the commits that waited; of SCLK it
also relocks the converters and, outside a wake, resumes the blocks. A timeout of a relock raises its fault and fails it or
repeats it once. Loss of lock clears LOCKED; a reference that is absent or out of range begins holdover, where locked
synthesisers coast and relocks wait; one that qualifies ends it and starts what waited; the end of a slew restores LOCKED. A
ramp step adds its delta, enters the next segment, repeats or ends the profile. The Drone falls back to its RC oscillator
unless told not to; a failed system PLL is fatal. SYNC, enabled or armed, with the reference present and outside SLEEP ends
the old sample count and starts the new one, and during an SCLK relock is only noted. -/
def Obligations.ClockEventsAct : Prop :=
  (∀ (s : State) (y : Synth) (core band periods : Nat), (synth s.dev y).relock = .search → s.dev.clk.refPresent = true →
      exec (.bandSearchDone y { vco := core, band := band } periods) s = .next (after s (
        let d := { s.dev with clk := { s.dev.clk with loPeriods := s.dev.clk.loPeriods + periods } }
        let d := setSynth y { synth s.dev y with relock := .closing, core := core % 4, band := band % 64 } d
        match y with
        | .sclk => d
        | .lo => { d with clk := { d.clk with loAccumulator := preload d } })))
  ∧ (∀ s : State, s.dev.clk.lo.relock = .closing → s.dev.clk.refPresent = true →
      exec (.lockDetect .lo) s = .next (after s (settleAdoptions (
        let d := setSynth .lo { s.dev.clk.lo with locked := true, gated := false, relock := .idle, repeated := false
                                                  inForce := activeDividers s.dev .lo } s.dev
        let d := raiseEvent 0x041 1 (ballIndex d) 0 d
        { d with clk := { d.clk with loHeld := false } }))))
  ∧ (∀ s : State, s.dev.clk.sclk.relock = .closing → s.dev.clk.refPresent = true →
      exec (.lockDetect .sclk) s = .next (after s (settleAdoptions (
        let d := setSynth .sclk { s.dev.clk.sclk with locked := true, gated := false, relock := .idle, repeated := false
                                                      inForce := activeDividers s.dev .sclk } s.dev
        let d := raiseEvent 0x040 1 (ballIndex d) 0 d
        let first := !d.clk.sclkEver
        let waking := d.power.waking.isSome
        let d := { d with clk := { d.clk with sclkEver := true } }
        let changed := fsclkHz d != fsclkHz s.dev
        let d := (List.range 4).foldl (fun d ch => relockConverter changed first waking ch d) d
        if waking then d else resumeAfterRelock d))))
  ∧ (∀ (s : State) (y : Synth), (synth s.dev y).relock = .closing ∨ (synth s.dev y).relock = .search → s.dev.clk.refPresent = true →
      exec (.relockTimeout y) s = .next (after s (
        let d := raiseFault (plainFault (synthSource y) 1 1 0) { s.dev with clk := { s.dev.clk with lockFail := true } }
        if (synth s.dev y).repeated then setSynth y { synth d y with relock := .failed } d else startRelock y true d)))
  ∧ (∀ (s : State) (y : Synth), (synth s.dev y).locked = true → s.dev.clk.refPresent = true →
      exec (.lossOfLock y) s = .next (after s (
        let d := setSynth y { synth s.dev y with locked := false, unlock := true }
          { s.dev with clk := { s.dev.clk with phaseUnverified := true } }
        raiseEvent (synthSource y) 2 (ballIndex s.dev) 0 d)))
  ∧ (∀ (s : State) (hz : Option Nat), s.dev.clk.refPresent = true → (∀ f, hz = some f → refinAgrees s.dev f = false) →
      exec (.referenceLost hz) s = .next (after s (
        let coast (v : Synthesiser) : Synthesiser := { v with locked := false, relock := if relocking v then .waitRef else v.relock }
        raiseEvent 0x042 1 (ballIndex s.dev) 0 { s.dev with clk := { s.dev.clk with
          refPresent := false, refLost := true, holdover := true, slewing := false, phaseUnverified := true
          sclk := coast s.dev.clk.sclk, lo := coast s.dev.clk.lo } })))
  ∧ (∀ (s : State) (hz : Nat), s.dev.clk.refPresent = false → refinAgrees s.dev hz = true →
      exec (.referenceQualified hz) s = .next (after s (
        let coasting := s.dev.clk.holdover && (!s.dev.clk.sclk.gated || !s.dev.clk.lo.gated)
        let d := { s.dev with clk := { s.dev.clk with refPresent := true, holdover := false, slewing := coasting } }
        let d := raiseEvent 0x042 2 (ballIndex d) 0 d
        let d := if wantsLock d d.clk.sclk then startRelock .sclk d.clk.sclk.repeated d else d
        if wantsLock d d.clk.lo then startRelock .lo d.clk.lo.repeated d else d)))
  ∧ (∀ s : State, s.dev.clk.slewing = true →
      exec .slewComplete s = .next (after s (
        let lock (v : Synthesiser) : Synthesiser := { v with locked := v.locked || (!v.gated && !relocking v) }
        raiseEvent 0x042 3 (ballIndex s.dev) 0 { s.dev with clk := { s.dev.clk with
          slewing := false, loHeld := s.dev.clk.loHeld && s.dev.clk.lo.gated, sclk := lock s.dev.clk.sclk, lo := lock s.dev.clk.lo } })))
  ∧ (∀ (s : State) (crossing : Option (Nat × Nat)) (g : RampSegment), s.dev.clk.ramp.active = true → s.dev.clk.ramp.waiting = false →
      (rampProfile s.dev)[s.dev.clk.ramp.segment]? = some g →
      exec (.rampStep crossing) s = .next (after s (
        let r := s.dev.clk.ramp
        let d := { s.dev with clk := { s.dev.clk with ramp := { r with word := r.word + g.delta, step := r.step + 1 } } }
        let d := match crossing with
          | none => d
          | some (vco, band) =>
            raiseEvent 0x041 3 (ballIndex d) 0 { d with clk := { d.clk with
              ramp := { d.clk.ramp with crossing := true }, lo := { d.clk.lo with core := vco % 4, band := band % 64 } } }
        if r.step + 1 < g.count then d
        else if g.last = false ∧ r.segment + 1 < (rampProfile s.dev).length then enterSegment (r.segment + 1) d
        else if cfgOn d 1 1 0x13 then enterSegment 0 d
        else raiseEvent 0x043 2 (ballIndex d) 0 { d with clk := { d.clk with ramp := { d.clk.ramp with active := false } } })))
  ∧ (∀ s : State, exec .bandCrossingMuteEnd s = .next (after s
      { s.dev with clk := { s.dev.clk with ramp := { s.dev.clk.ramp with crossing := false } } }))
  ∧ (∀ s : State, s.dev.clk.onRc = false → cfgOn s.dev 1 2 4 = false →
      exec .droneFallback s = .next (after s
        (raiseEvent 0x045 1 0 0 { s.dev with clk := { s.dev.clk with onRc := true, droneFallback := true } })))
  ∧ (∀ s : State, exec .systemClockFailure s = .next (after s
      (raiseFault (plainFault 0x044 1 2 0) { s.dev with clk := { s.dev.clk with sysPll := false } })))
  ∧ (∀ (s : State) (c : Int), s.dev.power.state ≠ .sleep → s.dev.clk.refPresent = true →
      (cfgN s.dev 0x0F 0 2 = 1 ∨ s.dev.group.syncArmed = true) →
      exec (.sync c) s = .next (after s (
        if relocking s.dev.clk.sclk then
          let d := raiseEvent 0x040 3 (ballIndex s.dev) 0 { s.dev with clk := { s.dev.clk with syncIgnored := true } }
          raiseEvent 0x3C4 4 (ballIndex d) 0 d
        else
          let d := syncLaneBatches (trigSync (tiuSync (convSync (endOldCount (adoptOldTokens s.dev)))))
          reportSync c (raiseEvent 0x3C4 3 0 0 (startNewCount (haltGen 1 2 .aborted (haltGen 0 2 .aborted d)))))))

/-- The commands of the fault chapter have their effect. BLOCK_RESET starts the reset of a block and waits; SAFE_EXIT leaves the
safe state; FAULT_READ returns the records, drains the log, and gives the live bits and the pending events; FAULT_ACK empties
the record that it names; FAULT_DUMP writes the dump; EVENT_MAP replaces the setting of a source and returns the old one. -/
def Obligations.FaultCommandsAct : Prop :=
  (∀ (s : State) (p : Packet) (b : Nat), admitted s.dev 0x0005 p = true → reservedZero p [] = true → resetBlockOf (unitOf p) = some b →
      exec (.blockReset p) s = .next (after s (beginReset b (some p) (park p (taken p s.dev)))))
  ∧ (∀ (s : State) (p : Packet), admitted s.dev 0x0006 p = true → reservedZero p [] = true → s.dev.power.state = .safe →
      exitBlocker (taken p s.dev) = none →
      exec (.safeExit p) s = .next (after s (let d := taken p s.dev
        let d := { d with power := { d.power with state := .ready }, clk := { d.clk with loHeld := !d.clk.lo.locked }
                          fault := { d.fault with fatalKinds := [], fatalHandled := [] } }
        complete p .ok [] (raiseEvent 0x3F0 4 (ballIndex d) 0 d))))
  ∧ (∀ (s : State) (p : Packet), admitted s.dev 0x0E01 p = true → reservedZero p [(0, 1), (4, 12)] = true →
      exec (.faultReadRecords p) s = .next (after s (let d := taken p s.dev
        complete p .ok (threeRecords d ++ leBytes 4 d.fault.logLost.toNat ++ leBytes 4 d.fault.log.length) d)))
  ∧ (∀ (s : State) (p : Packet), admitted s.dev 0x0E01 p = true →
      let d := taken p s.dev
      let es := d.fault.log.take (p32 p 4)
      faultReadOk d p (64 * es.length) = true → es ≠ [] →
      exec (.faultReadLog p) s = .next (after s (
        let d := memWrite (p64 p 8) (es.flatMap faultBytes) d
        let d := { d with fault := { d.fault with log := d.fault.log.drop es.length
                                                  logRead := d.fault.logRead + BitVec.ofNat 32 es.length, corrected := none } }
        complete p .ok (leBytes 4 es.length ++ leBytes 4 d.fault.log.length) d)))
  ∧ (∀ (s : State) (p : Packet), admitted s.dev 0x0E01 p = true → faultReadOk (taken p s.dev) p 128 = true →
      exec (.faultReadLive p) s = .next (after s (complete p .ok [] (memWrite (p64 p 8) (liveBytes (taken p s.dev)) (taken p s.dev))))
      ∧ exec (.faultReadEvents p) s = .next (after s (let d := memWrite (p64 p 8) (leBytes 128 (taken p s.dev).fault.eventPending.toNat) (taken p s.dev)
          complete p .ok [] { d with fault := { d.fault with eventPending := 0 } })))
  ∧ (∀ (s : State) (p : Packet) (e : FaultEntry), admitted s.dev 0x0E00 p = true → reservedZero p [(0, 1), (8, 8)] = true → pByte p 0 ≤ 2 →
      faultRecord (taken p s.dev) (pByte p 0) = some e → e.firstTime = p64 p 8 →
      exec (.faultAck p) s = .next (after s (complete p .ok (leBytes 4 e.count) (setFaultRecord (pByte p 0) none (taken p s.dev)))))
  ∧ (∀ (s : State) (p : Packet), admitted s.dev 0x0E03 p = true → reservedZero p [(8, 12)] = true →
      let d := taken p s.dev
      let bs := dumpBytes d
      let n := min (p32 p 16) bs.length
      p64 p 8 ≠ 0 → (n = 0 ∨ reachable d .cp true (p64 p 8) n = true) →
      exec (.faultDump p) s = .next (after s (complete p .ok (leBytes 4 n ++ leBytes 1 (boolN (decide (n < bs.length))))
        (memWrite (p64 p 8) (bs.take n) (takeFresh d)))))
  ∧ (∀ (s : State) (p : Packet), admitted s.dev 0x0E02 p = true → eventMapOk (taken p s.dev) p = true →
      exec (.eventMap p) s = .next (after s (let d := taken p s.dev
        let old := Machine.eventMap d (p16 p 0)
        let new : EventMap := { mode := pByte p 2, target := pByte p 3, alert := bit (pByte p 4) 0, codeMask := p64 p 8 }
        complete p .ok (leBytes 1 old.mode ++ leBytes 1 old.target ++ zeroBytes 6 ++ leBytes 8 old.codeMask)
          { d with fault := { d.fault with eventMaps := tset {} d.fault.eventMaps (p16 p 0) new } })))

/-- Fault messages, windows and resets run. FAULT_MESSAGE lets the collector accept the oldest waiting message, counts a repeated
one in its record, escalates a different one of the same class, and logs a collateral one; a live bit falls at its timeout, a
reaction window closes, and a block reset completes with its GAP records and its replies. -/
def Obligations.FaultEventsAct : Prop :=
  (∀ (s : State) (m : FaultMsg) (rest : List FaultMsg), s.dev.fault.inbox = m :: rest → m.source ≠ 0x3F0 →
      let d := { s.dev with fault := { s.dev.fault with inbox := rest } }
      let e := faultEntry d m (tget 0 d.fault.lost (m.source * 64 + m.kind))
      let d := { d with fault := { d.fault with
        lost := tset 0 d.fault.lost (m.source * 64 + m.kind) 0, live := tset none d.fault.live (m.source * 64 + m.kind) (some d.time) } }
      isCollateral d m.source m.kind = true →
      exec (.faultMessage none) s = .next (after s
        (writeLog { e with collateral := true } { d with fault := { d.fault with collateral := d.fault.collateral + 1 } })))
  ∧ (∀ (s : State) (m : FaultMsg) (rest : List FaultMsg), s.dev.fault.inbox = m :: rest → m.source ≠ 0x3F0 →
      let d := { s.dev with fault := { s.dev.fault with inbox := rest } }
      let e := faultEntry d m (tget 0 d.fault.lost (m.source * 64 + m.kind))
      let d := { d with fault := { d.fault with
        lost := tset 0 d.fault.lost (m.source * 64 + m.kind) 0, live := tset none d.fault.live (m.source * 64 + m.kind) (some d.time) } }
      isCollateral d m.source m.kind = false → faultRecord d m.cls = none →
      exec (.faultMessage none) s = .next (after s (reactFault e (writeLog e (captureFault e d)))))
  ∧ (∀ (s : State) (m : FaultMsg) (rest : List FaultMsg) (r : FaultEntry), s.dev.fault.inbox = m :: rest → m.source ≠ 0x3F0 →
      let d := { s.dev with fault := { s.dev.fault with inbox := rest } }
      let e := faultEntry d m (tget 0 d.fault.lost (m.source * 64 + m.kind))
      let d := { d with fault := { d.fault with
        lost := tset 0 d.fault.lost (m.source * 64 + m.kind) 0, live := tset none d.fault.live (m.source * 64 + m.kind) (some d.time) } }
      isCollateral d m.source m.kind = false → faultRecord d m.cls = some r → sameFault r e = true →
      exec (.faultMessage none) s = .next (after s (reactFault e (writeLog e (countFault m.cls e.count d)))))
  ∧ (∀ (s : State) (m : FaultMsg) (rest : List FaultMsg) (r : FaultEntry), s.dev.fault.inbox = m :: rest → m.source ≠ 0x3F0 →
      let d := { s.dev with fault := { s.dev.fault with inbox := rest } }
      let e := faultEntry d m (tget 0 d.fault.lost (m.source * 64 + m.kind))
      let d := { d with fault := { d.fault with
        lost := tset 0 d.fault.lost (m.source * 64 + m.kind) 0, live := tset none d.fault.live (m.source * 64 + m.kind) (some d.time) } }
      isCollateral d m.source m.kind = false → faultRecord d m.cls = some r → sameFault r e = false → m.cls < 2 →
      exec (.faultMessage none) s = .next (after s (
        let e := { e with handled := m.cls + 1, escalated := true }
        let d := { d with fault := { d.fault with
          escalations := d.fault.escalations + 1
          fatalHandled := if e.handled == 2 then d.fault.fatalHandled ++ [(e.source, e.kind)] else d.fault.fatalHandled } }
        let d := raiseEvent 0x3F0 2 (ballIndex s.dev) 0 d
        if (faultRecord d e.handled).isNone then reactFault e (writeLog e (captureFault e d))
        else writeLog e (countFault e.handled e.count d))))
  ∧ (∀ (s : State) (src kind : Nat), exec (.liveBitTimeout src kind) s = .next (after s (
      let mark (r : Option FaultEntry) : Option FaultEntry :=
        r.map (fun e => if e.source = src ∧ e.kind = kind then { e with noLonger := true } else e)
      { s.dev with fault := { s.dev.fault with
          live := tset none s.dev.fault.live (src * 64 + kind) none
          corrected := mark s.dev.fault.corrected, contained := mark s.dev.fault.contained, fatal := mark s.dev.fault.fatal } })))
  ∧ (∀ (s : State) (i : Nat), exec (.reactionWindowClose i) s = .next (after s
      { s.dev with fault := { s.dev.fault with windows := s.dev.fault.windows.eraseIdx i } }))
  ∧ (∀ (s : State) (src b : Nat) (r : RunningReset), resetBlockOf src = some b → s.dev.fault.resets.find? (fun x => x.block == b) = some r →
      exec (.blockResetComplete src) s = .next (after s (
        let d := { s.dev with fault := { s.dev.fault with resets := s.dev.fault.resets.filter (fun x => x.block != b) } }
        let stop := resetStop d b
        let d := gapFor 0x06 r.startIndex (stop - r.startIndex) d.cfg.generation (resetChannels b) (resetFeeds d b) d
        let d := restartBlock b r.startIndex d
        r.waiters.foldl (fun d p => complete p .ok (leBytes 8 d.time) d) d)))

/-- The calibration commands have their effect. CAL_RUN of enabled channels in a calibration mode with a spare, none in a pass
unless RESTART is set, abandons and starts their passes; without WAIT or channels it completes with their results, with WAIT
it waits for the passes. CAL_READ writes the code set in use, or the pending one where there is one, to an aligned
destination that it can reach, clears the status bits of its mask and returns the status word. CAL_WRITE with a valid set
abandons the pass, supersedes a set that was pending, and makes its own pending for the next instant that is a multiple of 64
samples at least 65,536 ahead, or applies it at once while the conversion clock is gated. -/
def Obligations.ConverterCommandsAct : Prop :=
  (∀ (s : State) (p : Packet), admitted s.dev 0x0300 p = true → reservedZero p [(0, 2)] = true → pByte p 0 ≤ 15 → pByte p 1 ≤ 3 →
      let d := taken p s.dev
      let chs := maskChannels (pByte p 0)
      (bit (pByte p 1) 0 = true ∨ ∀ ch ∈ chs, (converter d ch).pass = none) →
      (∀ ch ∈ chs, calMode d ch ≠ 0 ∧ convEnabled d ch = true ∧ availableSpares (converter d ch) ≠ []) →
      exec (.calRun p) s = .next (after s (
        let d := chs.foldl (fun d ch => startPass ch 2 (abandonPass ch d)) d
        if bit (pByte p 1) 1 = true ∧ chs ≠ [] then
          park p { d with conv := { d.conv with
            waiters := d.conv.waiters ++ [{ packet := p, channels := chs, results := calResults d chs, failed := false }] } }
        else complete p .ok (calResultBytes (calResults d chs)) d)))
  ∧ (∀ (s : State) (p : Packet), admitted s.dev 0x0301 p = true → reservedZero p [(0, 2), (8, 16)] = true → pByte p 0 ≤ 3 → pByte p 1 ≤ 1 →
      let d := taken p s.dev
      p64 p 8 % 64 = 0 → reachable d .cp true (p64 p 8) 288 = true →
      (pByte p 1 = 0 ∨ (converter d (pByte p 0)).pendingSet ≠ none) →
      exec (.calRead p) s = .next (after s (complete p .ok (leBytes 8 (channelStatus d (pByte p 0)))
        (clearChannelBits (pByte p 0) (p64 p 16) (memWrite (p64 p 8)
          (if pByte p 1 = 0 then codeSetInUse d (pByte p 0) else ((converter d (pByte p 0)).pendingSet.map (·.bytes)).getD []) d)))))
  ∧ (∀ (s : State) (p : Packet), admitted s.dev 0x0302 p = true → reservedZero p [(0, 2), (8, 8)] = true → pByte p 0 ≤ 3 → pByte p 1 ≤ 1 →
      let ch := pByte p 0
      p64 p 8 % 64 = 0 → reachable (taken p s.dev) .cp false (p64 p 8) 288 = true →
      codeSetOk ch (memRead (taken p s.dev) (p64 p 8) 288) = true →
      exec (.calWrite p) s = .next (after s (
        let bs := memRead (taken p s.dev) (p64 p 8) 288
        let d := continueWork ch (abandonPass ch (taken p s.dev))
        let d := match (converter d ch).pendingSet with
          | some q => complete q.packet .aborted [] d
          | none => d
        let d := setConverter ch { converter d ch with pendingSet := some {
          packet := p, slices := (List.range 68).map (fun i => readSlice (getLe bs (16 + 4 * i) 4)),
          tRef := signed 16 (getLe bs 4 2), sclkMhz := getLe bs 6 2, passCount := getLe bs 8 4
          applyAt := if d.clk.sclk.gated then ballIndex d else ceilDiv (ballIndex d + 65536) 64 * 64
          startPass := pByte p 1 == 1, bytes := bs } } d
        if d.clk.sclk.gated then applySet ch d else park p d)))

/-- Calibration and conversion events act as R95 to R118 say. CALIBRATION_STEP_END tests its blocks, counts those that qualify,
and after the 64th changes the codes of its slice; the first run ends in the second, the second ends the slice's calibration.
A spare that verifies is handed over and takes the position, one that does not gives way; a run timeout ends the run and, of
a pass, the pass; a retry starts a new pass where its condition still holds; an unhealthy slice is replaced, or unserviceable
without a spare; a pending set takes effect whole; a temperature sample is kept and starts a pass where it exceeds the limit;
a beat of sixteen samples counts its over-range samples, advances the sample index and enters stall 0x01, zeroed where the
channel is disabled or not yet valid. -/
def Obligations.ConverterEventsAct : Prop :=
  (∀ (s : State) (ch : Fin 4) (t : Int),
      exec (.temperatureSample ch t) s = .next (after s (
        let d := setConverter ch.val { converter s.dev ch.val with temp := t } s.dev
        if tempExceeds d ch.val && !(converter d ch.val).retry then startPass ch.val 1 d else d)))
  ∧ (∀ (s : State) (ch : Fin 4) (n : Fin 68) (bs : List CalSums) (w : CalWork),
      stageOf (converter s.dev ch.val) n.val = some (.calibrate w) → w.step ≤ 8 →
      exec (.calibrationStepEnd { ch := ch, slice := n } bs) s = .next (after s (
        let t := bs.foldl (testBlock (cfgInt s.dev 2 ch.val 4)) (w, (converter s.dev ch.val).signalLow)
        let c := { converter s.dev ch.val with signalLow := t.2 }
        if t.1.blocks ≠ 64 then setConverter ch.val (setStage c n.val (some (.calibrate t.1))) s.dev
        else
          let r := calStep t.1 s.dev.fresh
          setConverter ch.val (setStage c n.val (some (.calibrate { t.1 with
            now := r.1, beyond := r.2.1, step := w.step + 1, blocks := 0, sums := {} })))
            (if r.2.2 then takeFresh (takeFresh s.dev) else s.dev))))
  ∧ (∀ (s : State) (ch : Fin 4) (n : Fin 68) (w : CalWork), stageOf (converter s.dev ch.val) n.val = some (.calibrate w) → 8 < w.step →
      exec (.calibrationRunEnd { ch := ch, slice := n }) s = .next (after s (
        if w.run = 1 then setConverter ch.val (setStage (converter s.dev ch.val) n.val
          (some (.calibrate { w with run := 2, step := 1, first := w.now, now := w.before }))) s.dev
        else finishSlice ch.val w s.dev)))
  ∧ (∀ (s : State) (ch : Fin 4) (n : Fin 68) (q : VerifySums) (spare : Nat) (tried : List Nat) (sus : Bool),
      stageOf (converter s.dev ch.val) n.val = some (.verify spare tried sus) →
      exec (.verificationEnd { ch := ch, slice := n } q) s = .next (after s (
        if verifyPasses q sus then setConverter ch.val (setStage (converter s.dev ch.val) n.val (some (.handOver spare sus))) s.dev
        else verificationFailed ch.val n.val spare tried sus s.dev)))
  ∧ (∀ (s : State) (ch : Fin 4) (n : Fin 68) (spare : Nat) (sus : Bool), stageOf (converter s.dev ch.val) n.val = some (.handOver spare sus) →
      exec (.handOver { ch := ch, slice := n }) s = .next (after s (
        let old := sliceAt (converter s.dev ch.val) n.val
        let c := setSlice (converter s.dev ch.val) spare { sliceAt (converter s.dev ch.val) spare with state := 0, position := old.position }
        let c := setSlice c n.val { old with state := 1 }
        let d := setConverter ch.val (beginCalibrate c n.val old.position sus) s.dev
        if sus then noSpareLeft ch.val d else d)))
  ∧ (∀ (s : State) (ch : Fin 4) (n : Fin 68) (w : CalWork), stageOf (converter s.dev ch.val) n.val = some (.calibrate w) →
      exec (.runTimeout { ch := ch, slice := n }) s = .next (after s (
        let c := setStage { converter s.dev ch.val with signalLow := true } n.val none
        if ofPass c n.val then
          let c := requeue { c with
            pass := none, incomplete := true, retry := true, result := (c.result.1, c.result.2.1, c.result.2.2.1, 2) }
          continueWork ch.val (passEnded ch.val true (raiseEvent (convSource ch.val) 3 (ballIndex s.dev) 0 (setConverter ch.val c s.dev)))
        else continueWork ch.val (setConverter ch.val { requeue c with degraded := false } s.dev))))
  ∧ (∀ (s : State) (ch : Fin 4), (converter s.dev ch.val).retry = true →
      exec (.calibrationRetry ch) s = .next (after s (
        let d := setConverter ch.val { converter s.dev ch.val with retry := false } s.dev
        if startCondition d ch.val then startPass ch.val 1 d else d)))
  ∧ (∀ (s : State) (ch : Fin 4) (pos : Fin 64) (q : HealthSums) (n : Nat), convEnabled s.dev ch.val = true → healthOk q = false →
      holderOf (converter s.dev ch.val) pos.val = some n → inReplacement (converter s.dev ch.val) n = false →
      exec (.healthCheck ch pos q) s = .next (after s (
        if (availableSpares (converter s.dev ch.val)).isEmpty then unserviceable ch.val n s.dev
        else match stageOf (converter s.dev ch.val) n with
          | some g => setConverter ch.val (setStage (converter s.dev ch.val) n (some (markSuspect g))) s.dev
          | none => continueWork ch.val
              (setConverter ch.val { converter s.dev ch.val with suspects := (converter s.dev ch.val).suspects ++ [n] } s.dev))))
  ∧ (∀ (s : State) (ch : Fin 4) (q : PendingSet), (converter s.dev ch.val).pendingSet = some q →
      exec (.setHandOver ch) s = .next (after s (
        let d := abandonPass ch.val s.dev
        let c := converter d ch.val
        let c := { c with
          slices := q.slices, suspects := [], stages := [], retry := false, disagreements := []
          tRef := some q.tRef, passCount := BitVec.ofNat 32 q.passCount, sclkMhz := q.sclkMhz, codesValid := true
          degraded := c.degraded && !q.slices.any (fun s => s.state == 1), pendingSet := none, spareQueue := [] }
        let d := setConverter ch.val (requeue c) d
        let d := complete q.packet .ok (leBytes 8 q.applyAt) d
        if q.startPass || sclkDiffers d ch.val then startPass ch.val 6 d else evaluateStart ch.val d)))
  ∧ (∀ (s : State) (ch : Fin 4) (codes : List (BitVec 12)), converting s.dev = true → codes.length = 16 →
      tokenDue s.dev ch.val (converter s.dev ch.val).next = false →
      exec (.sampleDelivery ch codes) s = .next (after s (
        let c := converter s.dev ch.val
        let zero := !convEnabled s.dev ch.val || decide (c.next < c.zeroBelow)
        let d := setConverter ch.val { c with next := (c.next + 16) % 2 ^ 64 } s.dev
        let d := if zero then d else countOverrange ch.val c.next (if zero then List.replicate 16 0 else codes) d
        let d := trimBeats ch.val (pushBeat ch.val c.next (if zero then List.replicate 16 0 else codes) (trimBeats ch.val d))
        { d with sampleIndex := max d.sampleIndex (c.next + 16) % 2 ^ 64 })))

/-- LANE_SAMPLE, FRAME_COMPUTE, MASK_LOAD and WINDOW_LOAD act. A lane that has the samples of its next block forms one lane
sample and hands it to its history buffer, record path, slots, envelope units, bindings and measurements. A frame that is
complete and first in turn, of a slot that its window ROM does not stop, is computed and its spectrum handed on; with a lost
sample it is skipped. MASK_LOAD and WINDOW_LOAD replace a store that no context uses. -/
def Obligations.LaneAndSlotRowsAct : Prop :=
  (∀ (s : State) (ch : Fin 4) (l : Fin 5), laneReady s.dev ch.val l.val = true →
      exec (.laneSample ch l) s = .next (after s (
        let r := computeSample ch.val l.val s.dev
        let x := r.1
        let d := feedHistory ch.val l.val x r.2
        let d := if recordPathTakes d ch.val l.val then feedRecordPath ch.val l.val x d else d
        let d := (boundSlots d ch.val l.val x.stamp).foldl (fun d key => feedSlot key x d) d
        let d := feedEnv ch.val l.val (boundEnv d ch.val l.val x.stamp) x d
        trimBeats ch.val (readMeasurements ch.val l.val (feedLaneBindings (laneKey ch.val l.val) x d)))))
  ∧ (∀ (s : State) (ch n : Fin 4) (f : Nat) (c : SlotCtx),
      let key := slotKey ch.val n.val
      nextFrame s.dev key = some (f, c) → frameComplete (slotAt s.dev key) c f = true → romStops s.dev key c = false →
      frameTurn s.dev key = true →
      exec (.frameCompute ch n) s = .next (after s (
        if frameWhole (slotAt s.dev key) c f then
          let r := computeFrame key c f s.dev
          feedSlotBindings r.1 r.2.1 (deliverSpectrum key r.1 r.2.2)
        else deliverSpectrum key (skippedSpectrum key c f) (skipFrame key c f s.dev))))
  ∧ (∀ (s : State) (p : Packet) (m : List (Int × Int)), admitted s.dev 0x0500 p = true → reservedZero p [(0, 1), (8, 8)] = true →
      let d := taken p s.dev
      pByte p 0 ≤ 15 → p64 p 8 % 4 = 0 → reachable d .cp false (p64 p 8) 8192 = true →
      decodeAll readLimits (readEntries d (p64 p 8) 4 2048) = some m → maskStoreBusy d (pByte p 0) = false →
      exec (.maskLoad p) s = .next (after s (complete p .ok []
        { d with trig := { d.trig with masks := tset [] d.trig.masks (pByte p 0) m } })))
  ∧ (∀ (s : State) (p : Packet) (w : List Int), admitted s.dev 0x0501 p = true → reservedZero p [(0, 2), (8, 8)] = true →
      let d := taken p s.dev
      let lg := pByte p 1
      let total := sumInt w
      pByte p 0 ≤ 7 → 6 ≤ lg → lg ≤ 16 → p64 p 8 % 4 = 0 → reachable d .cp false (p64 p 8) (4 * 2 ^ lg) = true →
      decodeAll readCoefficient (readEntries d (p64 p 8) 4 (2 ^ lg)) = some w → 0 < total → windowStoreBusy d (pByte p 0) = false →
      exec (.windowLoad p) s = .next (after s (
        complete p .ok (leInt 8 total ++ leInt 4 (roundHalfEven total (2 ^ lg)) ++ leBytes 4 (enbwUnits w))
          { d with spec := { d.spec with windows := tset [] d.spec.windows (pByte p 0) w } })))

/-- TRIG_ARM, TRIG_FORCE and TRIG_STATUS act. Without at_sample, DISARM, ARM of a disarmed sequencer and REARM act at the first
instant not yet evaluated, once every instant below it is evaluated, and else wait for it: DISARM disarms, ARM and REARM
enter the given state with that instant as its entry; each first clears the counters if asked to. With an at_sample that has
not passed, they wait, and so does TRIG_FORCE; the waiting command with the lowest instant acts when its instant has come, a
TRIG_FORCE that finds the sequencer disarmed ends in BAD_STATE. TRIG_FORCE of an armed sequencer pulses source 47.
TRIG_STATUS returns the status and clears the bits of its mask. -/
def Obligations.TriggerCommandsAct : Prop :=
  (∀ (s : State) (p : Packet), admitted s.dev 0x0600 p = true → reservedZero p [(0, 3), (8, 8)] = true → pByte p 1 ≤ 15 → pByte p 2 ≤ 3 →
      let d := taken p s.dev
      (bit (pByte p 2) 1 = true → firstUnevaluated d ≤ p64 p 8) →
      exec (.disarm p) s = .next (after s (
        if bit (pByte p 2) 1 then
          park p { d with trig := { d.trig with armWaits := d.trig.armWaits ++ [{ packet := p, instant := p64 p 8 }] } }
        else
          let a := firstUnevaluated d
          let d := evaluateBelow a a d
          if evaluatedBelow d a then
            complete p .ok (leBytes 8 a) (disarmAt a (if bit (pByte p 2) 0 then { d with trig := { d.trig with counters := [] } } else d))
          else park p { d with trig := { d.trig with armWaits := d.trig.armWaits ++ [{ packet := p, instant := a }] } })))
  ∧ (∀ (s : State) (p : Packet), admitted s.dev 0x0600 p = true → reservedZero p [(0, 3), (8, 8)] = true → pByte p 1 ≤ 15 → pByte p 2 ≤ 3 →
      let d := taken p s.dev
      (bit (pByte p 2) 1 = true → firstUnevaluated d ≤ p64 p 8) → d.trig.armed = false →
      exec (.arm p) s = .next (after s (
        if bit (pByte p 2) 1 then
          park p { d with trig := { d.trig with armWaits := d.trig.armWaits ++ [{ packet := p, instant := p64 p 8 }] } }
        else
          let a := firstUnevaluated d
          let d := evaluateBelow a a d
          if evaluatedBelow d a then
            if d.trig.armed then complete p .badState [] d
            else
              let d := if bit (pByte p 2) 0 then { d with trig := { d.trig with counters := [] } } else d
              let d := { d with trig := { d.trig with armed := true, armedAt := a, evalNext := max d.trig.evalNext a } }
              complete p .ok (leBytes 8 a) (raiseEvent 0x1C0 3 a 0 (enterState (pByte p 1) a d))
          else park p { d with trig := { d.trig with armWaits := d.trig.armWaits ++ [{ packet := p, instant := a }] } })))
  ∧ (∀ (s : State) (p : Packet), admitted s.dev 0x0600 p = true → reservedZero p [(0, 3), (8, 8)] = true → pByte p 1 ≤ 15 → pByte p 2 ≤ 3 →
      let d := taken p s.dev
      (bit (pByte p 2) 1 = true → firstUnevaluated d ≤ p64 p 8) →
      exec (.rearm p) s = .next (after s (
        if bit (pByte p 2) 1 then
          park p { d with trig := { d.trig with armWaits := d.trig.armWaits ++ [{ packet := p, instant := p64 p 8 }] } }
        else
          let a := firstUnevaluated d
          let d := evaluateBelow a a d
          if evaluatedBelow d a then
            let d := if bit (pByte p 2) 0 then { d with trig := { d.trig with counters := [] } } else d
            let was := d.trig.armed
            let d := { d with trig := { d.trig with armed := true, armedAt := a, evalNext := max d.trig.evalNext a } }
            let d := enterState (pByte p 1) a d
            complete p .ok (leBytes 8 a) (if was then d else raiseEvent 0x1C0 3 a 0 d)
          else park p { d with trig := { d.trig with armWaits := d.trig.armWaits ++ [{ packet := p, instant := a }] } })))
  ∧ (∀ (s : State) (w : TrigWait),
      s.dev.trig.armWaits.find? (fun x => x.instant == listMin (2 ^ 64) (s.dev.trig.armWaits.map (·.instant))) = some w →
      waitDue s.dev w.instant = true →
      exec .trigArmAtSample s = .next (after s (armAct (pByte w.packet 0) w.instant w.packet
        { s.dev with trig := { s.dev.trig with armWaits := s.dev.trig.armWaits.erase w } })))
  ∧ (∀ (s : State) (p : Packet), admitted s.dev 0x0601 p = true → reservedZero p [(2, 1), (8, 8)] = true → pByte p 2 ≤ 3 →
      let d := taken p s.dev
      d.trig.armed = true → (bit (pByte p 2) 1 = true → firstUnevaluated d ≤ p64 p 8) →
      exec (.trigForce p) s = .next (after s (
        if bit (pByte p 2) 1 then
          park p { d with trig := { d.trig with forceWaits := d.trig.forceWaits ++ [{ packet := p, instant := p64 p 8 }] } }
        else
          let a := firstUnevaluated d
          complete p .ok (leBytes 8 a) (postEvent (pulseEvent 47 a none false)
            (if bit (pByte p 2) 0 then { d with trig := { d.trig with counters := [] } } else d)))))
  ∧ (∀ (s : State) (w : TrigWait),
      s.dev.trig.forceWaits.find? (fun x => x.instant == listMin (2 ^ 64) (s.dev.trig.forceWaits.map (·.instant))) = some w →
      waitDue s.dev w.instant = true →
      exec .trigForceAtSample s = .next (after s (
        let d := { s.dev with trig := { s.dev.trig with forceWaits := s.dev.trig.forceWaits.erase w } }
        if s.dev.trig.armed then
          complete w.packet .ok (leBytes 8 w.instant) (postEvent (pulseEvent 47 w.instant none false)
            (if bit (pByte w.packet 2) 0 then { d with trig := { d.trig with counters := [] } } else d))
        else complete w.packet .badState [] d)))
  ∧ (∀ (s : State) (p : Packet), admitted s.dev 0x0602 p = true → reservedZero p [(0, 8)] = true →
      exec (.trigStatus p) s = .next (after s (
        let d := taken p s.dev
        let t := d.trig
        complete p .ok (leBytes 8 (trigStatusWord d) ++ leBytes 8 t.entry
            ++ (List.range 4).flatMap (fun n => leBytes 4 (tget 0 t.counters n).toNat) ++ leBytes 4 t.droppedActions.toNat)
          { d with trig := { t with
              late := t.late && !bit (p64 p 0) 8, outOfOrder := t.outOfOrder && !bit (p64 p 0) 9
              actionsDropped := t.actionsDropped && !bit (p64 p 0) 10, windowRetrig := t.windowRetrig && !bit (p64 p 0) 11
              historyShort := t.historyShort && !bit (p64 p 0) 12 } })))

/-- The sequencer, its units, windows and measurements run. The aligned sequencer, outside SLEEP and with its limit known,
evaluates the next instant up to it at which something happens, or passes all of them; in fast mode it evaluates its own due
instant again, or the oldest event that has come, with what coincides. Envelope and frequency units pass the tokens due and
take their next input: a lost one clears, a settling one sets aside, another is judged by the unit's type. A timer whose time
has come pulses its source, a window whose time has come closes, a bus line whose interval has ended falls, an output pulse
that has ended goes, the state's timer transition is evaluated, window actions and GEN_JUMP actions reach their targets, a
lane's next stamp is decided or passed, and an ended measurement is reported. -/
def Obligations.SequencerRowsAct : Prop :=
  (∀ (s : State) (lim : Nat), aligned s.dev = true → s.dev.power.state ≠ .sleep → alignedLimit s.dev = some lim → s.dev.trig.evalNext ≤ lim →
      exec .sequencerEvaluate s = .next (after s (
        let past := settleCuts (lim + 1) { s.dev with trig := { s.dev.trig with evalNext := lim + 1 } }
        match nextInstant s.dev s.dev.trig.evalNext with
        | some t => if t ≤ lim then runInstant t s.dev else past
        | none => past)))
  ∧ (∀ s : State, aligned s.dev = false → s.dev.power.state ≠ .sleep →
      exec .fastEvent s = .next (after s (
        let due (t : Nat) : Bool := decide (t ≤ ballIndex s.dev) && !contextDue s.dev t
        let run (t : Nat) : Device :=
          let evs := coincident t s.dev.trig.events
          evaluateInstant t evs { s.dev with trig := { s.dev.trig with events := evs.foldl (fun l e => l.erase e) s.dev.trig.events } }
        match s.dev.trig.again.filter due with
        | some t => run t
        | none => match s.dev.trig.events.find? (fun e => due e.instant) with
          | some e => run e.instant
          | none => s.dev)))
  ∧ (∀ (s : State) (u : Fin 16),
      exec (.envelopeEvaluate u) s = .next (after s (
        let d := passEnv u.val (envUnit s.dev u.val).tokens.length s.dev
        match envItem d u.val with
        | none => d
        | some x =>
          if (envUnit d u.val).tokens.any (fun b => decide (b ≤ x.stamp)) then d
          else
            let d := match x.cut with
              | some b => clearEnv u.val b false d
              | none => d
            let f (n : Nat) : Int := envFor d x.stamp u.val n
            let k := (valueFor d x.stamp (cfgKey 3 x.lane 4)).toNat
            let d := if !x.present then clearEnv u.val (((x.stamp : Int) - (offsetOf k : Int)).toNat) true d
              else if x.settling then setEnv u.val { envUnit d u.val with prev := none } d
              else evaluateEnv u.val x k (f 1).toNat (f 2) (f 3) (f 4) (f 5 == 1) (f 6).toNat (f 7).toNat d
            let d := trimEnv (x.lane / 8) (x.lane % 8) (setEnv u.val { envUnit d u.val with next := x.stamp + 1 } d)
            passEnv u.val (envUnit d u.val).tokens.length d)))
  ∧ (∀ (s : State) (u : Fin 8),
      exec (.frequencyUnitEvaluate u) s = .next (after s (
        let d := passFrq u.val (frqUnit s.dev u.val).tokens.length s.dev
        match frqItem d u.val with
        | none => d
        | some x =>
          if (frqUnit d u.val).tokens.any (fun b => decide (b ≤ x.stamp)) then d
          else
            let f (n : Nat) : Int := frqFor d x.stamp u.val n
            let sense := f 5 == 1
            let d := if !x.computed then
                (let d := setFrqValue u.val x.centre false true d
                 setFrq u.val { frqUnit d u.val with gap := true, above := false } d)
              else if f 1 == 2 then
                let q := bandPower (enbwOf d x.ctx) ((x.bins.drop (f 6).toNat).take ((f 7).toNat + 1 - (f 6).toNat))
                let sg : Int := if sense then -1 else 1
                let w := frqUnit d u.val
                let above := if w.above then decide (sg * f 3 - f 4 ≤ sg * q) else decide (sg * f 3 ≤ sg * q)
                setFrqValue u.val x.centre above false (setFrq u.val { w with above := above } d)
              else
                let n := if f 1 == 1 then
                    let m := 0x40 + (f 2).toNat
                    maskCount (tget [] d.trig.masks (valueFor d x.stamp (cfgKey 5 m 1)).toNat) (valueFor d x.stamp (cfgKey 5 m 2))
                      (f 6).toNat (f 7).toNat x.trace
                  else regionCount (mapCtx d (x.slot / 4 * 2 + (f 11).toNat)) (f 6).toNat (f 7).toNat (f 8).toNat (f 9).toNat x.bins
                setFrqValue u.val x.centre (decide (f 10 ≤ (n : Int)) != sense) false d
            let d := trimFrq x.slot (setFrq u.val { frqUnit d u.val with next := x.stamp + 1 } d)
            passFrq u.val (frqUnit d u.val).tokens.length d)))
  ∧ (∀ (s : State) (n : Fin 2) (a l : Nat), tget none s.dev.trig.timers n.val = some (a, l) → a + l ≤ ballIndex s.dev →
      exec (.timerExpiry n) s = .next (after s (postEvent (pulseEvent (40 + n.val) (a + l) none false) (setTimer n.val none s.dev))))
  ∧ (∀ (s : State) (m : Fin 4),
      let t := s.dev.trig.entry + transLimit s.dev m.val
      aligned s.dev = false → s.dev.trig.armed = true → transN s.dev s.dev.trig.state m.val 3 = 2 → transN s.dev s.dev.trig.state m.val 0xF = 1 →
      usedSources (transN s.dev s.dev.trig.state m.val 0) = [] → bit s.dev.trig.timerDone m.val = false → t ≤ ballIndex s.dev →
      contextDue s.dev t = false →
      exec (.transitionTimer m) s = .next (after s (
        let evs := coincident t s.dev.trig.events
        evaluateInstant t evs { s.dev with trig := { s.dev.trig with events := evs.foldl (fun l e => l.erase e) s.dev.trig.events } })))
  ∧ (∀ (s : State) (o : Fin 4) (t : Nat), tget none s.dev.trig.pulses o.val = some t → t ≤ s.dev.time →
      exec (.trigOutPulseEnd o) s = .next (after s { s.dev with trig := { s.dev.trig with pulses := tset none s.dev.trig.pulses o.val none } }))
  ∧ (∀ (s : State) (w t : Nat), (trigWindow s.dev w).autoClose = some t → t ≤ (if aligned s.dev then s.dev.trig.evalNext else ballIndex s.dev) →
      exec (.windowAutoClose w) s = .next (after s (closeWindows [w] t false s.dev)))
  ∧ (∀ (s : State) (n : Fin 8) (x : Nat × Nat × Nat),
      s.dev.group.busIntervals.find? (fun x => x.1 == n.val && decide (x.2.2 ≤ ballIndex s.dev)) = some x →
      exec (.busLineRelease n) s = .next (after s (postEvent (levelEvent (28 + n.val) x.2.2 none false false)
        { s.dev with group := { s.dev.group with busIntervals := s.dev.group.busIntervals.erase x } })))
  ∧ (∀ (s : State) (a : SeqAction),
      s.dev.trig.actions.find? (fun a => match a with
        | .jump .. => false
        | _ => true) = some a →
      exec .actionArrival s = .next (after s (
        let rest := s.dev.trig.actions.erase a
        let d := { s.dev with trig := { s.dev.trig with actions := rest, actionsFull := s.dev.trig.actionsFull && decide (128 < rest.length) } }
        match a with
        | .open ws t => ws.foldl (fun d w => (allLanes.filter (fun x => winHasLane d w x.1 x.2)).foldl (fun d x => openOnLane w t x.1 x.2 d) d) d
        | .close ws t => ws.foldl (fun d w => allLanes.foldl (fun d x => closeOnLane w t x.1 x.2 d) d) d
        | .jump .. => d)))
  ∧ (∀ (s : State) (g : Fin 2) (step : Nat) (due : Option Nat),
      s.dev.trig.actions.find? (fun a => match a with
        | .jump x _ _ => x == g.val
        | _ => false) = some (.jump g.val step due) →
      exec (.jumpRequestArrival g) s = .next (after s (
        let rest := s.dev.trig.actions.erase (.jump g.val step due)
        let d := { s.dev with trig := { s.dev.trig with actions := rest, actionsFull := s.dev.trig.actionsFull && decide (128 < rest.length) } }
        if genStopped (generator d g.val) then
          raiseEvent (genSource g.val) 4 (ballIndex d) step (setGenerator g.val { generator d g.val with jumpIgnored := true } d)
        else placeRequest g.val step none (min (ballIndex d) (due.getD (ballIndex d))) d)))
  ∧ (∀ (s : State) (ch : Fin 4) (l : Fin 5),
      let d := crossTokens ch.val l.val (laneAt s.dev ch.val l.val).recOld.length s.dev
      let v := laneAt d ch.val l.val
      let r := settingsAt d ch.val l.val v.recNext
      resetRuns s.dev (laneFault ch.val l.val) = false → v.recNext < v.next →
      (laneEnabled d ch.val l.val = true → v.recNext + decisionLag d ch.val l.val r + blockOf r.k ≤ v.next) →
      exec (.stampDecide ch l) s = .next (after s (
        if r.mode = 0 then
          let stop := match v.recOld with
            | (b, _) :: _ => max v.recNext (min v.next b)
            | [] => v.next
          setLane ch.val l.val { v with recNext := stop, wins := v.wins.filter (fun w => match w.stop with
            | some t => decide (stop < t)
            | none => true) } d
        else if r.gate = 1 ∧ r.hist ≠ 0 then decideHistory ch.val l.val r d
        else decideStall ch.val l.val r d)))
  ∧ (∀ (s : State) (w : Nat) (m : Meas), s.dev.trig.ended.find? (fun m => m.window == w) = some m →
      (laneEnabled s.dev (m.lane / 8) (m.lane % 8) = false ∨ m.cut = true ∨ m.disarmed = true
        ∨ m.close.getD 0 ≤ (laneAt s.dev (m.lane / 8) (m.lane % 8)).next) →
      exec (.measurementComplete w) s = .next (after s (
        let m' := advanceMeas s.dev m
        let d := takeFresh (takeFresh { s.dev with trig := { s.dev.trig with
          ended := s.dev.trig.ended.erase m, historyShort := s.dev.trig.historyShort || m'.short } })
        let d := if m'.short then raiseEvent 0x1C3 2 m.start 0 d else d
        emitRec { type := 0x06, source := windowSource w, flags := headerFlags d [m.lane / 8], firstIndex := m.start,
                  generation := m.gen, payload := measPayload s.dev.fresh m' } d)))

/-- The interval unit runs as R224 to R233 say. TIU_RUN with valid parameters, no run and its at_sample not passed starts a run
and waits, after the calibration of its inputs; with ABORT it ends the active one and replies its end code and count. An edge
advances the coarse counter; one that an input with stamping takes is given an interpolator that is free and stamped, or
counted as lost. An index tick of a running unit without a pause, later than the last, is kept and converts the edges that
waited for it. A calibration outside SLEEP rounds the means of 1,024 codes and judges the interpolator due, or one of a
stamping input while periodic calibration is on. The calibration at run start lets the run accept edges once its inputs are
calibrated; an expired start is counted as unmatched; a timeout ends the run. -/
def Obligations.IntervalUnitActs : Prop :=
  (∀ (s : State) (p : Packet), admitted s.dev 0x0700 p = true → reservedZero p [(0, 3), (4, 44)] = true → pByte p 2 ≤ 7 →
      let d := taken p s.dev
      runParamsOk d p = true → d.tiu.run = none → (bit (pByte p 2) 2 = true → ballIndex d ≤ p64 p 32) →
      exec (.tiuRun p) s = .next (after s (park p (calibrateInputs [pByte p 0, pByte p 1]
        (setRun (some (newRun p (swapBlocks tiuBlocks d))) (swapBlocks tiuBlocks d))))))
  ∧ (∀ (s : State) (p : Packet) (r : TiuRun), admitted s.dev 0x0700 p = true → reservedZero p [(0, 3), (4, 44)] = true → pByte p 2 ≤ 7 →
      let d := taken p s.dev
      runParamsOk d p = true → runActive d = some r → (bit (pByte p 2) 2 = true → ballIndex d ≤ p64 p 32) →
      exec (.tiuRunAbort p) s = .next (after s (complete p .ok (runReply 2 (atRunEnd d r)) (endRun (atRunEnd d r) 2 .aborted d))))
  ∧ (∀ (s : State) (n : Fin 6) (rising : Bool) (k : Fin 2) (cycles r : Nat),
      exec (.edgeStamp n rising k { cycles := cycles, r := r }) s = .next (after s (
        let c := s.dev.tiu.coarse + cycles
        let d := { s.dev with tiu := { s.dev.tiu with coarse := c } }
        if edgeComes d n.val rising then
          let d := edgeAside n.val rising (setTiuInput n.val { tiuInput d n.val with level := rising } d)
          if stamped d n.val rising then
            let v := tiuInput d n.val
            match edgeInterp v (cfgInt d 6 (1 + n.val) 2) c r k.val with
            | none => missEdge n.val rising d
            | some (m, i, t) =>
              if v.lastEdge.any (fun l => decide (t - l < deadTime v)) then missEdge n.val rising d
              else takeEdge n.val rising t (i.r2 - i.r1).toNat
                (setTiuInput n.val { setInterp v m { i with lastEdge := some t } with lastEdge := some t } d)
          else d
        else d)))
  ∧ (∀ (s : State) (cycles : Nat) (fine : Fin 1600),
      let d := { s.dev with tiu := { s.dev.tiu with coarse := s.dev.tiu.coarse + cycles } }
      let i := ballIndex d / 1024 * 1024
      let t : Int := ((d.tiu.coarse * 1600 + fine.val : Nat) : Int)
      unitRuns d = true → indexPaused d = false → (∀ x ∈ d.tiu.ticks.head?, x.1 ≠ i ∧ x.2 < t) →
      exec (.indexTick { cycles := cycles, fine := fine }) s = .next (after s (convertEdges { d with tiu := { d.tiu with ticks := ((i, t) :: d.tiu.ticks).take 16 } })))
  ∧ (∀ (s : State) (n : Fin 6) (k : Fin 2) (sum1 sum2 : Nat), s.dev.power.state ≠ .sleep →
      exec (.interpolatorCalibration n k sum1 sum2) s = .next (after s (
        let v := tiuInput s.dev n.val
        let r1 := roundHalfEven sum1 1024
        let r2 := roundHalfEven sum2 1024
        match v.toCal with
        | m :: rest =>
          if m == k.val then
            calibrateInterp n.val k.val r1 r2 (setTiuInput n.val { v with toCal := rest, calibrated := v.calibrated || rest.isEmpty } s.dev)
          else s.dev
        | [] =>
          if cfgN s.dev 6 0 1 == 0 || !stamping s.dev n.val || (if k.val == 0 then v.interp0 else v.interp1).removed then s.dev
          else calibrateInterp n.val k.val r1 r2 s.dev)))
  ∧ (∀ (s : State) (r : TiuRun), runActive s.dev = some r →
      (tiuInput s.dev r.startInput).toCal = [] → (tiuInput s.dev r.stopInput).toCal = [] →
      exec .runCalibrationComplete s = .next (after s (setRun (some { r with accepting := true, gap := r.gap || indexPaused s.dev }) s.dev)))
  ∧ (∀ (s : State) (r : TiuRun) (x : PendStart) (l : List PendStart), runActive s.dev = some r → r.starts = x :: l →
      exec .pendingStartExpiry s = .next (after s (setRun (some { r with starts := l, unmatched := r.unmatched + 1 }) s.dev)))
  ∧ (∀ (s : State) (r : TiuRun), runActive s.dev = some r → p64 r.packet 24 ≠ 0 →
      exec .tiuTimeout s = .next (after s (endRun r 1 .timeout s.dev)))

/-- SEG_WRITE, SEQ_LOAD and GEN_JUMP act. DEFINE and COPY define a segment that is not locked or named, over a range that meets
no other segment and reads as valid entries, or as anything for a segment of the ring, and return its length; COPY also
writes the entries, and commits a segment of the ring that it completes. CLEAR removes a segment that is not locked or named.
SEQ_LOAD of valid steps replaces a store that no running generator follows. JUMP of a running generator to a valid step
places its request; START of a stopped, enabled generator starts it at the next multiple of 256 DAC samples at or after its
index, which lies at least 2,048 ahead; STOP of a running one is kept for the next decision; STATUS returns the status and
clears the bits of its mask. -/
def Obligations.GeneratorCommandsAct : Prop :=
  (∀ (s : State) (p : Packet), admitted s.dev 0x0B00 p = true → reservedZero p [(0, 12), (16, 8)] = true →
      let d := taken p s.dev
      let g := pByte p 0
      let n := p16 p 2
      let word (i : Nat) : Nat := entryWord d g (p32 p 4 + i)
      segParamsOk d false p = true → segLocked (generator d g) n = false → rangeHits (generator d g) n (p32 p 4) (p32 p 8) (fun _ => true) = false →
      rangeHits (generator d g) n (p32 p 4) (p32 p 8) (segLocked (generator d g)) = false →
      segNamed d g n = false → (inRing d g n = true ∨ rangeValid word (p32 p 8) = true) →
      exec (.segDefine p) s = .next (after s (complete p .ok (leBytes 6 (rangeLength word (p32 p 8)))
        (setGenerator g (setSeg n (some { first := p32 p 4, count := p32 p 8, committed := false, written := [] }) (generator d g)) d))))
  ∧ (∀ (s : State) (p : Packet), admitted s.dev 0x0B00 p = true → reservedZero p [(0, 12), (16, 8)] = true →
      let d := taken p s.dev
      let g := pByte p 0
      let n := p16 p 2
      let word (i : Nat) : Nat := memNat d (p64 p 16 + 16 * i) 16
      segParamsOk d true p = true → segLocked (generator d g) n = false → rangeHits (generator d g) n (p32 p 4) (p32 p 8) (fun _ => true) = false →
      rangeHits (generator d g) n (p32 p 4) (p32 p 8) (segLocked (generator d g)) = false →
      segNamed d g n = false → (inRing d g n = true ∨ rangeValid word (p32 p 8) = true) →
      exec (.segCopy p) s = .next (after s (
        let e := memWrite (entryBase g + 16 * p32 p 4) (memRead d (p64 p 16) (16 * p32 p 8)) d
        let marks : Table Nat := if inRing d g n then (List.range (p32 p 8)).map (fun i => (i, 65535)) else []
        let e := setGenerator g (setSeg n (some { first := p32 p 4, count := p32 p 8, committed := false, written := marks }) (generator e g)) e
        complete p .ok (leBytes 6 (rangeLength word (p32 p 8))) (if inRing e g n then tryCommit g n e else e))))
  ∧ (∀ (s : State) (p : Packet), admitted s.dev 0x0B00 p = true → reservedZero p [(0, 12), (16, 8)] = true → pByte p 0 ≤ 1 → p16 p 2 ≤ 4095 →
      let d := taken p s.dev
      segLocked (generator d (pByte p 0)) (p16 p 2) = false → segNamed d (pByte p 0) (p16 p 2) = false →
      exec (.segClear p) s = .next (after s (complete p .ok (leBytes 6 0)
        (setGenerator (pByte p 0) (setSeg (p16 p 2) none (generator d (pByte p 0))) d))))
  ∧ (∀ (s : State) (p : Packet) (steps : List SeqStep), admitted s.dev 0x0B01 p = true → reservedZero p [(0, 2), (4, 12)] = true →
      let d := taken p s.dev
      let g := pByte p 0
      let n := p32 p 4
      g ≤ 1 → pByte p 1 ≤ 1 → 0 < n → n ≤ 4096 → reachable d .cp false (p64 p 8) (16 * n) = true →
      decodeAll readStep (readEntries d (p64 p 8) 16 n) = some steps →
      steps.all (fun x => decide (x.next < n) && (if x.stream then x.segment == 0 else (segDef (generator d g) x.segment).any (fun s => rangeValid (segWord d g s) s.count))) = true →
      seqBusy d g (pByte p 1) = false →
      exec (.seqLoad p) s = .next (after s (complete p .ok []
        (setGenerator g { generator d g with stores := tset [] (generator d g).stores (pByte p 1) steps } d))))
  ∧ (∀ (s : State) (p : Packet), admitted s.dev 0x0B02 p = true → reservedZero p [(0, 4)] = true → pByte p 1 ≤ 1 → p16 p 2 ≤ 4095 →
      genStopped (generator (taken p s.dev) (pByte p 1)) = false → (stepOf (taken p s.dev) (pByte p 1) (p16 p 2)).isSome = true →
      exec (.genJump p) s = .next (after s (placeRequest (pByte p 1) (p16 p 2) (some p) (ballIndex s.dev) (park p (taken p s.dev)))))
  ∧ (∀ (s : State) (p : Packet), admitted s.dev 0x0B02 p = true → reservedZero p [(0, 5), (8, 8)] = true → pByte p 1 ≤ 1 → p16 p 2 ≤ 4095 →
      let d := taken p s.dev
      let g := pByte p 1
      let v := generator d g
      let i := if pByte p 4 == 1 then p64 p 8 else ballIndex d + 2048
      let b := ceilDiv i 256 * 256
      ((pByte p 4 = 0 ∧ p64 p 8 = 0) ∨ (pByte p 4 = 1 ∧ ballIndex d + 2048 ≤ p64 p 8)) →
      genStopped v = true → genN d g 1 = 1 → (stepOf d g (p16 p 2)).isSome = true →
      exec (.genStart p) s = .next (after s (complete p .ok (leBytes 8 b ++ zeroBytes 1)
        (setGenerator g { v with
          starting := some (b, p16 p 2), acc := 0, ringPtr := genN d g 3, episodes := 0
          segments := v.segments.map (fun e => (e.1, e.2.map (fun x => { x with committedAt := 0 }))) } d))))
  ∧ (∀ (s : State) (p : Packet), admitted s.dev 0x0B02 p = true → reservedZero p [(0, 2)] = true → pByte p 1 ≤ 1 →
      let v := generator (taken p s.dev) (pByte p 1)
      genStopped v = false →
      exec (.genStop p) s = .next (after s (park p (setGenerator (pByte p 1) { v with
        stops := v.stops ++ [p], stopPending := true, stopAt := if v.stopPending then v.stopAt else ballIndex s.dev } (taken p s.dev)))))
  ∧ (∀ (s : State) (p : Packet), admitted s.dev 0x0B02 p = true → reservedZero p [(0, 2), (16, 8)] = true → pByte p 1 ≤ 1 →
      exec (.genStatus p) s = .next (after s (
        let d := taken p s.dev
        let g := pByte p 1
        let v := generator d g
        let m := p64 p 16
        let loops := ((stepOf d g v.step).map (·.loops)).getD 0
        complete p .ok (leBytes 8 (genStatusWord d g) ++ leBytes 8 v.firstUnderrun ++ leBytes 4 (loops - v.plays) ++ zeroBytes 4
            ++ leBytes 8 (sampleAt d g (ballIndex d)).1 ++ leBytes 4 v.underrunGranules.toNat)
          (setGenerator g { v with
            underrunFlag := v.underrunFlag && !bit m 8, firstUnderrun := if bit m 8 then 0 else v.firstUnderrun
            lockedWriteFlag := v.lockedWriteFlag && !bit m 9, refillReject := v.refillReject && !bit m 10
            jumpDeferred := v.jumpDeferred && !bit m 11, jumpIgnored := v.jumpIgnored && !bit m 12 } d))))

/-- The generators decide, play and drive their markers. From half a microcycle before a boundary on the generator decides what
follows: a STOP that counts for it ends the generator, a START enters its step, a request that counts for it is taken where
it can play and ignored with its event where not, else the step goes on. At the end of a play what was decided starts, or the
generator ends for the reason decided, or with reason 7 once enable is 0. At its boundary a START begins what was decided, or
ends. Markers change at change points and pulses end. An entry write to an entry of a locked segment is dropped and counted,
another reaches entry memory, and one in a segment of the ring marks its entry. -/
def Obligations.GeneratorRowsAct : Prop :=
  (∀ (s : State) (g : Fin 2) (b : Nat),
      let v := generator s.dev g.val
      decisionBoundary v = some b → v.ending = none → b ≤ ballIndex s.dev + 512 →
      exec (.decisionPoint g) s = .next (after s (
        if v.stopPending && countsFor b v.stopAt then
          setGenerator g.val { v with ending := some { boundary := b, reason := 0, packets := v.stops } } s.dev
        else match v.starting with
          | some (x, n) => if v.queue.isEmpty && x == b then enterStep g.val n b none true s.dev else chooseNext g.val b s.dev
          | none => match v.request.filter (fun r => countsFor b r.reached) with
            | some r =>
              if (stepOf s.dev g.val r.step).any (stepPlayable s.dev g.val) then takeRequest g.val b r s.dev
              else
                let d := setGenerator g.val { v with request := none, jumpIgnored := true } s.dev
                chooseNext g.val b (completeOpt r.packet .aborted [] (raiseEvent (genSource g.val) 4 b r.step d))
            | none => chooseNext g.val b s.dev)))
  ∧ (∀ (s : State) (g : Fin 2) (b n : Nat),
      let v := generator s.dev g.val
      v.starting = some (b, n) → b ≤ ballIndex s.dev → (v.queue ≠ [] ∨ v.ending ≠ none) →
      exec (.startBoundary g) s = .next (after s (match v.queue, v.ending with
        | c :: rest, _ => startChoice g.val c (setGenerator g.val { v with queue := rest } s.dev)
        | [], some e => stopGen g.val b e.reason v.stops .aborted s.dev
        | [], none => s.dev)))
  ∧ (∀ (s : State) (g : Fin 2) (c : Choice),
      (generator s.dev g.val).current = some c → c.stop ≤ ballIndex s.dev →
      ((generator s.dev g.val).queue ≠ [] ∨ (generator s.dev g.val).ending ≠ none) →
      exec (.segmentBoundary g) s = .next (after s (
        let d := flushMarkers g.val 4096 s.dev
        let x := afterPlay d g.val (generator d g.val) c
        let v := generator d g.val
        let ended (e : Nat) : Bool := (c.segment.bind (segDef v)).any (fun s => holdsEntry s e)
        let d := setGenerator g.val { v with
          acc := x.1, freq := x.2, current := none, badEntries := v.badEntries.filter (fun e => !ended e) } d
        let d := match c.segment with
          | some n => if inRing d g.val n && !segLocked (generator d g.val) n then releaseSeg g.val n d else d
          | none => d
        let d := swapGen g.val d
        if genN d g.val 1 = 0 then stopGen g.val c.stop 7 [] .aborted d
        else match (generator d g.val).queue with
          | n :: rest => startChoice g.val n (setGenerator g.val { generator d g.val with queue := rest } d)
          | [] => match (generator d g.val).ending with
            | some e => stopGen g.val c.stop e.reason (generator d g.val).stops .aborted d
            | none => d)))
  ∧ (∀ (s : State) (g : Fin 2) (i : Nat) (x : Nat × Bool), changePoint s.dev g.val = some (i, x) → i ≤ ballIndex s.dev →
      exec (.markerChangePoint g) s = .next (after s (markerChange g.val s.dev)))
  ∧ (∀ (s : State) (g : Fin 2) (m : Fin 4) (e : Nat), tget none (generator s.dev g.val).pulseEnds m.val = some e → e ≤ ballIndex s.dev →
      exec (.markerPulseEnd g m) s = .next (after s (
        let v := generator s.dev g.val
        setMarkers g.val (maskOf 4 (fun n => bit v.markers n && n != m.val)) e
          (setGenerator g.val { v with pulseEnds := tset none v.pulseEnds m.val none } s.dev))))
  ∧ (∀ (s : State) (g : Fin 2) (e : Nat) (v : BitVec 128), e < 2 ^ 20 →
      exec (.entryMemoryWrite g e v) s = .next (after s (
        let written := mirrorEntry g.val e (memWrite (entryBase g.val + 16 * e) (leBytes 16 v.toNat) s.dev)
        match segOfEntry (generator s.dev g.val) e with
        | none => written
        | some n =>
          if inRing s.dev g.val n && !segLocked (generator s.dev g.val) n then
            match segDef (generator s.dev g.val) n with
            | some x =>
              if x.committed then written
              else tryCommit g.val n (setGenerator g.val (setSeg n (some { x with written := tset 0 x.written (e - x.first) 65535 })
                (generator s.dev g.val)) written)
            | none => written
          else raiseEvent (0x2C2 + g.val) 1 (ballIndex s.dev) e (setGenerator g.val { generator s.dev g.val with
            lockedWrites := (generator s.dev g.val).lockedWrites + 1, lockedWriteFlag := true } s.dev))))

/-- The commands of the Yard pool and of the live view. YARD_ALLOC of a multiple of 2 MiB up to 16 GiB hands out the first free
range and the lowest free handle; YARD_FREE of a buffer that no map names and no window covers returns it at once, or waits
while a plane state holds it; DISP_COMMIT with valid planes, and without one for layer 0 while that layer shows a map, takes
the plane states it commits and answers the display frame that first shows them; PALETTE_LOAD fills a palette that no context
uses. -/
def Obligations.ViewCommandsAct : Prop :=
  (∀ (s : State) (p : Packet) (a n : Nat), admitted s.dev 0x0800 p = true → reservedZero p [(0, 8)] = true →
      p64 p 0 % 2 ^ 21 = 0 → 0 < p64 p 0 → p64 p 0 ≤ 2 ^ 34 →
      let d := taken p s.dev
      poolFind d (p64 p 0) (2 ^ 21) = some a → (List.range 4096).find? (fun h => h != 0 && (bufferOf d h).isNone) = some n →
      exec (.yardAlloc p) s = .next (after s (complete p .ok (leBytes 2 n ++ zeroBytes 6 ++ leBytes 8 a)
        { d with yard := { d.yard with buffers := d.yard.buffers ++ [{ base := a, size := p64 p 0, handle := some n }] } })))
  ∧ (∀ (s : State) (p : Packet) (b : YardBuffer), admitted s.dev 0x0801 p = true → reservedZero p [(0, 2)] = true → p16 p 0 ≠ 0 →
      let d := taken p s.dev
      bufferOf d (p16 p 0) = some b → b.freeing = none → namedByMap d (p16 p 0) = false → underWindow d b = false → bufferHeld d (p16 p 0) = false →
      exec (.yardFree p) s = .next (after s (complete p .ok [] { d with yard := { d.yard with buffers := d.yard.buffers.erase b } })))
  ∧ (∀ (s : State) (p : Packet) (b : YardBuffer), admitted s.dev 0x0801 p = true → reservedZero p [(0, 2)] = true → p16 p 0 ≠ 0 →
      let d := taken p s.dev
      bufferOf d (p16 p 0) = some b → b.freeing = none → namedByMap d (p16 p 0) = false → underWindow d b = false → bufferHeld d (p16 p 0) = true →
      exec (.yardFree p) s = .next (after s (park p { d with yard := { d.yard with
        buffers := d.yard.buffers.map (fun x => if x = b then { b with freeing := some p } else x) } })))
  ∧ (∀ (s : State) (p : Packet), admitted s.dev 0x0802 p = true → reservedZero p [(0, 1), (2, 4), (8, 28)] = true → pByte p 0 ≤ 15 →
      let d := taken p s.dev
      let l0 : Planes := { handle := p16 p 2, y := p32 p 8, c := p32 p 12, v := p32 p 16, alpha := 0 }
      let l1 : Planes := { handle := p16 p 4, y := p32 p 20, c := p32 p 24, v := p32 p 28, alpha := p32 p 32 }
      (bit (pByte p 0) 0 = true → planesOk d 0 l0 = true ∧ scanN d 4 = 0) → (bit (pByte p 0) 1 = true → planesOk d 1 l1 = true) →
      exec (.dispCommit p) s = .next (after s (complete p .ok (leBytes 8 (showFrame d)) (retireBuffers { d with disp := { d.disp with
        committed := { d.disp.committed with
          l0 := if bit (pByte p 0) 2 then none else if bit (pByte p 0) 0 then some l0 else d.disp.committed.l0,
          l1 := if bit (pByte p 0) 3 then none else if bit (pByte p 0) 1 then some l1 else d.disp.committed.l1,
          l0Off := bit (pByte p 0) 2 },
        newContent := d.disp.newContent || (bit (pByte p 0) 1 || bit (pByte p 0) 3
          || (scanN d 4 == 0 && (bit (pByte p 0) 0 || bit (pByte p 0) 2))) } }))))
  ∧ (∀ (s : State) (p : Packet) (pal : List (Nat × Nat × Nat)), admitted s.dev 0x0803 p = true → reservedZero p [(0, 1), (8, 8)] = true →
      pByte p 0 ≤ 3 →
      let d := taken p s.dev
      reachable d .cp false (p64 p 8) 1024 = true → decodeAll readColour (readEntries d (p64 p 8) 4 256) = some pal → paletteBusy d (pByte p 0) = false →
      exec (.paletteLoad p) s = .next (after s (complete p .ok []
        { d with disp := { d.disp with palettes := tset [] d.disp.palettes (pByte p 0) pal } })))

/-- Density maps, colour frames and scan-out move as their rules say. A map that is disabled drops its stall; else the next
spectrum, once no token or deferred setting waits before it, counts into the open frame if it was computed, or marks the
frame as short of one, and a full frame ends. A drain carries the completed values on, numbers the frame, emits its record or
the GAP for it and hands the values to colour, or drops that part while stall 0x08 is full. A colour frame goes to its next
free slot or is counted as dropped. At the latch instant waiting fields swap in, the committed state is latched and "display
frame" is raised with the frame number; the next frame start, where the mode lets it fall, makes it active. A line is
composed and sent, with the background colour where its data is late or reads as poisoned; it is counted, and late data
raises its fault once a frame. Ports connect, train, fail for lanes or bandwidth, lose their link and disconnect with their
events. -/
def Obligations.ViewEventsAct : Prop :=
  (∀ (s : State) (m : Fin 8), mapN s.dev m.val 1 ≠ 1 → (densMap s.dev m.val).stall.items ≠ [] →
      exec (.spectrumIntake m) s = .next (after s (setMap m.val { densMap s.dev m.val with
        stall := { (densMap s.dev m.val).stall with items := [] } } s.dev)))
  ∧ (∀ (s : State) (m : Fin 8) (x : Spectrum) (rest : List Spectrum),
      (densMap s.dev m.val).stall.items = x :: rest → mapN s.dev m.val 1 = 1 → tokenWaits s.dev (0x0700 + m.val) x.stamp = false →
      scheduledWaits s.dev m.val x.stamp = false → (densMap s.dev m.val).deferred.any (·.settings.isSome) = false →
      exec (.spectrumIntake m) s = .next (after s (
        let v0 := densMap s.dev m.val
        let c := mapCtx s.dev m.val
        let st := { v0.stall with items := rest }
        let v := if lostHere s.dev m.val x then { v0 with frame := { v0.frame with flags := v0.frame.flags ||| 1 } } else v0
        if x.computed = false then setMap m.val { v with stall := st, frame := { v.frame with flags := v.frame.flags ||| 1 } } s.dev
        else
          let r := addSpectrum c x.bins v.frame.cells
          let f : DensFrame := { cells := r.1, spectra := v.frame.spectra + 1
                                 firstStamp := if v.frame.spectra == 0 then x.stamp else v.frame.firstStamp
                                 lastStamp := x.stamp, flags := v.frame.flags ||| takenFlags x ||| (if r.2 then 0x80 else 0) }
          let d := setMap m.val { v with stall := st, frame := f, satEvent := v.satEvent || r.2 } s.dev
          let d := if r.2 && !v.satEvent then raiseEvent (mapFault m.val) 2 x.stamp 0 d else d
          if mapN d m.val 0xA = 0 ∧ mapN d m.val 0xB ≤ f.spectra then endFrame m.val c { flags := 0 } d else d)))
  ∧ (∀ (s : State) (m : Fin 8) (f : DensFrame) (c : MapCtx), (densMap s.dev m.val).drain = some (f, c) →
      exec (.drainComplete m) s = .next (after s (
        let v := densMap s.dev m.val
        let f := frameStamps s.dev f
        let d := takeFresh (takeFresh s.dev)
        let out := drainPlane c.persist v.carried f.cells
        let n := v.frameNumber
        let held := (v.colour.map (fun w => frameUnits w.ctx)).foldl (· + ·) 0
        let full := if v.colourFull then decide (64 < held) else decide (128 < held + frameUnits c)
        let snap := c.snapEvery != 0 && n % c.snapEvery == 0
        let col := c.colEnable && n % c.colEvery == 0
        let d := setMap m.val { v with
          drain := none, carried := if v.wipe then [] else out, frameNumber := if v.wipe then 0 else n + 1, wipe := false, frames := v.frames + 1
          colourFull := full, colour := if col && !full then v.colour ++ [{ ctx := c, values := out }] else v.colour } d
        let d := noteMark 0x08 m.val (if full then held else held + frameUnits c) d
        let d := if full && !v.colourFull then raiseFault (plainFault (mapFault m.val) 1 1 0x08) d else d
        let d := if snap && !full then
            emitRec { type := 0x04, source := mapSource m.val, flags := headerFlags d [m.val / 2], firstIndex := f.firstStamp
                      generation := c.gen, payload := densPayload m.val c f n out } d
          else if snap then
            emitGap (gapRec d (mapSource m.val) 0x0B f.firstStamp 0 1 c.gen [m.val / 2]) (streamsWith d (fun s => s == mapSource m.val)) d
          else d
        takeDeferred m.val (mapCtx d m.val) d)))
  ∧ (∀ (s : State) (m : Fin 8) (w : ColourWork) (rest : List ColourWork), (densMap s.dev m.val).colour = w :: rest →
      exec (.colourFrameComplete m) s = .next (after s (
        let v := densMap s.dev m.val
        let d := setMap m.val { v with colour := rest } s.dev
        let n := w.ctx.colNbuf
        match ((List.range n).map (fun j => (v.colourNext + j) % n)).find? (fun j => !colourHeld d w.ctx.colBuf j), bufferOf d w.ctx.colBuf with
        | some j, some b =>
          let d := memWrite (b.base + j * colourSlot w.ctx) (colourBytes w (palette d w.ctx.colPalette)) d
          let d := setMap m.val { densMap d m.val with
            colourNext := (j + 1) % n, colourDone := some (w.ctx.colBuf, j, w.ctx.cols, w.ctx.rows, w.ctx.colFormat) } d
          if cfgN d 8 0 4 == m.val + 1 then { d with disp := { d.disp with newContent := true } } else d
        | _, _ =>
          raiseEvent 0x188 1 (ballIndex d) 0 (setMap m.val { densMap d m.val with colourDropped := (densMap d m.val).colourDropped + 1 } d))))
  ∧ (∀ s : State, s.dev.disp.running = true →
      (s.dev.disp.blanking = false ∨ (variableTiming s.dev = true ∧ s.dev.disp.newLatched = false)) →
      exec .latchInstant s = .next (after s (
        let keys := dispBlocks.flatMap (fun b => changedKeys s.dev (waitingChanges s.dev b (2 ^ 64)))
        let d : Device := swapBlocks dispBlocks s.dev
        let d : Device := if retrainKeys keys then
            { d with disp := { d.disp with ports := d.disp.ports.map (fun e => (e.1, { e.2 with trained := false })) } }
          else { d with disp := { d.disp with ports := d.disp.ports.map (fun e => (e.1, { e.2 with trained := e.2.trained && dpN d e.1 1 == 1 })) } }
        let d : Device := { d with disp := { d.disp with
          latched := { d.disp.committed with colour := if scanN d 4 == 0 then none else (densMap d (scanN d 4 - 1)).colourDone }
          blanking := true, blankLine := if d.disp.blanking then d.disp.blankLine + 1 else 0
          newLatched := d.disp.newContent, newContent := false, black := d.disp.black && d.power.state == .safe } }
        raiseEvent 0x190 1 (ballIndex d) d.disp.frameCount.toNat (retireBuffers d))))
  ∧ (∀ (s : State) (lines : Nat), s.dev.disp.running = true → s.dev.disp.blanking = true → frameStartsAt s.dev lines = true →
      exec (.displayFrameStart lines) s = .next (after s { s.dev with disp := { s.dev.disp with
        active := s.dev.disp.latched, blanking := false, newLatched := false, underflowRaised := false, frameCount := s.dev.disp.frameCount + 1 } }))
  ∧ (∀ (s : State) (line : Nat) (late : List (Nat × Nat)), s.dev.disp.running = true → s.dev.disp.blanking = false →
      line < (modeActive (scanN s.dev 1)).2 →
      exec (.lineFetch line late) s = .next (after s (
        let width := (modeActive (scanN s.dev 1)).1
        let send (l : List Pixel) : Device := { s.dev with disp := { s.dev.disp with line0 := sentLine s.dev 0 l, line1 := sentLine s.dev 1 l } }
        if s.dev.disp.black then send (List.replicate width (16, 128, 128))
        else
          let isLate (x : Nat) : Bool := late.any (fun r => decide (r.1 ≤ x) && decide (x < r.1 + r.2))
          let px := (List.range width).map (fun x => if isLate x then none else composePixel s.dev (l0Image s.dev) x line)
          let d := send (px.map (·.getD (bgPixel s.dev)))
          if px.all (·.isSome) then d
          else
            let under := (List.range width).any isLate
            let first := under && !d.disp.underflowRaised
            let d := { d with disp := { d.disp with
              underflowLines := d.disp.underflowLines + 1, underflowRaised := d.disp.underflowRaised || under } }
            if first then raiseFault (plainFault 0x190 4 0 0) d else d)))
  ∧ (∀ (s : State) (n : Fin 2) (a : Bool) (lanes rate : Nat), s.dev.disp.running = true →
      exec (.hotPlug n { adaptive := a, lanes := lanes, rate := rate }) s = .next (after s (raiseEvent (0x191 + n.val) 1 (ballIndex s.dev) 0
        (setDpPort n.val { dpPort s.dev n.val with connected := true, trained := false, adaptive := a, sinkLanes := lanes, sinkRate := rate } s.dev))))
  ∧ (∀ (s : State) (n : Fin 2), (dpPort s.dev n.val).connected = true →
      exec (.unplug n) s = .next (after s (raiseEvent (0x191 + n.val) 2 (ballIndex s.dev) 0 (setDpPort n.val {} s.dev))))
  ∧ (∀ (s : State) (n : Fin 2) (lanes rate : Nat), s.dev.disp.running = true → (dpPort s.dev n.val).connected = true → dpN s.dev n.val 1 = 1 →
      exec (.linkTrained n lanes rate) s = .next (after s (
        let p := dpPort s.dev n.val
        if (lanes ≠ 1 ∧ lanes ≠ 2 ∧ lanes ≠ 4) ∨ p.sinkLanes < lanes then raiseFault (plainFault (0x191 + n.val) 5 0 0) s.dev
        else
          let r := min (min rate (min p.sinkRate 3)) (dpN s.dev n.val 3)
          if lanes * linkRate r < modeClock (scanN s.dev 1) * 24 then
            raiseEvent (0x191 + n.val) 5 (ballIndex s.dev) 0 (setDpPort n.val { p with trained := false, lanes := lanes, rate := r } s.dev)
          else raiseEvent (0x191 + n.val) 3 (ballIndex s.dev) 0 (setDpPort n.val { p with trained := true, lanes := lanes, rate := r } s.dev))))
  ∧ (∀ (s : State) (n : Fin 2), (dpPort s.dev n.val).trained = true →
      exec (.linkLost n) s = .next (after s (raiseEvent (0x191 + n.val) 4 (ballIndex s.dev) 0
        (setDpPort n.val { dpPort s.dev n.val with trained := false } s.dev))))

/-- The stream commands open, close, resume and acknowledge. STREAM_OPEN of a closed stream places the ring at the lowest free
aligned range and answers its base; CLOSE of an open stream that no context enables returns the ring and answers OK, or waits
as long as the recorder reads the ring; RESUME of a halted stream with room writes a GAP record of cause 0x0A and ends the
halt. STREAM_ACK of a record that ends at the given offset moves the host consumer (a mirroring primary sends it to its peer
and answers on the confirmation); an acknowledgement equal to the previous one changes nothing. -/
def Obligations.StreamCommandsAct : Prop :=
  (∀ (s : State) (p : Packet) (a : Nat), admitted s.dev 0x0900 p = true → reservedZero p [(0, 3)] = true →
      26 ≤ pByte p 2 → pByte p 2 ≤ 39 → pByte p 1 < 254 →
      let d := taken p s.dev
      isOpen (stream d (pByte p 1)) = false → poolFind d (2 ^ pByte p 2) (2 ^ pByte p 2) = some a →
      exec (.streamOpen p) s = .next (after s (complete p .ok (leBytes 8 a)
        (setStream (pByte p 1) { ({} : Stream) with ringLog2 := pByte p 2, ringBase := a }
          { d with yard := { d.yard with buffers := d.yard.buffers ++ [{ base := a, size := 2 ^ pByte p 2, handle := none }] } }))))
  ∧ (∀ (s : State) (p : Packet), admitted s.dev 0x0900 p = true → reservedZero p [(0, 2)] = true → pByte p 1 < 254 →
      let d := taken p s.dev
      let v := stream d (pByte p 1)
      isOpen v = true → v.closing = none → neverEnabled d (pByte p 1) = true →
      exec (.streamClose p) s = .next (after s (
        if recordingOn d (pByte p 1) then park p (setStream (pByte p 1) { v with closing := some p } d)
        else complete p .ok [] (setStream (pByte p 1) {}
          { d with yard := { d.yard with buffers := d.yard.buffers.filter (fun b => b.base != v.ringBase) } }))))
  ∧ (∀ (s : State) (p : Packet), admitted s.dev 0x0900 p = true → reservedZero p [(0, 2)] = true →
      let n := pByte p 1
      let d := taken p s.dev
      let v := stream d n
      isOpen v = true → v.halted = true → consumers d n = 0 ∨ 128 ≤ freeSpace d n v →
      exec (.streamResume p) s = .next (after s (complete p .ok [] (writeStateBlock n
        (appendRec n
          (dropsRec d 0x0A (if v.haltDrops.count == 0 then { v.haltDrops with first := v.haltFirst, last := v.haltFirst } else v.haltDrops))
          (setStream n { v with halted := false, haltDrops := {} } d))))))
  ∧ (∀ (s : State) (p : Packet), admitted s.dev 0x0901 p = true → reservedZero p [(0, 2), (8, 16)] = true → pByte p 1 = 0 →
      let n := pByte p 0
      let d := taken p s.dev
      let v := stream d n
      isOpen v = true → bit (consumers d n) 0 = true → ringBound d n = false → v.hostOffset < p64 p 16 → p64 p 16 ≤ v.writeOffset →
      p64 p 16 % 64 = 0 → recordEndsAt d v (p64 p 16) (p64 p 8) = true →
      let e := setStream n { v with hostOffset := p64 p 16, hostSeq := some (p64 p 8) } d
      exec (.streamAck p) s = .next (after s (
        match mirrorsOut e n, e.group.pairPeer with
        | true, some peer =>
          let f := sendMsg peer (.ackMirror false p.tag.toNat n (p64 p 8) (p64 p 16)) e
          { f with group := { f.group with unconfirmed := f.group.unconfirmed ++
              [{ tag := p.tag.toNat, packet := p, status := .ok, reply := stateBlock f n }] } }
        | _, _ => complete p .ok (stateBlock e n) e)))
  ∧ (∀ (s : State) (p : Packet), admitted s.dev 0x0901 p = true → reservedZero p [(0, 2), (8, 16)] = true → pByte p 1 = 0 →
      let n := pByte p 0
      let d := taken p s.dev
      let v := stream d n
      isOpen v = true → bit (consumers d n) 0 = true → ringBound d n = false → p64 p 16 = v.hostOffset → v.hostSeq = some (p64 p 8) →
      exec (.streamAck p) s = .next (after s (complete p .ok (stateBlock d n) d)))

/-- Records reach rings, rings advance, epochs are marked. RECORD_ARRIVAL: the first record of the stall that no EPOCH record
must precede and that is not held for its place leaves the stall; with the stream enabled the gatherer takes it and settles
the waits for it, with enable 0 in every context it is discarded, and while only a pending context enables the stream it
stays. RING_WRITE_COMPLETE: W moves by the record's length and the state block becomes due. STATE_BLOCK_WRITE: a due state
block is mirrored once 256 fabric cycles (200 ns) have passed since the last. EPOCH_RECORD_WRITE: once the oldest due
boundary's token has come from every source, its record is written if the stream was enabled there and wants it; requests
that waited for a boundary the stream did not carry are answered. -/
def Obligations.StreamEventsAct : Prop :=
  (∀ (s : State) (n : Fin 256) (r : Rec) (rest : List Rec),
      let v := stream s.dev n.val
      isOpen v = true → resetRuns s.dev 0x200 = false →
      takeFirst (fun r => !epochBefore v r && !gapWaits s.dev n.val r) v.stall = some (r, rest) →
      exec (.recordArrival n) s = .next (after s (settleRequests n.val (allocOffset v)
        (if streamEnabled s.dev n.val then takeRecord n.val r (setStream n.val { v with stall := rest } s.dev)
         else if willEnable s.dev n.val then s.dev
         else setStream n.val { v with stall := rest } s.dev))))
  ∧ (∀ (s : State) (n : Fin 256) (u : Nat) (us : List Nat),
      let v := stream s.dev n.val
      v.inFlight = u :: us →
      exec (.ringWriteComplete n) s = .next (after s (setStream n.val { v with
        inFlight := us, writeOffset := v.writeOffset + 64 * u, mirrorDue := true
        recOffset := if recordingOn s.dev n.val then v.recOffset else v.writeOffset + 64 * u } s.dev)))
  ∧ (∀ (s : State) (n : Fin 256), (stream s.dev n.val).mirrorDue = true →
      (stream s.dev n.val).mirrorAt.all (fun t => decide (t + 200 ≤ s.dev.time)) = true →
      let d := setStream n.val { stream s.dev n.val with mirrorDue := false, mirrorAt := some s.dev.time } s.dev
      exec (.stateBlockWrite n) s = .next (after s (
        if streamN s.dev n.val 6 == 0 || !isOpen (stream d n.val) then d else memWrite (streamN s.dev n.val 6) (stateBlock d n.val) d)))
  ∧ (∀ (s : State) (n : Fin 256) (e : EpochDue) (rest : List EpochDue),
      let v := stream s.dev n.val
      v.epochDue = e :: rest → isOpen v = true → epochReady s.dev n.val e = true →
      let d := setStream n.val { v with epochDue := rest } s.dev
      exec (.epochRecordWrite n) s = .next (after s (
        if !e.enabled then missRequests n.val e.epoch false d
        else if !e.wanted then d
        else
          let f := settleRequests n.val (allocOffset v) (takeRecord n.val (epochRecord d e) d)
          if (stream f n.val).nextSeq == (stream d n.val).nextSeq && !mirrorsIn f n.val && bit e.flags 4
          then missRequests n.val e.epoch true f else f)))

/-- Volumes are created, mounted and unmounted. VOL_CREATE on free, ready drives (bare, or with OVERWRITE), encrypted under the
key of a key slot or not, erases the journals, writes DIRTY superblocks, mounts the volume with every row freed and answers
its rows; VOL_MOUNT mounts the volume that its superblocks state and answers its rows and the recordings it ended;
VOL_UNMOUNT of an idle volume writes its superblocks clean and forgets it. -/
def Obligations.VolumeCommandsAct : Prop :=
  (∀ (s : State) (p : Packet) (slot : Option (BitVec 256)), admitted s.dev 0x0A00 p = true → volParams p = true →
      20 ≤ pByte p 3 → pByte p 3 ≤ 24 → p32 p 8 = 0 ∨ (p32 p 8 % 256 = 0 ∧ 4096 ≤ p32 p 8 ∧ p32 p 8 ≤ 1048576) →
      (bit (pByte p 4) 1 = true → bit (pByte p 4) 0 = true) →
      let ps := maskPorts (pByte p 2)
      let d := taken p s.dev
      let jl := if p32 p 8 == 0 then 65536 else p32 p 8
      let start := dataStartOf jl (pByte p 3)
      let rows := listMin (2 ^ 64) (ps.map (fun q => ((port d q).capacity - 1 - start) / unitLbas (pByte p 3)))
      ps ≠ [] → volume d (pByte p 1) = none → ps.any (inVolume d) = false → ps.all (driveReady d) = true →
      bit (pByte p 4) 2 = true ∨ ps.any (fun q => (readSuper d q).isSome) = false →
      slot.isSome = bit (pByte p 4) 0 → (bit (pByte p 4) 0 = true → pByte p 5 ≤ 15 ∧ d.pad.errorState = false ∧ keyOfSlot d (pByte p 5) = slot) →
      rows ≠ 0 →
      let u := drbgBytes 16 d
      let k := if slot.isSome then freshKeys 4 u.2 else ([], u.2)
      let v : Volume := {
        ports := ps.map some, stripeLog2 := pByte p 3, encrypted := slot.isSome, mac := bit (pByte p 4) 1
        keySlot := if slot.isSome then pByte p 5 else 0, keys := slot.map (fun _ => splitKeys k.1)
        wrapped := match slot with
          | some w => Config.kwWrap w k.1
          | none => []
        uuid := u.1, label := sliceBytes p.params 12 16, dataStart := start, dataRows := rows, journalLbas := jl
        mountCount := 1, jseq := 0, jlive := 0, failed := false, retired := [], head := 0, recordings := []
        freed := (List.range ps.length).map (fun i => (i, 0, rows)) }
      exec (.volCreate p) s = .next (after s (complete p .ok (leBytes 8 rows ++ leBytes 4 0) (setVolume (pByte p 1) (some v)
        (writeSupers v true (ps.foldl (fun d q => eraseJournal jl q d) k.2))))))
  ∧ (∀ (s : State) (p : Packet) (v : Volume) (dirty : Bool), admitted s.dev 0x0A00 p = true → volParams p = true →
      let ps := maskPorts (pByte p 2)
      let d := taken p s.dev
      ps ≠ [] → volume d (pByte p 1) = none → ps.any (inVolume d) = false →
      findVolume d ps (bit (pByte p 4) 2) (roleHeld d p) = .ok (v, dirty) →
      let m := mountVolume (pByte p 1) v dirty d
      exec (.volMount p) s = .next (after s (complete p .ok (leBytes 8 v.dataRows ++ leBytes 4 m.1) m.2)))
  ∧ (∀ (s : State) (p : Packet) (v : Volume), admitted s.dev 0x0A00 p = true → volParams p = true →
      let d := taken p s.dev
      volume d (pByte p 1) = some v → volumeBusy d (pByte p 1) = false →
      exec (.volUnmount p) s = .next (after s (complete p .ok (leBytes 8 v.dataRows ++ leBytes 4 0)
        (setVolume (pByte p 1) none (writeSupers v false d)))))

/-- Recordings start, stop and are deleted, playback begins. REC_START without AT_EPOCH begins the recording at W; with AT_EPOCH
it waits for its boundary; REC_STOP without AT_EPOCH ends it at W, with AT_EPOCH it waits; REC_DELETE frees the units of a
recording that nothing uses; PLAY queues a playback. -/
def Obligations.RecorderCommandsAct : Prop :=
  (∀ (s : State) (p : Packet) (v : Volume), admitted s.dev 0x0A01 p = true → reservedZero p [(0, 3), (8, 24)] = true →
      pByte p 0 ≤ 7 → pByte p 2 ≤ 3 →
      let n := pByte p 1
      let d := taken p s.dev
      volume d (pByte p 0) = some v → bit (consumers d n) 1 = true → recordingOn d n = false →
      d.nvme.waits.any (fun w => w.stream == n && w.stopOf.isNone) = false → d.nvme.running.length < 16 → v.failed = false → v.retired = [] →
      isOpen (stream d n) = true → 4 * 2 ^ v.stripeLog2 * driveCount v ≤ 2 ^ (stream d n).ringLog2 → volumeRateOk d (cfgVal d) (pByte p 0) v [n] = true →
      bit (pByte p 2) 0 = false ∨ d.sampleIndex < p64 p 8 * 2 ^ epochExp d →
      exec (.recStart p) s = .next (after s (
        if bit (pByte p 2) 0 then park p { d with nvme := { d.nvme with waits := d.nvme.waits ++
          [{ packet := p, stream := n, epoch := p64 p 8, stopOf := none, missed := false }] } }
        else beginRecording p (stream d n).writeOffset d)))
  ∧ (∀ (s : State) (p : Packet) (r : RunningRec), admitted s.dev 0x0A02 p = true → reservedZero p [(0, 5), (8, 8)] = true →
      let d := taken p s.dev
      runningRec d (p32 p 0) = some r → r.packet = none → d.nvme.waits.any (fun w => w.stopOf == some (p32 p 0)) = false →
      pByte p 4 = 0 ∨ (pByte p 4 = 1 ∧ d.sampleIndex < p64 p 8 * 2 ^ epochExp d) →
      exec (.recStop p) s = .next (after s (
        if pByte p 4 == 0 then endRecording (p32 p 0) (stream d r.stream).writeOffset 0 (some p) (park p d)
        else park p { d with nvme := { d.nvme with waits := d.nvme.waits ++
          [{ packet := p, stream := r.stream, epoch := p64 p 8, stopOf := some (p32 p 0), missed := false }] } })))
  ∧ (∀ (s : State) (p : Packet) (n : Nat) (v : Volume) (r : Recording), admitted s.dev 0x0A04 p = true → reservedZero p [(0, 4)] = true →
      let d := taken p s.dev
      findRecording d (p32 p 0) = some (n, v, r) → runningRec d (p32 p 0) = none → d.nvme.playing.any (fun x => x.recording == p32 p 0) = false →
      exec (.recDelete p) s = .next (after s (complete p .ok []
        (addFreed n (r.extents.flatMap (fun x => (List.range x.2.1).map (fun i => x.1 + i))) (journal n [.deleted (p32 p 0)] d)))))
  ∧ (∀ (s : State) (p : Packet) (v : Volume) (r : Recording), admitted s.dev 0x0A03 p = true → reservedZero p [(0, 2), (4, 24)] = true → pByte p 0 ≤ 7 →
      let d := taken p s.dev
      volume d (pByte p 0) = some v → recordingIn v (p32 p 4) = some r → playTarget d (pByte p 1) = true → d.nvme.playing.length < 8 →
      exec (.play p) s = .next (after s (park p { d with nvme := { d.nvme with playing := d.nvme.playing ++ [{
        packet := p, volume := pByte p 0, recording := p32 p 4, stream := pByte p 1, next := r.start, limit := r.length
        firstSeq := if p64 p 8 = 2 ^ 64 - 1 then none else some (p64 p 8), played := 0, count := p64 p 16
        rate := p32 p 24, bytes := 0, begun := d.time, retried := false }] } })))

/-- Units, checkpoints, drives, wear and playback. UNIT_WRITE_COMPLETE: with a unit ahead, the commits due at the unit boundary
swap and the unit is stored with what the ring holds of it. CHECKPOINT: one entry per recording enters the journal of each
recording volume whose drives have room. SMART_POLL and DEALLOCATION_BATCH, where wear work may run: the figures are held, a
worn or critical drive retires and raises its event; up to 256 freed ranges leave the drive. NVME_COMPLETION: success ends
bring-up or a flush and lets further commands start, a first failure is retried, a second fails the drive. A command timeout
or a lost link fails the drive; a link that comes up begins bring-up. PLAYBACK_READ: a finished playback completes; else the
record at its place is delivered, skipped, retried, failed or held, by what is read. -/
def Obligations.RecorderEventsAct : Prop :=
  (∀ (s : State) (id u : Nat) (us : List Nat) (r : RunningRec) (v : Volume),
      let d := prepareUnit id s.dev
      runningRec d id = some r → r.ahead = u :: us → volume d r.volume = some v →
      let e := unitBoundary r.volume v d
      let w := (stream e r.stream).writeOffset
      let limit := match r.stop with
        | some x => min x w
        | none => w
      exec (.unitWriteComplete id) s = .next (after s (queueAll id (storeUnit r v u (min (unitBytes v) (limit - (r.base + r.written))) e))))
  ∧ (∀ s : State,
      let ns := (s.dev.nvme.running.map (·.volume)).eraseDups
      exec .checkpoint s = .next (after s (ns.foldl (fun d n =>
        match volume d n with
        | none => d
        | some v =>
          let es := (d.nvme.running.filter (fun r => r.volume == n)).map
            (fun r => JournalEntry.checkpoint r.id r.written r.lastSeq v.head)
          let ps := v.ports.filterMap id
          if ps.all (fun p => nvmeRoom d p 1) then journal n es (ps.foldl (fun d p => nvmePass p d) d) else d) s.dev)))
  ∧ (∀ (s : State) (p : Fin 8) (percent critical : Nat), wearRuns s.dev p.val = true →
      let d := nvmePass p.val s.dev
      let v := port d p.val
      let worn := decide (wearLimit d p.val ≤ percent) || bit critical 0 || bit critical 2 || bit critical 3
      let e := setPort p.val { v with pctUsed := percent % 256, critical := critical % 256, retired := v.retired || worn } d
      let f := if bit critical 1 then raiseEvent (portSource p.val) 6 (ballIndex e) 0 e else e
      exec (.smartPoll p percent critical) s = .next (after s (
        if worn && !v.retired then
          let g := (mounted f).foldl (fun d e =>
            match e.2.ports.findIdx? (· == some p.val) with
            | some i =>
              let w := { e.2 with retired := e.2.retired ++ [i] }
              writeSupers w true (setVolume e.1 (some w) d)
            | none => d) f
          raiseEvent (portSource p.val) 5 (ballIndex g) 0 g
        else f)))
  ∧ (∀ (s : State) (p : Fin 8), wearRuns s.dev p.val = true →
      exec (.deallocationBatch p) s = .next (after s ((mounted s.dev).foldl (fun d e =>
        match e.2.ports.findIdx? (· == some p.val) with
        | none => d
        | some i =>
          let us := (e.2.freed.filter (fun x => x.1 == i)).take 256
          let size := unitLbas e.2.stripeLog2
          let gone := fun (l : Nat) => us.any (fun x =>
            decide (e.2.dataStart + x.2.1 * size ≤ l) && decide (l < e.2.dataStart + (x.2.1 + x.2.2) * size))
          let f := setPort p.val { port d p.val with disk := (port d p.val).disk.filter (fun x => !gone x.1) } d
          setVolume e.1 (some { e.2 with freed := e.2.freed.filter (fun x => !us.contains x) }) f) (nvmePass p.val s.dev))))
  ∧ (∀ (s : State) (p : Fin 8) (ok : Bool),
      let v := port s.dev p.val
      v.linkUp = true → v.failed = false →
      exec (.nvmeCompletion p ok) s = .next (after s (
        if ok then
          let d := setPort p.val { v with retried := false, queue := v.queue.drop 1 } s.dev
          let e := match v.queue with
            | .bringUp x :: _ => broughtUp p.val x d
            | .flush id :: _ => flushed id d
            | .write .. :: _ | [] => d
          e.nvme.running.foldl (fun d r => flushEnd r.id (queueAll r.id d)) e
        else if v.retried then driveFailed p.val s.dev
        else raiseFault (plainFault (portSource p.val) 4 0 0) (setPort p.val { v with retried := true } s.dev))))
  ∧ (∀ (s : State) (p : Fin 8), (port s.dev p.val).linkUp = true → (port s.dev p.val).failed = false →
      exec (.nvmeCommandTimeout p) s = .next (after s (driveFailed p.val s.dev)))
  ∧ (∀ (s : State) (p : Fin 8), (port s.dev p.val).linkUp = true →
      let d := raiseEvent (portSource p.val) 2 (ballIndex s.dev) 0 (setPort p.val { port s.dev p.val with linkUp := false } s.dev)
      exec (.driveLinkDown p) s = .next (after s (if (port s.dev p.val).failed then d else driveFailed p.val d)))
  ∧ (∀ (s : State) (p : Fin 8) (x : DriveId), (port s.dev p.val).linkUp = false → (port s.dev p.val).failed = false →
      portN s.dev p.val 1 ≠ 0 → s.dev.power.state ≠ .sleep →
      exec (.storageLinkUp p x) s = .next (after s (raiseEvent (portSource p.val) 1 (ballIndex s.dev) 0 (setPort p.val
        { port s.dev p.val with linkUp := true, queue := [.bringUp x], retried := false, notUsable := false } s.dev))))
  ∧ (∀ (s : State) (x : Playback) (rest : List Playback) (ok a : Bool), s.dev.nvme.playing = x :: rest →
      (x.count ≠ 0 ∧ x.count ≤ x.played) ∨ x.limit ≤ x.next →
      exec (.playbackRead ok a) s = .next (after s (complete x.packet .ok (leBytes 8 x.played ++ zeroBytes 16)
        { s.dev with nvme := { s.dev.nvme with playing := rest } })))
  ∧ (∀ (s : State) (x : Playback) (rest : List Playback) (v : Volume) (r : Recording) (ok a : Bool),
      s.dev.nvme.playing = x :: rest → x.count = 0 ∨ x.played < x.count → x.next < x.limit → volume s.dev x.volume = some v →
      recordingIn v x.recording = some r → (playPort v r x.next).any (fun p => !nvmeRoom s.dev p 1) = false →
      let d := match playPort v r x.next with
        | some p => nvmePass p s.dev
        | none => s.dev
      let len := (readRecBytes d v r (x.next + 8) 4).map (fun h =>
        if 0 < getLe h 0 4 && x.next + 64 * getLe h 0 4 ≤ x.limit then 64 * getLe h 0 4 else 64)
      exec (.playbackRead ok a) s = .next (after s (
        match len.bind (fun n => readRecBytes d v r x.next n) with
        | none => endPlayback x (if v.failed then 4 else 1) 0 d
        | some b =>
          if !ok then playReadFails x (playPort v r x.next) d
          else match badChunk d v r a x.next b.length with
            | some k => endPlayback x 2 k (raiseFault (plainFault 0x280 3 1 0) d)
            | none =>
              let before := match x.firstSeq with
                | some q => decide (getLe b 12 8 < q)
                | none => false
              if !lengthEchoes b then replacePlay x { x with next := x.next + 64, retried := false } d
              else if !recordIntact b || before then replacePlay x { x with next := x.next + b.length, retried := false } d
              else deliverPlayed x b d)))

/-- XFER_KICK starts, resumes, stops and aborts a channel. START of an idle or halted enabled channel makes it RUNNING at the
given descriptor; RESUME of a halted channel goes on at the next descriptor (with none it goes IDLE), in WAIT_OWN it reads
the descriptor again, and changes no channel in another state; STOP lets a running descriptor complete and waits for it;
ABORT cuts it off and waits; STOP and ABORT of a channel that runs nothing take it to IDLE at once. -/
def Obligations.XferCommandsAct : Prop :=
  (∀ (s : State) (p : Packet), admitted s.dev 0x0902 p = true → xferParams p = true →
      let c := pByte p 1
      let d := taken p s.dev
      let v := chan d c
      descriptorOk d (p64 p 8) = true → v.state = .idle ∨ v.state = .halted → xferN d c 1 ≠ 0 →
      exec (.xferStart p) s = .next (after s (complete p .ok (leBytes 1 1 ++ zeroBytes 7 ++ leBytes 8 (p64 p 8))
        (setChan c { v with state := .running, descAddr := p64 p 8, desc := none, prefetched := [], crc := 0xFFFFFFFF#32,
                            error := none, stopping := false } d))))
  ∧ (∀ (s : State) (p : Packet), admitted s.dev 0x0902 p = true → xferParams p = true →
      let c := pByte p 1
      let d := taken p s.dev
      let v := chan d c
      let next := match v.desc with
        | some x => x.next
        | none => 0
      let e := match v.state with
        | .halted => if next == 0 then chanIdle c d else setChan c { v with state := .running, desc := none, descAddr := next, done := 0 } d
        | .waitOwn => fetchDescriptor c d
        | _ => d
      exec (.xferResume p) s = .next (after s (complete p .ok (xferReply e c) e)))
  ∧ (∀ (s : State) (p : Packet), admitted s.dev 0x0902 p = true → xferParams p = true →
      let c := pByte p 1
      let d := taken p s.dev
      let v := chan d c
      let e := if v.state == .idle then d
        else if (v.state == .running || v.state == .waitReq) && v.desc.isSome then setChan c { v with stopping := true } d
        else chanIdle c d
      exec (.xferStop p) s = .next (after s (
        if (chan e c).state == .idle then complete p .ok (xferReply e c) e
        else park p (setChan c { chan e c with waiters := (chan e c).waiters ++ [p] } e))))
  ∧ (∀ (s : State) (p : Packet), admitted s.dev 0x0902 p = true → xferParams p = true →
      let c := pByte p 1
      let d := taken p s.dev
      let v := chan d c
      exec (.xferAbort p) s = .next (after s (
        if (v.state == .running || v.state == .waitReq) && v.desc.isSome then
          park p (setChan c { v with aborting := true, waiters := v.waiters ++ [p] } d)
        else complete p .ok (xferReply (chanIdle c d) c) (chanIdle c d))))

/-- A channel fetches, moves and completes its descriptors. DESCRIPTOR_FETCH: a running channel without a descriptor begins the
one prefetched for its address or fetches it, one with a descriptor prefetches; in WAIT_OWN the poll fetches again;
BURST_ISSUE: a channel whose request line is down waits, the winner of the arbitration begins a turn or goes on with its own,
and issues one burst unless it is throttled; BURST_COMPLETE: the bytes read are written at the destination (where source and
destination overlap, free bytes), counted and taken into the CRC, a failure or poison leaves its status and cause;
DESCRIPTOR_COMPLETE: with no burst in flight, an aborted, failed or wholly moved descriptor is completed; a request line that
stays down for its time gives status 4 and cause 0x30. -/
def Obligations.XferEventsAct : Prop :=
  (∀ (s : State) (c : Fin 64),
      let v := chan s.dev c.val
      v.state = .running ∨ v.state = .waitReq →
      exec (.descriptorFetch c) s = .next (after s (
        match v.desc with
        | none =>
          match v.prefetched with
          | (a, b) :: rest =>
            if a == v.descAddr then beginDescriptor c.val b (setChan c.val { v with prefetched := rest } s.dev)
            else fetchDescriptor c.val (setChan c.val { v with prefetched := [] } s.dev)
          | [] => fetchDescriptor c.val s.dev
        | some _ =>
          match prefetchAddr v with
          | some a =>
            if v.prefetched.length < 16 && descriptorOk s.dev a && !poisoned s.dev a 64 then
              setChan c.val { v with prefetched := v.prefetched ++ [(a, memRead s.dev a 64)] } s.dev
            else s.dev
          | none => s.dev)))
  ∧ (∀ (s : State) (c : Fin 64), (chan s.dev c.val).state = .waitOwn → xferN s.dev c.val 4 ≠ 0 →
      exec (.ownPoll c) s = .next (after s (fetchDescriptor c.val s.dev)))
  ∧ (∀ (s : State) (c : Fin 64), wantsBurst (chan s.dev c.val) = true → burstReady s.dev c.val = false →
      exec (.burstIssue c) s = .next (after s (setChan c.val { chan s.dev c.val with state := .waitReq } s.dev)))
  ∧ (∀ (s : State) (c : Fin 64), wantsBurst (chan s.dev c.val) = true → burstReady s.dev c.val = true → burstWinner s.dev = some c.val →
      inFlightTotal s.dev < 1024 →
      let runs := s.dev.xfer.turn.1 == c.val && s.dev.xfer.turn.2 != 0
      let left := if runs then s.dev.xfer.turn.2 else xferN s.dev c.val 2
      let n := (s.dev.xfer.turns + 1) % 8
      let d : Device := if runs then s.dev
        else { s.dev with xfer := { s.dev.xfer with turns := n, spent := if n == 0 then [] else s.dev.xfer.spent } }
      exec (.burstIssue c) s = .next (after s (
        if d.power.throttle != 0 && decide (8 - d.power.throttle ≤ tget 0 d.xfer.spent c.val) then
          { d with xfer := { d.xfer with turn := (c.val, 0) } }
        else issueBurst c.val (startRing c.val (setChan c.val { chan s.dev c.val with state := .running }
          { d with xfer := { d.xfer with
              turn := (c.val, left - 1), spent := tset 0 d.xfer.spent c.val (tget 0 d.xfer.spent c.val + 1) } })))))
  ∧ (∀ (s : State) (c : Fin 64) (how : BurstEnd) (x : Descriptor) (j n : Nat) (rest : List (Nat × Nat)),
      let v := chan s.dev c.val
      let a := srcAddr s.dev x j
      let b := dstAddr x j
      let bs := memRead s.dev a n
      v.desc = some x → v.inFlight = (j, n) :: rest →
      exec (.burstComplete c how) s = .next (after s (
        match (match how with
          | .accessError k => some (2, k)
          | .dataError k => some (3, k)
          | .ok => (burstPoison s.dev a n).map (fun k => (3, k))) with
        | some e => setChan c.val { v with inFlight := rest, error := some (v.error.getD e) } s.dev
        | none =>
          let w := { v with inFlight := rest, bytesTotal := v.bytesTotal + BitVec.ofNat 64 n }
          busWrite b (burstBytes s.dev x b bs) (setChan c.val
            (if v.error.isSome then w else { w with done := v.done + n, crc := bs.foldl crcByte v.crc })
            (freshOverlap x b n (freshLoft a s.dev))))))
  ∧ (∀ (s : State) (c : Fin 64) (x : Descriptor),
      let v := chan s.dev c.val
      v.state = .running ∨ v.state = .waitReq → v.desc = some x → v.inFlight = [] →
      v.aborting = true ∨ v.error.isSome = true ∨ (x.started = true ∧ x.total ≤ v.issued) →
      exec (.descriptorComplete c) s = .next (after s (
        if v.aborting then finishDescriptor c.val 5 0x40 true s.dev
        else match v.error with
          | some (code, cause) => finishDescriptor c.val code cause false s.dev
          | none => finishDescriptor c.val 0 0 false s.dev)))
  ∧ (∀ (s : State) (c : Fin 64), (chan s.dev c.val).state = .waitReq → xferN s.dev c.val 5 ≠ 0 →
      (chan s.dev c.val).desc.any (lineAllows s.dev) = false →
      exec (.requestLineTimeout c) s = .next (after s (setChan c.val
        { chan s.dev c.val with error := some ((chan s.dev c.val).error.getD (4, 0x30)) } s.dev)))

/-- The vector operations of a Reed core write what R384 gives them. A vector instruction that clashes with no write on its way
and whose moves raise no exception retires with its result under its latency in the destination register, beside the writes
of its moves; vrnd and vshr set SAT where a lane saturates; vstep advances the ring offset; nop writes what its moves write;
an illegal word raises exception 1. -/
def Obligations.ReedVectorOps : Prop :=
  (∀ (s : State) (n : Fin 32) (w : Nat), issuesNext s.dev n.val w = true → iOp w = 0x0C →
      let v := settled s.dev n.val
      let ws := [(2, .vec (physReg v (iD w)) (packLanes ((zip8 (· + ·) (vecLanes v (iA w)) (vecLanes v (iB w))).map sat16)))] ++ moved v w
      issuesClean v w ws = true →
      exec (.vadd n) s = .next (after s (
        retire n.val ws v (setCore n.val v s.dev))))
  ∧ (∀ (s : State) (n : Fin 32) (w : Nat), issuesNext s.dev n.val w = true → iOp w = 0x0D →
      let v := settled s.dev n.val
      let ws := [(2, .vec (physReg v (iD w)) (packLanes ((zip8 (· - ·) (vecLanes v (iA w)) (vecLanes v (iB w))).map sat16)))] ++ moved v w
      issuesClean v w ws = true →
      exec (.vsub n) s = .next (after s (
        retire n.val ws v (setCore n.val v s.dev))))
  ∧ (∀ (s : State) (n : Fin 32) (w : Nat), issuesNext s.dev n.val w = true → iOp w = 0x0E →
      let v := settled s.dev n.val
      let ws := [(2, .vec (physReg v (iD w)) (packLanes (zip8 max (vecLanes v (iA w)) (vecLanes v (iB w)))))] ++ moved v w
      issuesClean v w ws = true →
      exec (.vmax n) s = .next (after s (
        retire n.val ws v (setCore n.val v s.dev))))
  ∧ (∀ (s : State) (n : Fin 32) (w : Nat), issuesNext s.dev n.val w = true → iOp w = 0x0F →
      let v := settled s.dev n.val
      let ws := [(2, .vec (physReg v (iD w)) (packLanes (zip8 min (vecLanes v (iA w)) (vecLanes v (iB w)))))] ++ moved v w
      issuesClean v w ws = true →
      exec (.vmin n) s = .next (after s (
        retire n.val ws v (setCore n.val v s.dev))))
  ∧ (∀ (s : State) (n : Fin 32) (w : Nat), issuesNext s.dev n.val w = true → iOp w = 0x11 →
      let v := settled s.dev n.val
      let ws := [(2, .vec (physReg v (iD w)) (packLanes ((vecLanes v (iA w)).map (fun y => sat16 (y * 2 ^ iX w)))))] ++ moved v w
      issuesClean v w ws = true →
      exec (.vshl n) s = .next (after s (
        retire n.val ws v (setCore n.val v s.dev))))
  ∧ (∀ (s : State) (n : Fin 32) (w : Nat), issuesNext s.dev n.val w = true → iOp w = 0x12 →
      let v := settled s.dev n.val
      let ws := [(2, .vec (physReg v (iD w)) (packLanes ((((vecLanes v (iA w)) ++ (vecLanes v (iB w))).drop (iX w % 8)).take 8)))] ++ moved v w
      issuesClean v w ws = true →
      exec (.valign n) s = .next (after s (
        retire n.val ws v (setCore n.val v s.dev))))
  ∧ (∀ (s : State) (n : Fin 32) (w : Nat), issuesNext s.dev n.val w = true → iOp w = 0x13 →
      let v := settled s.dev n.val
      let ws := [(1, .vec (physReg v (iD w)) (packLanes ((vecLanes v (iA w)))))] ++ moved v w
      issuesClean v w ws = true →
      exec (.vmov n) s = .next (after s (
        retire n.val ws v (setCore n.val v s.dev))))
  ∧ (∀ (s : State) (n : Fin 32) (w : Nat), issuesNext s.dev n.val w = true → iOp w = 0x14 →
      let v := settled s.dev n.val
      let ws := [(1, .vec (physReg v (iD w)) (packLanes (List.replicate 8 (getLane (vecLanes v (iA w)) (iX w % 8)))))] ++ moved v w
      issuesClean v w ws = true →
      exec (.vbcast n) s = .next (after s (
        retire n.val ws v (setCore n.val v s.dev))))
  ∧ (∀ (s : State) (n : Fin 32) (w : Nat), issuesNext s.dev n.val w = true → iOp w = 0x15 →
      let v := settled s.dev n.val
      let ws := [(2, .vec (physReg v (iD w)) (packLanes (((vecLanes v (iA w)).zipIdx).map (fun y => if y.2 % 2 == 1 then sat16 (-y.1) else y.1))))] ++ moved v w
      issuesClean v w ws = true →
      exec (.vconj n) s = .next (after s (
        retire n.val ws v (setCore n.val v s.dev))))
  ∧ (∀ (s : State) (n : Fin 32) (w : Nat), issuesNext s.dev n.val w = true → iOp w = 0x0B →
      let v := settled s.dev n.val
      let l := (accLanes v (iA w)).map (fun y => convSat y (iB w))
      let ws := [(2, .vec (physReg v (iD w)) (packLanes (l.map (·.1))))] ++ moved v w
      issuesClean v w ws = true →
      exec (.vrnd n) s = .next (after s (
        retire n.val ws { v with sat := v.sat || l.any (·.2) } (setCore n.val v s.dev))))
  ∧ (∀ (s : State) (n : Fin 32) (w : Nat), issuesNext s.dev n.val w = true → iOp w = 0x10 →
      let v := settled s.dev n.val
      let l := (vecLanes v (iA w)).map (fun y => convSat y (iX w))
      let ws := [(2, .vec (physReg v (iD w)) (packLanes (l.map (·.1))))] ++ moved v w
      issuesClean v w ws = true →
      exec (.vshr n) s = .next (after s (
        retire n.val ws { v with sat := v.sat || l.any (·.2) } (setCore n.val v s.dev))))
  ∧ (∀ (s : State) (n : Fin 32) (w : Nat), issuesNext s.dev n.val w = true → iOp w = 0x01 →
      let v := settled s.dev n.val
      issuesClean v w (moved v w) = true →
      exec (.vstep n) s = .next (after s (
        retire n.val (moved v w) { v with vro := (v.vro + 1) % 32 } (setCore n.val v s.dev))))
  ∧ (∀ (s : State) (n : Fin 32) (w : Nat), issuesNext s.dev n.val w = true → iOp w = 0x00 →
      let v := settled s.dev n.val
      issuesClean v w (moved v w) = true →
      exec (.reedNop n) s = .next (after s (
        retire n.val (moved v w) v (setCore n.val v s.dev))))
  ∧ (∀ (s : State) (n : Fin 32),
      let u := Machine.core s.dev n.val
      let w := (tget 0 u.program u.pc).toNat
      u.mode = .running → u.wait = .none → u.stopping = [] → reservedOp (iOp w) = true → illegal w = true →
      exec (.reedNop n) s = .next (after s (takeException n.val 1 (setCore n.val (settled s.dev n.val) s.dev))))

/-- The accumulator operations of a Reed core write what R384 gives them. An accumulating instruction that clashes with no write
on its way writes the low 40 bits of each exact lane, to MAC-group readers after one position and to every other reader after
three (one latency for accclr and accsum), and sets AOV where a lane leaves the range of 40 bits. -/
def Obligations.ReedAccumulatorOps : Prop :=
  (∀ (s : State) (n : Fin 32) (w : Nat), issuesNext s.dev n.val w = true → iOp w = 0x02 →
      let v := settled s.dev n.val
      let l := (zip8 (· + ·) (fwdLanes v (iD w)) (negIf (bit (iX w) 3) (zip8 (· * ·) (vecLanes v (iA w)) (vecLanes v (iB w))))).map acc40
      let ws := [(1, .fwd (iD w) (l.map (·.1))), (3, .acc (iD w) (l.map (·.1)))] ++ moved v w
      issuesClean v w ws = true →
      exec (.vmac n) s = .next (after s (
        retire n.val ws { v with aov := v.aov || l.any (·.2) } (setCore n.val v s.dev))))
  ∧ (∀ (s : State) (n : Fin 32) (w : Nat), issuesNext s.dev n.val w = true → iOp w = 0x03 →
      let v := settled s.dev n.val
      let l := (negIf (bit (iX w) 3) (zip8 (· * ·) (vecLanes v (iA w)) (vecLanes v (iB w)))).map acc40
      let ws := [(1, .fwd (iD w) (l.map (·.1))), (3, .acc (iD w) (l.map (·.1)))] ++ moved v w
      issuesClean v w ws = true →
      exec (.vmul n) s = .next (after s (
        retire n.val ws { v with aov := v.aov || l.any (·.2) } (setCore n.val v s.dev))))
  ∧ (∀ (s : State) (n : Fin 32) (w : Nat), issuesNext s.dev n.val w = true → iOp w = 0x04 →
      let v := settled s.dev n.val
      let l := (zip8 (· + ·) (fwdLanes v (iD w)) (negIf (bit (iX w) 3) ((vecLanes v (iA w)).map (· * getLane (vecLanes v (iB w)) (iX w % 8))))).map acc40
      let ws := [(1, .fwd (iD w) (l.map (·.1))), (3, .acc (iD w) (l.map (·.1)))] ++ moved v w
      issuesClean v w ws = true →
      exec (.vmacb n) s = .next (after s (
        retire n.val ws { v with aov := v.aov || l.any (·.2) } (setCore n.val v s.dev))))
  ∧ (∀ (s : State) (n : Fin 32) (w : Nat), issuesNext s.dev n.val w = true → iOp w = 0x05 →
      let v := settled s.dev n.val
      let l := (zip8 (· + ·) (fwdLanes v (iD w)) (negIf (bit (iX w) 3) (complexLanes (bit (iX w) 0) (vecLanes v (iA w)) (vecLanes v (iB w))))).map acc40
      let ws := [(1, .fwd (iD w) (l.map (·.1))), (3, .acc (iD w) (l.map (·.1)))] ++ moved v w
      issuesClean v w ws = true →
      exec (.vcmac n) s = .next (after s (
        retire n.val ws { v with aov := v.aov || l.any (·.2) } (setCore n.val v s.dev))))
  ∧ (∀ (s : State) (n : Fin 32) (w : Nat), issuesNext s.dev n.val w = true → iOp w = 0x06 →
      let v := settled s.dev n.val
      let l := (negIf (bit (iX w) 3) (complexLanes (bit (iX w) 0) (vecLanes v (iA w)) (vecLanes v (iB w)))).map acc40
      let ws := [(1, .fwd (iD w) (l.map (·.1))), (3, .acc (iD w) (l.map (·.1)))] ++ moved v w
      issuesClean v w ws = true →
      exec (.vcmul n) s = .next (after s (
        retire n.val ws { v with aov := v.aov || l.any (·.2) } (setCore n.val v s.dev))))
  ∧ (∀ (s : State) (n : Fin 32) (w : Nat), issuesNext s.dev n.val w = true → iOp w = 0x07 →
      let v := settled s.dev n.val
      let l := (zip8 (· + ·) (fwdLanes v (iD w)) (powerLanes (vecLanes v (iA w)))).map acc40
      let ws := [(1, .fwd (iD w) (l.map (·.1))), (3, .acc (iD w) (l.map (·.1)))] ++ moved v w
      issuesClean v w ws = true →
      exec (.vpwr n) s = .next (after s (
        retire n.val ws { v with aov := v.aov || l.any (·.2) } (setCore n.val v s.dev))))
  ∧ (∀ (s : State) (n : Fin 32) (w : Nat), issuesNext s.dev n.val w = true → iOp w = 0x08 →
      let v := settled s.dev n.val
      let l := (zeroLanes).map acc40
      let ws := [(1, .fwd (iD w) (l.map (·.1))), (1, .acc (iD w) (l.map (·.1)))] ++ moved v w
      issuesClean v w ws = true →
      exec (.accclr n) s = .next (after s (
        retire n.val ws { v with aov := v.aov || l.any (·.2) } (setCore n.val v s.dev))))
  ∧ (∀ (s : State) (n : Fin 32) (w : Nat), issuesNext s.dev n.val w = true → iOp w = 0x09 →
      let v := settled s.dev n.val
      let l := (zip8 (· + ·) (fwdLanes v (iD w)) (accLanes v (iA w))).map acc40
      let ws := [(1, .fwd (iD w) (l.map (·.1))), (3, .acc (iD w) (l.map (·.1)))] ++ moved v w
      issuesClean v w ws = true →
      exec (.accadd n) s = .next (after s (
        retire n.val ws { v with aov := v.aov || l.any (·.2) } (setCore n.val v s.dev))))
  ∧ (∀ (s : State) (n : Fin 32) (w : Nat), issuesNext s.dev n.val w = true → iOp w = 0x0A →
      let v := settled s.dev n.val
      let l := ((accLanes v (iA w)).sum :: List.replicate 7 0).map acc40
      let ws := [(3, .fwd (iD w) (l.map (·.1))), (3, .acc (iD w) (l.map (·.1)))] ++ moved v w
      issuesClean v w ws = true →
      exec (.accsum n) s = .next (after s (
        retire n.val ws { v with aov := v.aov || l.any (·.2) } (setCore n.val v s.dev))))

/-- Address, modifier and flow instructions of a Reed core. seta and setm write their immediates, adda steps an address register
modulo its modifier, lda loads an address register from Y RAM; loop pushes its level; br goes to its target where its
condition holds and past itself otherwise; stop drains the core and raises its event. -/
def Obligations.ReedRegisterOps : Prop :=
  (∀ (s : State) (n : Fin 32) (w : Nat), issuesNext s.dev n.val w = true → iOp w = 0x30 →
      let v := settled s.dev n.val
      let ws : List (Nat × CoreWrite) := [(1, .addr (iD w) (bits w 0 17))]
      clash v ws = false →
      exec (.seta n) s = .next (after s (
        retire n.val ws v (setCore n.val v s.dev))))
  ∧ (∀ (s : State) (n : Fin 32) (w : Nat), issuesNext s.dev n.val w = true → iOp w = 0x31 →
      let v := settled s.dev n.val
      let ws : List (Nat × CoreWrite) := [(1, .modifier (iD w) (bits w 0 23))]
      clash v ws = false →
      exec (.setm n) s = .next (after s (
        retire n.val ws v (setCore n.val v s.dev))))
  ∧ (∀ (s : State) (n : Fin 32) (w : Nat), issuesNext s.dev n.val w = true → iOp w = 0x32 →
      let v := settled s.dev n.val
      let ws : List (Nat × CoreWrite) := [(1, .addr (iD w) (wrapAddr (aReg v (iD w)) (signed 18 (bits w 0 18)) (modLength (mReg v (iD w)))))]
      clash v ws = false →
      exec (.adda n) s = .next (after s (
        retire n.val ws v (setCore n.val v s.dev))))
  ∧ (∀ (s : State) (n : Fin 32) (w : Nat), issuesNext s.dev n.val w = true → iOp w = 0x33 →
      let v := settled s.dev n.val
      let a := (aReg v (iA w) + bits w 0 17) % 2 ^ 17
      let ws : List (Nat × CoreWrite) := [(3, .addr (iD w) (ramNat v .y a 4 % 2 ^ 17))]
      a % 4 = 0 →
      clash v ws = false →
      exec (.lda n) s = .next (after s (
        retire n.val ws v (setCore n.val v s.dev))))
  ∧ (∀ (s : State) (n : Fin 32) (w : Nat), issuesNext s.dev n.val w = true → iOp w = 0x34 →
      let v := settled s.dev n.val
      flowException w v = none →
      exec (.loop n) s = .next (after s (
        setCore n.val (pushLoop w (issueWrites [] 1 v)) (setCore n.val v s.dev))))
  ∧ (∀ (s : State) (n : Fin 32) (w : Nat), issuesNext s.dev n.val w = true → iOp w = 0x35 →
      let v := settled s.dev n.val
      flowException w v = none →
      exec (.br n) s = .next (after s (
        if branchTaken w v then setCore n.val (branchTo (bits w 0 13) (issueWrites [] 4 v)) (setCore n.val v s.dev)
        else retire n.val [] v (setCore n.val v s.dev))))
  ∧ (∀ (s : State) (n : Fin 32) (w : Nat), issuesNext s.dev n.val w = true → iOp w = 0x3C →
      let v := settled s.dev n.val
      let d := retire n.val [] v (setCore n.val v s.dev)
      let d := coreHalted n.val (setCore n.val { drainWrites (Machine.core d n.val) with mode := .stopped } d)
      exec (.stop n) s = .next (after s (raiseEvent (0x300 + n.val) 2 (ballIndex d) 0 d)))

/-- What a Reed core does outside itself. bget releases what the port holds and takes or awaits the next batch; bput queues an
output block of the current binding, or waits while four are outstanding; evt pulses a kernel event where the current binding
is its source; sig sets the output request of the current binding; xfer queues a window transfer or waits while four are
outstanding, xwait waits for the transfers in flight; a finished transfer moves its bytes and an output block becomes a
KERNEL_OUT record, each letting a core that waits for it run on; the watchdog of a core outside bget raises exception 6 and
answers the STOPs that waited. -/
def Obligations.ReedCoreServices : Prop :=
  (∀ (s : State) (n : Fin 32) (w i : Nat) (b : Binding), issuesNext s.dev n.val w = true → iOp w = 0x36 →
      let v := settled s.dev n.val
      let e := setCore n.val v s.dev
      let port := bits (iX w) 0 2
      clash v [(1, .addr (iD w) 0)] = false → portBinding e n.val port = some (i, b) →
      exec (.bget n) s = .next (after s (takeBatch n.val port (iD w) (releaseHeld i (bit (iX w) 2)
        (swapBlocks [0x0D00 + n.val] (retireCycles n.val 0 [] v e))))))
  ∧ (∀ (s : State) (n : Fin 32) (w : Nat), issuesNext s.dev n.val w = true → iOp w = 0x37 →
      let v := settled s.dev n.val
      let a := aReg v (iD w)
      let e := retire n.val [] v (setCore n.val v s.dev)
      let u := Machine.core e n.val
      a % 2 = 0 → 0 < ramNat v .y a 2 → ramNat v .y a 2 ≤ 4040 →
      exec (.bput n) s = .next (after s (
        match v.current with
        | none => e
        | some b =>
          if u.outputs.length < 4 then setCore n.val { u with outputs := u.outputs ++ [outputOf v n.val a b] } e
          else setCore n.val { u with heldOutput := some (outputOf v n.val a b), wait := .outputSlot, mode := .waiting } e)))
  ∧ (∀ (s : State) (n : Fin 32) (w : Nat), issuesNext s.dev n.val w = true → iOp w = 0x38 →
      let v := settled s.dev n.val
      let a := aReg v (iD w)
      let e := retire n.val [] v (setCore n.val v s.dev)
      a % 2 = 0 →
      exec (.evt n) s = .next (after s (
        if v.current == some (trigN e (0x41 + bits (iX w) 0 1)) then
          postEvent (pulseEvent (42 + bits (iX w) 0 1) (ramNat v .y a 8) (some (ramNat v .y (a + 8) 2)) false) e
        else e)))
  ∧ (∀ (s : State) (n : Fin 32) (w : Nat), issuesNext s.dev n.val w = true → iOp w = 0x39 →
      let v := settled s.dev n.val
      let e := retire n.val [] v (setCore n.val v s.dev)
      exec (.sig n) s = .next (after s (
        match v.current with
        | none => e
        | some b => setBinding b ((binding e b).map (fun x => if x.core == n.val then { x with request := bit (iX w) 0 } else x)) e)))
  ∧ (∀ (s : State) (n : Fin 32) (w : Nat) (x : CoreXfer), issuesNext s.dev n.val w = true → iOp w = 0x3A →
      let v := settled s.dev n.val
      let e := setCore n.val v s.dev
      let f := retire n.val [] v e
      let u := Machine.core f n.val
      aReg v (iD w) % 2 = 0 → xferOf e n.val w v = some x →
      exec (.xfer n) s = .next (after s (
        if u.xfers.length < 4 then setCore n.val { u with xfers := u.xfers ++ [x] } f
        else setCore n.val { u with wait := .xferSlot x, mode := .waiting } f)))
  ∧ (∀ (s : State) (n : Fin 32) (w : Nat), issuesNext s.dev n.val w = true → iOp w = 0x3B →
      let v := settled s.dev n.val
      let e := retire n.val [] v (setCore n.val v s.dev)
      exec (.xwait n) s = .next (after s (
        if v.xfers.isEmpty then e else setCore n.val { Machine.core e n.val with wait := .xfers, mode := .waiting } e)))
  ∧ (∀ (s : State) (n : Fin 32) (x : CoreXfer) (rest : List CoreXfer), (Machine.core s.dev n.val).xfers = x :: rest →
      let d := moveBytes n.val x s.dev
      let e := setCore n.val { Machine.core d n.val with xfers := rest } d
      exec (.windowTransferComplete n) s = .next (after s (settleStop n.val (match (Machine.core e n.val).wait with
        | .xferSlot _ => resumeCore n.val e
        | .xfers => if rest.isEmpty then resumeCore n.val e else e
        | _ => e))))
  ∧ (∀ (s : State) (n : Fin 32) (o : CoreOutput) (rest : List CoreOutput), (Machine.core s.dev n.val).outputs = o :: rest →
      let v := Machine.core s.dev n.val
      let d := setCore n.val { v with outputs := rest ++ v.heldOutput.toList, heldOutput := none } s.dev
      let e := if v.wait == .outputSlot then resumeCore n.val d else d
      exec (.outputBlockComplete n) s = .next (after s (settleStop n.val (emitRec {
        type := 0x0D, source := 0x8000 + o.binding, flags := headerFlags e [], firstIndex := o.firstIndex, generation := o.gen, payload := o.payload } e))))
  ∧ (∀ (s : State) (n : Fin 32), cfgN s.dev 0x0D n.val 1 ≠ 0 → coreActive (Machine.core s.dev n.val) = true →
      (∀ p a, (Machine.core s.dev n.val).wait ≠ .batch p a) →
      let d := takeException n.val 6 (setCore n.val { Machine.core s.dev n.val with stopping := [] } s.dev)
      exec (.watchdog n) s = .next (after s ((Machine.core s.dev n.val).stopping.foldl (fun d p => complete p .ok [] d) d)))

/-- KERNEL_LOAD and KERNEL_RUN load, bind, start and stop kernels. KERNEL_LOAD of a valid image loads every core of the mask and
starts it where asked; BIND takes the lowest or the named free binding, from the boundary of its source; UNBIND discards what
waits and completes once the core holds nothing; START clears the registers and runs from the entry; STOP waits for transfers
and output blocks; STATUS answers the core's word and clears the sticky bits of its mask. BATCH_DELIVERY forms what it can of
the input, and into a free next buffer the oldest batch that waits is delivered; a memory binding that has ended is settled. -/
def Obligations.KernelCommandsAct : Prop :=
  (∀ (s : State) (p : Packet), admitted s.dev 0x0C00 p = true → reservedZero p [(0, 17)] = true → pByte p 16 ≤ 1 → 80 ≤ p32 p 4 →
      let cs := maskCores (p32 p 0)
      let d := taken p s.dev
      reachable d .cp false (p64 p 8) (p32 p 4) = true → imageOk (memRead d (p64 p 8) (p32 p 4)) = true →
      cs.any (fun c => coreActive (Machine.core d c)) = false → cs.any (fun c => !clusterOn d c) = false →
      let img := memRead d (p64 p 8) (p32 p 4)
      exec (.kernelLoad p) s = .next (after s (complete p .ok [] (cs.foldl (fun d c => setCore c
        (if pByte p 16 == 1 then startCore (loadCore img (Machine.core d c)) else loadCore img (Machine.core d c)) d) d))))
  ∧ (∀ (s : State) (p : Packet) (n : Nat), admitted s.dev 0x0C01 p = true →
      let kind := bindKind (pByte p 4)
      let d := taken p s.dev
      bindParamsOk d p = true → (if pByte p 1 = 255 then lowestFree d else some (pByte p 1)) = some n →
      binding d n = none → portBinding d (pByte p 2) (pByte p 3) = none → clusterOn d (pByte p 2) = true → sourceReady d kind (p16 p 6) = true →
      let c := ratedValues d false (cfgVal d)
      let loads := loftBuffers d c (bindingLoads d c ++ [bindingLoad c kind (p16 p 6) (pByte p 5) (p16 p 42)])
      loftOk loads = true → banksOk loads = true →
      let start := bindBoundary d p kind
      exec (.kernelBind p) s = .next (after s (complete p .ok (leBytes 1 n ++ zeroBytes 7 ++ leBytes 8 start) (setBinding n (some {
        packet := p, core := pByte p 2, port := pByte p 3, kind := kind, batchLog2 := pByte p 5, source := p16 p 6
        xRegion := p32 p 8, yHdr := p32 p 12, memAddr := p64 p 24, memLen := p64 p 32, firstBin := p16 p 42
        begins := if kind == .lane || kind == .slot then some start else none
        position := if kind == .ring then (stream d (p16 p 6)).hostOffset else 0 }) d))))
  ∧ (∀ (s : State) (p : Packet) (b : Binding), admitted s.dev 0x0C01 p = true → kernelReserved p = true → pByte p 1 ≤ 127 →
      let d := taken p s.dev
      binding d (pByte p 1) = some b → b.unbinding = none →
      let c := { b with unbinding := some p, partialBatch := none, stall := [], ready := [], request := false }
      exec (.kernelUnbind p) s = .next (after s (settleUnbind (pByte p 1) (wakeCore c (park p (setBinding (pByte p 1) (some c) d))))))
  ∧ (∀ (s : State) (p : Packet), admitted s.dev 0x0C01 p = true → kernelReserved p = true → pByte p 2 ≤ 31 →
      let d := taken p s.dev
      let v := Machine.core d (pByte p 2)
      v.loaded = true → coreActive v = false → clusterOn d (pByte p 2) = true →
      exec (.kernelStart p) s = .next (after s (complete p .ok [] (setCore (pByte p 2) { v with
        mode := .running, vec := [], acc := [], fwd := [], areg := [], mreg := [], vro := 0, loops := [], cache := none, pc := v.entry
        writes := [], aov := false, sat := false, wait := .none, current := none, batchIndex := 0, batchGen := 0, batchFlags := 0
        batchNumber := 0, heldOutput := none } d))))
  ∧ (∀ (s : State) (p : Packet), admitted s.dev 0x0C01 p = true → kernelReserved p = true → pByte p 2 ≤ 31 →
      let d := taken p s.dev
      let v := Machine.core d (pByte p 2)
      v.mode ≠ .faulted →
      exec (.kernelStop p) s = .next (after s (settleStop (pByte p 2) (clearRequests (pByte p 2)
        (park p (setCore (pByte p 2) { v with stopping := v.stopping ++ [p] } d))))))
  ∧ (∀ (s : State) (p : Packet), admitted s.dev 0x0C01 p = true → kernelReserved p = true → pByte p 2 ≤ 31 →
      let n := pByte p 2
      let d := taken p s.dev
      let v := Machine.core d n
      exec (.kernelStatus p) s = .next (after s (complete p .ok (leBytes 8 (coreStatusWord d n) ++ (List.range 4).flatMap (portStatusBytes d n))
        (setCore n { v with aov := v.aov && !bit (p64 p 24) 3, sat := v.sat && !bit (p64 p 24) 4 } d))))
  ∧ (∀ (s : State) (n : Fin 128) (b : Binding),
      let d := formBatches n.val 4 s.dev
      binding d n.val = some b → b.unbinding = none → b.ready.contains b.nextBuffer = false → b.held.contains b.nextBuffer = false →
      exec (.batchDelivery n) s = .next (after s (
        match b.stall with
        | x :: rest => settleMemory n.val (deliver n.val x (setBinding n.val (some { b with stall := rest }) d))
        | [] => settleMemory n.val d)))

/-- The Yard controller serves, ages and refreshes. YARD_REQUEST of a channel that serves: the arriving requests are admitted,
refreshes due are caught up, and the request that the scheduler picks leaves the queue and is served; without a ready request
the channel only yields. AGE_PROMOTION: a request of a class other than 0 that has waited beyond the age limit of its class
stands one class higher, once. REFRESH: one that no class 0 request delays, with no replay running, issues with those
postponed for its rank; otherwise it is postponed. MR4_POLL: a poll during a replay is held; else it counts the polls in
range and cool, turns over temperature on (fault 7) and off, and sets the refresh mode. -/
def Obligations.YardSchedulingActs : Prop :=
  (∀ (s : State) (ch : Fin 12) (l : List YardReq) (e : BurstError), channelServes s.dev ch.val = true →
      let d := catchUp ch.val (admitRequests ch.val l s.dev)
      let v := yardChannel d ch.val
      exec (.yardRequest ch l e) s = .next (after s (
        match pickRequest (readyList d ch.val [] v.queue 0) with
        | none => setYardChannel ch.val { v with yielded := false } d
        | some (i, r) => serveRequest ch.val r e (setYardChannel ch.val { v with
            queue := v.queue.eraseIdx i, issued := v.issued + 1, yielded := reqClass r != 0 } d))))
  ∧ (∀ (s : State) (ch : Fin 12) (i : Nat) (r : YardReq), (yardChannel s.dev ch.val).queue[i]? = some r → reqClass r ≠ 0 → r.promoted = false →
      r.since + ageLimit s.dev (reqClass r) < s.dev.time →
      exec (.agePromotion ch i) s = .next (after s (setYardChannel ch.val { yardChannel s.dev ch.val with
        queue := (yardChannel s.dev ch.val).queue.set i { r with promoted := true } } s.dev)))
  ∧ (∀ (s : State) (ch : Fin 12) (rank : Nat),
      let v := yardChannel s.dev ch.val
      let p := tget 0 v.postponed rank
      channelServes s.dev ch.val = true → rank < v.ranks →
      let busy := (readyList s.dev ch.val [] v.queue 0).any (fun x => reqClass x.2 == 0) && decide (p < 4)
      exec (.refresh ch rank) s = .next (after s (
        if busy || !v.replay.isEmpty then setYardChannel ch.val { v with postponed := tset 0 v.postponed rank (p + 1) } s.dev
        else setYardChannel ch.val { v with postponed := tset 0 v.postponed rank 0, refreshes := v.refreshes + 1 + p } s.dev)))
  ∧ (∀ (s : State) (ch : Fin 12) (m : Mr4),
      let v := yardChannel s.dev ch.val
      channelServes s.dev ch.val = true →
      let polls := if m == .rate1x then min 2 (v.polls1x + 1) else 0
      let cool := if m == .aboveRange then 0 else min 2 (v.pollsCool + 1)
      let hot := m == .aboveRange || (v.overTemp && decide (cool < 2))
      let d := setYardChannel ch.val { v with polls1x := polls, pollsCool := cool, overTemp := hot } s.dev
      let e := if hot && !v.overTemp then raiseFault (plainFault (yardSource ch.val) 7 1 0) d
        else if v.overTemp && !hot then clearLive (yardSource ch.val) 7 d else d
      exec (.mr4Poll ch m) s = .next (after s (
        if v.replay.isEmpty then
          setRefreshMode ch.val (m != .rate1x || hot || yardN e 4 == 1 || (v.refresh2x && decide (polls < 2))) e
        else setYardChannel ch.val { v with pollHeld := some m } s.dev)))

/-- ECC, scrub and replay of the Yard and of Loft. PATROL_SCRUB_READ, where the scrub runs, is due, has share left and need not
yield: the scrub address moves, the read spends its share, a corrected line is counted and written back unless it was written
meanwhile, an uncorrectable one is counted, poisoned and raises fault 3, and the end of a pass raises its event.
CORRECTABLE_ERROR_HOUR clears the counts and allows the event again. ALERT_N starts a replay or restarts it, and the third
restart fails the channel with fault 5. REPLAY_COMPLETE counts the replay and raises fault 4; after the last one the
postponed refreshes and a held poll follow. LOFT_SCRUB_ACCESS moves the bank's scrub on and reads its word, unless foreground
accesses make it wait; a completed pass raises its event. -/
def Obligations.YardErrorsActs : Prop :=
  (∀ (s : State) (ch : Fin 12) (b : BurstError) (written : Bool),
      let v := yardChannel s.dev ch.val
      channelServes s.dev ch.val = true → yardN s.dev 2 = 1 → v.replay = [] → scrubSpent s.dev ch.val < scrubShare s.dev ch.val →
      scrubDue s.dev ch.val ≤ s.dev.time → scrubYields s.dev ch.val (v.scrubSince.getD s.dev.time) = false →
      let a := yardAddress s.dev.yard.kept ch.val v.scrubAddr
      let next := if s.dev.yard.dimmBytes ≤ v.scrubAddr + 64 then 0 else v.scrubAddr + 64
      let r := lineResult s.dev a b
      let x := burstData s.dev.fresh r (memRead s.dev a 64)
      let d := setYardChannel ch.val { v with
        scrubSince := none, scrubAddr := next, scrubFrom := if next == 0 then v.scrubFrom + yardN s.dev 3 * 1000000000 else v.scrubFrom
        scrubBytes := (scrubSpent s.dev ch.val + 64, s.dev.time / 1000000000) } (takeFresh s.dev)
      let e := match r.ecc with
        | .clean => d
        | .corrected =>
          let f := countCorrected ch.val (lineFault ch.val 1 0 a 0x3FD 4 r d)
          if written then f else memWrite a x f
        | .uncorrectable => countUncorrectable ch.val a (lineFault ch.val 3 1 a 0x3FD 4 r (if written then d else setPoison a d))
      exec (.patrolScrubRead ch b written) s = .next (after s (
        if next == 0 then raiseEvent (yardSource ch.val) 3 (ballIndex e) 0 e else e)))
  ∧ (∀ s : State, exec .correctableErrorHour s = .next (after s ((List.range 12).foldl (fun d ch =>
      setYardChannel ch { yardChannel d ch with hourCount := 0, hourEvent := false } d) s.dev)))
  ∧ (∀ (s : State) (ch : Fin 12) (sub : Fin 2),
      let v := yardChannel s.dev ch.val
      channelServes s.dev ch.val = true →
      exec (.alertN ch sub) s = .next (after s (
        match tget none v.replay sub.val with
        | none => setYardChannel ch.val { v with replay := tset none v.replay sub.val (some 0) } s.dev
        | some r =>
          let d := setYardChannel ch.val { v with
            replay := tset none v.replay sub.val (some (r + 1)), failed := decide (3 ≤ r + 1) } s.dev
          if 3 ≤ r + 1 then raiseFault (plainFault (yardSource ch.val) 5 2 0) d else d)))
  ∧ (∀ (s : State) (ch : Fin 12) (sub : Fin 2),
      let v := yardChannel s.dev ch.val
      (tget none v.replay sub.val).isSome = true → v.failed = false →
      let d := raiseFault (plainFault (yardSource ch.val) 4 0 0) (setYardChannel ch.val { v with
        replay := tset none v.replay sub.val none, caReplays := v.caReplays + 1
        recent := tset [] v.recent sub.val (reissued (tget [] v.recent sub.val)) } s.dev)
      let u := yardChannel d ch.val
      let e := setYardChannel ch.val { u with
        postponed := [], refreshes := u.refreshes + u.postponed.foldl (fun n e => n + e.2) 0, pollHeld := none } d
      exec (.replayComplete ch sub) s = .next (after s (
        if !u.replay.isEmpty then d
        else match u.pollHeld with
          | some m => mr4Poll ch.val m e
          | none => e)))
  ∧ (∀ (s : State) (bank : Fin 512) (ecc : Ecc) (written busy : Bool), s.dev.power.state ≠ .sleep →
      let n := tget 0 s.dev.yard.loftScrub bank.val
      let since := match tget none s.dev.yard.loftSince bank.val with
        | some t => some t
        | none => if s.dev.time < tget 0 s.dev.yard.loftNext bank.val then none else some s.dev.time
      let t := tset 0 s.dev.yard.loftScrub bank.val (n + 1)
      let d : Device := { s.dev with yard := { s.dev.yard with
        loftScrub := t, loftNext := tset 0 s.dev.yard.loftNext bank.val (s.dev.time + 3200)
        loftSince := tset none s.dev.yard.loftSince bank.val none } }
      let e := loftScrubRead bank.val (bank.val * 524288 + n % 8192 * 64) ecc written d
      exec (.loftScrubAccess bank ecc { written := written, busy := busy }) s = .next (after s (
        if loftWaits s.dev bank.val busy then
          { s.dev with yard := { s.dev.yard with loftSince := tset none s.dev.yard.loftSince bank.val since } }
        else if n % 8192 == 8191 && loftPasses s.dev.yard.loftScrub != loftPasses t then raiseEvent 0x340 1 (ballIndex e) 0 e
        else e)))

/-- Challenge, response and end of a session. AUTH_CHALLENGE answers 48 bytes of the DRBG and keeps them as the nonce of the
queue; AUTH_RESPONSE uses the nonce up and grants the operator's role where its signature verifies, and counts a failure
otherwise; AUTH_END ends the session of its queue; a nonce expires; the lockout ends. Whether a signature verifies is left
open by the model. -/
def Obligations.AuthenticationActs : Prop :=
  (∀ (s : State) (p : Packet), admitted s.dev 0x0F00 p = true → reservedZero p [(0, 1)] = true → pByte p 0 ≤ 7 →
      let d := taken p s.dev
      paddockDenies d = false → d.pad.lockedOut = false →
      let x := drbgBytes 48 d
      exec (.authChallenge p) s = .next (after s (complete p .ok x.1
        (setNonce (sessionOf p) (some { operator := pByte p 0, bytes := x.1 }) x.2))))
  ∧ (∀ (s : State) (p : Packet), admitted s.dev 0x0F01 p = true → flagSet p 2 = true → reservedZero p [(0, 1), (16, 96)] = true →
      let d := taken p s.dev
      paddockDenies d = false →
      let e := setNonce (sessionOf p) none d
      exec (.authResponse p) s = .next (after s (match authRole d p with
        | none => complete p .denied [] (authFailed e)
        | some r => complete p .ok [] (raiseEvent 0x3E4 1 (ballIndex d) 0
            { e with pad := { e.pad with failures := 0, sessions := tset 0 e.pad.sessions (sessionOf p) r } }))))
  ∧ (∀ (s : State) (p : Packet), admitted s.dev 0x0F02 p = true → reservedZero p [] = true →
      let d := taken p s.dev
      paddockDenies d = false →
      exec (.authEnd p) s = .next (after s (complete p .ok []
        { d with pad := { d.pad with sessions := tset 0 d.pad.sessions (sessionOf p) 0 } })))
  ∧ (∀ (s : State) (q : Fin 576), exec (.nonceExpiry q) s = .next (after s
      { s.dev with pad := { s.dev.pad with nonces := tset none s.dev.pad.nonces q.val none } }))
  ∧ (∀ s : State, exec .lockoutEnd s = .next (after s { s.dev with pad := { s.dev.pad with lockedOut := false } }))

/-- Key slots and image updates. GENERATE fills an empty slot from the DRBG; IMPORT fills one with what the wrapping key unwraps
and refuses what does not verify; EXPORT writes the wrapped key; DESTROY empties the slot; STATUS answers the loaded slots.
IMAGE_UPDATE writes an image that verifies into the other slot and refuses one that does not with the step that failed;
COMMIT_VERSION blows the anti-rollback fuses up to the running image's version where they lie below it; its status command
answers versions and slots. -/
def Obligations.KeyAndImageActs : Prop :=
  (∀ (s : State) (p : Packet), admitted s.dev 0x0F03 p = true → keyParamsOk p = true →
      let d := taken p s.dev
      paddockDenies d = false → tget none d.pad.slots (pByte p 1) = none →
      let x := drbgBytes 32 d
      exec (.keyGenerate p) s = .next (after s (complete p .ok [] (setKeySlot (pByte p 1) (some (bytesKey x.1)) x.2))))
  ∧ (∀ (s : State) (p : Packet) (w : BitVec 256), admitted s.dev 0x0F03 p = true → keyParamsOk p = true →
      let d := taken p s.dev
      paddockDenies d = false → reachable d .cp false (p64 p 8) 40 = true → tget none d.pad.slots (pByte p 1) = none → pByte p 1 ≠ pByte p 2 →
      keyOfSlot d (pByte p 2) = some w →
      exec (.keyImport p) s = .next (after s (match Config.kwUnwrap w (memRead d (p64 p 8) 40) with
        | none => complete p .denied [] d
        | some k => complete p .ok [] (setKeySlot (pByte p 1) (some (bytesKey k)) d))))
  ∧ (∀ (s : State) (p : Packet) (k w : BitVec 256), admitted s.dev 0x0F03 p = true → keyParamsOk p = true →
      let d := taken p s.dev
      paddockDenies d = false → reachable d .cp true (p64 p 8) 40 = true → pByte p 1 ≠ pByte p 2 →
      keyOfSlot d (pByte p 1) = some k → keyOfSlot d (pByte p 2) = some w →
      exec (.keyExport p) s = .next (after s (complete p .ok [] (memWrite (p64 p 8) (padTo (Config.kwWrap w (leBytes 32 k.toNat)) 40) d))))
  ∧ (∀ (s : State) (p : Packet), admitted s.dev 0x0F03 p = true → keyParamsOk p = true →
      let d := taken p s.dev
      paddockDenies d = false → (tget none d.pad.slots (pByte p 1)).isSome = true →
      exec (.keyDestroy p) s = .next (after s (complete p .ok [] (setKeySlot (pByte p 1) none d))))
  ∧ (∀ (s : State) (p : Packet), admitted s.dev 0x0F03 p = true → reservedZero p [(0, 3), (8, 8)] = true →
      exec (.keyWrapStatus p) s = .next (after s (complete p .ok (leBytes 2 (slotsLoaded (taken p s.dev))) (taken p s.dev))))
  ∧ (∀ (s : State) (p : Packet), admitted s.dev 0x0F06 p = true → reservedZero p [(0, 1), (8, 12)] = true →
      let d := taken p s.dev
      paddockDenies d = false → reachable d .cp false (p64 p 8) (p32 p 16) = true → d.pad.flash.present = true →
      let img := memRead d (p64 p 8) (p32 p 16)
      let e := { d with pad := { d.pad with flash := writeSlotImage (updateSlot d) (img.take (getLe img 24 4)) d.pad.flash } }
      exec (.imageUpdateWrite p) s = .next (after s (match verifyImage d.pad.fuses img with
        | .error c => complete p .badParam (updateReply d ++ leBytes 1 c) d
        | .ok _ => complete p .ok (updateReply e) (raiseEvent 0x3E0 3 (ballIndex e) 0 e))))
  ∧ (∀ (s : State) (p : Packet), admitted s.dev 0x0F06 p = true → reservedZero p [(0, 1), (8, 12)] = true →
      let d := taken p s.dev
      let v := (d.pad.image.map (·.securityVersion)).getD 0
      paddockDenies d = false →
      let e := { d with pad := { d.pad with fuses := blowArb v d.pad.fuses } }
      exec (.commitVersion p) s = .next (after s (
        if v ≤ fusedVersion d.pad.fuses then complete p .ok (updateReply d) d
        else complete p .ok (updateReply e) (raiseEvent 0x3E0 4 (ballIndex e) 0 e))))
  ∧ (∀ (s : State) (p : Packet), admitted s.dev 0x0F06 p = true → reservedZero p [(0, 1), (8, 12)] = true →
      exec (.imageUpdateStatus p) s = .next (after s (complete p .ok (updateReply (taken p s.dev)) (taken p s.dev))))

/-- Zeroisation, self-tests and JTAG. ZEROIZE and the pin held for a microsecond zeroise; a shorter pulse of at least 0.2 µs may,
a still shorter one is ignored; the permanent form blows KILL first. SELF_TEST answers the tests asked for that passed, and
takes the module to its error state where one fails; a periodic run of all three tests does the same, and raises its event
where they pass. A TAP instruction is taken where the JTAG mode permits it and as BYPASS where not; the one the spec gives no
effect is refused where mode 2 permits it. -/
def Obligations.ZeroisationAndTestActs : Prop :=
  (∀ (s : State) (p : Packet), admitted s.dev 0x0F04 p = true → reservedZero p [(0, 1), (8, 4)] = true → pByte p 0 ≤ 1 →
      exec (.zeroize p) s = .next (after s (complete p .ok [] (zeroise (taken p s.dev)))))
  ∧ (∀ (s : State) (p : Packet), admitted s.dev 0x0F04 p = true → reservedZero p [(0, 1), (8, 4)] = true → pByte p 0 ≤ 1 → p32 p 8 = 0x5A45524F →
      let d := taken p s.dev
      exec (.zeroizePermanent p) s = .next (after s (complete p .ok []
        (zeroise { d with pad := { d.pad with fuses := { d.pad.fuses with kill := 0xFF } } }))))
  ∧ (∀ (s : State) (ns : Nat), s.dev.power.por = false → 1000 ≤ ns → exec (.zeroizePin ns) s = .next (after s (zeroise s.dev)))
  ∧ (∀ (s : State) (ns : Nat), s.dev.power.por = false → 200 ≤ ns → ns < 1000 →
      exec (.zeroizePin ns) s = .next (after s (if Config.shortPulse s.dev.fresh then zeroise (takeFresh s.dev) else takeFresh s.dev)))
  ∧ (∀ (s : State) (ns : Nat), ns < 200 → exec (.zeroizePin ns) s = .next (after s s.dev))
  ∧ (∀ (s : State) (p : Packet), admitted s.dev 0x0F05 p = true → reservedZero p [(0, 1)] = true → pByte p 0 ≤ 7 →
      let d := taken p s.dev
      paddockDenies d = false →
      let m := pByte p 0
      let got := testBits d
      let pass := maskOf 3 (fun i => bit m i && bit got i)
      let e := takeFresh d
      let e := if bit m 1 && !bit got 1 then failTest true e else e
      let e := if (bit m 0 && !bit got 0) || (bit m 2 && !bit got 2) then failTest false e else e
      exec (.selfTest p) s = .next (after s (complete p .ok (leBytes 1 pass) (if pass == m then testPassed e else e))))
  ∧ (∀ (s : State) (pass : BitVec 3), cfgN s.dev 0x12 0 2 ≠ 0 → s.dev.power.state = .ready ∨ s.dev.power.state = .safe →
      let digest := pass.getLsbD 2 && bit (testBits s.dev) 2
      let e := if pass.getLsbD 1 then s.dev else failTest true s.dev
      exec (.periodicSelfTest pass) s = .next (after s (
        if pass.getLsbD 0 && digest then (if pass.getLsbD 1 then testPassed s.dev else e) else failTest false e)))
  ∧ (∀ (s : State) (t : TapInstr), (∀ c, tapTaken (jtagMode s.dev) t ≠ .mehrikDebug c) →
      exec (.tapInstruction t) s = .next (after s { s.dev with pad := { s.dev.pad with tap := tapTaken (jtagMode s.dev) t } }))
  ∧ (∀ (s : State) (c : Nat), jtagMode s.dev = 2 → exec (.tapInstruction (.mehrikDebug c)) s = .refused .mehrikDebug)
end

