-- ==== Sys2Proof/Laws/Accept.lean ====
section
/-! SUPPORT. What acceptance does with a packet (R436): once for every command of the table. -/

namespace Sys2Proof.Laws

open Sys2Proof.Machine Sys2Proof.Safety

/-- An admitted packet runs its own part on the device that holds its tag. -/
theorem accept_admitted {d : Device} {op : Nat} {p : Packet} (body : Packet → Device → Device)
    (h : admitted d op p = true) : accept p body d = body p (taken p d) := by
  unfold admitted at h
  simp only [Bool.and_eq_true, beq_iff_eq, Bool.not_eq_true'] at h
  obtain ⟨⟨⟨⟨⟨⟨⟨h1, h2⟩, h3⟩, h4⟩, h5⟩, h6⟩, h8⟩, h7⟩ := h
  subst h1
  unfold accept
  cases hc : cmdSpec p.opcode with
  | none => simp [hc] at h4
  | some c =>
    simp [hc] at h4
    simp [h2, h3, h4.1, h5, h6, h4.2, h7, h8, taken, actAtInstant]

/-- The outcome of a packet command whose packet is admitted. -/
theorem act_admitted {s : State} {op : Nat} {p : Packet} (body : Packet → Device → Device)
    (h : admitted s.dev op p = true) : act (accept p body) s = .next (after s (body p (taken p s.dev))) := by
  simp [act, after, accept_admitted body h]

/-- The outcome of every other command. -/
theorem act_after (f : Device → Device) (s : State) : act f s = .next (after s (f s.dev)) := rfl

/-- Every packet row is acceptance followed by a part of its own. -/
theorem packet_rows_accept : ∀ f ∈ packetRows, ∃ body, ∀ p s, exec (f p) s = act (accept p body) s := by
  simp only [packetRows, List.forall_mem_append, List.forall_mem_cons, List.not_mem_nil, false_implies, implies_true, and_true]
  refine ⟨⟨?_, ?_⟩, ?_⟩ <;> repeat' constructor
  all_goals exact fun _ _ => rfl

theorem admitted_opcode {d : Device} {op : Nat} {p : Packet} (h : admitted d op p = true) : p.opcode = op := by
  unfold admitted at h
  simp only [Bool.and_eq_true, beq_iff_eq] at h
  exact h.1.1.1.1.1.1.1

@[simp] theorem mirroring_noteMark (id i n : Nat) (d : Device) : mirroring (noteMark id i n d) = mirroring d := by
  unfold noteMark; split <;> rfl

@[simp] theorem mirroring_toPort (p : Packet) (d : Device) : mirroring (toPort p d) = mirroring d := by
  unfold toPort; split <;> simp

/-! Acceptance touches the tags in flight and the high-water marks only. -/

theorem taken_frame (p : Packet) (d : Device) : ∃ h m, taken p d = { d with host := h, marks := m } := by
  unfold taken toPort noteMark holdTag
  split <;> split <;> (try split) <;> exact ⟨_, _, rfl⟩

@[simp] theorem taken_sampleIndex (p : Packet) (d : Device) : (taken p d).sampleIndex = d.sampleIndex := by obtain ⟨_, _, h⟩ := taken_frame p d; rw [h]
@[simp] theorem taken_time (p : Packet) (d : Device) : (taken p d).time = d.time := by obtain ⟨_, _, h⟩ := taken_frame p d; rw [h]
@[simp] theorem taken_cfg (p : Packet) (d : Device) : (taken p d).cfg = d.cfg := by obtain ⟨_, _, h⟩ := taken_frame p d; rw [h]
@[simp] theorem taken_fault (p : Packet) (d : Device) : (taken p d).fault = d.fault := by obtain ⟨_, _, h⟩ := taken_frame p d; rw [h]
@[simp] theorem taken_clk (p : Packet) (d : Device) : (taken p d).clk = d.clk := by obtain ⟨_, _, h⟩ := taken_frame p d; rw [h]
@[simp] theorem taken_conv (p : Packet) (d : Device) : (taken p d).conv = d.conv := by obtain ⟨_, _, h⟩ := taken_frame p d; rw [h]
@[simp] theorem taken_strm (p : Packet) (d : Device) : (taken p d).strm = d.strm := by obtain ⟨_, _, h⟩ := taken_frame p d; rw [h]
@[simp] theorem taken_group (p : Packet) (d : Device) : (taken p d).group = d.group := by obtain ⟨_, _, h⟩ := taken_frame p d; rw [h]
@[simp] theorem taken_power (p : Packet) (d : Device) : (taken p d).power = d.power := by obtain ⟨_, _, h⟩ := taken_frame p d; rw [h]
@[simp] theorem taken_pad (p : Packet) (d : Device) : (taken p d).pad = d.pad := by obtain ⟨_, _, h⟩ := taken_frame p d; rw [h]
@[simp] theorem taken_yard (p : Packet) (d : Device) : (taken p d).yard = d.yard := by obtain ⟨_, _, h⟩ := taken_frame p d; rw [h]
@[simp] theorem taken_lane (p : Packet) (d : Device) : (taken p d).lane = d.lane := by obtain ⟨_, _, h⟩ := taken_frame p d; rw [h]
@[simp] theorem taken_spec (p : Packet) (d : Device) : (taken p d).spec = d.spec := by obtain ⟨_, _, h⟩ := taken_frame p d; rw [h]
@[simp] theorem taken_trig (p : Packet) (d : Device) : (taken p d).trig = d.trig := by obtain ⟨_, _, h⟩ := taken_frame p d; rw [h]
@[simp] theorem taken_tiu (p : Packet) (d : Device) : (taken p d).tiu = d.tiu := by obtain ⟨_, _, h⟩ := taken_frame p d; rw [h]
@[simp] theorem taken_dens (p : Packet) (d : Device) : (taken p d).dens = d.dens := by obtain ⟨_, _, h⟩ := taken_frame p d; rw [h]
@[simp] theorem taken_disp (p : Packet) (d : Device) : (taken p d).disp = d.disp := by obtain ⟨_, _, h⟩ := taken_frame p d; rw [h]
@[simp] theorem taken_reed (p : Packet) (d : Device) : (taken p d).reed = d.reed := by obtain ⟨_, _, h⟩ := taken_frame p d; rw [h]
@[simp] theorem taken_xfer (p : Packet) (d : Device) : (taken p d).xfer = d.xfer := by obtain ⟨_, _, h⟩ := taken_frame p d; rw [h]
@[simp] theorem taken_nvme (p : Packet) (d : Device) : (taken p d).nvme = d.nvme := by obtain ⟨_, _, h⟩ := taken_frame p d; rw [h]
@[simp] theorem taken_gen (p : Packet) (d : Device) : (taken p d).gen = d.gen := by obtain ⟨_, _, h⟩ := taken_frame p d; rw [h]
@[simp] theorem taken_mem (p : Packet) (d : Device) : (taken p d).mem = d.mem := by obtain ⟨_, _, h⟩ := taken_frame p d; rw [h]
@[simp] theorem taken_poison (p : Packet) (d : Device) : (taken p d).poison = d.poison := by obtain ⟨_, _, h⟩ := taken_frame p d; rw [h]
@[simp] theorem taken_fresh (p : Packet) (d : Device) : (taken p d).fresh = d.fresh := by obtain ⟨_, _, h⟩ := taken_frame p d; rw [h]

/-- An admitted packet of a mirrored class is one that this device does not mirror. -/
theorem admitted_unmirrored {d : Device} {op : Nat} {p : Packet} (h : admitted d op p = true) (hc : mirroredClass p = true) :
    (mirroring (taken p d) && mirrorSource p) = false := by
  have e : mirroring (taken p d) = mirroring d := by
    rw [taken, mirroring_toPort]; unfold holdTag; split <;> rfl
  unfold admitted at h
  simp only [Bool.and_eq_true, Bool.not_eq_true', hc, Bool.and_true] at h
  rw [e]
  exact h.2

end Sys2Proof.Laws
end

