-- ==== Sys2Proof/Laws/Checks.lean ====
section
/-! SUPPORT. A rule of a block that does not hold fails check 1 (R51); what a field-change list reads as (R46). -/

namespace Sys2Proof.Laws

open Sys2Proof.Machine

theorem check1 {d : Device} {old c : Values} {writes keys commits} {r : Bool × Nat} (h : r ∈ blockRules d c) (hr : r.1 = false) :
    ∃ k, failingCheck d old c writes keys commits = some (1, k, .badParam) := by
  have hf : ∃ k, firstFailing (blockRules d c) = some k := by
    unfold firstFailing
    cases e : (blockRules d c).find? (fun x => !x.1) with
    | some x => exact ⟨_, rfl⟩
    | none => simp only [List.find?_eq_none] at e; have := e r h; simp [hr] at this
  obtain ⟨k, hk⟩ := hf
  unfold failingCheck
  dsimp only
  rw [hk]
  cases checkClock d c writes with
  | some x => exact ⟨x, rfl⟩
  | none => exact ⟨k, rfl⟩

/-- A list that reads well has at least one change and at most the 4,096 entries of its count. -/
theorem readChanges_length {d : Device} {a n : Nat} {l : List (Nat × Int)} (h : readChanges d a n = .ok l) : l.length ≤ 4096 := by
  unfold readChanges at h
  split at h
  · cases h
  · rename_i hn
    dsimp only at h
    split at h
    · cases h
    · cases h
      refine (List.length_filterMap_le _ _).trans ?_
      simp [readEntries] at hn ⊢
      omega

end Sys2Proof.Laws
end

