-- ==== Sys2Proof/Laws/Cores.lean ====
section
/-! SUPPORT. What issuing does with an instruction of a Reed core: once for every instruction (R384, R388, R410). -/

namespace Sys2Proof.Laws

open Sys2Proof.Machine Sys2Proof.Safety

/-- A core about to issue a word runs that word's own part on the core with its writes settled. -/
theorem issue_next {s : State} {n w : Nat} {ops : Nat → Bool} (body : Nat → ReedCore → Device → Device)
    (h : issuesNext s.dev n w = true) (ho : ops (iOp w) = true) :
    act (issue n ops body) s = .next (after s (body w (settled s.dev n) (setCore n (settled s.dev n) s.dev))) := by
  simp only [issuesNext, Bool.and_eq_true, beq_iff_eq, Bool.not_eq_true', List.isEmpty_iff] at h
  obtain ⟨⟨⟨⟨h1, h2⟩, h3⟩, h4⟩, h5⟩ := h
  subst h4
  simp only [act, after, issue, issues, h1, h2, h3, ho, h5, settled]
  rfl

/-- A clean compute instruction retires with its writes. -/
theorem computeIssue_clean {n w : Nat} {v : ReedCore} {d : Device} {ws : List (Nat × CoreWrite)}
    (hw : (compute w v).writes ++ moved v w = ws) (hc : issuesClean v w ws = true) :
    computeIssue n w v d = retire n ws { v with
      aov := v.aov || (compute w v).aov, sat := v.sat || (compute w v).sat
      vro := if iOp w == 1 then (v.vro + 1) % 32 else v.vro } d := by
  subst hw
  simp only [issuesClean, Bool.and_eq_true, Bool.not_eq_true'] at hc
  obtain ⟨⟨h1, h2⟩, h3⟩ := hc
  unfold moved at *
  simp only [computeIssue, firstCause, h1, h2, h3, List.find?, Option.map]

theorem compute_retires (n w : Nat) {v : ReedCore} (d : Device) {ws : List (Nat × CoreWrite)}
    (hw : (compute w v).writes ++ moved v w = ws) (ha : (compute w v).aov = false) (hs : (compute w v).sat = false)
    (hc : issuesClean v w ws = true) (hk : iOp w ≠ 1) :
    computeIssue n w v d = retire n ws v d := by
  rw [computeIssue_clean hw hc]
  simp [ha, hs, hk]

theorem sat_retires (n w : Nat) {v : ReedCore} (d : Device) (x : Bool) {ws : List (Nat × CoreWrite)}
    (hw : (compute w v).writes ++ moved v w = ws) (ha : (compute w v).aov = false) (hs : (compute w v).sat = x)
    (hc : issuesClean v w ws = true) (hk : iOp w ≠ 1) :
    computeIssue n w v d = (retire n ws { v with sat := v.sat || x } d) := by
  rw [computeIssue_clean hw hc]
  simp [ha, hs, hk]

theorem aov_retires (n w : Nat) {v : ReedCore} (d : Device) (x : Bool) {ws : List (Nat × CoreWrite)}
    (hw : (compute w v).writes ++ moved v w = ws) (ha : (compute w v).aov = x) (hs : (compute w v).sat = false)
    (hc : issuesClean v w ws = true) (hk : iOp w ≠ 1) :
    computeIssue n w v d = (retire n ws { v with aov := v.aov || x } d) := by
  rw [computeIssue_clean hw hc]
  simp [ha, hs, hk]

theorem step_retires (n w : Nat) {v : ReedCore} (d : Device) (hk : iOp w = 1) (hc : issuesClean v w (moved v w) = true) :
    computeIssue n w v d = (retire n (moved v w) { v with vro := (v.vro + 1) % 32 } d) := by
  rw [computeIssue_clean (ws := moved v w) (by simp [compute, hk]) hc]
  simp [compute, hk]

end Sys2Proof.Laws
end

