-- ==== Sys2Proof/Laws/State.lean ====
section
/-! SUPPORT. What each update of one part of the device leaves as it was: one lemma per part and update. -/

namespace Sys2Proof.Laws

open Sys2Proof Sys2Proof.Machine

/-! ### setSynth -/

@[simp] theorem setSynth_sampleIndex (y : Synth) (v : Synthesiser) (d : Device) :
    (setSynth y v d).sampleIndex = d.sampleIndex := by cases y <;> rfl
@[simp] theorem setSynth_time (y : Synth) (v : Synthesiser) (d : Device) :
    (setSynth y v d).time = d.time := by cases y <;> rfl
@[simp] theorem setSynth_host (y : Synth) (v : Synthesiser) (d : Device) :
    (setSynth y v d).host = d.host := by cases y <;> rfl
@[simp] theorem setSynth_cfg (y : Synth) (v : Synthesiser) (d : Device) :
    (setSynth y v d).cfg = d.cfg := by cases y <;> rfl
@[simp] theorem setSynth_fault (y : Synth) (v : Synthesiser) (d : Device) :
    (setSynth y v d).fault = d.fault := by cases y <;> rfl
@[simp] theorem setSynth_conv (y : Synth) (v : Synthesiser) (d : Device) :
    (setSynth y v d).conv = d.conv := by cases y <;> rfl
@[simp] theorem setSynth_strm (y : Synth) (v : Synthesiser) (d : Device) :
    (setSynth y v d).strm = d.strm := by cases y <;> rfl
@[simp] theorem setSynth_group (y : Synth) (v : Synthesiser) (d : Device) :
    (setSynth y v d).group = d.group := by cases y <;> rfl
@[simp] theorem setSynth_power (y : Synth) (v : Synthesiser) (d : Device) :
    (setSynth y v d).power = d.power := by cases y <;> rfl
@[simp] theorem setSynth_pad (y : Synth) (v : Synthesiser) (d : Device) :
    (setSynth y v d).pad = d.pad := by cases y <;> rfl
@[simp] theorem setSynth_yard (y : Synth) (v : Synthesiser) (d : Device) :
    (setSynth y v d).yard = d.yard := by cases y <;> rfl
@[simp] theorem setSynth_lane (y : Synth) (v : Synthesiser) (d : Device) :
    (setSynth y v d).lane = d.lane := by cases y <;> rfl
@[simp] theorem setSynth_spec (y : Synth) (v : Synthesiser) (d : Device) :
    (setSynth y v d).spec = d.spec := by cases y <;> rfl
@[simp] theorem setSynth_trig (y : Synth) (v : Synthesiser) (d : Device) :
    (setSynth y v d).trig = d.trig := by cases y <;> rfl
@[simp] theorem setSynth_tiu (y : Synth) (v : Synthesiser) (d : Device) :
    (setSynth y v d).tiu = d.tiu := by cases y <;> rfl
@[simp] theorem setSynth_dens (y : Synth) (v : Synthesiser) (d : Device) :
    (setSynth y v d).dens = d.dens := by cases y <;> rfl
@[simp] theorem setSynth_disp (y : Synth) (v : Synthesiser) (d : Device) :
    (setSynth y v d).disp = d.disp := by cases y <;> rfl
@[simp] theorem setSynth_reed (y : Synth) (v : Synthesiser) (d : Device) :
    (setSynth y v d).reed = d.reed := by cases y <;> rfl
@[simp] theorem setSynth_xfer (y : Synth) (v : Synthesiser) (d : Device) :
    (setSynth y v d).xfer = d.xfer := by cases y <;> rfl
@[simp] theorem setSynth_nvme (y : Synth) (v : Synthesiser) (d : Device) :
    (setSynth y v d).nvme = d.nvme := by cases y <;> rfl
@[simp] theorem setSynth_gen (y : Synth) (v : Synthesiser) (d : Device) :
    (setSynth y v d).gen = d.gen := by cases y <;> rfl
@[simp] theorem setSynth_mem (y : Synth) (v : Synthesiser) (d : Device) :
    (setSynth y v d).mem = d.mem := by cases y <;> rfl
@[simp] theorem setSynth_poison (y : Synth) (v : Synthesiser) (d : Device) :
    (setSynth y v d).poison = d.poison := by cases y <;> rfl
@[simp] theorem setSynth_marks (y : Synth) (v : Synthesiser) (d : Device) :
    (setSynth y v d).marks = d.marks := by cases y <;> rfl
@[simp] theorem setSynth_fresh (y : Synth) (v : Synthesiser) (d : Device) :
    (setSynth y v d).fresh = d.fresh := by cases y <;> rfl

/-! ### setConverter -/

@[simp] theorem setConverter_sampleIndex (ch : Nat) (v : Converter) (d : Device) :
    (setConverter ch v d).sampleIndex = d.sampleIndex := rfl
@[simp] theorem setConverter_time (ch : Nat) (v : Converter) (d : Device) :
    (setConverter ch v d).time = d.time := rfl
@[simp] theorem setConverter_host (ch : Nat) (v : Converter) (d : Device) :
    (setConverter ch v d).host = d.host := rfl
@[simp] theorem setConverter_cfg (ch : Nat) (v : Converter) (d : Device) :
    (setConverter ch v d).cfg = d.cfg := rfl
@[simp] theorem setConverter_fault (ch : Nat) (v : Converter) (d : Device) :
    (setConverter ch v d).fault = d.fault := rfl
@[simp] theorem setConverter_clk (ch : Nat) (v : Converter) (d : Device) :
    (setConverter ch v d).clk = d.clk := rfl
@[simp] theorem setConverter_strm (ch : Nat) (v : Converter) (d : Device) :
    (setConverter ch v d).strm = d.strm := rfl
@[simp] theorem setConverter_group (ch : Nat) (v : Converter) (d : Device) :
    (setConverter ch v d).group = d.group := rfl
@[simp] theorem setConverter_power (ch : Nat) (v : Converter) (d : Device) :
    (setConverter ch v d).power = d.power := rfl
@[simp] theorem setConverter_pad (ch : Nat) (v : Converter) (d : Device) :
    (setConverter ch v d).pad = d.pad := rfl
@[simp] theorem setConverter_yard (ch : Nat) (v : Converter) (d : Device) :
    (setConverter ch v d).yard = d.yard := rfl
@[simp] theorem setConverter_lane (ch : Nat) (v : Converter) (d : Device) :
    (setConverter ch v d).lane = d.lane := rfl
@[simp] theorem setConverter_spec (ch : Nat) (v : Converter) (d : Device) :
    (setConverter ch v d).spec = d.spec := rfl
@[simp] theorem setConverter_trig (ch : Nat) (v : Converter) (d : Device) :
    (setConverter ch v d).trig = d.trig := rfl
@[simp] theorem setConverter_tiu (ch : Nat) (v : Converter) (d : Device) :
    (setConverter ch v d).tiu = d.tiu := rfl
@[simp] theorem setConverter_dens (ch : Nat) (v : Converter) (d : Device) :
    (setConverter ch v d).dens = d.dens := rfl
@[simp] theorem setConverter_disp (ch : Nat) (v : Converter) (d : Device) :
    (setConverter ch v d).disp = d.disp := rfl
@[simp] theorem setConverter_reed (ch : Nat) (v : Converter) (d : Device) :
    (setConverter ch v d).reed = d.reed := rfl
@[simp] theorem setConverter_xfer (ch : Nat) (v : Converter) (d : Device) :
    (setConverter ch v d).xfer = d.xfer := rfl
@[simp] theorem setConverter_nvme (ch : Nat) (v : Converter) (d : Device) :
    (setConverter ch v d).nvme = d.nvme := rfl
@[simp] theorem setConverter_gen (ch : Nat) (v : Converter) (d : Device) :
    (setConverter ch v d).gen = d.gen := rfl
@[simp] theorem setConverter_mem (ch : Nat) (v : Converter) (d : Device) :
    (setConverter ch v d).mem = d.mem := rfl
@[simp] theorem setConverter_poison (ch : Nat) (v : Converter) (d : Device) :
    (setConverter ch v d).poison = d.poison := rfl
@[simp] theorem setConverter_marks (ch : Nat) (v : Converter) (d : Device) :
    (setConverter ch v d).marks = d.marks := rfl
@[simp] theorem setConverter_fresh (ch : Nat) (v : Converter) (d : Device) :
    (setConverter ch v d).fresh = d.fresh := rfl

/-! ### setMap -/

@[simp] theorem setMap_sampleIndex (m : Nat) (v : DensMap) (d : Device) :
    (setMap m v d).sampleIndex = d.sampleIndex := rfl
@[simp] theorem setMap_time (m : Nat) (v : DensMap) (d : Device) :
    (setMap m v d).time = d.time := rfl
@[simp] theorem setMap_host (m : Nat) (v : DensMap) (d : Device) :
    (setMap m v d).host = d.host := rfl
@[simp] theorem setMap_cfg (m : Nat) (v : DensMap) (d : Device) :
    (setMap m v d).cfg = d.cfg := rfl
@[simp] theorem setMap_fault (m : Nat) (v : DensMap) (d : Device) :
    (setMap m v d).fault = d.fault := rfl
@[simp] theorem setMap_clk (m : Nat) (v : DensMap) (d : Device) :
    (setMap m v d).clk = d.clk := rfl
@[simp] theorem setMap_conv (m : Nat) (v : DensMap) (d : Device) :
    (setMap m v d).conv = d.conv := rfl
@[simp] theorem setMap_strm (m : Nat) (v : DensMap) (d : Device) :
    (setMap m v d).strm = d.strm := rfl
@[simp] theorem setMap_group (m : Nat) (v : DensMap) (d : Device) :
    (setMap m v d).group = d.group := rfl
@[simp] theorem setMap_power (m : Nat) (v : DensMap) (d : Device) :
    (setMap m v d).power = d.power := rfl
@[simp] theorem setMap_pad (m : Nat) (v : DensMap) (d : Device) :
    (setMap m v d).pad = d.pad := rfl
@[simp] theorem setMap_yard (m : Nat) (v : DensMap) (d : Device) :
    (setMap m v d).yard = d.yard := rfl
@[simp] theorem setMap_lane (m : Nat) (v : DensMap) (d : Device) :
    (setMap m v d).lane = d.lane := rfl
@[simp] theorem setMap_spec (m : Nat) (v : DensMap) (d : Device) :
    (setMap m v d).spec = d.spec := rfl
@[simp] theorem setMap_trig (m : Nat) (v : DensMap) (d : Device) :
    (setMap m v d).trig = d.trig := rfl
@[simp] theorem setMap_tiu (m : Nat) (v : DensMap) (d : Device) :
    (setMap m v d).tiu = d.tiu := rfl
@[simp] theorem setMap_disp (m : Nat) (v : DensMap) (d : Device) :
    (setMap m v d).disp = d.disp := rfl
@[simp] theorem setMap_reed (m : Nat) (v : DensMap) (d : Device) :
    (setMap m v d).reed = d.reed := rfl
@[simp] theorem setMap_xfer (m : Nat) (v : DensMap) (d : Device) :
    (setMap m v d).xfer = d.xfer := rfl
@[simp] theorem setMap_nvme (m : Nat) (v : DensMap) (d : Device) :
    (setMap m v d).nvme = d.nvme := rfl
@[simp] theorem setMap_gen (m : Nat) (v : DensMap) (d : Device) :
    (setMap m v d).gen = d.gen := rfl
@[simp] theorem setMap_mem (m : Nat) (v : DensMap) (d : Device) :
    (setMap m v d).mem = d.mem := rfl
@[simp] theorem setMap_poison (m : Nat) (v : DensMap) (d : Device) :
    (setMap m v d).poison = d.poison := rfl
@[simp] theorem setMap_marks (m : Nat) (v : DensMap) (d : Device) :
    (setMap m v d).marks = d.marks := rfl
@[simp] theorem setMap_fresh (m : Nat) (v : DensMap) (d : Device) :
    (setMap m v d).fresh = d.fresh := rfl

/-! ### setDpPort -/

@[simp] theorem setDpPort_sampleIndex (n : Nat) (v : DpPort) (d : Device) :
    (setDpPort n v d).sampleIndex = d.sampleIndex := rfl
@[simp] theorem setDpPort_time (n : Nat) (v : DpPort) (d : Device) :
    (setDpPort n v d).time = d.time := rfl
@[simp] theorem setDpPort_host (n : Nat) (v : DpPort) (d : Device) :
    (setDpPort n v d).host = d.host := rfl
@[simp] theorem setDpPort_cfg (n : Nat) (v : DpPort) (d : Device) :
    (setDpPort n v d).cfg = d.cfg := rfl
@[simp] theorem setDpPort_fault (n : Nat) (v : DpPort) (d : Device) :
    (setDpPort n v d).fault = d.fault := rfl
@[simp] theorem setDpPort_clk (n : Nat) (v : DpPort) (d : Device) :
    (setDpPort n v d).clk = d.clk := rfl
@[simp] theorem setDpPort_conv (n : Nat) (v : DpPort) (d : Device) :
    (setDpPort n v d).conv = d.conv := rfl
@[simp] theorem setDpPort_strm (n : Nat) (v : DpPort) (d : Device) :
    (setDpPort n v d).strm = d.strm := rfl
@[simp] theorem setDpPort_group (n : Nat) (v : DpPort) (d : Device) :
    (setDpPort n v d).group = d.group := rfl
@[simp] theorem setDpPort_power (n : Nat) (v : DpPort) (d : Device) :
    (setDpPort n v d).power = d.power := rfl
@[simp] theorem setDpPort_pad (n : Nat) (v : DpPort) (d : Device) :
    (setDpPort n v d).pad = d.pad := rfl
@[simp] theorem setDpPort_yard (n : Nat) (v : DpPort) (d : Device) :
    (setDpPort n v d).yard = d.yard := rfl
@[simp] theorem setDpPort_lane (n : Nat) (v : DpPort) (d : Device) :
    (setDpPort n v d).lane = d.lane := rfl
@[simp] theorem setDpPort_spec (n : Nat) (v : DpPort) (d : Device) :
    (setDpPort n v d).spec = d.spec := rfl
@[simp] theorem setDpPort_trig (n : Nat) (v : DpPort) (d : Device) :
    (setDpPort n v d).trig = d.trig := rfl
@[simp] theorem setDpPort_tiu (n : Nat) (v : DpPort) (d : Device) :
    (setDpPort n v d).tiu = d.tiu := rfl
@[simp] theorem setDpPort_dens (n : Nat) (v : DpPort) (d : Device) :
    (setDpPort n v d).dens = d.dens := rfl
@[simp] theorem setDpPort_reed (n : Nat) (v : DpPort) (d : Device) :
    (setDpPort n v d).reed = d.reed := rfl
@[simp] theorem setDpPort_xfer (n : Nat) (v : DpPort) (d : Device) :
    (setDpPort n v d).xfer = d.xfer := rfl
@[simp] theorem setDpPort_nvme (n : Nat) (v : DpPort) (d : Device) :
    (setDpPort n v d).nvme = d.nvme := rfl
@[simp] theorem setDpPort_gen (n : Nat) (v : DpPort) (d : Device) :
    (setDpPort n v d).gen = d.gen := rfl
@[simp] theorem setDpPort_mem (n : Nat) (v : DpPort) (d : Device) :
    (setDpPort n v d).mem = d.mem := rfl
@[simp] theorem setDpPort_poison (n : Nat) (v : DpPort) (d : Device) :
    (setDpPort n v d).poison = d.poison := rfl
@[simp] theorem setDpPort_marks (n : Nat) (v : DpPort) (d : Device) :
    (setDpPort n v d).marks = d.marks := rfl
@[simp] theorem setDpPort_fresh (n : Nat) (v : DpPort) (d : Device) :
    (setDpPort n v d).fresh = d.fresh := rfl

/-! ### setGenerator -/

@[simp] theorem setGenerator_sampleIndex (g : Nat) (v : Generator) (d : Device) :
    (setGenerator g v d).sampleIndex = d.sampleIndex := by unfold setGenerator; split <;> rfl
@[simp] theorem setGenerator_time (g : Nat) (v : Generator) (d : Device) :
    (setGenerator g v d).time = d.time := by unfold setGenerator; split <;> rfl
@[simp] theorem setGenerator_host (g : Nat) (v : Generator) (d : Device) :
    (setGenerator g v d).host = d.host := by unfold setGenerator; split <;> rfl
@[simp] theorem setGenerator_cfg (g : Nat) (v : Generator) (d : Device) :
    (setGenerator g v d).cfg = d.cfg := by unfold setGenerator; split <;> rfl
@[simp] theorem setGenerator_fault (g : Nat) (v : Generator) (d : Device) :
    (setGenerator g v d).fault = d.fault := by unfold setGenerator; split <;> rfl
@[simp] theorem setGenerator_clk (g : Nat) (v : Generator) (d : Device) :
    (setGenerator g v d).clk = d.clk := by unfold setGenerator; split <;> rfl
@[simp] theorem setGenerator_conv (g : Nat) (v : Generator) (d : Device) :
    (setGenerator g v d).conv = d.conv := by unfold setGenerator; split <;> rfl
@[simp] theorem setGenerator_strm (g : Nat) (v : Generator) (d : Device) :
    (setGenerator g v d).strm = d.strm := by unfold setGenerator; split <;> rfl
@[simp] theorem setGenerator_group (g : Nat) (v : Generator) (d : Device) :
    (setGenerator g v d).group = d.group := by unfold setGenerator; split <;> rfl
@[simp] theorem setGenerator_power (g : Nat) (v : Generator) (d : Device) :
    (setGenerator g v d).power = d.power := by unfold setGenerator; split <;> rfl
@[simp] theorem setGenerator_pad (g : Nat) (v : Generator) (d : Device) :
    (setGenerator g v d).pad = d.pad := by unfold setGenerator; split <;> rfl
@[simp] theorem setGenerator_yard (g : Nat) (v : Generator) (d : Device) :
    (setGenerator g v d).yard = d.yard := by unfold setGenerator; split <;> rfl
@[simp] theorem setGenerator_lane (g : Nat) (v : Generator) (d : Device) :
    (setGenerator g v d).lane = d.lane := by unfold setGenerator; split <;> rfl
@[simp] theorem setGenerator_spec (g : Nat) (v : Generator) (d : Device) :
    (setGenerator g v d).spec = d.spec := by unfold setGenerator; split <;> rfl
@[simp] theorem setGenerator_trig (g : Nat) (v : Generator) (d : Device) :
    (setGenerator g v d).trig = d.trig := by unfold setGenerator; split <;> rfl
@[simp] theorem setGenerator_tiu (g : Nat) (v : Generator) (d : Device) :
    (setGenerator g v d).tiu = d.tiu := by unfold setGenerator; split <;> rfl
@[simp] theorem setGenerator_dens (g : Nat) (v : Generator) (d : Device) :
    (setGenerator g v d).dens = d.dens := by unfold setGenerator; split <;> rfl
@[simp] theorem setGenerator_disp (g : Nat) (v : Generator) (d : Device) :
    (setGenerator g v d).disp = d.disp := by unfold setGenerator; split <;> rfl
@[simp] theorem setGenerator_reed (g : Nat) (v : Generator) (d : Device) :
    (setGenerator g v d).reed = d.reed := by unfold setGenerator; split <;> rfl
@[simp] theorem setGenerator_xfer (g : Nat) (v : Generator) (d : Device) :
    (setGenerator g v d).xfer = d.xfer := by unfold setGenerator; split <;> rfl
@[simp] theorem setGenerator_nvme (g : Nat) (v : Generator) (d : Device) :
    (setGenerator g v d).nvme = d.nvme := by unfold setGenerator; split <;> rfl
@[simp] theorem setGenerator_mem (g : Nat) (v : Generator) (d : Device) :
    (setGenerator g v d).mem = d.mem := by unfold setGenerator; split <;> rfl
@[simp] theorem setGenerator_poison (g : Nat) (v : Generator) (d : Device) :
    (setGenerator g v d).poison = d.poison := by unfold setGenerator; split <;> rfl
@[simp] theorem setGenerator_marks (g : Nat) (v : Generator) (d : Device) :
    (setGenerator g v d).marks = d.marks := by unfold setGenerator; split <;> rfl
@[simp] theorem setGenerator_fresh (g : Nat) (v : Generator) (d : Device) :
    (setGenerator g v d).fresh = d.fresh := by unfold setGenerator; split <;> rfl

/-! ### setMembers -/

@[simp] theorem setMembers_sampleIndex (m : BitVec 8) (d : Device) :
    (setMembers m d).sampleIndex = d.sampleIndex := rfl
@[simp] theorem setMembers_time (m : BitVec 8) (d : Device) :
    (setMembers m d).time = d.time := rfl
@[simp] theorem setMembers_host (m : BitVec 8) (d : Device) :
    (setMembers m d).host = d.host := rfl
@[simp] theorem setMembers_cfg (m : BitVec 8) (d : Device) :
    (setMembers m d).cfg = d.cfg := rfl
@[simp] theorem setMembers_fault (m : BitVec 8) (d : Device) :
    (setMembers m d).fault = d.fault := rfl
@[simp] theorem setMembers_clk (m : BitVec 8) (d : Device) :
    (setMembers m d).clk = d.clk := rfl
@[simp] theorem setMembers_conv (m : BitVec 8) (d : Device) :
    (setMembers m d).conv = d.conv := rfl
@[simp] theorem setMembers_strm (m : BitVec 8) (d : Device) :
    (setMembers m d).strm = d.strm := rfl
@[simp] theorem setMembers_power (m : BitVec 8) (d : Device) :
    (setMembers m d).power = d.power := rfl
@[simp] theorem setMembers_pad (m : BitVec 8) (d : Device) :
    (setMembers m d).pad = d.pad := rfl
@[simp] theorem setMembers_yard (m : BitVec 8) (d : Device) :
    (setMembers m d).yard = d.yard := rfl
@[simp] theorem setMembers_lane (m : BitVec 8) (d : Device) :
    (setMembers m d).lane = d.lane := rfl
@[simp] theorem setMembers_spec (m : BitVec 8) (d : Device) :
    (setMembers m d).spec = d.spec := rfl
@[simp] theorem setMembers_trig (m : BitVec 8) (d : Device) :
    (setMembers m d).trig = d.trig := rfl
@[simp] theorem setMembers_tiu (m : BitVec 8) (d : Device) :
    (setMembers m d).tiu = d.tiu := rfl
@[simp] theorem setMembers_dens (m : BitVec 8) (d : Device) :
    (setMembers m d).dens = d.dens := rfl
@[simp] theorem setMembers_disp (m : BitVec 8) (d : Device) :
    (setMembers m d).disp = d.disp := rfl
@[simp] theorem setMembers_reed (m : BitVec 8) (d : Device) :
    (setMembers m d).reed = d.reed := rfl
@[simp] theorem setMembers_xfer (m : BitVec 8) (d : Device) :
    (setMembers m d).xfer = d.xfer := rfl
@[simp] theorem setMembers_nvme (m : BitVec 8) (d : Device) :
    (setMembers m d).nvme = d.nvme := rfl
@[simp] theorem setMembers_gen (m : BitVec 8) (d : Device) :
    (setMembers m d).gen = d.gen := rfl
@[simp] theorem setMembers_mem (m : BitVec 8) (d : Device) :
    (setMembers m d).mem = d.mem := rfl
@[simp] theorem setMembers_poison (m : BitVec 8) (d : Device) :
    (setMembers m d).poison = d.poison := rfl
@[simp] theorem setMembers_marks (m : BitVec 8) (d : Device) :
    (setMembers m d).marks = d.marks := rfl
@[simp] theorem setMembers_fresh (m : BitVec 8) (d : Device) :
    (setMembers m d).fresh = d.fresh := rfl

/-! ### setSyncRun -/

@[simp] theorem setSyncRun_sampleIndex (r : Option SyncRun) (d : Device) :
    (setSyncRun r d).sampleIndex = d.sampleIndex := rfl
@[simp] theorem setSyncRun_time (r : Option SyncRun) (d : Device) :
    (setSyncRun r d).time = d.time := rfl
@[simp] theorem setSyncRun_host (r : Option SyncRun) (d : Device) :
    (setSyncRun r d).host = d.host := rfl
@[simp] theorem setSyncRun_cfg (r : Option SyncRun) (d : Device) :
    (setSyncRun r d).cfg = d.cfg := rfl
@[simp] theorem setSyncRun_fault (r : Option SyncRun) (d : Device) :
    (setSyncRun r d).fault = d.fault := rfl
@[simp] theorem setSyncRun_clk (r : Option SyncRun) (d : Device) :
    (setSyncRun r d).clk = d.clk := rfl
@[simp] theorem setSyncRun_conv (r : Option SyncRun) (d : Device) :
    (setSyncRun r d).conv = d.conv := rfl
@[simp] theorem setSyncRun_strm (r : Option SyncRun) (d : Device) :
    (setSyncRun r d).strm = d.strm := rfl
@[simp] theorem setSyncRun_power (r : Option SyncRun) (d : Device) :
    (setSyncRun r d).power = d.power := rfl
@[simp] theorem setSyncRun_pad (r : Option SyncRun) (d : Device) :
    (setSyncRun r d).pad = d.pad := rfl
@[simp] theorem setSyncRun_yard (r : Option SyncRun) (d : Device) :
    (setSyncRun r d).yard = d.yard := rfl
@[simp] theorem setSyncRun_lane (r : Option SyncRun) (d : Device) :
    (setSyncRun r d).lane = d.lane := rfl
@[simp] theorem setSyncRun_spec (r : Option SyncRun) (d : Device) :
    (setSyncRun r d).spec = d.spec := rfl
@[simp] theorem setSyncRun_trig (r : Option SyncRun) (d : Device) :
    (setSyncRun r d).trig = d.trig := rfl
@[simp] theorem setSyncRun_tiu (r : Option SyncRun) (d : Device) :
    (setSyncRun r d).tiu = d.tiu := rfl
@[simp] theorem setSyncRun_dens (r : Option SyncRun) (d : Device) :
    (setSyncRun r d).dens = d.dens := rfl
@[simp] theorem setSyncRun_disp (r : Option SyncRun) (d : Device) :
    (setSyncRun r d).disp = d.disp := rfl
@[simp] theorem setSyncRun_reed (r : Option SyncRun) (d : Device) :
    (setSyncRun r d).reed = d.reed := rfl
@[simp] theorem setSyncRun_xfer (r : Option SyncRun) (d : Device) :
    (setSyncRun r d).xfer = d.xfer := rfl
@[simp] theorem setSyncRun_nvme (r : Option SyncRun) (d : Device) :
    (setSyncRun r d).nvme = d.nvme := rfl
@[simp] theorem setSyncRun_gen (r : Option SyncRun) (d : Device) :
    (setSyncRun r d).gen = d.gen := rfl
@[simp] theorem setSyncRun_mem (r : Option SyncRun) (d : Device) :
    (setSyncRun r d).mem = d.mem := rfl
@[simp] theorem setSyncRun_poison (r : Option SyncRun) (d : Device) :
    (setSyncRun r d).poison = d.poison := rfl
@[simp] theorem setSyncRun_marks (r : Option SyncRun) (d : Device) :
    (setSyncRun r d).marks = d.marks := rfl
@[simp] theorem setSyncRun_fresh (r : Option SyncRun) (d : Device) :
    (setSyncRun r d).fresh = d.fresh := rfl

/-! ### setGroupCommit -/

@[simp] theorem setGroupCommit_sampleIndex (g : Option GroupCommit) (d : Device) :
    (setGroupCommit g d).sampleIndex = d.sampleIndex := rfl
@[simp] theorem setGroupCommit_time (g : Option GroupCommit) (d : Device) :
    (setGroupCommit g d).time = d.time := rfl
@[simp] theorem setGroupCommit_host (g : Option GroupCommit) (d : Device) :
    (setGroupCommit g d).host = d.host := rfl
@[simp] theorem setGroupCommit_cfg (g : Option GroupCommit) (d : Device) :
    (setGroupCommit g d).cfg = d.cfg := rfl
@[simp] theorem setGroupCommit_fault (g : Option GroupCommit) (d : Device) :
    (setGroupCommit g d).fault = d.fault := rfl
@[simp] theorem setGroupCommit_clk (g : Option GroupCommit) (d : Device) :
    (setGroupCommit g d).clk = d.clk := rfl
@[simp] theorem setGroupCommit_conv (g : Option GroupCommit) (d : Device) :
    (setGroupCommit g d).conv = d.conv := rfl
@[simp] theorem setGroupCommit_strm (g : Option GroupCommit) (d : Device) :
    (setGroupCommit g d).strm = d.strm := rfl
@[simp] theorem setGroupCommit_power (g : Option GroupCommit) (d : Device) :
    (setGroupCommit g d).power = d.power := rfl
@[simp] theorem setGroupCommit_pad (g : Option GroupCommit) (d : Device) :
    (setGroupCommit g d).pad = d.pad := rfl
@[simp] theorem setGroupCommit_yard (g : Option GroupCommit) (d : Device) :
    (setGroupCommit g d).yard = d.yard := rfl
@[simp] theorem setGroupCommit_lane (g : Option GroupCommit) (d : Device) :
    (setGroupCommit g d).lane = d.lane := rfl
@[simp] theorem setGroupCommit_spec (g : Option GroupCommit) (d : Device) :
    (setGroupCommit g d).spec = d.spec := rfl
@[simp] theorem setGroupCommit_trig (g : Option GroupCommit) (d : Device) :
    (setGroupCommit g d).trig = d.trig := rfl
@[simp] theorem setGroupCommit_tiu (g : Option GroupCommit) (d : Device) :
    (setGroupCommit g d).tiu = d.tiu := rfl
@[simp] theorem setGroupCommit_dens (g : Option GroupCommit) (d : Device) :
    (setGroupCommit g d).dens = d.dens := rfl
@[simp] theorem setGroupCommit_disp (g : Option GroupCommit) (d : Device) :
    (setGroupCommit g d).disp = d.disp := rfl
@[simp] theorem setGroupCommit_reed (g : Option GroupCommit) (d : Device) :
    (setGroupCommit g d).reed = d.reed := rfl
@[simp] theorem setGroupCommit_xfer (g : Option GroupCommit) (d : Device) :
    (setGroupCommit g d).xfer = d.xfer := rfl
@[simp] theorem setGroupCommit_nvme (g : Option GroupCommit) (d : Device) :
    (setGroupCommit g d).nvme = d.nvme := rfl
@[simp] theorem setGroupCommit_gen (g : Option GroupCommit) (d : Device) :
    (setGroupCommit g d).gen = d.gen := rfl
@[simp] theorem setGroupCommit_mem (g : Option GroupCommit) (d : Device) :
    (setGroupCommit g d).mem = d.mem := rfl
@[simp] theorem setGroupCommit_poison (g : Option GroupCommit) (d : Device) :
    (setGroupCommit g d).poison = d.poison := rfl
@[simp] theorem setGroupCommit_marks (g : Option GroupCommit) (d : Device) :
    (setGroupCommit g d).marks = d.marks := rfl
@[simp] theorem setGroupCommit_fresh (g : Option GroupCommit) (d : Device) :
    (setGroupCommit g d).fresh = d.fresh := rfl

/-! ### setTiuInput -/

@[simp] theorem setTiuInput_sampleIndex (n : Nat) (v : TiuInput) (d : Device) :
    (setTiuInput n v d).sampleIndex = d.sampleIndex := rfl
@[simp] theorem setTiuInput_time (n : Nat) (v : TiuInput) (d : Device) :
    (setTiuInput n v d).time = d.time := rfl
@[simp] theorem setTiuInput_host (n : Nat) (v : TiuInput) (d : Device) :
    (setTiuInput n v d).host = d.host := rfl
@[simp] theorem setTiuInput_cfg (n : Nat) (v : TiuInput) (d : Device) :
    (setTiuInput n v d).cfg = d.cfg := rfl
@[simp] theorem setTiuInput_fault (n : Nat) (v : TiuInput) (d : Device) :
    (setTiuInput n v d).fault = d.fault := rfl
@[simp] theorem setTiuInput_clk (n : Nat) (v : TiuInput) (d : Device) :
    (setTiuInput n v d).clk = d.clk := rfl
@[simp] theorem setTiuInput_conv (n : Nat) (v : TiuInput) (d : Device) :
    (setTiuInput n v d).conv = d.conv := rfl
@[simp] theorem setTiuInput_strm (n : Nat) (v : TiuInput) (d : Device) :
    (setTiuInput n v d).strm = d.strm := rfl
@[simp] theorem setTiuInput_group (n : Nat) (v : TiuInput) (d : Device) :
    (setTiuInput n v d).group = d.group := rfl
@[simp] theorem setTiuInput_power (n : Nat) (v : TiuInput) (d : Device) :
    (setTiuInput n v d).power = d.power := rfl
@[simp] theorem setTiuInput_pad (n : Nat) (v : TiuInput) (d : Device) :
    (setTiuInput n v d).pad = d.pad := rfl
@[simp] theorem setTiuInput_yard (n : Nat) (v : TiuInput) (d : Device) :
    (setTiuInput n v d).yard = d.yard := rfl
@[simp] theorem setTiuInput_lane (n : Nat) (v : TiuInput) (d : Device) :
    (setTiuInput n v d).lane = d.lane := rfl
@[simp] theorem setTiuInput_spec (n : Nat) (v : TiuInput) (d : Device) :
    (setTiuInput n v d).spec = d.spec := rfl
@[simp] theorem setTiuInput_trig (n : Nat) (v : TiuInput) (d : Device) :
    (setTiuInput n v d).trig = d.trig := rfl
@[simp] theorem setTiuInput_dens (n : Nat) (v : TiuInput) (d : Device) :
    (setTiuInput n v d).dens = d.dens := rfl
@[simp] theorem setTiuInput_disp (n : Nat) (v : TiuInput) (d : Device) :
    (setTiuInput n v d).disp = d.disp := rfl
@[simp] theorem setTiuInput_reed (n : Nat) (v : TiuInput) (d : Device) :
    (setTiuInput n v d).reed = d.reed := rfl
@[simp] theorem setTiuInput_xfer (n : Nat) (v : TiuInput) (d : Device) :
    (setTiuInput n v d).xfer = d.xfer := rfl
@[simp] theorem setTiuInput_nvme (n : Nat) (v : TiuInput) (d : Device) :
    (setTiuInput n v d).nvme = d.nvme := rfl
@[simp] theorem setTiuInput_gen (n : Nat) (v : TiuInput) (d : Device) :
    (setTiuInput n v d).gen = d.gen := rfl
@[simp] theorem setTiuInput_mem (n : Nat) (v : TiuInput) (d : Device) :
    (setTiuInput n v d).mem = d.mem := rfl
@[simp] theorem setTiuInput_poison (n : Nat) (v : TiuInput) (d : Device) :
    (setTiuInput n v d).poison = d.poison := rfl
@[simp] theorem setTiuInput_marks (n : Nat) (v : TiuInput) (d : Device) :
    (setTiuInput n v d).marks = d.marks := rfl
@[simp] theorem setTiuInput_fresh (n : Nat) (v : TiuInput) (d : Device) :
    (setTiuInput n v d).fresh = d.fresh := rfl

/-! ### setRun -/

@[simp] theorem setRun_sampleIndex (r : Option TiuRun) (d : Device) :
    (setRun r d).sampleIndex = d.sampleIndex := rfl
@[simp] theorem setRun_time (r : Option TiuRun) (d : Device) :
    (setRun r d).time = d.time := rfl
@[simp] theorem setRun_host (r : Option TiuRun) (d : Device) :
    (setRun r d).host = d.host := rfl
@[simp] theorem setRun_cfg (r : Option TiuRun) (d : Device) :
    (setRun r d).cfg = d.cfg := rfl
@[simp] theorem setRun_fault (r : Option TiuRun) (d : Device) :
    (setRun r d).fault = d.fault := rfl
@[simp] theorem setRun_clk (r : Option TiuRun) (d : Device) :
    (setRun r d).clk = d.clk := rfl
@[simp] theorem setRun_conv (r : Option TiuRun) (d : Device) :
    (setRun r d).conv = d.conv := rfl
@[simp] theorem setRun_strm (r : Option TiuRun) (d : Device) :
    (setRun r d).strm = d.strm := rfl
@[simp] theorem setRun_group (r : Option TiuRun) (d : Device) :
    (setRun r d).group = d.group := rfl
@[simp] theorem setRun_power (r : Option TiuRun) (d : Device) :
    (setRun r d).power = d.power := rfl
@[simp] theorem setRun_pad (r : Option TiuRun) (d : Device) :
    (setRun r d).pad = d.pad := rfl
@[simp] theorem setRun_yard (r : Option TiuRun) (d : Device) :
    (setRun r d).yard = d.yard := rfl
@[simp] theorem setRun_lane (r : Option TiuRun) (d : Device) :
    (setRun r d).lane = d.lane := rfl
@[simp] theorem setRun_spec (r : Option TiuRun) (d : Device) :
    (setRun r d).spec = d.spec := rfl
@[simp] theorem setRun_trig (r : Option TiuRun) (d : Device) :
    (setRun r d).trig = d.trig := rfl
@[simp] theorem setRun_dens (r : Option TiuRun) (d : Device) :
    (setRun r d).dens = d.dens := rfl
@[simp] theorem setRun_disp (r : Option TiuRun) (d : Device) :
    (setRun r d).disp = d.disp := rfl
@[simp] theorem setRun_reed (r : Option TiuRun) (d : Device) :
    (setRun r d).reed = d.reed := rfl
@[simp] theorem setRun_xfer (r : Option TiuRun) (d : Device) :
    (setRun r d).xfer = d.xfer := rfl
@[simp] theorem setRun_nvme (r : Option TiuRun) (d : Device) :
    (setRun r d).nvme = d.nvme := rfl
@[simp] theorem setRun_gen (r : Option TiuRun) (d : Device) :
    (setRun r d).gen = d.gen := rfl
@[simp] theorem setRun_mem (r : Option TiuRun) (d : Device) :
    (setRun r d).mem = d.mem := rfl
@[simp] theorem setRun_poison (r : Option TiuRun) (d : Device) :
    (setRun r d).poison = d.poison := rfl
@[simp] theorem setRun_marks (r : Option TiuRun) (d : Device) :
    (setRun r d).marks = d.marks := rfl
@[simp] theorem setRun_fresh (r : Option TiuRun) (d : Device) :
    (setRun r d).fresh = d.fresh := rfl

/-! ### setLane -/

@[simp] theorem setLane_sampleIndex (ch l : Nat) (v : Lane) (d : Device) :
    (setLane ch l v d).sampleIndex = d.sampleIndex := rfl
@[simp] theorem setLane_time (ch l : Nat) (v : Lane) (d : Device) :
    (setLane ch l v d).time = d.time := rfl
@[simp] theorem setLane_host (ch l : Nat) (v : Lane) (d : Device) :
    (setLane ch l v d).host = d.host := rfl
@[simp] theorem setLane_cfg (ch l : Nat) (v : Lane) (d : Device) :
    (setLane ch l v d).cfg = d.cfg := rfl
@[simp] theorem setLane_fault (ch l : Nat) (v : Lane) (d : Device) :
    (setLane ch l v d).fault = d.fault := rfl
@[simp] theorem setLane_clk (ch l : Nat) (v : Lane) (d : Device) :
    (setLane ch l v d).clk = d.clk := rfl
@[simp] theorem setLane_conv (ch l : Nat) (v : Lane) (d : Device) :
    (setLane ch l v d).conv = d.conv := rfl
@[simp] theorem setLane_strm (ch l : Nat) (v : Lane) (d : Device) :
    (setLane ch l v d).strm = d.strm := rfl
@[simp] theorem setLane_group (ch l : Nat) (v : Lane) (d : Device) :
    (setLane ch l v d).group = d.group := rfl
@[simp] theorem setLane_power (ch l : Nat) (v : Lane) (d : Device) :
    (setLane ch l v d).power = d.power := rfl
@[simp] theorem setLane_pad (ch l : Nat) (v : Lane) (d : Device) :
    (setLane ch l v d).pad = d.pad := rfl
@[simp] theorem setLane_yard (ch l : Nat) (v : Lane) (d : Device) :
    (setLane ch l v d).yard = d.yard := rfl
@[simp] theorem setLane_spec (ch l : Nat) (v : Lane) (d : Device) :
    (setLane ch l v d).spec = d.spec := rfl
@[simp] theorem setLane_trig (ch l : Nat) (v : Lane) (d : Device) :
    (setLane ch l v d).trig = d.trig := rfl
@[simp] theorem setLane_tiu (ch l : Nat) (v : Lane) (d : Device) :
    (setLane ch l v d).tiu = d.tiu := rfl
@[simp] theorem setLane_dens (ch l : Nat) (v : Lane) (d : Device) :
    (setLane ch l v d).dens = d.dens := rfl
@[simp] theorem setLane_disp (ch l : Nat) (v : Lane) (d : Device) :
    (setLane ch l v d).disp = d.disp := rfl
@[simp] theorem setLane_reed (ch l : Nat) (v : Lane) (d : Device) :
    (setLane ch l v d).reed = d.reed := rfl
@[simp] theorem setLane_xfer (ch l : Nat) (v : Lane) (d : Device) :
    (setLane ch l v d).xfer = d.xfer := rfl
@[simp] theorem setLane_nvme (ch l : Nat) (v : Lane) (d : Device) :
    (setLane ch l v d).nvme = d.nvme := rfl
@[simp] theorem setLane_gen (ch l : Nat) (v : Lane) (d : Device) :
    (setLane ch l v d).gen = d.gen := rfl
@[simp] theorem setLane_mem (ch l : Nat) (v : Lane) (d : Device) :
    (setLane ch l v d).mem = d.mem := rfl
@[simp] theorem setLane_poison (ch l : Nat) (v : Lane) (d : Device) :
    (setLane ch l v d).poison = d.poison := rfl
@[simp] theorem setLane_marks (ch l : Nat) (v : Lane) (d : Device) :
    (setLane ch l v d).marks = d.marks := rfl
@[simp] theorem setLane_fresh (ch l : Nat) (v : Lane) (d : Device) :
    (setLane ch l v d).fresh = d.fresh := rfl

/-! ### setActive -/

@[simp] theorem setActive_sampleIndex (key : Nat) (v : Int) (d : Device) :
    (setActive key v d).sampleIndex = d.sampleIndex := rfl
@[simp] theorem setActive_time (key : Nat) (v : Int) (d : Device) :
    (setActive key v d).time = d.time := rfl
@[simp] theorem setActive_host (key : Nat) (v : Int) (d : Device) :
    (setActive key v d).host = d.host := rfl
@[simp] theorem setActive_fault (key : Nat) (v : Int) (d : Device) :
    (setActive key v d).fault = d.fault := rfl
@[simp] theorem setActive_clk (key : Nat) (v : Int) (d : Device) :
    (setActive key v d).clk = d.clk := rfl
@[simp] theorem setActive_conv (key : Nat) (v : Int) (d : Device) :
    (setActive key v d).conv = d.conv := rfl
@[simp] theorem setActive_strm (key : Nat) (v : Int) (d : Device) :
    (setActive key v d).strm = d.strm := rfl
@[simp] theorem setActive_group (key : Nat) (v : Int) (d : Device) :
    (setActive key v d).group = d.group := rfl
@[simp] theorem setActive_power (key : Nat) (v : Int) (d : Device) :
    (setActive key v d).power = d.power := rfl
@[simp] theorem setActive_pad (key : Nat) (v : Int) (d : Device) :
    (setActive key v d).pad = d.pad := rfl
@[simp] theorem setActive_yard (key : Nat) (v : Int) (d : Device) :
    (setActive key v d).yard = d.yard := rfl
@[simp] theorem setActive_lane (key : Nat) (v : Int) (d : Device) :
    (setActive key v d).lane = d.lane := rfl
@[simp] theorem setActive_spec (key : Nat) (v : Int) (d : Device) :
    (setActive key v d).spec = d.spec := rfl
@[simp] theorem setActive_trig (key : Nat) (v : Int) (d : Device) :
    (setActive key v d).trig = d.trig := rfl
@[simp] theorem setActive_tiu (key : Nat) (v : Int) (d : Device) :
    (setActive key v d).tiu = d.tiu := rfl
@[simp] theorem setActive_dens (key : Nat) (v : Int) (d : Device) :
    (setActive key v d).dens = d.dens := rfl
@[simp] theorem setActive_disp (key : Nat) (v : Int) (d : Device) :
    (setActive key v d).disp = d.disp := rfl
@[simp] theorem setActive_reed (key : Nat) (v : Int) (d : Device) :
    (setActive key v d).reed = d.reed := rfl
@[simp] theorem setActive_xfer (key : Nat) (v : Int) (d : Device) :
    (setActive key v d).xfer = d.xfer := rfl
@[simp] theorem setActive_nvme (key : Nat) (v : Int) (d : Device) :
    (setActive key v d).nvme = d.nvme := rfl
@[simp] theorem setActive_gen (key : Nat) (v : Int) (d : Device) :
    (setActive key v d).gen = d.gen := rfl
@[simp] theorem setActive_mem (key : Nat) (v : Int) (d : Device) :
    (setActive key v d).mem = d.mem := rfl
@[simp] theorem setActive_poison (key : Nat) (v : Int) (d : Device) :
    (setActive key v d).poison = d.poison := rfl
@[simp] theorem setActive_marks (key : Nat) (v : Int) (d : Device) :
    (setActive key v d).marks = d.marks := rfl
@[simp] theorem setActive_fresh (key : Nat) (v : Int) (d : Device) :
    (setActive key v d).fresh = d.fresh := rfl

/-! ### setPoison -/

@[simp] theorem setPoison_sampleIndex (line : Nat) (d : Device) :
    (setPoison line d).sampleIndex = d.sampleIndex := rfl
@[simp] theorem setPoison_time (line : Nat) (d : Device) :
    (setPoison line d).time = d.time := rfl
@[simp] theorem setPoison_host (line : Nat) (d : Device) :
    (setPoison line d).host = d.host := rfl
@[simp] theorem setPoison_cfg (line : Nat) (d : Device) :
    (setPoison line d).cfg = d.cfg := rfl
@[simp] theorem setPoison_fault (line : Nat) (d : Device) :
    (setPoison line d).fault = d.fault := rfl
@[simp] theorem setPoison_clk (line : Nat) (d : Device) :
    (setPoison line d).clk = d.clk := rfl
@[simp] theorem setPoison_conv (line : Nat) (d : Device) :
    (setPoison line d).conv = d.conv := rfl
@[simp] theorem setPoison_strm (line : Nat) (d : Device) :
    (setPoison line d).strm = d.strm := rfl
@[simp] theorem setPoison_group (line : Nat) (d : Device) :
    (setPoison line d).group = d.group := rfl
@[simp] theorem setPoison_power (line : Nat) (d : Device) :
    (setPoison line d).power = d.power := rfl
@[simp] theorem setPoison_pad (line : Nat) (d : Device) :
    (setPoison line d).pad = d.pad := rfl
@[simp] theorem setPoison_yard (line : Nat) (d : Device) :
    (setPoison line d).yard = d.yard := rfl
@[simp] theorem setPoison_lane (line : Nat) (d : Device) :
    (setPoison line d).lane = d.lane := rfl
@[simp] theorem setPoison_spec (line : Nat) (d : Device) :
    (setPoison line d).spec = d.spec := rfl
@[simp] theorem setPoison_trig (line : Nat) (d : Device) :
    (setPoison line d).trig = d.trig := rfl
@[simp] theorem setPoison_tiu (line : Nat) (d : Device) :
    (setPoison line d).tiu = d.tiu := rfl
@[simp] theorem setPoison_dens (line : Nat) (d : Device) :
    (setPoison line d).dens = d.dens := rfl
@[simp] theorem setPoison_disp (line : Nat) (d : Device) :
    (setPoison line d).disp = d.disp := rfl
@[simp] theorem setPoison_reed (line : Nat) (d : Device) :
    (setPoison line d).reed = d.reed := rfl
@[simp] theorem setPoison_xfer (line : Nat) (d : Device) :
    (setPoison line d).xfer = d.xfer := rfl
@[simp] theorem setPoison_nvme (line : Nat) (d : Device) :
    (setPoison line d).nvme = d.nvme := rfl
@[simp] theorem setPoison_gen (line : Nat) (d : Device) :
    (setPoison line d).gen = d.gen := rfl
@[simp] theorem setPoison_mem (line : Nat) (d : Device) :
    (setPoison line d).mem = d.mem := rfl
@[simp] theorem setPoison_marks (line : Nat) (d : Device) :
    (setPoison line d).marks = d.marks := rfl
@[simp] theorem setPoison_fresh (line : Nat) (d : Device) :
    (setPoison line d).fresh = d.fresh := rfl

/-! ### setPba -/

@[simp] theorem setPba_sampleIndex (v : Nat) (on : Bool) (d : Device) :
    (setPba v on d).sampleIndex = d.sampleIndex := rfl
@[simp] theorem setPba_time (v : Nat) (on : Bool) (d : Device) :
    (setPba v on d).time = d.time := rfl
@[simp] theorem setPba_cfg (v : Nat) (on : Bool) (d : Device) :
    (setPba v on d).cfg = d.cfg := rfl
@[simp] theorem setPba_fault (v : Nat) (on : Bool) (d : Device) :
    (setPba v on d).fault = d.fault := rfl
@[simp] theorem setPba_clk (v : Nat) (on : Bool) (d : Device) :
    (setPba v on d).clk = d.clk := rfl
@[simp] theorem setPba_conv (v : Nat) (on : Bool) (d : Device) :
    (setPba v on d).conv = d.conv := rfl
@[simp] theorem setPba_strm (v : Nat) (on : Bool) (d : Device) :
    (setPba v on d).strm = d.strm := rfl
@[simp] theorem setPba_group (v : Nat) (on : Bool) (d : Device) :
    (setPba v on d).group = d.group := rfl
@[simp] theorem setPba_power (v : Nat) (on : Bool) (d : Device) :
    (setPba v on d).power = d.power := rfl
@[simp] theorem setPba_pad (v : Nat) (on : Bool) (d : Device) :
    (setPba v on d).pad = d.pad := rfl
@[simp] theorem setPba_yard (v : Nat) (on : Bool) (d : Device) :
    (setPba v on d).yard = d.yard := rfl
@[simp] theorem setPba_lane (v : Nat) (on : Bool) (d : Device) :
    (setPba v on d).lane = d.lane := rfl
@[simp] theorem setPba_spec (v : Nat) (on : Bool) (d : Device) :
    (setPba v on d).spec = d.spec := rfl
@[simp] theorem setPba_trig (v : Nat) (on : Bool) (d : Device) :
    (setPba v on d).trig = d.trig := rfl
@[simp] theorem setPba_tiu (v : Nat) (on : Bool) (d : Device) :
    (setPba v on d).tiu = d.tiu := rfl
@[simp] theorem setPba_dens (v : Nat) (on : Bool) (d : Device) :
    (setPba v on d).dens = d.dens := rfl
@[simp] theorem setPba_disp (v : Nat) (on : Bool) (d : Device) :
    (setPba v on d).disp = d.disp := rfl
@[simp] theorem setPba_reed (v : Nat) (on : Bool) (d : Device) :
    (setPba v on d).reed = d.reed := rfl
@[simp] theorem setPba_xfer (v : Nat) (on : Bool) (d : Device) :
    (setPba v on d).xfer = d.xfer := rfl
@[simp] theorem setPba_nvme (v : Nat) (on : Bool) (d : Device) :
    (setPba v on d).nvme = d.nvme := rfl
@[simp] theorem setPba_gen (v : Nat) (on : Bool) (d : Device) :
    (setPba v on d).gen = d.gen := rfl
@[simp] theorem setPba_mem (v : Nat) (on : Bool) (d : Device) :
    (setPba v on d).mem = d.mem := rfl
@[simp] theorem setPba_poison (v : Nat) (on : Bool) (d : Device) :
    (setPba v on d).poison = d.poison := rfl
@[simp] theorem setPba_marks (v : Nat) (on : Bool) (d : Device) :
    (setPba v on d).marks = d.marks := rfl
@[simp] theorem setPba_fresh (v : Nat) (on : Bool) (d : Device) :
    (setPba v on d).fresh = d.fresh := rfl

/-! ### setSubQueue -/

@[simp] theorem setSubQueue_sampleIndex (q : Nat) (v : SubQueue) (d : Device) :
    (setSubQueue q v d).sampleIndex = d.sampleIndex := rfl
@[simp] theorem setSubQueue_time (q : Nat) (v : SubQueue) (d : Device) :
    (setSubQueue q v d).time = d.time := rfl
@[simp] theorem setSubQueue_cfg (q : Nat) (v : SubQueue) (d : Device) :
    (setSubQueue q v d).cfg = d.cfg := rfl
@[simp] theorem setSubQueue_fault (q : Nat) (v : SubQueue) (d : Device) :
    (setSubQueue q v d).fault = d.fault := rfl
@[simp] theorem setSubQueue_clk (q : Nat) (v : SubQueue) (d : Device) :
    (setSubQueue q v d).clk = d.clk := rfl
@[simp] theorem setSubQueue_conv (q : Nat) (v : SubQueue) (d : Device) :
    (setSubQueue q v d).conv = d.conv := rfl
@[simp] theorem setSubQueue_strm (q : Nat) (v : SubQueue) (d : Device) :
    (setSubQueue q v d).strm = d.strm := rfl
@[simp] theorem setSubQueue_group (q : Nat) (v : SubQueue) (d : Device) :
    (setSubQueue q v d).group = d.group := rfl
@[simp] theorem setSubQueue_power (q : Nat) (v : SubQueue) (d : Device) :
    (setSubQueue q v d).power = d.power := rfl
@[simp] theorem setSubQueue_pad (q : Nat) (v : SubQueue) (d : Device) :
    (setSubQueue q v d).pad = d.pad := rfl
@[simp] theorem setSubQueue_yard (q : Nat) (v : SubQueue) (d : Device) :
    (setSubQueue q v d).yard = d.yard := rfl
@[simp] theorem setSubQueue_lane (q : Nat) (v : SubQueue) (d : Device) :
    (setSubQueue q v d).lane = d.lane := rfl
@[simp] theorem setSubQueue_spec (q : Nat) (v : SubQueue) (d : Device) :
    (setSubQueue q v d).spec = d.spec := rfl
@[simp] theorem setSubQueue_trig (q : Nat) (v : SubQueue) (d : Device) :
    (setSubQueue q v d).trig = d.trig := rfl
@[simp] theorem setSubQueue_tiu (q : Nat) (v : SubQueue) (d : Device) :
    (setSubQueue q v d).tiu = d.tiu := rfl
@[simp] theorem setSubQueue_dens (q : Nat) (v : SubQueue) (d : Device) :
    (setSubQueue q v d).dens = d.dens := rfl
@[simp] theorem setSubQueue_disp (q : Nat) (v : SubQueue) (d : Device) :
    (setSubQueue q v d).disp = d.disp := rfl
@[simp] theorem setSubQueue_reed (q : Nat) (v : SubQueue) (d : Device) :
    (setSubQueue q v d).reed = d.reed := rfl
@[simp] theorem setSubQueue_xfer (q : Nat) (v : SubQueue) (d : Device) :
    (setSubQueue q v d).xfer = d.xfer := rfl
@[simp] theorem setSubQueue_nvme (q : Nat) (v : SubQueue) (d : Device) :
    (setSubQueue q v d).nvme = d.nvme := rfl
@[simp] theorem setSubQueue_gen (q : Nat) (v : SubQueue) (d : Device) :
    (setSubQueue q v d).gen = d.gen := rfl
@[simp] theorem setSubQueue_mem (q : Nat) (v : SubQueue) (d : Device) :
    (setSubQueue q v d).mem = d.mem := rfl
@[simp] theorem setSubQueue_poison (q : Nat) (v : SubQueue) (d : Device) :
    (setSubQueue q v d).poison = d.poison := rfl
@[simp] theorem setSubQueue_marks (q : Nat) (v : SubQueue) (d : Device) :
    (setSubQueue q v d).marks = d.marks := rfl
@[simp] theorem setSubQueue_fresh (q : Nat) (v : SubQueue) (d : Device) :
    (setSubQueue q v d).fresh = d.fresh := rfl

/-! ### setCplQueue -/

@[simp] theorem setCplQueue_sampleIndex (c : Nat) (v : CplQueue) (d : Device) :
    (setCplQueue c v d).sampleIndex = d.sampleIndex := rfl
@[simp] theorem setCplQueue_time (c : Nat) (v : CplQueue) (d : Device) :
    (setCplQueue c v d).time = d.time := rfl
@[simp] theorem setCplQueue_cfg (c : Nat) (v : CplQueue) (d : Device) :
    (setCplQueue c v d).cfg = d.cfg := rfl
@[simp] theorem setCplQueue_fault (c : Nat) (v : CplQueue) (d : Device) :
    (setCplQueue c v d).fault = d.fault := rfl
@[simp] theorem setCplQueue_clk (c : Nat) (v : CplQueue) (d : Device) :
    (setCplQueue c v d).clk = d.clk := rfl
@[simp] theorem setCplQueue_conv (c : Nat) (v : CplQueue) (d : Device) :
    (setCplQueue c v d).conv = d.conv := rfl
@[simp] theorem setCplQueue_strm (c : Nat) (v : CplQueue) (d : Device) :
    (setCplQueue c v d).strm = d.strm := rfl
@[simp] theorem setCplQueue_group (c : Nat) (v : CplQueue) (d : Device) :
    (setCplQueue c v d).group = d.group := rfl
@[simp] theorem setCplQueue_power (c : Nat) (v : CplQueue) (d : Device) :
    (setCplQueue c v d).power = d.power := rfl
@[simp] theorem setCplQueue_pad (c : Nat) (v : CplQueue) (d : Device) :
    (setCplQueue c v d).pad = d.pad := rfl
@[simp] theorem setCplQueue_yard (c : Nat) (v : CplQueue) (d : Device) :
    (setCplQueue c v d).yard = d.yard := rfl
@[simp] theorem setCplQueue_lane (c : Nat) (v : CplQueue) (d : Device) :
    (setCplQueue c v d).lane = d.lane := rfl
@[simp] theorem setCplQueue_spec (c : Nat) (v : CplQueue) (d : Device) :
    (setCplQueue c v d).spec = d.spec := rfl
@[simp] theorem setCplQueue_trig (c : Nat) (v : CplQueue) (d : Device) :
    (setCplQueue c v d).trig = d.trig := rfl
@[simp] theorem setCplQueue_tiu (c : Nat) (v : CplQueue) (d : Device) :
    (setCplQueue c v d).tiu = d.tiu := rfl
@[simp] theorem setCplQueue_dens (c : Nat) (v : CplQueue) (d : Device) :
    (setCplQueue c v d).dens = d.dens := rfl
@[simp] theorem setCplQueue_disp (c : Nat) (v : CplQueue) (d : Device) :
    (setCplQueue c v d).disp = d.disp := rfl
@[simp] theorem setCplQueue_reed (c : Nat) (v : CplQueue) (d : Device) :
    (setCplQueue c v d).reed = d.reed := rfl
@[simp] theorem setCplQueue_xfer (c : Nat) (v : CplQueue) (d : Device) :
    (setCplQueue c v d).xfer = d.xfer := rfl
@[simp] theorem setCplQueue_nvme (c : Nat) (v : CplQueue) (d : Device) :
    (setCplQueue c v d).nvme = d.nvme := rfl
@[simp] theorem setCplQueue_gen (c : Nat) (v : CplQueue) (d : Device) :
    (setCplQueue c v d).gen = d.gen := rfl
@[simp] theorem setCplQueue_mem (c : Nat) (v : CplQueue) (d : Device) :
    (setCplQueue c v d).mem = d.mem := rfl
@[simp] theorem setCplQueue_poison (c : Nat) (v : CplQueue) (d : Device) :
    (setCplQueue c v d).poison = d.poison := rfl
@[simp] theorem setCplQueue_marks (c : Nat) (v : CplQueue) (d : Device) :
    (setCplQueue c v d).marks = d.marks := rfl
@[simp] theorem setCplQueue_fresh (c : Nat) (v : CplQueue) (d : Device) :
    (setCplQueue c v d).fresh = d.fresh := rfl

/-! ### setShunisPort -/

@[simp] theorem setShunisPort_sampleIndex (n : Nat) (v : ShunisPort) (d : Device) :
    (setShunisPort n v d).sampleIndex = d.sampleIndex := rfl
@[simp] theorem setShunisPort_time (n : Nat) (v : ShunisPort) (d : Device) :
    (setShunisPort n v d).time = d.time := rfl
@[simp] theorem setShunisPort_host (n : Nat) (v : ShunisPort) (d : Device) :
    (setShunisPort n v d).host = d.host := rfl
@[simp] theorem setShunisPort_cfg (n : Nat) (v : ShunisPort) (d : Device) :
    (setShunisPort n v d).cfg = d.cfg := rfl
@[simp] theorem setShunisPort_fault (n : Nat) (v : ShunisPort) (d : Device) :
    (setShunisPort n v d).fault = d.fault := rfl
@[simp] theorem setShunisPort_clk (n : Nat) (v : ShunisPort) (d : Device) :
    (setShunisPort n v d).clk = d.clk := rfl
@[simp] theorem setShunisPort_conv (n : Nat) (v : ShunisPort) (d : Device) :
    (setShunisPort n v d).conv = d.conv := rfl
@[simp] theorem setShunisPort_strm (n : Nat) (v : ShunisPort) (d : Device) :
    (setShunisPort n v d).strm = d.strm := rfl
@[simp] theorem setShunisPort_power (n : Nat) (v : ShunisPort) (d : Device) :
    (setShunisPort n v d).power = d.power := rfl
@[simp] theorem setShunisPort_pad (n : Nat) (v : ShunisPort) (d : Device) :
    (setShunisPort n v d).pad = d.pad := rfl
@[simp] theorem setShunisPort_yard (n : Nat) (v : ShunisPort) (d : Device) :
    (setShunisPort n v d).yard = d.yard := rfl
@[simp] theorem setShunisPort_lane (n : Nat) (v : ShunisPort) (d : Device) :
    (setShunisPort n v d).lane = d.lane := rfl
@[simp] theorem setShunisPort_spec (n : Nat) (v : ShunisPort) (d : Device) :
    (setShunisPort n v d).spec = d.spec := rfl
@[simp] theorem setShunisPort_trig (n : Nat) (v : ShunisPort) (d : Device) :
    (setShunisPort n v d).trig = d.trig := rfl
@[simp] theorem setShunisPort_tiu (n : Nat) (v : ShunisPort) (d : Device) :
    (setShunisPort n v d).tiu = d.tiu := rfl
@[simp] theorem setShunisPort_dens (n : Nat) (v : ShunisPort) (d : Device) :
    (setShunisPort n v d).dens = d.dens := rfl
@[simp] theorem setShunisPort_disp (n : Nat) (v : ShunisPort) (d : Device) :
    (setShunisPort n v d).disp = d.disp := rfl
@[simp] theorem setShunisPort_reed (n : Nat) (v : ShunisPort) (d : Device) :
    (setShunisPort n v d).reed = d.reed := rfl
@[simp] theorem setShunisPort_xfer (n : Nat) (v : ShunisPort) (d : Device) :
    (setShunisPort n v d).xfer = d.xfer := rfl
@[simp] theorem setShunisPort_nvme (n : Nat) (v : ShunisPort) (d : Device) :
    (setShunisPort n v d).nvme = d.nvme := rfl
@[simp] theorem setShunisPort_gen (n : Nat) (v : ShunisPort) (d : Device) :
    (setShunisPort n v d).gen = d.gen := rfl
@[simp] theorem setShunisPort_mem (n : Nat) (v : ShunisPort) (d : Device) :
    (setShunisPort n v d).mem = d.mem := rfl
@[simp] theorem setShunisPort_poison (n : Nat) (v : ShunisPort) (d : Device) :
    (setShunisPort n v d).poison = d.poison := rfl
@[simp] theorem setShunisPort_marks (n : Nat) (v : ShunisPort) (d : Device) :
    (setShunisPort n v d).marks = d.marks := rfl
@[simp] theorem setShunisPort_fresh (n : Nat) (v : ShunisPort) (d : Device) :
    (setShunisPort n v d).fresh = d.fresh := rfl

/-! ### setEventPending -/

@[simp] theorem setEventPending_sampleIndex (source : Nat) (d : Device) :
    (setEventPending source d).sampleIndex = d.sampleIndex := rfl
@[simp] theorem setEventPending_time (source : Nat) (d : Device) :
    (setEventPending source d).time = d.time := rfl
@[simp] theorem setEventPending_host (source : Nat) (d : Device) :
    (setEventPending source d).host = d.host := rfl
@[simp] theorem setEventPending_cfg (source : Nat) (d : Device) :
    (setEventPending source d).cfg = d.cfg := rfl
@[simp] theorem setEventPending_clk (source : Nat) (d : Device) :
    (setEventPending source d).clk = d.clk := rfl
@[simp] theorem setEventPending_conv (source : Nat) (d : Device) :
    (setEventPending source d).conv = d.conv := rfl
@[simp] theorem setEventPending_strm (source : Nat) (d : Device) :
    (setEventPending source d).strm = d.strm := rfl
@[simp] theorem setEventPending_group (source : Nat) (d : Device) :
    (setEventPending source d).group = d.group := rfl
@[simp] theorem setEventPending_power (source : Nat) (d : Device) :
    (setEventPending source d).power = d.power := rfl
@[simp] theorem setEventPending_pad (source : Nat) (d : Device) :
    (setEventPending source d).pad = d.pad := rfl
@[simp] theorem setEventPending_yard (source : Nat) (d : Device) :
    (setEventPending source d).yard = d.yard := rfl
@[simp] theorem setEventPending_lane (source : Nat) (d : Device) :
    (setEventPending source d).lane = d.lane := rfl
@[simp] theorem setEventPending_spec (source : Nat) (d : Device) :
    (setEventPending source d).spec = d.spec := rfl
@[simp] theorem setEventPending_trig (source : Nat) (d : Device) :
    (setEventPending source d).trig = d.trig := rfl
@[simp] theorem setEventPending_tiu (source : Nat) (d : Device) :
    (setEventPending source d).tiu = d.tiu := rfl
@[simp] theorem setEventPending_dens (source : Nat) (d : Device) :
    (setEventPending source d).dens = d.dens := rfl
@[simp] theorem setEventPending_disp (source : Nat) (d : Device) :
    (setEventPending source d).disp = d.disp := rfl
@[simp] theorem setEventPending_reed (source : Nat) (d : Device) :
    (setEventPending source d).reed = d.reed := rfl
@[simp] theorem setEventPending_xfer (source : Nat) (d : Device) :
    (setEventPending source d).xfer = d.xfer := rfl
@[simp] theorem setEventPending_nvme (source : Nat) (d : Device) :
    (setEventPending source d).nvme = d.nvme := rfl
@[simp] theorem setEventPending_gen (source : Nat) (d : Device) :
    (setEventPending source d).gen = d.gen := rfl
@[simp] theorem setEventPending_mem (source : Nat) (d : Device) :
    (setEventPending source d).mem = d.mem := rfl
@[simp] theorem setEventPending_poison (source : Nat) (d : Device) :
    (setEventPending source d).poison = d.poison := rfl
@[simp] theorem setEventPending_marks (source : Nat) (d : Device) :
    (setEventPending source d).marks = d.marks := rfl
@[simp] theorem setEventPending_fresh (source : Nat) (d : Device) :
    (setEventPending source d).fresh = d.fresh := rfl

/-! ### setNonce -/

@[simp] theorem setNonce_sampleIndex (q : Nat) (n : Option Nonce) (d : Device) :
    (setNonce q n d).sampleIndex = d.sampleIndex := rfl
@[simp] theorem setNonce_time (q : Nat) (n : Option Nonce) (d : Device) :
    (setNonce q n d).time = d.time := rfl
@[simp] theorem setNonce_host (q : Nat) (n : Option Nonce) (d : Device) :
    (setNonce q n d).host = d.host := rfl
@[simp] theorem setNonce_cfg (q : Nat) (n : Option Nonce) (d : Device) :
    (setNonce q n d).cfg = d.cfg := rfl
@[simp] theorem setNonce_fault (q : Nat) (n : Option Nonce) (d : Device) :
    (setNonce q n d).fault = d.fault := rfl
@[simp] theorem setNonce_clk (q : Nat) (n : Option Nonce) (d : Device) :
    (setNonce q n d).clk = d.clk := rfl
@[simp] theorem setNonce_conv (q : Nat) (n : Option Nonce) (d : Device) :
    (setNonce q n d).conv = d.conv := rfl
@[simp] theorem setNonce_strm (q : Nat) (n : Option Nonce) (d : Device) :
    (setNonce q n d).strm = d.strm := rfl
@[simp] theorem setNonce_group (q : Nat) (n : Option Nonce) (d : Device) :
    (setNonce q n d).group = d.group := rfl
@[simp] theorem setNonce_power (q : Nat) (n : Option Nonce) (d : Device) :
    (setNonce q n d).power = d.power := rfl
@[simp] theorem setNonce_yard (q : Nat) (n : Option Nonce) (d : Device) :
    (setNonce q n d).yard = d.yard := rfl
@[simp] theorem setNonce_lane (q : Nat) (n : Option Nonce) (d : Device) :
    (setNonce q n d).lane = d.lane := rfl
@[simp] theorem setNonce_spec (q : Nat) (n : Option Nonce) (d : Device) :
    (setNonce q n d).spec = d.spec := rfl
@[simp] theorem setNonce_trig (q : Nat) (n : Option Nonce) (d : Device) :
    (setNonce q n d).trig = d.trig := rfl
@[simp] theorem setNonce_tiu (q : Nat) (n : Option Nonce) (d : Device) :
    (setNonce q n d).tiu = d.tiu := rfl
@[simp] theorem setNonce_dens (q : Nat) (n : Option Nonce) (d : Device) :
    (setNonce q n d).dens = d.dens := rfl
@[simp] theorem setNonce_disp (q : Nat) (n : Option Nonce) (d : Device) :
    (setNonce q n d).disp = d.disp := rfl
@[simp] theorem setNonce_reed (q : Nat) (n : Option Nonce) (d : Device) :
    (setNonce q n d).reed = d.reed := rfl
@[simp] theorem setNonce_xfer (q : Nat) (n : Option Nonce) (d : Device) :
    (setNonce q n d).xfer = d.xfer := rfl
@[simp] theorem setNonce_nvme (q : Nat) (n : Option Nonce) (d : Device) :
    (setNonce q n d).nvme = d.nvme := rfl
@[simp] theorem setNonce_gen (q : Nat) (n : Option Nonce) (d : Device) :
    (setNonce q n d).gen = d.gen := rfl
@[simp] theorem setNonce_mem (q : Nat) (n : Option Nonce) (d : Device) :
    (setNonce q n d).mem = d.mem := rfl
@[simp] theorem setNonce_poison (q : Nat) (n : Option Nonce) (d : Device) :
    (setNonce q n d).poison = d.poison := rfl
@[simp] theorem setNonce_marks (q : Nat) (n : Option Nonce) (d : Device) :
    (setNonce q n d).marks = d.marks := rfl
@[simp] theorem setNonce_fresh (q : Nat) (n : Option Nonce) (d : Device) :
    (setNonce q n d).fresh = d.fresh := rfl

/-! ### setKeySlot -/

@[simp] theorem setKeySlot_sampleIndex (n : Nat) (k : Option (BitVec 256)) (d : Device) :
    (setKeySlot n k d).sampleIndex = d.sampleIndex := rfl
@[simp] theorem setKeySlot_time (n : Nat) (k : Option (BitVec 256)) (d : Device) :
    (setKeySlot n k d).time = d.time := rfl
@[simp] theorem setKeySlot_host (n : Nat) (k : Option (BitVec 256)) (d : Device) :
    (setKeySlot n k d).host = d.host := rfl
@[simp] theorem setKeySlot_cfg (n : Nat) (k : Option (BitVec 256)) (d : Device) :
    (setKeySlot n k d).cfg = d.cfg := rfl
@[simp] theorem setKeySlot_fault (n : Nat) (k : Option (BitVec 256)) (d : Device) :
    (setKeySlot n k d).fault = d.fault := rfl
@[simp] theorem setKeySlot_clk (n : Nat) (k : Option (BitVec 256)) (d : Device) :
    (setKeySlot n k d).clk = d.clk := rfl
@[simp] theorem setKeySlot_conv (n : Nat) (k : Option (BitVec 256)) (d : Device) :
    (setKeySlot n k d).conv = d.conv := rfl
@[simp] theorem setKeySlot_strm (n : Nat) (k : Option (BitVec 256)) (d : Device) :
    (setKeySlot n k d).strm = d.strm := rfl
@[simp] theorem setKeySlot_group (n : Nat) (k : Option (BitVec 256)) (d : Device) :
    (setKeySlot n k d).group = d.group := rfl
@[simp] theorem setKeySlot_power (n : Nat) (k : Option (BitVec 256)) (d : Device) :
    (setKeySlot n k d).power = d.power := rfl
@[simp] theorem setKeySlot_yard (n : Nat) (k : Option (BitVec 256)) (d : Device) :
    (setKeySlot n k d).yard = d.yard := rfl
@[simp] theorem setKeySlot_lane (n : Nat) (k : Option (BitVec 256)) (d : Device) :
    (setKeySlot n k d).lane = d.lane := rfl
@[simp] theorem setKeySlot_spec (n : Nat) (k : Option (BitVec 256)) (d : Device) :
    (setKeySlot n k d).spec = d.spec := rfl
@[simp] theorem setKeySlot_trig (n : Nat) (k : Option (BitVec 256)) (d : Device) :
    (setKeySlot n k d).trig = d.trig := rfl
@[simp] theorem setKeySlot_tiu (n : Nat) (k : Option (BitVec 256)) (d : Device) :
    (setKeySlot n k d).tiu = d.tiu := rfl
@[simp] theorem setKeySlot_dens (n : Nat) (k : Option (BitVec 256)) (d : Device) :
    (setKeySlot n k d).dens = d.dens := rfl
@[simp] theorem setKeySlot_disp (n : Nat) (k : Option (BitVec 256)) (d : Device) :
    (setKeySlot n k d).disp = d.disp := rfl
@[simp] theorem setKeySlot_reed (n : Nat) (k : Option (BitVec 256)) (d : Device) :
    (setKeySlot n k d).reed = d.reed := rfl
@[simp] theorem setKeySlot_xfer (n : Nat) (k : Option (BitVec 256)) (d : Device) :
    (setKeySlot n k d).xfer = d.xfer := rfl
@[simp] theorem setKeySlot_nvme (n : Nat) (k : Option (BitVec 256)) (d : Device) :
    (setKeySlot n k d).nvme = d.nvme := rfl
@[simp] theorem setKeySlot_gen (n : Nat) (k : Option (BitVec 256)) (d : Device) :
    (setKeySlot n k d).gen = d.gen := rfl
@[simp] theorem setKeySlot_mem (n : Nat) (k : Option (BitVec 256)) (d : Device) :
    (setKeySlot n k d).mem = d.mem := rfl
@[simp] theorem setKeySlot_poison (n : Nat) (k : Option (BitVec 256)) (d : Device) :
    (setKeySlot n k d).poison = d.poison := rfl
@[simp] theorem setKeySlot_marks (n : Nat) (k : Option (BitVec 256)) (d : Device) :
    (setKeySlot n k d).marks = d.marks := rfl
@[simp] theorem setKeySlot_fresh (n : Nat) (k : Option (BitVec 256)) (d : Device) :
    (setKeySlot n k d).fresh = d.fresh := rfl

/-! ### setDomain -/

@[simp] theorem setDomain_sampleIndex (b : Nat) (on : Bool) (d : Device) :
    (setDomain b on d).sampleIndex = d.sampleIndex := rfl
@[simp] theorem setDomain_time (b : Nat) (on : Bool) (d : Device) :
    (setDomain b on d).time = d.time := rfl
@[simp] theorem setDomain_host (b : Nat) (on : Bool) (d : Device) :
    (setDomain b on d).host = d.host := rfl
@[simp] theorem setDomain_cfg (b : Nat) (on : Bool) (d : Device) :
    (setDomain b on d).cfg = d.cfg := rfl
@[simp] theorem setDomain_fault (b : Nat) (on : Bool) (d : Device) :
    (setDomain b on d).fault = d.fault := rfl
@[simp] theorem setDomain_clk (b : Nat) (on : Bool) (d : Device) :
    (setDomain b on d).clk = d.clk := rfl
@[simp] theorem setDomain_conv (b : Nat) (on : Bool) (d : Device) :
    (setDomain b on d).conv = d.conv := rfl
@[simp] theorem setDomain_strm (b : Nat) (on : Bool) (d : Device) :
    (setDomain b on d).strm = d.strm := rfl
@[simp] theorem setDomain_group (b : Nat) (on : Bool) (d : Device) :
    (setDomain b on d).group = d.group := rfl
@[simp] theorem setDomain_pad (b : Nat) (on : Bool) (d : Device) :
    (setDomain b on d).pad = d.pad := rfl
@[simp] theorem setDomain_yard (b : Nat) (on : Bool) (d : Device) :
    (setDomain b on d).yard = d.yard := rfl
@[simp] theorem setDomain_lane (b : Nat) (on : Bool) (d : Device) :
    (setDomain b on d).lane = d.lane := rfl
@[simp] theorem setDomain_spec (b : Nat) (on : Bool) (d : Device) :
    (setDomain b on d).spec = d.spec := rfl
@[simp] theorem setDomain_trig (b : Nat) (on : Bool) (d : Device) :
    (setDomain b on d).trig = d.trig := rfl
@[simp] theorem setDomain_tiu (b : Nat) (on : Bool) (d : Device) :
    (setDomain b on d).tiu = d.tiu := rfl
@[simp] theorem setDomain_dens (b : Nat) (on : Bool) (d : Device) :
    (setDomain b on d).dens = d.dens := rfl
@[simp] theorem setDomain_disp (b : Nat) (on : Bool) (d : Device) :
    (setDomain b on d).disp = d.disp := rfl
@[simp] theorem setDomain_reed (b : Nat) (on : Bool) (d : Device) :
    (setDomain b on d).reed = d.reed := rfl
@[simp] theorem setDomain_xfer (b : Nat) (on : Bool) (d : Device) :
    (setDomain b on d).xfer = d.xfer := rfl
@[simp] theorem setDomain_nvme (b : Nat) (on : Bool) (d : Device) :
    (setDomain b on d).nvme = d.nvme := rfl
@[simp] theorem setDomain_gen (b : Nat) (on : Bool) (d : Device) :
    (setDomain b on d).gen = d.gen := rfl
@[simp] theorem setDomain_mem (b : Nat) (on : Bool) (d : Device) :
    (setDomain b on d).mem = d.mem := rfl
@[simp] theorem setDomain_poison (b : Nat) (on : Bool) (d : Device) :
    (setDomain b on d).poison = d.poison := rfl
@[simp] theorem setDomain_marks (b : Nat) (on : Bool) (d : Device) :
    (setDomain b on d).marks = d.marks := rfl
@[simp] theorem setDomain_fresh (b : Nat) (on : Bool) (d : Device) :
    (setDomain b on d).fresh = d.fresh := rfl

/-! ### setRunning -/

@[simp] theorem setRunning_sampleIndex (r : RunningRec) (d : Device) :
    (setRunning r d).sampleIndex = d.sampleIndex := rfl
@[simp] theorem setRunning_time (r : RunningRec) (d : Device) :
    (setRunning r d).time = d.time := rfl
@[simp] theorem setRunning_host (r : RunningRec) (d : Device) :
    (setRunning r d).host = d.host := rfl
@[simp] theorem setRunning_cfg (r : RunningRec) (d : Device) :
    (setRunning r d).cfg = d.cfg := rfl
@[simp] theorem setRunning_fault (r : RunningRec) (d : Device) :
    (setRunning r d).fault = d.fault := rfl
@[simp] theorem setRunning_clk (r : RunningRec) (d : Device) :
    (setRunning r d).clk = d.clk := rfl
@[simp] theorem setRunning_conv (r : RunningRec) (d : Device) :
    (setRunning r d).conv = d.conv := rfl
@[simp] theorem setRunning_strm (r : RunningRec) (d : Device) :
    (setRunning r d).strm = d.strm := rfl
@[simp] theorem setRunning_group (r : RunningRec) (d : Device) :
    (setRunning r d).group = d.group := rfl
@[simp] theorem setRunning_power (r : RunningRec) (d : Device) :
    (setRunning r d).power = d.power := rfl
@[simp] theorem setRunning_pad (r : RunningRec) (d : Device) :
    (setRunning r d).pad = d.pad := rfl
@[simp] theorem setRunning_yard (r : RunningRec) (d : Device) :
    (setRunning r d).yard = d.yard := rfl
@[simp] theorem setRunning_lane (r : RunningRec) (d : Device) :
    (setRunning r d).lane = d.lane := rfl
@[simp] theorem setRunning_spec (r : RunningRec) (d : Device) :
    (setRunning r d).spec = d.spec := rfl
@[simp] theorem setRunning_trig (r : RunningRec) (d : Device) :
    (setRunning r d).trig = d.trig := rfl
@[simp] theorem setRunning_tiu (r : RunningRec) (d : Device) :
    (setRunning r d).tiu = d.tiu := rfl
@[simp] theorem setRunning_dens (r : RunningRec) (d : Device) :
    (setRunning r d).dens = d.dens := rfl
@[simp] theorem setRunning_disp (r : RunningRec) (d : Device) :
    (setRunning r d).disp = d.disp := rfl
@[simp] theorem setRunning_reed (r : RunningRec) (d : Device) :
    (setRunning r d).reed = d.reed := rfl
@[simp] theorem setRunning_xfer (r : RunningRec) (d : Device) :
    (setRunning r d).xfer = d.xfer := rfl
@[simp] theorem setRunning_gen (r : RunningRec) (d : Device) :
    (setRunning r d).gen = d.gen := rfl
@[simp] theorem setRunning_mem (r : RunningRec) (d : Device) :
    (setRunning r d).mem = d.mem := rfl
@[simp] theorem setRunning_poison (r : RunningRec) (d : Device) :
    (setRunning r d).poison = d.poison := rfl
@[simp] theorem setRunning_marks (r : RunningRec) (d : Device) :
    (setRunning r d).marks = d.marks := rfl
@[simp] theorem setRunning_fresh (r : RunningRec) (d : Device) :
    (setRunning r d).fresh = d.fresh := rfl

/-! ### setStream -/

@[simp] theorem setStream_sampleIndex (n : Nat) (v : Stream) (d : Device) :
    (setStream n v d).sampleIndex = d.sampleIndex := rfl
@[simp] theorem setStream_time (n : Nat) (v : Stream) (d : Device) :
    (setStream n v d).time = d.time := rfl
@[simp] theorem setStream_host (n : Nat) (v : Stream) (d : Device) :
    (setStream n v d).host = d.host := rfl
@[simp] theorem setStream_cfg (n : Nat) (v : Stream) (d : Device) :
    (setStream n v d).cfg = d.cfg := rfl
@[simp] theorem setStream_fault (n : Nat) (v : Stream) (d : Device) :
    (setStream n v d).fault = d.fault := rfl
@[simp] theorem setStream_clk (n : Nat) (v : Stream) (d : Device) :
    (setStream n v d).clk = d.clk := rfl
@[simp] theorem setStream_conv (n : Nat) (v : Stream) (d : Device) :
    (setStream n v d).conv = d.conv := rfl
@[simp] theorem setStream_group (n : Nat) (v : Stream) (d : Device) :
    (setStream n v d).group = d.group := rfl
@[simp] theorem setStream_power (n : Nat) (v : Stream) (d : Device) :
    (setStream n v d).power = d.power := rfl
@[simp] theorem setStream_pad (n : Nat) (v : Stream) (d : Device) :
    (setStream n v d).pad = d.pad := rfl
@[simp] theorem setStream_yard (n : Nat) (v : Stream) (d : Device) :
    (setStream n v d).yard = d.yard := rfl
@[simp] theorem setStream_lane (n : Nat) (v : Stream) (d : Device) :
    (setStream n v d).lane = d.lane := rfl
@[simp] theorem setStream_spec (n : Nat) (v : Stream) (d : Device) :
    (setStream n v d).spec = d.spec := rfl
@[simp] theorem setStream_trig (n : Nat) (v : Stream) (d : Device) :
    (setStream n v d).trig = d.trig := rfl
@[simp] theorem setStream_tiu (n : Nat) (v : Stream) (d : Device) :
    (setStream n v d).tiu = d.tiu := rfl
@[simp] theorem setStream_dens (n : Nat) (v : Stream) (d : Device) :
    (setStream n v d).dens = d.dens := rfl
@[simp] theorem setStream_disp (n : Nat) (v : Stream) (d : Device) :
    (setStream n v d).disp = d.disp := rfl
@[simp] theorem setStream_reed (n : Nat) (v : Stream) (d : Device) :
    (setStream n v d).reed = d.reed := rfl
@[simp] theorem setStream_xfer (n : Nat) (v : Stream) (d : Device) :
    (setStream n v d).xfer = d.xfer := rfl
@[simp] theorem setStream_nvme (n : Nat) (v : Stream) (d : Device) :
    (setStream n v d).nvme = d.nvme := rfl
@[simp] theorem setStream_gen (n : Nat) (v : Stream) (d : Device) :
    (setStream n v d).gen = d.gen := rfl
@[simp] theorem setStream_mem (n : Nat) (v : Stream) (d : Device) :
    (setStream n v d).mem = d.mem := rfl
@[simp] theorem setStream_poison (n : Nat) (v : Stream) (d : Device) :
    (setStream n v d).poison = d.poison := rfl
@[simp] theorem setStream_marks (n : Nat) (v : Stream) (d : Device) :
    (setStream n v d).marks = d.marks := rfl
@[simp] theorem setStream_fresh (n : Nat) (v : Stream) (d : Device) :
    (setStream n v d).fresh = d.fresh := rfl

/-! ### setBinding -/

@[simp] theorem setBinding_sampleIndex (n : Nat) (v : Option Binding) (d : Device) :
    (setBinding n v d).sampleIndex = d.sampleIndex := rfl
@[simp] theorem setBinding_time (n : Nat) (v : Option Binding) (d : Device) :
    (setBinding n v d).time = d.time := rfl
@[simp] theorem setBinding_host (n : Nat) (v : Option Binding) (d : Device) :
    (setBinding n v d).host = d.host := rfl
@[simp] theorem setBinding_cfg (n : Nat) (v : Option Binding) (d : Device) :
    (setBinding n v d).cfg = d.cfg := rfl
@[simp] theorem setBinding_fault (n : Nat) (v : Option Binding) (d : Device) :
    (setBinding n v d).fault = d.fault := rfl
@[simp] theorem setBinding_clk (n : Nat) (v : Option Binding) (d : Device) :
    (setBinding n v d).clk = d.clk := rfl
@[simp] theorem setBinding_conv (n : Nat) (v : Option Binding) (d : Device) :
    (setBinding n v d).conv = d.conv := rfl
@[simp] theorem setBinding_strm (n : Nat) (v : Option Binding) (d : Device) :
    (setBinding n v d).strm = d.strm := rfl
@[simp] theorem setBinding_group (n : Nat) (v : Option Binding) (d : Device) :
    (setBinding n v d).group = d.group := rfl
@[simp] theorem setBinding_power (n : Nat) (v : Option Binding) (d : Device) :
    (setBinding n v d).power = d.power := rfl
@[simp] theorem setBinding_pad (n : Nat) (v : Option Binding) (d : Device) :
    (setBinding n v d).pad = d.pad := rfl
@[simp] theorem setBinding_yard (n : Nat) (v : Option Binding) (d : Device) :
    (setBinding n v d).yard = d.yard := rfl
@[simp] theorem setBinding_lane (n : Nat) (v : Option Binding) (d : Device) :
    (setBinding n v d).lane = d.lane := rfl
@[simp] theorem setBinding_spec (n : Nat) (v : Option Binding) (d : Device) :
    (setBinding n v d).spec = d.spec := rfl
@[simp] theorem setBinding_trig (n : Nat) (v : Option Binding) (d : Device) :
    (setBinding n v d).trig = d.trig := rfl
@[simp] theorem setBinding_tiu (n : Nat) (v : Option Binding) (d : Device) :
    (setBinding n v d).tiu = d.tiu := rfl
@[simp] theorem setBinding_dens (n : Nat) (v : Option Binding) (d : Device) :
    (setBinding n v d).dens = d.dens := rfl
@[simp] theorem setBinding_disp (n : Nat) (v : Option Binding) (d : Device) :
    (setBinding n v d).disp = d.disp := rfl
@[simp] theorem setBinding_xfer (n : Nat) (v : Option Binding) (d : Device) :
    (setBinding n v d).xfer = d.xfer := rfl
@[simp] theorem setBinding_nvme (n : Nat) (v : Option Binding) (d : Device) :
    (setBinding n v d).nvme = d.nvme := rfl
@[simp] theorem setBinding_gen (n : Nat) (v : Option Binding) (d : Device) :
    (setBinding n v d).gen = d.gen := rfl
@[simp] theorem setBinding_mem (n : Nat) (v : Option Binding) (d : Device) :
    (setBinding n v d).mem = d.mem := rfl
@[simp] theorem setBinding_poison (n : Nat) (v : Option Binding) (d : Device) :
    (setBinding n v d).poison = d.poison := rfl
@[simp] theorem setBinding_marks (n : Nat) (v : Option Binding) (d : Device) :
    (setBinding n v d).marks = d.marks := rfl
@[simp] theorem setBinding_fresh (n : Nat) (v : Option Binding) (d : Device) :
    (setBinding n v d).fresh = d.fresh := rfl

/-! ### setCore -/

@[simp] theorem setCore_sampleIndex (n : Nat) (v : ReedCore) (d : Device) :
    (setCore n v d).sampleIndex = d.sampleIndex := rfl
@[simp] theorem setCore_time (n : Nat) (v : ReedCore) (d : Device) :
    (setCore n v d).time = d.time := rfl
@[simp] theorem setCore_host (n : Nat) (v : ReedCore) (d : Device) :
    (setCore n v d).host = d.host := rfl
@[simp] theorem setCore_cfg (n : Nat) (v : ReedCore) (d : Device) :
    (setCore n v d).cfg = d.cfg := rfl
@[simp] theorem setCore_fault (n : Nat) (v : ReedCore) (d : Device) :
    (setCore n v d).fault = d.fault := rfl
@[simp] theorem setCore_clk (n : Nat) (v : ReedCore) (d : Device) :
    (setCore n v d).clk = d.clk := rfl
@[simp] theorem setCore_conv (n : Nat) (v : ReedCore) (d : Device) :
    (setCore n v d).conv = d.conv := rfl
@[simp] theorem setCore_strm (n : Nat) (v : ReedCore) (d : Device) :
    (setCore n v d).strm = d.strm := rfl
@[simp] theorem setCore_group (n : Nat) (v : ReedCore) (d : Device) :
    (setCore n v d).group = d.group := rfl
@[simp] theorem setCore_power (n : Nat) (v : ReedCore) (d : Device) :
    (setCore n v d).power = d.power := rfl
@[simp] theorem setCore_pad (n : Nat) (v : ReedCore) (d : Device) :
    (setCore n v d).pad = d.pad := rfl
@[simp] theorem setCore_yard (n : Nat) (v : ReedCore) (d : Device) :
    (setCore n v d).yard = d.yard := rfl
@[simp] theorem setCore_lane (n : Nat) (v : ReedCore) (d : Device) :
    (setCore n v d).lane = d.lane := rfl
@[simp] theorem setCore_spec (n : Nat) (v : ReedCore) (d : Device) :
    (setCore n v d).spec = d.spec := rfl
@[simp] theorem setCore_trig (n : Nat) (v : ReedCore) (d : Device) :
    (setCore n v d).trig = d.trig := rfl
@[simp] theorem setCore_tiu (n : Nat) (v : ReedCore) (d : Device) :
    (setCore n v d).tiu = d.tiu := rfl
@[simp] theorem setCore_dens (n : Nat) (v : ReedCore) (d : Device) :
    (setCore n v d).dens = d.dens := rfl
@[simp] theorem setCore_disp (n : Nat) (v : ReedCore) (d : Device) :
    (setCore n v d).disp = d.disp := rfl
@[simp] theorem setCore_xfer (n : Nat) (v : ReedCore) (d : Device) :
    (setCore n v d).xfer = d.xfer := rfl
@[simp] theorem setCore_nvme (n : Nat) (v : ReedCore) (d : Device) :
    (setCore n v d).nvme = d.nvme := rfl
@[simp] theorem setCore_gen (n : Nat) (v : ReedCore) (d : Device) :
    (setCore n v d).gen = d.gen := rfl
@[simp] theorem setCore_mem (n : Nat) (v : ReedCore) (d : Device) :
    (setCore n v d).mem = d.mem := rfl
@[simp] theorem setCore_poison (n : Nat) (v : ReedCore) (d : Device) :
    (setCore n v d).poison = d.poison := rfl
@[simp] theorem setCore_marks (n : Nat) (v : ReedCore) (d : Device) :
    (setCore n v d).marks = d.marks := rfl
@[simp] theorem setCore_fresh (n : Nat) (v : ReedCore) (d : Device) :
    (setCore n v d).fresh = d.fresh := rfl

/-! ### setSlot -/

@[simp] theorem setSlot_sampleIndex (key : Nat) (v : Slot) (d : Device) :
    (setSlot key v d).sampleIndex = d.sampleIndex := rfl
@[simp] theorem setSlot_time (key : Nat) (v : Slot) (d : Device) :
    (setSlot key v d).time = d.time := rfl
@[simp] theorem setSlot_host (key : Nat) (v : Slot) (d : Device) :
    (setSlot key v d).host = d.host := rfl
@[simp] theorem setSlot_cfg (key : Nat) (v : Slot) (d : Device) :
    (setSlot key v d).cfg = d.cfg := rfl
@[simp] theorem setSlot_fault (key : Nat) (v : Slot) (d : Device) :
    (setSlot key v d).fault = d.fault := rfl
@[simp] theorem setSlot_clk (key : Nat) (v : Slot) (d : Device) :
    (setSlot key v d).clk = d.clk := rfl
@[simp] theorem setSlot_conv (key : Nat) (v : Slot) (d : Device) :
    (setSlot key v d).conv = d.conv := rfl
@[simp] theorem setSlot_strm (key : Nat) (v : Slot) (d : Device) :
    (setSlot key v d).strm = d.strm := rfl
@[simp] theorem setSlot_group (key : Nat) (v : Slot) (d : Device) :
    (setSlot key v d).group = d.group := rfl
@[simp] theorem setSlot_power (key : Nat) (v : Slot) (d : Device) :
    (setSlot key v d).power = d.power := rfl
@[simp] theorem setSlot_pad (key : Nat) (v : Slot) (d : Device) :
    (setSlot key v d).pad = d.pad := rfl
@[simp] theorem setSlot_yard (key : Nat) (v : Slot) (d : Device) :
    (setSlot key v d).yard = d.yard := rfl
@[simp] theorem setSlot_lane (key : Nat) (v : Slot) (d : Device) :
    (setSlot key v d).lane = d.lane := rfl
@[simp] theorem setSlot_trig (key : Nat) (v : Slot) (d : Device) :
    (setSlot key v d).trig = d.trig := rfl
@[simp] theorem setSlot_tiu (key : Nat) (v : Slot) (d : Device) :
    (setSlot key v d).tiu = d.tiu := rfl
@[simp] theorem setSlot_dens (key : Nat) (v : Slot) (d : Device) :
    (setSlot key v d).dens = d.dens := rfl
@[simp] theorem setSlot_disp (key : Nat) (v : Slot) (d : Device) :
    (setSlot key v d).disp = d.disp := rfl
@[simp] theorem setSlot_reed (key : Nat) (v : Slot) (d : Device) :
    (setSlot key v d).reed = d.reed := rfl
@[simp] theorem setSlot_xfer (key : Nat) (v : Slot) (d : Device) :
    (setSlot key v d).xfer = d.xfer := rfl
@[simp] theorem setSlot_nvme (key : Nat) (v : Slot) (d : Device) :
    (setSlot key v d).nvme = d.nvme := rfl
@[simp] theorem setSlot_gen (key : Nat) (v : Slot) (d : Device) :
    (setSlot key v d).gen = d.gen := rfl
@[simp] theorem setSlot_mem (key : Nat) (v : Slot) (d : Device) :
    (setSlot key v d).mem = d.mem := rfl
@[simp] theorem setSlot_poison (key : Nat) (v : Slot) (d : Device) :
    (setSlot key v d).poison = d.poison := rfl
@[simp] theorem setSlot_marks (key : Nat) (v : Slot) (d : Device) :
    (setSlot key v d).marks = d.marks := rfl
@[simp] theorem setSlot_fresh (key : Nat) (v : Slot) (d : Device) :
    (setSlot key v d).fresh = d.fresh := rfl

/-! ### setReorder -/

@[simp] theorem setReorder_sampleIndex (n : Nat) (l : List Rec) (d : Device) :
    (setReorder n l d).sampleIndex = d.sampleIndex := rfl
@[simp] theorem setReorder_time (n : Nat) (l : List Rec) (d : Device) :
    (setReorder n l d).time = d.time := rfl
@[simp] theorem setReorder_host (n : Nat) (l : List Rec) (d : Device) :
    (setReorder n l d).host = d.host := rfl
@[simp] theorem setReorder_cfg (n : Nat) (l : List Rec) (d : Device) :
    (setReorder n l d).cfg = d.cfg := rfl
@[simp] theorem setReorder_fault (n : Nat) (l : List Rec) (d : Device) :
    (setReorder n l d).fault = d.fault := rfl
@[simp] theorem setReorder_clk (n : Nat) (l : List Rec) (d : Device) :
    (setReorder n l d).clk = d.clk := rfl
@[simp] theorem setReorder_conv (n : Nat) (l : List Rec) (d : Device) :
    (setReorder n l d).conv = d.conv := rfl
@[simp] theorem setReorder_strm (n : Nat) (l : List Rec) (d : Device) :
    (setReorder n l d).strm = d.strm := rfl
@[simp] theorem setReorder_power (n : Nat) (l : List Rec) (d : Device) :
    (setReorder n l d).power = d.power := rfl
@[simp] theorem setReorder_pad (n : Nat) (l : List Rec) (d : Device) :
    (setReorder n l d).pad = d.pad := rfl
@[simp] theorem setReorder_yard (n : Nat) (l : List Rec) (d : Device) :
    (setReorder n l d).yard = d.yard := rfl
@[simp] theorem setReorder_lane (n : Nat) (l : List Rec) (d : Device) :
    (setReorder n l d).lane = d.lane := rfl
@[simp] theorem setReorder_spec (n : Nat) (l : List Rec) (d : Device) :
    (setReorder n l d).spec = d.spec := rfl
@[simp] theorem setReorder_trig (n : Nat) (l : List Rec) (d : Device) :
    (setReorder n l d).trig = d.trig := rfl
@[simp] theorem setReorder_tiu (n : Nat) (l : List Rec) (d : Device) :
    (setReorder n l d).tiu = d.tiu := rfl
@[simp] theorem setReorder_dens (n : Nat) (l : List Rec) (d : Device) :
    (setReorder n l d).dens = d.dens := rfl
@[simp] theorem setReorder_disp (n : Nat) (l : List Rec) (d : Device) :
    (setReorder n l d).disp = d.disp := rfl
@[simp] theorem setReorder_reed (n : Nat) (l : List Rec) (d : Device) :
    (setReorder n l d).reed = d.reed := rfl
@[simp] theorem setReorder_xfer (n : Nat) (l : List Rec) (d : Device) :
    (setReorder n l d).xfer = d.xfer := rfl
@[simp] theorem setReorder_nvme (n : Nat) (l : List Rec) (d : Device) :
    (setReorder n l d).nvme = d.nvme := rfl
@[simp] theorem setReorder_gen (n : Nat) (l : List Rec) (d : Device) :
    (setReorder n l d).gen = d.gen := rfl
@[simp] theorem setReorder_mem (n : Nat) (l : List Rec) (d : Device) :
    (setReorder n l d).mem = d.mem := rfl
@[simp] theorem setReorder_poison (n : Nat) (l : List Rec) (d : Device) :
    (setReorder n l d).poison = d.poison := rfl
@[simp] theorem setReorder_marks (n : Nat) (l : List Rec) (d : Device) :
    (setReorder n l d).marks = d.marks := rfl
@[simp] theorem setReorder_fresh (n : Nat) (l : List Rec) (d : Device) :
    (setReorder n l d).fresh = d.fresh := rfl

/-! ### setKeys -/

@[simp] theorem setKeys_sampleIndex (n : Nat) (l : List RecKey) (d : Device) :
    (setKeys n l d).sampleIndex = d.sampleIndex := rfl
@[simp] theorem setKeys_time (n : Nat) (l : List RecKey) (d : Device) :
    (setKeys n l d).time = d.time := rfl
@[simp] theorem setKeys_host (n : Nat) (l : List RecKey) (d : Device) :
    (setKeys n l d).host = d.host := rfl
@[simp] theorem setKeys_cfg (n : Nat) (l : List RecKey) (d : Device) :
    (setKeys n l d).cfg = d.cfg := rfl
@[simp] theorem setKeys_fault (n : Nat) (l : List RecKey) (d : Device) :
    (setKeys n l d).fault = d.fault := rfl
@[simp] theorem setKeys_clk (n : Nat) (l : List RecKey) (d : Device) :
    (setKeys n l d).clk = d.clk := rfl
@[simp] theorem setKeys_conv (n : Nat) (l : List RecKey) (d : Device) :
    (setKeys n l d).conv = d.conv := rfl
@[simp] theorem setKeys_strm (n : Nat) (l : List RecKey) (d : Device) :
    (setKeys n l d).strm = d.strm := rfl
@[simp] theorem setKeys_power (n : Nat) (l : List RecKey) (d : Device) :
    (setKeys n l d).power = d.power := rfl
@[simp] theorem setKeys_pad (n : Nat) (l : List RecKey) (d : Device) :
    (setKeys n l d).pad = d.pad := rfl
@[simp] theorem setKeys_yard (n : Nat) (l : List RecKey) (d : Device) :
    (setKeys n l d).yard = d.yard := rfl
@[simp] theorem setKeys_lane (n : Nat) (l : List RecKey) (d : Device) :
    (setKeys n l d).lane = d.lane := rfl
@[simp] theorem setKeys_spec (n : Nat) (l : List RecKey) (d : Device) :
    (setKeys n l d).spec = d.spec := rfl
@[simp] theorem setKeys_trig (n : Nat) (l : List RecKey) (d : Device) :
    (setKeys n l d).trig = d.trig := rfl
@[simp] theorem setKeys_tiu (n : Nat) (l : List RecKey) (d : Device) :
    (setKeys n l d).tiu = d.tiu := rfl
@[simp] theorem setKeys_dens (n : Nat) (l : List RecKey) (d : Device) :
    (setKeys n l d).dens = d.dens := rfl
@[simp] theorem setKeys_disp (n : Nat) (l : List RecKey) (d : Device) :
    (setKeys n l d).disp = d.disp := rfl
@[simp] theorem setKeys_reed (n : Nat) (l : List RecKey) (d : Device) :
    (setKeys n l d).reed = d.reed := rfl
@[simp] theorem setKeys_xfer (n : Nat) (l : List RecKey) (d : Device) :
    (setKeys n l d).xfer = d.xfer := rfl
@[simp] theorem setKeys_nvme (n : Nat) (l : List RecKey) (d : Device) :
    (setKeys n l d).nvme = d.nvme := rfl
@[simp] theorem setKeys_gen (n : Nat) (l : List RecKey) (d : Device) :
    (setKeys n l d).gen = d.gen := rfl
@[simp] theorem setKeys_mem (n : Nat) (l : List RecKey) (d : Device) :
    (setKeys n l d).mem = d.mem := rfl
@[simp] theorem setKeys_poison (n : Nat) (l : List RecKey) (d : Device) :
    (setKeys n l d).poison = d.poison := rfl
@[simp] theorem setKeys_marks (n : Nat) (l : List RecKey) (d : Device) :
    (setKeys n l d).marks = d.marks := rfl
@[simp] theorem setKeys_fresh (n : Nat) (l : List RecKey) (d : Device) :
    (setKeys n l d).fresh = d.fresh := rfl

/-! ### setChan -/

@[simp] theorem setChan_sampleIndex (c : Nat) (v : XferChan) (d : Device) :
    (setChan c v d).sampleIndex = d.sampleIndex := rfl
@[simp] theorem setChan_time (c : Nat) (v : XferChan) (d : Device) :
    (setChan c v d).time = d.time := rfl
@[simp] theorem setChan_host (c : Nat) (v : XferChan) (d : Device) :
    (setChan c v d).host = d.host := rfl
@[simp] theorem setChan_cfg (c : Nat) (v : XferChan) (d : Device) :
    (setChan c v d).cfg = d.cfg := rfl
@[simp] theorem setChan_fault (c : Nat) (v : XferChan) (d : Device) :
    (setChan c v d).fault = d.fault := rfl
@[simp] theorem setChan_clk (c : Nat) (v : XferChan) (d : Device) :
    (setChan c v d).clk = d.clk := rfl
@[simp] theorem setChan_conv (c : Nat) (v : XferChan) (d : Device) :
    (setChan c v d).conv = d.conv := rfl
@[simp] theorem setChan_strm (c : Nat) (v : XferChan) (d : Device) :
    (setChan c v d).strm = d.strm := rfl
@[simp] theorem setChan_group (c : Nat) (v : XferChan) (d : Device) :
    (setChan c v d).group = d.group := rfl
@[simp] theorem setChan_power (c : Nat) (v : XferChan) (d : Device) :
    (setChan c v d).power = d.power := rfl
@[simp] theorem setChan_pad (c : Nat) (v : XferChan) (d : Device) :
    (setChan c v d).pad = d.pad := rfl
@[simp] theorem setChan_yard (c : Nat) (v : XferChan) (d : Device) :
    (setChan c v d).yard = d.yard := rfl
@[simp] theorem setChan_lane (c : Nat) (v : XferChan) (d : Device) :
    (setChan c v d).lane = d.lane := rfl
@[simp] theorem setChan_spec (c : Nat) (v : XferChan) (d : Device) :
    (setChan c v d).spec = d.spec := rfl
@[simp] theorem setChan_trig (c : Nat) (v : XferChan) (d : Device) :
    (setChan c v d).trig = d.trig := rfl
@[simp] theorem setChan_tiu (c : Nat) (v : XferChan) (d : Device) :
    (setChan c v d).tiu = d.tiu := rfl
@[simp] theorem setChan_dens (c : Nat) (v : XferChan) (d : Device) :
    (setChan c v d).dens = d.dens := rfl
@[simp] theorem setChan_disp (c : Nat) (v : XferChan) (d : Device) :
    (setChan c v d).disp = d.disp := rfl
@[simp] theorem setChan_reed (c : Nat) (v : XferChan) (d : Device) :
    (setChan c v d).reed = d.reed := rfl
@[simp] theorem setChan_nvme (c : Nat) (v : XferChan) (d : Device) :
    (setChan c v d).nvme = d.nvme := rfl
@[simp] theorem setChan_gen (c : Nat) (v : XferChan) (d : Device) :
    (setChan c v d).gen = d.gen := rfl
@[simp] theorem setChan_mem (c : Nat) (v : XferChan) (d : Device) :
    (setChan c v d).mem = d.mem := rfl
@[simp] theorem setChan_poison (c : Nat) (v : XferChan) (d : Device) :
    (setChan c v d).poison = d.poison := rfl
@[simp] theorem setChan_marks (c : Nat) (v : XferChan) (d : Device) :
    (setChan c v d).marks = d.marks := rfl
@[simp] theorem setChan_fresh (c : Nat) (v : XferChan) (d : Device) :
    (setChan c v d).fresh = d.fresh := rfl

/-! ### setWindow -/

@[simp] theorem setWindow_sampleIndex (w : Nat) (v : TrigWindow) (d : Device) :
    (setWindow w v d).sampleIndex = d.sampleIndex := rfl
@[simp] theorem setWindow_time (w : Nat) (v : TrigWindow) (d : Device) :
    (setWindow w v d).time = d.time := rfl
@[simp] theorem setWindow_host (w : Nat) (v : TrigWindow) (d : Device) :
    (setWindow w v d).host = d.host := rfl
@[simp] theorem setWindow_cfg (w : Nat) (v : TrigWindow) (d : Device) :
    (setWindow w v d).cfg = d.cfg := rfl
@[simp] theorem setWindow_fault (w : Nat) (v : TrigWindow) (d : Device) :
    (setWindow w v d).fault = d.fault := rfl
@[simp] theorem setWindow_clk (w : Nat) (v : TrigWindow) (d : Device) :
    (setWindow w v d).clk = d.clk := rfl
@[simp] theorem setWindow_conv (w : Nat) (v : TrigWindow) (d : Device) :
    (setWindow w v d).conv = d.conv := rfl
@[simp] theorem setWindow_strm (w : Nat) (v : TrigWindow) (d : Device) :
    (setWindow w v d).strm = d.strm := rfl
@[simp] theorem setWindow_group (w : Nat) (v : TrigWindow) (d : Device) :
    (setWindow w v d).group = d.group := rfl
@[simp] theorem setWindow_power (w : Nat) (v : TrigWindow) (d : Device) :
    (setWindow w v d).power = d.power := rfl
@[simp] theorem setWindow_pad (w : Nat) (v : TrigWindow) (d : Device) :
    (setWindow w v d).pad = d.pad := rfl
@[simp] theorem setWindow_yard (w : Nat) (v : TrigWindow) (d : Device) :
    (setWindow w v d).yard = d.yard := rfl
@[simp] theorem setWindow_lane (w : Nat) (v : TrigWindow) (d : Device) :
    (setWindow w v d).lane = d.lane := rfl
@[simp] theorem setWindow_spec (w : Nat) (v : TrigWindow) (d : Device) :
    (setWindow w v d).spec = d.spec := rfl
@[simp] theorem setWindow_tiu (w : Nat) (v : TrigWindow) (d : Device) :
    (setWindow w v d).tiu = d.tiu := rfl
@[simp] theorem setWindow_dens (w : Nat) (v : TrigWindow) (d : Device) :
    (setWindow w v d).dens = d.dens := rfl
@[simp] theorem setWindow_disp (w : Nat) (v : TrigWindow) (d : Device) :
    (setWindow w v d).disp = d.disp := rfl
@[simp] theorem setWindow_reed (w : Nat) (v : TrigWindow) (d : Device) :
    (setWindow w v d).reed = d.reed := rfl
@[simp] theorem setWindow_xfer (w : Nat) (v : TrigWindow) (d : Device) :
    (setWindow w v d).xfer = d.xfer := rfl
@[simp] theorem setWindow_nvme (w : Nat) (v : TrigWindow) (d : Device) :
    (setWindow w v d).nvme = d.nvme := rfl
@[simp] theorem setWindow_gen (w : Nat) (v : TrigWindow) (d : Device) :
    (setWindow w v d).gen = d.gen := rfl
@[simp] theorem setWindow_mem (w : Nat) (v : TrigWindow) (d : Device) :
    (setWindow w v d).mem = d.mem := rfl
@[simp] theorem setWindow_poison (w : Nat) (v : TrigWindow) (d : Device) :
    (setWindow w v d).poison = d.poison := rfl
@[simp] theorem setWindow_marks (w : Nat) (v : TrigWindow) (d : Device) :
    (setWindow w v d).marks = d.marks := rfl
@[simp] theorem setWindow_fresh (w : Nat) (v : TrigWindow) (d : Device) :
    (setWindow w v d).fresh = d.fresh := rfl

/-! ### setTimer -/

@[simp] theorem setTimer_sampleIndex (n : Nat) (v : Option (Nat × Nat)) (d : Device) :
    (setTimer n v d).sampleIndex = d.sampleIndex := rfl
@[simp] theorem setTimer_time (n : Nat) (v : Option (Nat × Nat)) (d : Device) :
    (setTimer n v d).time = d.time := rfl
@[simp] theorem setTimer_host (n : Nat) (v : Option (Nat × Nat)) (d : Device) :
    (setTimer n v d).host = d.host := rfl
@[simp] theorem setTimer_cfg (n : Nat) (v : Option (Nat × Nat)) (d : Device) :
    (setTimer n v d).cfg = d.cfg := rfl
@[simp] theorem setTimer_fault (n : Nat) (v : Option (Nat × Nat)) (d : Device) :
    (setTimer n v d).fault = d.fault := rfl
@[simp] theorem setTimer_clk (n : Nat) (v : Option (Nat × Nat)) (d : Device) :
    (setTimer n v d).clk = d.clk := rfl
@[simp] theorem setTimer_conv (n : Nat) (v : Option (Nat × Nat)) (d : Device) :
    (setTimer n v d).conv = d.conv := rfl
@[simp] theorem setTimer_strm (n : Nat) (v : Option (Nat × Nat)) (d : Device) :
    (setTimer n v d).strm = d.strm := rfl
@[simp] theorem setTimer_group (n : Nat) (v : Option (Nat × Nat)) (d : Device) :
    (setTimer n v d).group = d.group := rfl
@[simp] theorem setTimer_power (n : Nat) (v : Option (Nat × Nat)) (d : Device) :
    (setTimer n v d).power = d.power := rfl
@[simp] theorem setTimer_pad (n : Nat) (v : Option (Nat × Nat)) (d : Device) :
    (setTimer n v d).pad = d.pad := rfl
@[simp] theorem setTimer_yard (n : Nat) (v : Option (Nat × Nat)) (d : Device) :
    (setTimer n v d).yard = d.yard := rfl
@[simp] theorem setTimer_lane (n : Nat) (v : Option (Nat × Nat)) (d : Device) :
    (setTimer n v d).lane = d.lane := rfl
@[simp] theorem setTimer_spec (n : Nat) (v : Option (Nat × Nat)) (d : Device) :
    (setTimer n v d).spec = d.spec := rfl
@[simp] theorem setTimer_tiu (n : Nat) (v : Option (Nat × Nat)) (d : Device) :
    (setTimer n v d).tiu = d.tiu := rfl
@[simp] theorem setTimer_dens (n : Nat) (v : Option (Nat × Nat)) (d : Device) :
    (setTimer n v d).dens = d.dens := rfl
@[simp] theorem setTimer_disp (n : Nat) (v : Option (Nat × Nat)) (d : Device) :
    (setTimer n v d).disp = d.disp := rfl
@[simp] theorem setTimer_reed (n : Nat) (v : Option (Nat × Nat)) (d : Device) :
    (setTimer n v d).reed = d.reed := rfl
@[simp] theorem setTimer_xfer (n : Nat) (v : Option (Nat × Nat)) (d : Device) :
    (setTimer n v d).xfer = d.xfer := rfl
@[simp] theorem setTimer_nvme (n : Nat) (v : Option (Nat × Nat)) (d : Device) :
    (setTimer n v d).nvme = d.nvme := rfl
@[simp] theorem setTimer_gen (n : Nat) (v : Option (Nat × Nat)) (d : Device) :
    (setTimer n v d).gen = d.gen := rfl
@[simp] theorem setTimer_mem (n : Nat) (v : Option (Nat × Nat)) (d : Device) :
    (setTimer n v d).mem = d.mem := rfl
@[simp] theorem setTimer_poison (n : Nat) (v : Option (Nat × Nat)) (d : Device) :
    (setTimer n v d).poison = d.poison := rfl
@[simp] theorem setTimer_marks (n : Nat) (v : Option (Nat × Nat)) (d : Device) :
    (setTimer n v d).marks = d.marks := rfl
@[simp] theorem setTimer_fresh (n : Nat) (v : Option (Nat × Nat)) (d : Device) :
    (setTimer n v d).fresh = d.fresh := rfl

/-! ### setPort -/

@[simp] theorem setPort_sampleIndex (p : Nat) (v : StoragePort) (d : Device) :
    (setPort p v d).sampleIndex = d.sampleIndex := rfl
@[simp] theorem setPort_time (p : Nat) (v : StoragePort) (d : Device) :
    (setPort p v d).time = d.time := rfl
@[simp] theorem setPort_host (p : Nat) (v : StoragePort) (d : Device) :
    (setPort p v d).host = d.host := rfl
@[simp] theorem setPort_cfg (p : Nat) (v : StoragePort) (d : Device) :
    (setPort p v d).cfg = d.cfg := rfl
@[simp] theorem setPort_fault (p : Nat) (v : StoragePort) (d : Device) :
    (setPort p v d).fault = d.fault := rfl
@[simp] theorem setPort_clk (p : Nat) (v : StoragePort) (d : Device) :
    (setPort p v d).clk = d.clk := rfl
@[simp] theorem setPort_conv (p : Nat) (v : StoragePort) (d : Device) :
    (setPort p v d).conv = d.conv := rfl
@[simp] theorem setPort_strm (p : Nat) (v : StoragePort) (d : Device) :
    (setPort p v d).strm = d.strm := rfl
@[simp] theorem setPort_group (p : Nat) (v : StoragePort) (d : Device) :
    (setPort p v d).group = d.group := rfl
@[simp] theorem setPort_power (p : Nat) (v : StoragePort) (d : Device) :
    (setPort p v d).power = d.power := rfl
@[simp] theorem setPort_pad (p : Nat) (v : StoragePort) (d : Device) :
    (setPort p v d).pad = d.pad := rfl
@[simp] theorem setPort_yard (p : Nat) (v : StoragePort) (d : Device) :
    (setPort p v d).yard = d.yard := rfl
@[simp] theorem setPort_lane (p : Nat) (v : StoragePort) (d : Device) :
    (setPort p v d).lane = d.lane := rfl
@[simp] theorem setPort_spec (p : Nat) (v : StoragePort) (d : Device) :
    (setPort p v d).spec = d.spec := rfl
@[simp] theorem setPort_trig (p : Nat) (v : StoragePort) (d : Device) :
    (setPort p v d).trig = d.trig := rfl
@[simp] theorem setPort_tiu (p : Nat) (v : StoragePort) (d : Device) :
    (setPort p v d).tiu = d.tiu := rfl
@[simp] theorem setPort_dens (p : Nat) (v : StoragePort) (d : Device) :
    (setPort p v d).dens = d.dens := rfl
@[simp] theorem setPort_disp (p : Nat) (v : StoragePort) (d : Device) :
    (setPort p v d).disp = d.disp := rfl
@[simp] theorem setPort_reed (p : Nat) (v : StoragePort) (d : Device) :
    (setPort p v d).reed = d.reed := rfl
@[simp] theorem setPort_xfer (p : Nat) (v : StoragePort) (d : Device) :
    (setPort p v d).xfer = d.xfer := rfl
@[simp] theorem setPort_gen (p : Nat) (v : StoragePort) (d : Device) :
    (setPort p v d).gen = d.gen := rfl
@[simp] theorem setPort_mem (p : Nat) (v : StoragePort) (d : Device) :
    (setPort p v d).mem = d.mem := rfl
@[simp] theorem setPort_poison (p : Nat) (v : StoragePort) (d : Device) :
    (setPort p v d).poison = d.poison := rfl
@[simp] theorem setPort_marks (p : Nat) (v : StoragePort) (d : Device) :
    (setPort p v d).marks = d.marks := rfl
@[simp] theorem setPort_fresh (p : Nat) (v : StoragePort) (d : Device) :
    (setPort p v d).fresh = d.fresh := rfl

/-! ### setVolume -/

@[simp] theorem setVolume_sampleIndex (n : Nat) (v : Option Volume) (d : Device) :
    (setVolume n v d).sampleIndex = d.sampleIndex := rfl
@[simp] theorem setVolume_time (n : Nat) (v : Option Volume) (d : Device) :
    (setVolume n v d).time = d.time := rfl
@[simp] theorem setVolume_host (n : Nat) (v : Option Volume) (d : Device) :
    (setVolume n v d).host = d.host := rfl
@[simp] theorem setVolume_cfg (n : Nat) (v : Option Volume) (d : Device) :
    (setVolume n v d).cfg = d.cfg := rfl
@[simp] theorem setVolume_fault (n : Nat) (v : Option Volume) (d : Device) :
    (setVolume n v d).fault = d.fault := rfl
@[simp] theorem setVolume_clk (n : Nat) (v : Option Volume) (d : Device) :
    (setVolume n v d).clk = d.clk := rfl
@[simp] theorem setVolume_conv (n : Nat) (v : Option Volume) (d : Device) :
    (setVolume n v d).conv = d.conv := rfl
@[simp] theorem setVolume_strm (n : Nat) (v : Option Volume) (d : Device) :
    (setVolume n v d).strm = d.strm := rfl
@[simp] theorem setVolume_group (n : Nat) (v : Option Volume) (d : Device) :
    (setVolume n v d).group = d.group := rfl
@[simp] theorem setVolume_power (n : Nat) (v : Option Volume) (d : Device) :
    (setVolume n v d).power = d.power := rfl
@[simp] theorem setVolume_pad (n : Nat) (v : Option Volume) (d : Device) :
    (setVolume n v d).pad = d.pad := rfl
@[simp] theorem setVolume_yard (n : Nat) (v : Option Volume) (d : Device) :
    (setVolume n v d).yard = d.yard := rfl
@[simp] theorem setVolume_lane (n : Nat) (v : Option Volume) (d : Device) :
    (setVolume n v d).lane = d.lane := rfl
@[simp] theorem setVolume_spec (n : Nat) (v : Option Volume) (d : Device) :
    (setVolume n v d).spec = d.spec := rfl
@[simp] theorem setVolume_trig (n : Nat) (v : Option Volume) (d : Device) :
    (setVolume n v d).trig = d.trig := rfl
@[simp] theorem setVolume_tiu (n : Nat) (v : Option Volume) (d : Device) :
    (setVolume n v d).tiu = d.tiu := rfl
@[simp] theorem setVolume_dens (n : Nat) (v : Option Volume) (d : Device) :
    (setVolume n v d).dens = d.dens := rfl
@[simp] theorem setVolume_disp (n : Nat) (v : Option Volume) (d : Device) :
    (setVolume n v d).disp = d.disp := rfl
@[simp] theorem setVolume_reed (n : Nat) (v : Option Volume) (d : Device) :
    (setVolume n v d).reed = d.reed := rfl
@[simp] theorem setVolume_xfer (n : Nat) (v : Option Volume) (d : Device) :
    (setVolume n v d).xfer = d.xfer := rfl
@[simp] theorem setVolume_gen (n : Nat) (v : Option Volume) (d : Device) :
    (setVolume n v d).gen = d.gen := rfl
@[simp] theorem setVolume_mem (n : Nat) (v : Option Volume) (d : Device) :
    (setVolume n v d).mem = d.mem := rfl
@[simp] theorem setVolume_poison (n : Nat) (v : Option Volume) (d : Device) :
    (setVolume n v d).poison = d.poison := rfl
@[simp] theorem setVolume_marks (n : Nat) (v : Option Volume) (d : Device) :
    (setVolume n v d).marks = d.marks := rfl
@[simp] theorem setVolume_fresh (n : Nat) (v : Option Volume) (d : Device) :
    (setVolume n v d).fresh = d.fresh := rfl

/-! ### setYardChannel -/

@[simp] theorem setYardChannel_sampleIndex (n : Nat) (v : YardChannel) (d : Device) :
    (setYardChannel n v d).sampleIndex = d.sampleIndex := rfl
@[simp] theorem setYardChannel_time (n : Nat) (v : YardChannel) (d : Device) :
    (setYardChannel n v d).time = d.time := rfl
@[simp] theorem setYardChannel_host (n : Nat) (v : YardChannel) (d : Device) :
    (setYardChannel n v d).host = d.host := rfl
@[simp] theorem setYardChannel_cfg (n : Nat) (v : YardChannel) (d : Device) :
    (setYardChannel n v d).cfg = d.cfg := rfl
@[simp] theorem setYardChannel_fault (n : Nat) (v : YardChannel) (d : Device) :
    (setYardChannel n v d).fault = d.fault := rfl
@[simp] theorem setYardChannel_clk (n : Nat) (v : YardChannel) (d : Device) :
    (setYardChannel n v d).clk = d.clk := rfl
@[simp] theorem setYardChannel_conv (n : Nat) (v : YardChannel) (d : Device) :
    (setYardChannel n v d).conv = d.conv := rfl
@[simp] theorem setYardChannel_strm (n : Nat) (v : YardChannel) (d : Device) :
    (setYardChannel n v d).strm = d.strm := rfl
@[simp] theorem setYardChannel_group (n : Nat) (v : YardChannel) (d : Device) :
    (setYardChannel n v d).group = d.group := rfl
@[simp] theorem setYardChannel_power (n : Nat) (v : YardChannel) (d : Device) :
    (setYardChannel n v d).power = d.power := rfl
@[simp] theorem setYardChannel_pad (n : Nat) (v : YardChannel) (d : Device) :
    (setYardChannel n v d).pad = d.pad := rfl
@[simp] theorem setYardChannel_lane (n : Nat) (v : YardChannel) (d : Device) :
    (setYardChannel n v d).lane = d.lane := rfl
@[simp] theorem setYardChannel_spec (n : Nat) (v : YardChannel) (d : Device) :
    (setYardChannel n v d).spec = d.spec := rfl
@[simp] theorem setYardChannel_trig (n : Nat) (v : YardChannel) (d : Device) :
    (setYardChannel n v d).trig = d.trig := rfl
@[simp] theorem setYardChannel_tiu (n : Nat) (v : YardChannel) (d : Device) :
    (setYardChannel n v d).tiu = d.tiu := rfl
@[simp] theorem setYardChannel_dens (n : Nat) (v : YardChannel) (d : Device) :
    (setYardChannel n v d).dens = d.dens := rfl
@[simp] theorem setYardChannel_disp (n : Nat) (v : YardChannel) (d : Device) :
    (setYardChannel n v d).disp = d.disp := rfl
@[simp] theorem setYardChannel_reed (n : Nat) (v : YardChannel) (d : Device) :
    (setYardChannel n v d).reed = d.reed := rfl
@[simp] theorem setYardChannel_xfer (n : Nat) (v : YardChannel) (d : Device) :
    (setYardChannel n v d).xfer = d.xfer := rfl
@[simp] theorem setYardChannel_nvme (n : Nat) (v : YardChannel) (d : Device) :
    (setYardChannel n v d).nvme = d.nvme := rfl
@[simp] theorem setYardChannel_gen (n : Nat) (v : YardChannel) (d : Device) :
    (setYardChannel n v d).gen = d.gen := rfl
@[simp] theorem setYardChannel_mem (n : Nat) (v : YardChannel) (d : Device) :
    (setYardChannel n v d).mem = d.mem := rfl
@[simp] theorem setYardChannel_poison (n : Nat) (v : YardChannel) (d : Device) :
    (setYardChannel n v d).poison = d.poison := rfl
@[simp] theorem setYardChannel_marks (n : Nat) (v : YardChannel) (d : Device) :
    (setYardChannel n v d).marks = d.marks := rfl
@[simp] theorem setYardChannel_fresh (n : Nat) (v : YardChannel) (d : Device) :
    (setYardChannel n v d).fresh = d.fresh := rfl

/-! ### setEnv -/

@[simp] theorem setEnv_sampleIndex (u : Nat) (v : EnvUnit) (d : Device) :
    (setEnv u v d).sampleIndex = d.sampleIndex := rfl
@[simp] theorem setEnv_time (u : Nat) (v : EnvUnit) (d : Device) :
    (setEnv u v d).time = d.time := rfl
@[simp] theorem setEnv_host (u : Nat) (v : EnvUnit) (d : Device) :
    (setEnv u v d).host = d.host := rfl
@[simp] theorem setEnv_cfg (u : Nat) (v : EnvUnit) (d : Device) :
    (setEnv u v d).cfg = d.cfg := rfl
@[simp] theorem setEnv_fault (u : Nat) (v : EnvUnit) (d : Device) :
    (setEnv u v d).fault = d.fault := rfl
@[simp] theorem setEnv_clk (u : Nat) (v : EnvUnit) (d : Device) :
    (setEnv u v d).clk = d.clk := rfl
@[simp] theorem setEnv_conv (u : Nat) (v : EnvUnit) (d : Device) :
    (setEnv u v d).conv = d.conv := rfl
@[simp] theorem setEnv_strm (u : Nat) (v : EnvUnit) (d : Device) :
    (setEnv u v d).strm = d.strm := rfl
@[simp] theorem setEnv_group (u : Nat) (v : EnvUnit) (d : Device) :
    (setEnv u v d).group = d.group := rfl
@[simp] theorem setEnv_power (u : Nat) (v : EnvUnit) (d : Device) :
    (setEnv u v d).power = d.power := rfl
@[simp] theorem setEnv_pad (u : Nat) (v : EnvUnit) (d : Device) :
    (setEnv u v d).pad = d.pad := rfl
@[simp] theorem setEnv_yard (u : Nat) (v : EnvUnit) (d : Device) :
    (setEnv u v d).yard = d.yard := rfl
@[simp] theorem setEnv_lane (u : Nat) (v : EnvUnit) (d : Device) :
    (setEnv u v d).lane = d.lane := rfl
@[simp] theorem setEnv_spec (u : Nat) (v : EnvUnit) (d : Device) :
    (setEnv u v d).spec = d.spec := rfl
@[simp] theorem setEnv_tiu (u : Nat) (v : EnvUnit) (d : Device) :
    (setEnv u v d).tiu = d.tiu := rfl
@[simp] theorem setEnv_dens (u : Nat) (v : EnvUnit) (d : Device) :
    (setEnv u v d).dens = d.dens := rfl
@[simp] theorem setEnv_disp (u : Nat) (v : EnvUnit) (d : Device) :
    (setEnv u v d).disp = d.disp := rfl
@[simp] theorem setEnv_reed (u : Nat) (v : EnvUnit) (d : Device) :
    (setEnv u v d).reed = d.reed := rfl
@[simp] theorem setEnv_xfer (u : Nat) (v : EnvUnit) (d : Device) :
    (setEnv u v d).xfer = d.xfer := rfl
@[simp] theorem setEnv_nvme (u : Nat) (v : EnvUnit) (d : Device) :
    (setEnv u v d).nvme = d.nvme := rfl
@[simp] theorem setEnv_gen (u : Nat) (v : EnvUnit) (d : Device) :
    (setEnv u v d).gen = d.gen := rfl
@[simp] theorem setEnv_mem (u : Nat) (v : EnvUnit) (d : Device) :
    (setEnv u v d).mem = d.mem := rfl
@[simp] theorem setEnv_poison (u : Nat) (v : EnvUnit) (d : Device) :
    (setEnv u v d).poison = d.poison := rfl
@[simp] theorem setEnv_marks (u : Nat) (v : EnvUnit) (d : Device) :
    (setEnv u v d).marks = d.marks := rfl
@[simp] theorem setEnv_fresh (u : Nat) (v : EnvUnit) (d : Device) :
    (setEnv u v d).fresh = d.fresh := rfl

/-! ### setFrq -/

@[simp] theorem setFrq_sampleIndex (u : Nat) (v : FrqUnit) (d : Device) :
    (setFrq u v d).sampleIndex = d.sampleIndex := rfl
@[simp] theorem setFrq_time (u : Nat) (v : FrqUnit) (d : Device) :
    (setFrq u v d).time = d.time := rfl
@[simp] theorem setFrq_host (u : Nat) (v : FrqUnit) (d : Device) :
    (setFrq u v d).host = d.host := rfl
@[simp] theorem setFrq_cfg (u : Nat) (v : FrqUnit) (d : Device) :
    (setFrq u v d).cfg = d.cfg := rfl
@[simp] theorem setFrq_fault (u : Nat) (v : FrqUnit) (d : Device) :
    (setFrq u v d).fault = d.fault := rfl
@[simp] theorem setFrq_clk (u : Nat) (v : FrqUnit) (d : Device) :
    (setFrq u v d).clk = d.clk := rfl
@[simp] theorem setFrq_conv (u : Nat) (v : FrqUnit) (d : Device) :
    (setFrq u v d).conv = d.conv := rfl
@[simp] theorem setFrq_strm (u : Nat) (v : FrqUnit) (d : Device) :
    (setFrq u v d).strm = d.strm := rfl
@[simp] theorem setFrq_group (u : Nat) (v : FrqUnit) (d : Device) :
    (setFrq u v d).group = d.group := rfl
@[simp] theorem setFrq_power (u : Nat) (v : FrqUnit) (d : Device) :
    (setFrq u v d).power = d.power := rfl
@[simp] theorem setFrq_pad (u : Nat) (v : FrqUnit) (d : Device) :
    (setFrq u v d).pad = d.pad := rfl
@[simp] theorem setFrq_yard (u : Nat) (v : FrqUnit) (d : Device) :
    (setFrq u v d).yard = d.yard := rfl
@[simp] theorem setFrq_lane (u : Nat) (v : FrqUnit) (d : Device) :
    (setFrq u v d).lane = d.lane := rfl
@[simp] theorem setFrq_spec (u : Nat) (v : FrqUnit) (d : Device) :
    (setFrq u v d).spec = d.spec := rfl
@[simp] theorem setFrq_tiu (u : Nat) (v : FrqUnit) (d : Device) :
    (setFrq u v d).tiu = d.tiu := rfl
@[simp] theorem setFrq_dens (u : Nat) (v : FrqUnit) (d : Device) :
    (setFrq u v d).dens = d.dens := rfl
@[simp] theorem setFrq_disp (u : Nat) (v : FrqUnit) (d : Device) :
    (setFrq u v d).disp = d.disp := rfl
@[simp] theorem setFrq_reed (u : Nat) (v : FrqUnit) (d : Device) :
    (setFrq u v d).reed = d.reed := rfl
@[simp] theorem setFrq_xfer (u : Nat) (v : FrqUnit) (d : Device) :
    (setFrq u v d).xfer = d.xfer := rfl
@[simp] theorem setFrq_nvme (u : Nat) (v : FrqUnit) (d : Device) :
    (setFrq u v d).nvme = d.nvme := rfl
@[simp] theorem setFrq_gen (u : Nat) (v : FrqUnit) (d : Device) :
    (setFrq u v d).gen = d.gen := rfl
@[simp] theorem setFrq_mem (u : Nat) (v : FrqUnit) (d : Device) :
    (setFrq u v d).mem = d.mem := rfl
@[simp] theorem setFrq_poison (u : Nat) (v : FrqUnit) (d : Device) :
    (setFrq u v d).poison = d.poison := rfl
@[simp] theorem setFrq_marks (u : Nat) (v : FrqUnit) (d : Device) :
    (setFrq u v d).marks = d.marks := rfl
@[simp] theorem setFrq_fresh (u : Nat) (v : FrqUnit) (d : Device) :
    (setFrq u v d).fresh = d.fresh := rfl

/-! ### takeFresh -/

@[simp] theorem takeFresh_sampleIndex (d : Device) :
    (takeFresh d).sampleIndex = d.sampleIndex := rfl
@[simp] theorem takeFresh_time (d : Device) :
    (takeFresh d).time = d.time := rfl
@[simp] theorem takeFresh_host (d : Device) :
    (takeFresh d).host = d.host := rfl
@[simp] theorem takeFresh_cfg (d : Device) :
    (takeFresh d).cfg = d.cfg := rfl
@[simp] theorem takeFresh_fault (d : Device) :
    (takeFresh d).fault = d.fault := rfl
@[simp] theorem takeFresh_clk (d : Device) :
    (takeFresh d).clk = d.clk := rfl
@[simp] theorem takeFresh_conv (d : Device) :
    (takeFresh d).conv = d.conv := rfl
@[simp] theorem takeFresh_strm (d : Device) :
    (takeFresh d).strm = d.strm := rfl
@[simp] theorem takeFresh_group (d : Device) :
    (takeFresh d).group = d.group := rfl
@[simp] theorem takeFresh_power (d : Device) :
    (takeFresh d).power = d.power := rfl
@[simp] theorem takeFresh_pad (d : Device) :
    (takeFresh d).pad = d.pad := rfl
@[simp] theorem takeFresh_yard (d : Device) :
    (takeFresh d).yard = d.yard := rfl
@[simp] theorem takeFresh_lane (d : Device) :
    (takeFresh d).lane = d.lane := rfl
@[simp] theorem takeFresh_spec (d : Device) :
    (takeFresh d).spec = d.spec := rfl
@[simp] theorem takeFresh_trig (d : Device) :
    (takeFresh d).trig = d.trig := rfl
@[simp] theorem takeFresh_tiu (d : Device) :
    (takeFresh d).tiu = d.tiu := rfl
@[simp] theorem takeFresh_dens (d : Device) :
    (takeFresh d).dens = d.dens := rfl
@[simp] theorem takeFresh_disp (d : Device) :
    (takeFresh d).disp = d.disp := rfl
@[simp] theorem takeFresh_reed (d : Device) :
    (takeFresh d).reed = d.reed := rfl
@[simp] theorem takeFresh_xfer (d : Device) :
    (takeFresh d).xfer = d.xfer := rfl
@[simp] theorem takeFresh_nvme (d : Device) :
    (takeFresh d).nvme = d.nvme := rfl
@[simp] theorem takeFresh_gen (d : Device) :
    (takeFresh d).gen = d.gen := rfl
@[simp] theorem takeFresh_mem (d : Device) :
    (takeFresh d).mem = d.mem := rfl
@[simp] theorem takeFresh_poison (d : Device) :
    (takeFresh d).poison = d.poison := rfl
@[simp] theorem takeFresh_marks (d : Device) :
    (takeFresh d).marks = d.marks := rfl

/-! ### memWrite -/

@[simp] theorem memWrite_sampleIndex (a : Nat) (bs : List Byte) (d : Device) :
    (memWrite a bs d).sampleIndex = d.sampleIndex := rfl
@[simp] theorem memWrite_time (a : Nat) (bs : List Byte) (d : Device) :
    (memWrite a bs d).time = d.time := rfl
@[simp] theorem memWrite_host (a : Nat) (bs : List Byte) (d : Device) :
    (memWrite a bs d).host = d.host := rfl
@[simp] theorem memWrite_cfg (a : Nat) (bs : List Byte) (d : Device) :
    (memWrite a bs d).cfg = d.cfg := rfl
@[simp] theorem memWrite_fault (a : Nat) (bs : List Byte) (d : Device) :
    (memWrite a bs d).fault = d.fault := rfl
@[simp] theorem memWrite_clk (a : Nat) (bs : List Byte) (d : Device) :
    (memWrite a bs d).clk = d.clk := rfl
@[simp] theorem memWrite_conv (a : Nat) (bs : List Byte) (d : Device) :
    (memWrite a bs d).conv = d.conv := rfl
@[simp] theorem memWrite_strm (a : Nat) (bs : List Byte) (d : Device) :
    (memWrite a bs d).strm = d.strm := rfl
@[simp] theorem memWrite_group (a : Nat) (bs : List Byte) (d : Device) :
    (memWrite a bs d).group = d.group := rfl
@[simp] theorem memWrite_power (a : Nat) (bs : List Byte) (d : Device) :
    (memWrite a bs d).power = d.power := rfl
@[simp] theorem memWrite_pad (a : Nat) (bs : List Byte) (d : Device) :
    (memWrite a bs d).pad = d.pad := rfl
@[simp] theorem memWrite_yard (a : Nat) (bs : List Byte) (d : Device) :
    (memWrite a bs d).yard = d.yard := rfl
@[simp] theorem memWrite_lane (a : Nat) (bs : List Byte) (d : Device) :
    (memWrite a bs d).lane = d.lane := rfl
@[simp] theorem memWrite_spec (a : Nat) (bs : List Byte) (d : Device) :
    (memWrite a bs d).spec = d.spec := rfl
@[simp] theorem memWrite_trig (a : Nat) (bs : List Byte) (d : Device) :
    (memWrite a bs d).trig = d.trig := rfl
@[simp] theorem memWrite_tiu (a : Nat) (bs : List Byte) (d : Device) :
    (memWrite a bs d).tiu = d.tiu := rfl
@[simp] theorem memWrite_dens (a : Nat) (bs : List Byte) (d : Device) :
    (memWrite a bs d).dens = d.dens := rfl
@[simp] theorem memWrite_disp (a : Nat) (bs : List Byte) (d : Device) :
    (memWrite a bs d).disp = d.disp := rfl
@[simp] theorem memWrite_reed (a : Nat) (bs : List Byte) (d : Device) :
    (memWrite a bs d).reed = d.reed := rfl
@[simp] theorem memWrite_xfer (a : Nat) (bs : List Byte) (d : Device) :
    (memWrite a bs d).xfer = d.xfer := rfl
@[simp] theorem memWrite_nvme (a : Nat) (bs : List Byte) (d : Device) :
    (memWrite a bs d).nvme = d.nvme := rfl
@[simp] theorem memWrite_gen (a : Nat) (bs : List Byte) (d : Device) :
    (memWrite a bs d).gen = d.gen := rfl
@[simp] theorem memWrite_marks (a : Nat) (bs : List Byte) (d : Device) :
    (memWrite a bs d).marks = d.marks := rfl
@[simp] theorem memWrite_fresh (a : Nat) (bs : List Byte) (d : Device) :
    (memWrite a bs d).fresh = d.fresh := rfl

/-! ### stage -/

@[simp] theorem stage_sampleIndex (key : Nat) (v : Int) (d : Device) :
    (stage key v d).sampleIndex = d.sampleIndex := rfl
@[simp] theorem stage_time (key : Nat) (v : Int) (d : Device) :
    (stage key v d).time = d.time := rfl
@[simp] theorem stage_host (key : Nat) (v : Int) (d : Device) :
    (stage key v d).host = d.host := rfl
@[simp] theorem stage_fault (key : Nat) (v : Int) (d : Device) :
    (stage key v d).fault = d.fault := rfl
@[simp] theorem stage_clk (key : Nat) (v : Int) (d : Device) :
    (stage key v d).clk = d.clk := rfl
@[simp] theorem stage_conv (key : Nat) (v : Int) (d : Device) :
    (stage key v d).conv = d.conv := rfl
@[simp] theorem stage_strm (key : Nat) (v : Int) (d : Device) :
    (stage key v d).strm = d.strm := rfl
@[simp] theorem stage_group (key : Nat) (v : Int) (d : Device) :
    (stage key v d).group = d.group := rfl
@[simp] theorem stage_power (key : Nat) (v : Int) (d : Device) :
    (stage key v d).power = d.power := rfl
@[simp] theorem stage_pad (key : Nat) (v : Int) (d : Device) :
    (stage key v d).pad = d.pad := rfl
@[simp] theorem stage_yard (key : Nat) (v : Int) (d : Device) :
    (stage key v d).yard = d.yard := rfl
@[simp] theorem stage_lane (key : Nat) (v : Int) (d : Device) :
    (stage key v d).lane = d.lane := rfl
@[simp] theorem stage_spec (key : Nat) (v : Int) (d : Device) :
    (stage key v d).spec = d.spec := rfl
@[simp] theorem stage_trig (key : Nat) (v : Int) (d : Device) :
    (stage key v d).trig = d.trig := rfl
@[simp] theorem stage_tiu (key : Nat) (v : Int) (d : Device) :
    (stage key v d).tiu = d.tiu := rfl
@[simp] theorem stage_dens (key : Nat) (v : Int) (d : Device) :
    (stage key v d).dens = d.dens := rfl
@[simp] theorem stage_disp (key : Nat) (v : Int) (d : Device) :
    (stage key v d).disp = d.disp := rfl
@[simp] theorem stage_reed (key : Nat) (v : Int) (d : Device) :
    (stage key v d).reed = d.reed := rfl
@[simp] theorem stage_xfer (key : Nat) (v : Int) (d : Device) :
    (stage key v d).xfer = d.xfer := rfl
@[simp] theorem stage_nvme (key : Nat) (v : Int) (d : Device) :
    (stage key v d).nvme = d.nvme := rfl
@[simp] theorem stage_gen (key : Nat) (v : Int) (d : Device) :
    (stage key v d).gen = d.gen := rfl
@[simp] theorem stage_mem (key : Nat) (v : Int) (d : Device) :
    (stage key v d).mem = d.mem := rfl
@[simp] theorem stage_poison (key : Nat) (v : Int) (d : Device) :
    (stage key v d).poison = d.poison := rfl
@[simp] theorem stage_marks (key : Nat) (v : Int) (d : Device) :
    (stage key v d).marks = d.marks := rfl
@[simp] theorem stage_fresh (key : Nat) (v : Int) (d : Device) :
    (stage key v d).fresh = d.fresh := rfl

/-! ### noteMarks -/

@[simp] theorem noteMarks_sampleIndex (d : Device) :
    (noteMarks d).sampleIndex = d.sampleIndex := rfl
@[simp] theorem noteMarks_time (d : Device) :
    (noteMarks d).time = d.time := rfl
@[simp] theorem noteMarks_host (d : Device) :
    (noteMarks d).host = d.host := rfl
@[simp] theorem noteMarks_cfg (d : Device) :
    (noteMarks d).cfg = d.cfg := rfl
@[simp] theorem noteMarks_fault (d : Device) :
    (noteMarks d).fault = d.fault := rfl
@[simp] theorem noteMarks_clk (d : Device) :
    (noteMarks d).clk = d.clk := rfl
@[simp] theorem noteMarks_conv (d : Device) :
    (noteMarks d).conv = d.conv := rfl
@[simp] theorem noteMarks_strm (d : Device) :
    (noteMarks d).strm = d.strm := rfl
@[simp] theorem noteMarks_group (d : Device) :
    (noteMarks d).group = d.group := rfl
@[simp] theorem noteMarks_power (d : Device) :
    (noteMarks d).power = d.power := rfl
@[simp] theorem noteMarks_pad (d : Device) :
    (noteMarks d).pad = d.pad := rfl
@[simp] theorem noteMarks_yard (d : Device) :
    (noteMarks d).yard = d.yard := rfl
@[simp] theorem noteMarks_lane (d : Device) :
    (noteMarks d).lane = d.lane := rfl
@[simp] theorem noteMarks_spec (d : Device) :
    (noteMarks d).spec = d.spec := rfl
@[simp] theorem noteMarks_trig (d : Device) :
    (noteMarks d).trig = d.trig := rfl
@[simp] theorem noteMarks_tiu (d : Device) :
    (noteMarks d).tiu = d.tiu := rfl
@[simp] theorem noteMarks_dens (d : Device) :
    (noteMarks d).dens = d.dens := rfl
@[simp] theorem noteMarks_disp (d : Device) :
    (noteMarks d).disp = d.disp := rfl
@[simp] theorem noteMarks_reed (d : Device) :
    (noteMarks d).reed = d.reed := rfl
@[simp] theorem noteMarks_xfer (d : Device) :
    (noteMarks d).xfer = d.xfer := rfl
@[simp] theorem noteMarks_nvme (d : Device) :
    (noteMarks d).nvme = d.nvme := rfl
@[simp] theorem noteMarks_gen (d : Device) :
    (noteMarks d).gen = d.gen := rfl
@[simp] theorem noteMarks_mem (d : Device) :
    (noteMarks d).mem = d.mem := rfl
@[simp] theorem noteMarks_poison (d : Device) :
    (noteMarks d).poison = d.poison := rfl
@[simp] theorem noteMarks_fresh (d : Device) :
    (noteMarks d).fresh = d.fresh := rfl

/-! ### dropFlight -/

@[simp] theorem dropFlight_sampleIndex (t : Nat) (d : Device) :
    (dropFlight t d).sampleIndex = d.sampleIndex := rfl
@[simp] theorem dropFlight_time (t : Nat) (d : Device) :
    (dropFlight t d).time = d.time := rfl
@[simp] theorem dropFlight_cfg (t : Nat) (d : Device) :
    (dropFlight t d).cfg = d.cfg := rfl
@[simp] theorem dropFlight_fault (t : Nat) (d : Device) :
    (dropFlight t d).fault = d.fault := rfl
@[simp] theorem dropFlight_clk (t : Nat) (d : Device) :
    (dropFlight t d).clk = d.clk := rfl
@[simp] theorem dropFlight_conv (t : Nat) (d : Device) :
    (dropFlight t d).conv = d.conv := rfl
@[simp] theorem dropFlight_strm (t : Nat) (d : Device) :
    (dropFlight t d).strm = d.strm := rfl
@[simp] theorem dropFlight_group (t : Nat) (d : Device) :
    (dropFlight t d).group = d.group := rfl
@[simp] theorem dropFlight_power (t : Nat) (d : Device) :
    (dropFlight t d).power = d.power := rfl
@[simp] theorem dropFlight_pad (t : Nat) (d : Device) :
    (dropFlight t d).pad = d.pad := rfl
@[simp] theorem dropFlight_yard (t : Nat) (d : Device) :
    (dropFlight t d).yard = d.yard := rfl
@[simp] theorem dropFlight_lane (t : Nat) (d : Device) :
    (dropFlight t d).lane = d.lane := rfl
@[simp] theorem dropFlight_spec (t : Nat) (d : Device) :
    (dropFlight t d).spec = d.spec := rfl
@[simp] theorem dropFlight_trig (t : Nat) (d : Device) :
    (dropFlight t d).trig = d.trig := rfl
@[simp] theorem dropFlight_tiu (t : Nat) (d : Device) :
    (dropFlight t d).tiu = d.tiu := rfl
@[simp] theorem dropFlight_dens (t : Nat) (d : Device) :
    (dropFlight t d).dens = d.dens := rfl
@[simp] theorem dropFlight_disp (t : Nat) (d : Device) :
    (dropFlight t d).disp = d.disp := rfl
@[simp] theorem dropFlight_reed (t : Nat) (d : Device) :
    (dropFlight t d).reed = d.reed := rfl
@[simp] theorem dropFlight_xfer (t : Nat) (d : Device) :
    (dropFlight t d).xfer = d.xfer := rfl
@[simp] theorem dropFlight_nvme (t : Nat) (d : Device) :
    (dropFlight t d).nvme = d.nvme := rfl
@[simp] theorem dropFlight_gen (t : Nat) (d : Device) :
    (dropFlight t d).gen = d.gen := rfl
@[simp] theorem dropFlight_mem (t : Nat) (d : Device) :
    (dropFlight t d).mem = d.mem := rfl
@[simp] theorem dropFlight_poison (t : Nat) (d : Device) :
    (dropFlight t d).poison = d.poison := rfl
@[simp] theorem dropFlight_marks (t : Nat) (d : Device) :
    (dropFlight t d).marks = d.marks := rfl
@[simp] theorem dropFlight_fresh (t : Nat) (d : Device) :
    (dropFlight t d).fresh = d.fresh := rfl

/-! ### setFaultRecord -/

@[simp] theorem setFaultRecord_sampleIndex (cls : Nat) (r : Option FaultEntry) (d : Device) :
    (setFaultRecord cls r d).sampleIndex = d.sampleIndex := by unfold setFaultRecord; split <;> rfl
@[simp] theorem setFaultRecord_time (cls : Nat) (r : Option FaultEntry) (d : Device) :
    (setFaultRecord cls r d).time = d.time := by unfold setFaultRecord; split <;> rfl
@[simp] theorem setFaultRecord_host (cls : Nat) (r : Option FaultEntry) (d : Device) :
    (setFaultRecord cls r d).host = d.host := by unfold setFaultRecord; split <;> rfl
@[simp] theorem setFaultRecord_cfg (cls : Nat) (r : Option FaultEntry) (d : Device) :
    (setFaultRecord cls r d).cfg = d.cfg := by unfold setFaultRecord; split <;> rfl
@[simp] theorem setFaultRecord_clk (cls : Nat) (r : Option FaultEntry) (d : Device) :
    (setFaultRecord cls r d).clk = d.clk := by unfold setFaultRecord; split <;> rfl
@[simp] theorem setFaultRecord_conv (cls : Nat) (r : Option FaultEntry) (d : Device) :
    (setFaultRecord cls r d).conv = d.conv := by unfold setFaultRecord; split <;> rfl
@[simp] theorem setFaultRecord_strm (cls : Nat) (r : Option FaultEntry) (d : Device) :
    (setFaultRecord cls r d).strm = d.strm := by unfold setFaultRecord; split <;> rfl
@[simp] theorem setFaultRecord_group (cls : Nat) (r : Option FaultEntry) (d : Device) :
    (setFaultRecord cls r d).group = d.group := by unfold setFaultRecord; split <;> rfl
@[simp] theorem setFaultRecord_power (cls : Nat) (r : Option FaultEntry) (d : Device) :
    (setFaultRecord cls r d).power = d.power := by unfold setFaultRecord; split <;> rfl
@[simp] theorem setFaultRecord_pad (cls : Nat) (r : Option FaultEntry) (d : Device) :
    (setFaultRecord cls r d).pad = d.pad := by unfold setFaultRecord; split <;> rfl
@[simp] theorem setFaultRecord_yard (cls : Nat) (r : Option FaultEntry) (d : Device) :
    (setFaultRecord cls r d).yard = d.yard := by unfold setFaultRecord; split <;> rfl
@[simp] theorem setFaultRecord_lane (cls : Nat) (r : Option FaultEntry) (d : Device) :
    (setFaultRecord cls r d).lane = d.lane := by unfold setFaultRecord; split <;> rfl
@[simp] theorem setFaultRecord_spec (cls : Nat) (r : Option FaultEntry) (d : Device) :
    (setFaultRecord cls r d).spec = d.spec := by unfold setFaultRecord; split <;> rfl
@[simp] theorem setFaultRecord_trig (cls : Nat) (r : Option FaultEntry) (d : Device) :
    (setFaultRecord cls r d).trig = d.trig := by unfold setFaultRecord; split <;> rfl
@[simp] theorem setFaultRecord_tiu (cls : Nat) (r : Option FaultEntry) (d : Device) :
    (setFaultRecord cls r d).tiu = d.tiu := by unfold setFaultRecord; split <;> rfl
@[simp] theorem setFaultRecord_dens (cls : Nat) (r : Option FaultEntry) (d : Device) :
    (setFaultRecord cls r d).dens = d.dens := by unfold setFaultRecord; split <;> rfl
@[simp] theorem setFaultRecord_disp (cls : Nat) (r : Option FaultEntry) (d : Device) :
    (setFaultRecord cls r d).disp = d.disp := by unfold setFaultRecord; split <;> rfl
@[simp] theorem setFaultRecord_reed (cls : Nat) (r : Option FaultEntry) (d : Device) :
    (setFaultRecord cls r d).reed = d.reed := by unfold setFaultRecord; split <;> rfl
@[simp] theorem setFaultRecord_xfer (cls : Nat) (r : Option FaultEntry) (d : Device) :
    (setFaultRecord cls r d).xfer = d.xfer := by unfold setFaultRecord; split <;> rfl
@[simp] theorem setFaultRecord_nvme (cls : Nat) (r : Option FaultEntry) (d : Device) :
    (setFaultRecord cls r d).nvme = d.nvme := by unfold setFaultRecord; split <;> rfl
@[simp] theorem setFaultRecord_gen (cls : Nat) (r : Option FaultEntry) (d : Device) :
    (setFaultRecord cls r d).gen = d.gen := by unfold setFaultRecord; split <;> rfl
@[simp] theorem setFaultRecord_mem (cls : Nat) (r : Option FaultEntry) (d : Device) :
    (setFaultRecord cls r d).mem = d.mem := by unfold setFaultRecord; split <;> rfl
@[simp] theorem setFaultRecord_poison (cls : Nat) (r : Option FaultEntry) (d : Device) :
    (setFaultRecord cls r d).poison = d.poison := by unfold setFaultRecord; split <;> rfl
@[simp] theorem setFaultRecord_marks (cls : Nat) (r : Option FaultEntry) (d : Device) :
    (setFaultRecord cls r d).marks = d.marks := by unfold setFaultRecord; split <;> rfl
@[simp] theorem setFaultRecord_fresh (cls : Nat) (r : Option FaultEntry) (d : Device) :
    (setFaultRecord cls r d).fresh = d.fresh := by unfold setFaultRecord; split <;> rfl

end Sys2Proof.Laws
end

