-- ==== Sys2Proof/Laws/Frames.lean ====
section
/-! SUPPORT. What each shared operation can change: one lemma per operation. Everything else of the device stays. -/

namespace Sys2Proof.Laws

open Sys2Proof Sys2Proof.Machine

/-- An MSI-X signal sets a PBA bit or writes its message into host memory. -/
theorem signalVector_frame (v : Nat) (d : Device) :
    ∃ h m p, signalVector v d = { d with host := h, mem := m, poison := p } := by
  unfold signalVector
  split
  · exact ⟨_, d.mem, d.poison, rfl⟩
  · exact ⟨d.host, _, _, rfl⟩

theorem countEntry_frame (ci : Nat) (d : Device) : ∃ h m p, countEntry ci d = { d with host := h, mem := m, poison := p } := by
  unfold countEntry
  dsimp only
  split
  · obtain ⟨h, m, p, e⟩ := signalVector_frame (cplQueue d ci).vector (setCplQueue ci { cplQueue d ci with unsignalled := 0 } d)
    exact ⟨h, m, p, by rw [e]; rfl⟩
  · exact ⟨_, d.mem, d.poison, rfl⟩

theorem writeSlot_frame (ci : Nat) (bs : List Byte) (d : Device) :
    ∃ h m p, writeSlot ci bs d = { d with host := h, mem := m, poison := p } := by
  obtain ⟨h, m, p, e⟩ := countEntry_frame ci (setCplQueue ci { cplQueue d ci with
      tail := ((cplQueue d ci).tail + 1) % (cplQueue d ci).entries
      phase := if ((cplQueue d ci).tail + 1) % (cplQueue d ci).entries == 0 then !(cplQueue d ci).phase else (cplQueue d ci).phase }
    (memWrite ((cplQueue d ci).base + 32 * (cplQueue d ci).tail) (withPhase bs (cplQueue d ci).phase) d))
  exact ⟨h, m, p, e⟩

theorem dropFlightOpt_frame (t : Option Nat) (d : Device) : ∃ h, dropFlightOpt t d = { d with host := h } := by
  cases t
  · exact ⟨d.host, rfl⟩
  · exact ⟨_, rfl⟩

/-- An entry reaches its completion queue, or waits in the CP. -/
theorem postRaw_frame (ci : Nat) (e : WaitingEntry) (d : Device) :
    ∃ h m p, postRaw ci e d = { d with host := h, mem := m, poison := p } := by
  unfold postRaw
  dsimp only
  split
  · obtain ⟨h, x⟩ := dropFlightOpt_frame e.frees d
    exact ⟨h, d.mem, d.poison, x⟩
  · split
    · obtain ⟨h, m, p, x⟩ := writeSlot_frame ci e.bytes d
      obtain ⟨h', y⟩ := dropFlightOpt_frame e.frees (writeSlot ci e.bytes d)
      exact ⟨h', m, p, by rw [y, x]⟩
    · split <;> exact ⟨_, d.mem, d.poison, rfl⟩

/-- An event sets its pending bit, and reaches a completion queue or signals a vector. -/
theorem raiseEvent_frame (a b c e : Nat) (d : Device) :
    ∃ h f m p, raiseEvent a b c e d = { d with host := h, fault := f, mem := m, poison := p } := by
  unfold raiseEvent
  dsimp only
  split
  · exact ⟨d.host, d.fault, d.mem, d.poison, rfl⟩
  · generalize eg : (if ((eventMap d a).alert || (eventMap d a).mode == 2) = true then setEventPending a d else d) = d1
    have h1 : ∃ f, d1 = { d with fault := f } := by
      subst eg
      split
      · exact ⟨_, rfl⟩
      · exact ⟨d.fault, rfl⟩
    obtain ⟨f, rfl⟩ := h1
    split
    · obtain ⟨h, m, p, x⟩ := postRaw_frame (eventMap d a).target
        { bytes := eventBytes a b d.time c e, frees := none, event := some (a, b) } { d with fault := f }
      exact ⟨h, f, m, p, x⟩
    · split
      · obtain ⟨h, m, p, x⟩ := signalVector_frame (eventMap d a).target { d with fault := f }
        exact ⟨h, f, m, p, x⟩
      · exact ⟨d.host, f, d.mem, d.poison, rfl⟩

/-- A fault message changes the collector only. -/
theorem raiseFault_frame (m : FaultMsg) (d : Device) : ∃ f, raiseFault m d = { d with fault := f } := by
  unfold raiseFault
  split <;> exact ⟨_, rfl⟩

theorem countForwarded_frame (f : TxFrame) (d : Device) : ∃ g, countForwarded f d = { d with group := g } := by
  unfold countForwarded
  split
  · exact ⟨_, rfl⟩
  · exact ⟨d.group, rfl⟩

theorem sendFrame_frame (f : TxFrame) (d : Device) : ∃ g, sendFrame f d = { d with group := g } := by
  unfold sendFrame
  split
  · split
    · exact ⟨_, rfl⟩
    · obtain ⟨g, x⟩ := countForwarded_frame f d
      rw [x]
      exact ⟨_, rfl⟩
  · split
    · exact ⟨_, rfl⟩
    · exact ⟨d.group, rfl⟩

/-- A message of the Shunis link changes the group's part only. -/
theorem sendMsg_frame (dest : Nat) (m : Msg) (d : Device) : ∃ g, sendMsg dest m d = { d with group := g } := by
  obtain ⟨g, x⟩ := sendFrame_frame
    { seq := 0, dest := dest, vc := msgVc m, e2e := tget 0 d.group.e2eTx (dest * 4 + msgVc m), msg := some m, source := d.group.id, payload := [] }
    { d with group := { d.group with
        e2eTx := tset 0 d.group.e2eTx (dest * 4 + msgVc m) ((tget 0 d.group.e2eTx (dest * 4 + msgVc m) + 1) % 65536) } }
  exact ⟨g, x⟩

theorem postCompletion_frame (p : Packet) (st : Status) (reply : List Byte) (o : Nat) (i fr : Bool) (d : Device) :
    ∃ h m q, postCompletion p st reply o i fr d = { d with host := h, mem := m, poison := q } := by
  unfold postCompletion
  dsimp only
  generalize eg : (if (decide (20 < reply.length) && p.replyAddr != 0) = true then memWrite p.replyAddr (padTo reply 256) d else d) = d1
  have h1 : ∃ m q, d1 = { d with mem := m, poison := q } := by
    subst eg
    split
    · exact ⟨_, _, rfl⟩
    · exact ⟨d.mem, d.poison, rfl⟩
  obtain ⟨m, q, rfl⟩ := h1
  obtain ⟨h', m', q', x⟩ := postRaw_frame (subQueue d (queueOf p)).cq _ { d with mem := m, poison := q }
  exact ⟨h', m', q', x⟩

theorem settleDeletes_frame (d : Device) :
    ∃ h a m q, settleDeletes d = { d with host := h, pad := a, mem := m, poison := q } := by
  unfold settleDeletes
  generalize deletable d = l
  have key : ∀ (l : List (Nat × Packet)) (x : Device), (∃ h a m q, x = { d with host := h, pad := a, mem := m, poison := q }) →
      ∃ h a m q, l.foldl (fun d e =>
        postCompletion e.2 .ok [] (originId { setSubQueue e.1 {} d with pad := { (setSubQueue e.1 {} d).pad with
          sessions := tset 0 (setSubQueue e.1 {} d).pad.sessions e.1 0, nonces := tset none (setSubQueue e.1 {} d).pad.nonces e.1 none } })
          false true { setSubQueue e.1 {} d with pad := { (setSubQueue e.1 {} d).pad with
          sessions := tset 0 (setSubQueue e.1 {} d).pad.sessions e.1 0, nonces := tset none (setSubQueue e.1 {} d).pad.nonces e.1 none } }) x
        = { d with host := h, pad := a, mem := m, poison := q } := by
    intro l
    induction l with
    | nil => intro x h; exact h
    | cons e l ih =>
      intro x ⟨h, a, m, q, hx⟩
      refine ih _ ?_
      subst hx
      obtain ⟨h', m', q', y⟩ := postCompletion_frame e.2 .ok [] (originId d) false true
        { d with host := (setSubQueue e.1 {} { d with host := h, pad := a, mem := m, poison := q }).host
                 pad := { a with sessions := tset 0 a.sessions e.1 0, nonces := tset none a.nonces e.1 none }, mem := m, poison := q }
      exact ⟨h', _, m', q', y⟩
  exact key l d ⟨d.host, d.pad, d.mem, d.poison, rfl⟩

/-- A final entry changes the queues, the group's part (for a command of another member), the sessions of deleted queues and memory. -/
theorem finish_frame (p : Packet) (st : Status) (reply : List Byte) (d : Device) :
    ∃ h g a m q, finish p st reply d = { d with host := h, group := g, pad := a, mem := m, poison := q } := by
  unfold finish
  split
  · exact ⟨_, d.group, d.pad, d.mem, d.poison, rfl⟩
  · rename_i dev _ _ _
    obtain ⟨g, x⟩ := sendMsg_frame dev (.cpl p.tag.toNat (statusCode st) reply)
      { d with group := { d.group with forwardedRunning := d.group.forwardedRunning - 1 } }
    exact ⟨d.host, g, d.pad, d.mem, d.poison, x⟩
  · exact ⟨d.host, d.group, d.pad, d.mem, d.poison, rfl⟩
  · split
    · exact ⟨_, d.group, d.pad, d.mem, d.poison, rfl⟩
    · obtain ⟨h, m, q, x⟩ := postCompletion_frame p st reply (originId d) false true d
      obtain ⟨h', a', m', q', y⟩ := settleDeletes_frame (postCompletion p st reply (originId d) false true d)
      rw [x] at y
      exact ⟨h', d.group, a', m', q', by rw [x, y]⟩

theorem complete_frame (p : Packet) (st : Status) (reply : List Byte) (d : Device) :
    ∃ h g a m q, complete p st reply d = { d with host := h, group := g, pad := a, mem := m, poison := q } := by
  unfold complete
  split
  · exact finish_frame p st reply d
  · dsimp only
    split
    · obtain ⟨h, g, a, m, q, x⟩ := finish_frame p st reply { d with group := { d.group with awaiting := d.group.awaiting.erase _ } }
      exact ⟨h, g, a, m, q, x⟩
    · exact ⟨d.host, _, d.pad, d.mem, d.poison, rfl⟩

/-- Parking a command writes its interim entry at most. -/
theorem park_frame (p : Packet) (d : Device) : ∃ h m q, park p d = { d with host := h, mem := m, poison := q } := by
  unfold park
  split
  · exact postCompletion_frame p .pending [] (originId d) true false d
  · exact ⟨d.host, d.mem, d.poison, rfl⟩

/-! ### raiseEvent, part by part -/

@[simp] theorem raiseEvent_sampleIndex (a b c e : Nat) (d : Device) :
    (raiseEvent a b c e d).sampleIndex = d.sampleIndex := by
  obtain ⟨_, _, _, _, h⟩ := raiseEvent_frame a b c e d; rw [h]
@[simp] theorem raiseEvent_time (a b c e : Nat) (d : Device) :
    (raiseEvent a b c e d).time = d.time := by
  obtain ⟨_, _, _, _, h⟩ := raiseEvent_frame a b c e d; rw [h]
@[simp] theorem raiseEvent_cfg (a b c e : Nat) (d : Device) :
    (raiseEvent a b c e d).cfg = d.cfg := by
  obtain ⟨_, _, _, _, h⟩ := raiseEvent_frame a b c e d; rw [h]
@[simp] theorem raiseEvent_clk (a b c e : Nat) (d : Device) :
    (raiseEvent a b c e d).clk = d.clk := by
  obtain ⟨_, _, _, _, h⟩ := raiseEvent_frame a b c e d; rw [h]
@[simp] theorem raiseEvent_conv (a b c e : Nat) (d : Device) :
    (raiseEvent a b c e d).conv = d.conv := by
  obtain ⟨_, _, _, _, h⟩ := raiseEvent_frame a b c e d; rw [h]
@[simp] theorem raiseEvent_strm (a b c e : Nat) (d : Device) :
    (raiseEvent a b c e d).strm = d.strm := by
  obtain ⟨_, _, _, _, h⟩ := raiseEvent_frame a b c e d; rw [h]
@[simp] theorem raiseEvent_group (a b c e : Nat) (d : Device) :
    (raiseEvent a b c e d).group = d.group := by
  obtain ⟨_, _, _, _, h⟩ := raiseEvent_frame a b c e d; rw [h]
@[simp] theorem raiseEvent_power (a b c e : Nat) (d : Device) :
    (raiseEvent a b c e d).power = d.power := by
  obtain ⟨_, _, _, _, h⟩ := raiseEvent_frame a b c e d; rw [h]
@[simp] theorem raiseEvent_pad (a b c e : Nat) (d : Device) :
    (raiseEvent a b c e d).pad = d.pad := by
  obtain ⟨_, _, _, _, h⟩ := raiseEvent_frame a b c e d; rw [h]
@[simp] theorem raiseEvent_yard (a b c e : Nat) (d : Device) :
    (raiseEvent a b c e d).yard = d.yard := by
  obtain ⟨_, _, _, _, h⟩ := raiseEvent_frame a b c e d; rw [h]
@[simp] theorem raiseEvent_lane (a b c e : Nat) (d : Device) :
    (raiseEvent a b c e d).lane = d.lane := by
  obtain ⟨_, _, _, _, h⟩ := raiseEvent_frame a b c e d; rw [h]
@[simp] theorem raiseEvent_spec (a b c e : Nat) (d : Device) :
    (raiseEvent a b c e d).spec = d.spec := by
  obtain ⟨_, _, _, _, h⟩ := raiseEvent_frame a b c e d; rw [h]
@[simp] theorem raiseEvent_trig (a b c e : Nat) (d : Device) :
    (raiseEvent a b c e d).trig = d.trig := by
  obtain ⟨_, _, _, _, h⟩ := raiseEvent_frame a b c e d; rw [h]
@[simp] theorem raiseEvent_tiu (a b c e : Nat) (d : Device) :
    (raiseEvent a b c e d).tiu = d.tiu := by
  obtain ⟨_, _, _, _, h⟩ := raiseEvent_frame a b c e d; rw [h]
@[simp] theorem raiseEvent_dens (a b c e : Nat) (d : Device) :
    (raiseEvent a b c e d).dens = d.dens := by
  obtain ⟨_, _, _, _, h⟩ := raiseEvent_frame a b c e d; rw [h]
@[simp] theorem raiseEvent_disp (a b c e : Nat) (d : Device) :
    (raiseEvent a b c e d).disp = d.disp := by
  obtain ⟨_, _, _, _, h⟩ := raiseEvent_frame a b c e d; rw [h]
@[simp] theorem raiseEvent_reed (a b c e : Nat) (d : Device) :
    (raiseEvent a b c e d).reed = d.reed := by
  obtain ⟨_, _, _, _, h⟩ := raiseEvent_frame a b c e d; rw [h]
@[simp] theorem raiseEvent_xfer (a b c e : Nat) (d : Device) :
    (raiseEvent a b c e d).xfer = d.xfer := by
  obtain ⟨_, _, _, _, h⟩ := raiseEvent_frame a b c e d; rw [h]
@[simp] theorem raiseEvent_nvme (a b c e : Nat) (d : Device) :
    (raiseEvent a b c e d).nvme = d.nvme := by
  obtain ⟨_, _, _, _, h⟩ := raiseEvent_frame a b c e d; rw [h]
@[simp] theorem raiseEvent_gen (a b c e : Nat) (d : Device) :
    (raiseEvent a b c e d).gen = d.gen := by
  obtain ⟨_, _, _, _, h⟩ := raiseEvent_frame a b c e d; rw [h]
@[simp] theorem raiseEvent_marks (a b c e : Nat) (d : Device) :
    (raiseEvent a b c e d).marks = d.marks := by
  obtain ⟨_, _, _, _, h⟩ := raiseEvent_frame a b c e d; rw [h]
@[simp] theorem raiseEvent_fresh (a b c e : Nat) (d : Device) :
    (raiseEvent a b c e d).fresh = d.fresh := by
  obtain ⟨_, _, _, _, h⟩ := raiseEvent_frame a b c e d; rw [h]

/-! ### raiseFault, part by part -/

@[simp] theorem raiseFault_sampleIndex (m : FaultMsg) (d : Device) :
    (raiseFault m d).sampleIndex = d.sampleIndex := by
  obtain ⟨_, h⟩ := raiseFault_frame m d; rw [h]
@[simp] theorem raiseFault_time (m : FaultMsg) (d : Device) :
    (raiseFault m d).time = d.time := by
  obtain ⟨_, h⟩ := raiseFault_frame m d; rw [h]
@[simp] theorem raiseFault_host (m : FaultMsg) (d : Device) :
    (raiseFault m d).host = d.host := by
  obtain ⟨_, h⟩ := raiseFault_frame m d; rw [h]
@[simp] theorem raiseFault_cfg (m : FaultMsg) (d : Device) :
    (raiseFault m d).cfg = d.cfg := by
  obtain ⟨_, h⟩ := raiseFault_frame m d; rw [h]
@[simp] theorem raiseFault_clk (m : FaultMsg) (d : Device) :
    (raiseFault m d).clk = d.clk := by
  obtain ⟨_, h⟩ := raiseFault_frame m d; rw [h]
@[simp] theorem raiseFault_conv (m : FaultMsg) (d : Device) :
    (raiseFault m d).conv = d.conv := by
  obtain ⟨_, h⟩ := raiseFault_frame m d; rw [h]
@[simp] theorem raiseFault_strm (m : FaultMsg) (d : Device) :
    (raiseFault m d).strm = d.strm := by
  obtain ⟨_, h⟩ := raiseFault_frame m d; rw [h]
@[simp] theorem raiseFault_group (m : FaultMsg) (d : Device) :
    (raiseFault m d).group = d.group := by
  obtain ⟨_, h⟩ := raiseFault_frame m d; rw [h]
@[simp] theorem raiseFault_power (m : FaultMsg) (d : Device) :
    (raiseFault m d).power = d.power := by
  obtain ⟨_, h⟩ := raiseFault_frame m d; rw [h]
@[simp] theorem raiseFault_pad (m : FaultMsg) (d : Device) :
    (raiseFault m d).pad = d.pad := by
  obtain ⟨_, h⟩ := raiseFault_frame m d; rw [h]
@[simp] theorem raiseFault_yard (m : FaultMsg) (d : Device) :
    (raiseFault m d).yard = d.yard := by
  obtain ⟨_, h⟩ := raiseFault_frame m d; rw [h]
@[simp] theorem raiseFault_lane (m : FaultMsg) (d : Device) :
    (raiseFault m d).lane = d.lane := by
  obtain ⟨_, h⟩ := raiseFault_frame m d; rw [h]
@[simp] theorem raiseFault_spec (m : FaultMsg) (d : Device) :
    (raiseFault m d).spec = d.spec := by
  obtain ⟨_, h⟩ := raiseFault_frame m d; rw [h]
@[simp] theorem raiseFault_trig (m : FaultMsg) (d : Device) :
    (raiseFault m d).trig = d.trig := by
  obtain ⟨_, h⟩ := raiseFault_frame m d; rw [h]
@[simp] theorem raiseFault_tiu (m : FaultMsg) (d : Device) :
    (raiseFault m d).tiu = d.tiu := by
  obtain ⟨_, h⟩ := raiseFault_frame m d; rw [h]
@[simp] theorem raiseFault_dens (m : FaultMsg) (d : Device) :
    (raiseFault m d).dens = d.dens := by
  obtain ⟨_, h⟩ := raiseFault_frame m d; rw [h]
@[simp] theorem raiseFault_disp (m : FaultMsg) (d : Device) :
    (raiseFault m d).disp = d.disp := by
  obtain ⟨_, h⟩ := raiseFault_frame m d; rw [h]
@[simp] theorem raiseFault_reed (m : FaultMsg) (d : Device) :
    (raiseFault m d).reed = d.reed := by
  obtain ⟨_, h⟩ := raiseFault_frame m d; rw [h]
@[simp] theorem raiseFault_xfer (m : FaultMsg) (d : Device) :
    (raiseFault m d).xfer = d.xfer := by
  obtain ⟨_, h⟩ := raiseFault_frame m d; rw [h]
@[simp] theorem raiseFault_nvme (m : FaultMsg) (d : Device) :
    (raiseFault m d).nvme = d.nvme := by
  obtain ⟨_, h⟩ := raiseFault_frame m d; rw [h]
@[simp] theorem raiseFault_gen (m : FaultMsg) (d : Device) :
    (raiseFault m d).gen = d.gen := by
  obtain ⟨_, h⟩ := raiseFault_frame m d; rw [h]
@[simp] theorem raiseFault_mem (m : FaultMsg) (d : Device) :
    (raiseFault m d).mem = d.mem := by
  obtain ⟨_, h⟩ := raiseFault_frame m d; rw [h]
@[simp] theorem raiseFault_poison (m : FaultMsg) (d : Device) :
    (raiseFault m d).poison = d.poison := by
  obtain ⟨_, h⟩ := raiseFault_frame m d; rw [h]
@[simp] theorem raiseFault_marks (m : FaultMsg) (d : Device) :
    (raiseFault m d).marks = d.marks := by
  obtain ⟨_, h⟩ := raiseFault_frame m d; rw [h]
@[simp] theorem raiseFault_fresh (m : FaultMsg) (d : Device) :
    (raiseFault m d).fresh = d.fresh := by
  obtain ⟨_, h⟩ := raiseFault_frame m d; rw [h]

/-! ### sendMsg, part by part -/

@[simp] theorem sendMsg_sampleIndex (n : Nat) (m : Msg) (d : Device) :
    (sendMsg n m d).sampleIndex = d.sampleIndex := by
  obtain ⟨_, h⟩ := sendMsg_frame n m d; rw [h]
@[simp] theorem sendMsg_time (n : Nat) (m : Msg) (d : Device) :
    (sendMsg n m d).time = d.time := by
  obtain ⟨_, h⟩ := sendMsg_frame n m d; rw [h]
@[simp] theorem sendMsg_host (n : Nat) (m : Msg) (d : Device) :
    (sendMsg n m d).host = d.host := by
  obtain ⟨_, h⟩ := sendMsg_frame n m d; rw [h]
@[simp] theorem sendMsg_cfg (n : Nat) (m : Msg) (d : Device) :
    (sendMsg n m d).cfg = d.cfg := by
  obtain ⟨_, h⟩ := sendMsg_frame n m d; rw [h]
@[simp] theorem sendMsg_fault (n : Nat) (m : Msg) (d : Device) :
    (sendMsg n m d).fault = d.fault := by
  obtain ⟨_, h⟩ := sendMsg_frame n m d; rw [h]
@[simp] theorem sendMsg_clk (n : Nat) (m : Msg) (d : Device) :
    (sendMsg n m d).clk = d.clk := by
  obtain ⟨_, h⟩ := sendMsg_frame n m d; rw [h]
@[simp] theorem sendMsg_conv (n : Nat) (m : Msg) (d : Device) :
    (sendMsg n m d).conv = d.conv := by
  obtain ⟨_, h⟩ := sendMsg_frame n m d; rw [h]
@[simp] theorem sendMsg_strm (n : Nat) (m : Msg) (d : Device) :
    (sendMsg n m d).strm = d.strm := by
  obtain ⟨_, h⟩ := sendMsg_frame n m d; rw [h]
@[simp] theorem sendMsg_power (n : Nat) (m : Msg) (d : Device) :
    (sendMsg n m d).power = d.power := by
  obtain ⟨_, h⟩ := sendMsg_frame n m d; rw [h]
@[simp] theorem sendMsg_pad (n : Nat) (m : Msg) (d : Device) :
    (sendMsg n m d).pad = d.pad := by
  obtain ⟨_, h⟩ := sendMsg_frame n m d; rw [h]
@[simp] theorem sendMsg_yard (n : Nat) (m : Msg) (d : Device) :
    (sendMsg n m d).yard = d.yard := by
  obtain ⟨_, h⟩ := sendMsg_frame n m d; rw [h]
@[simp] theorem sendMsg_lane (n : Nat) (m : Msg) (d : Device) :
    (sendMsg n m d).lane = d.lane := by
  obtain ⟨_, h⟩ := sendMsg_frame n m d; rw [h]
@[simp] theorem sendMsg_spec (n : Nat) (m : Msg) (d : Device) :
    (sendMsg n m d).spec = d.spec := by
  obtain ⟨_, h⟩ := sendMsg_frame n m d; rw [h]
@[simp] theorem sendMsg_trig (n : Nat) (m : Msg) (d : Device) :
    (sendMsg n m d).trig = d.trig := by
  obtain ⟨_, h⟩ := sendMsg_frame n m d; rw [h]
@[simp] theorem sendMsg_tiu (n : Nat) (m : Msg) (d : Device) :
    (sendMsg n m d).tiu = d.tiu := by
  obtain ⟨_, h⟩ := sendMsg_frame n m d; rw [h]
@[simp] theorem sendMsg_dens (n : Nat) (m : Msg) (d : Device) :
    (sendMsg n m d).dens = d.dens := by
  obtain ⟨_, h⟩ := sendMsg_frame n m d; rw [h]
@[simp] theorem sendMsg_disp (n : Nat) (m : Msg) (d : Device) :
    (sendMsg n m d).disp = d.disp := by
  obtain ⟨_, h⟩ := sendMsg_frame n m d; rw [h]
@[simp] theorem sendMsg_reed (n : Nat) (m : Msg) (d : Device) :
    (sendMsg n m d).reed = d.reed := by
  obtain ⟨_, h⟩ := sendMsg_frame n m d; rw [h]
@[simp] theorem sendMsg_xfer (n : Nat) (m : Msg) (d : Device) :
    (sendMsg n m d).xfer = d.xfer := by
  obtain ⟨_, h⟩ := sendMsg_frame n m d; rw [h]
@[simp] theorem sendMsg_nvme (n : Nat) (m : Msg) (d : Device) :
    (sendMsg n m d).nvme = d.nvme := by
  obtain ⟨_, h⟩ := sendMsg_frame n m d; rw [h]
@[simp] theorem sendMsg_gen (n : Nat) (m : Msg) (d : Device) :
    (sendMsg n m d).gen = d.gen := by
  obtain ⟨_, h⟩ := sendMsg_frame n m d; rw [h]
@[simp] theorem sendMsg_mem (n : Nat) (m : Msg) (d : Device) :
    (sendMsg n m d).mem = d.mem := by
  obtain ⟨_, h⟩ := sendMsg_frame n m d; rw [h]
@[simp] theorem sendMsg_poison (n : Nat) (m : Msg) (d : Device) :
    (sendMsg n m d).poison = d.poison := by
  obtain ⟨_, h⟩ := sendMsg_frame n m d; rw [h]
@[simp] theorem sendMsg_marks (n : Nat) (m : Msg) (d : Device) :
    (sendMsg n m d).marks = d.marks := by
  obtain ⟨_, h⟩ := sendMsg_frame n m d; rw [h]
@[simp] theorem sendMsg_fresh (n : Nat) (m : Msg) (d : Device) :
    (sendMsg n m d).fresh = d.fresh := by
  obtain ⟨_, h⟩ := sendMsg_frame n m d; rw [h]

/-! ### park, part by part -/

@[simp] theorem park_sampleIndex (p : Packet) (d : Device) :
    (park p d).sampleIndex = d.sampleIndex := by
  obtain ⟨_, _, _, h⟩ := park_frame p d; rw [h]
@[simp] theorem park_time (p : Packet) (d : Device) :
    (park p d).time = d.time := by
  obtain ⟨_, _, _, h⟩ := park_frame p d; rw [h]
@[simp] theorem park_cfg (p : Packet) (d : Device) :
    (park p d).cfg = d.cfg := by
  obtain ⟨_, _, _, h⟩ := park_frame p d; rw [h]
@[simp] theorem park_fault (p : Packet) (d : Device) :
    (park p d).fault = d.fault := by
  obtain ⟨_, _, _, h⟩ := park_frame p d; rw [h]
@[simp] theorem park_clk (p : Packet) (d : Device) :
    (park p d).clk = d.clk := by
  obtain ⟨_, _, _, h⟩ := park_frame p d; rw [h]
@[simp] theorem park_conv (p : Packet) (d : Device) :
    (park p d).conv = d.conv := by
  obtain ⟨_, _, _, h⟩ := park_frame p d; rw [h]
@[simp] theorem park_strm (p : Packet) (d : Device) :
    (park p d).strm = d.strm := by
  obtain ⟨_, _, _, h⟩ := park_frame p d; rw [h]
@[simp] theorem park_group (p : Packet) (d : Device) :
    (park p d).group = d.group := by
  obtain ⟨_, _, _, h⟩ := park_frame p d; rw [h]
@[simp] theorem park_power (p : Packet) (d : Device) :
    (park p d).power = d.power := by
  obtain ⟨_, _, _, h⟩ := park_frame p d; rw [h]
@[simp] theorem park_pad (p : Packet) (d : Device) :
    (park p d).pad = d.pad := by
  obtain ⟨_, _, _, h⟩ := park_frame p d; rw [h]
@[simp] theorem park_yard (p : Packet) (d : Device) :
    (park p d).yard = d.yard := by
  obtain ⟨_, _, _, h⟩ := park_frame p d; rw [h]
@[simp] theorem park_lane (p : Packet) (d : Device) :
    (park p d).lane = d.lane := by
  obtain ⟨_, _, _, h⟩ := park_frame p d; rw [h]
@[simp] theorem park_spec (p : Packet) (d : Device) :
    (park p d).spec = d.spec := by
  obtain ⟨_, _, _, h⟩ := park_frame p d; rw [h]
@[simp] theorem park_trig (p : Packet) (d : Device) :
    (park p d).trig = d.trig := by
  obtain ⟨_, _, _, h⟩ := park_frame p d; rw [h]
@[simp] theorem park_tiu (p : Packet) (d : Device) :
    (park p d).tiu = d.tiu := by
  obtain ⟨_, _, _, h⟩ := park_frame p d; rw [h]
@[simp] theorem park_dens (p : Packet) (d : Device) :
    (park p d).dens = d.dens := by
  obtain ⟨_, _, _, h⟩ := park_frame p d; rw [h]
@[simp] theorem park_disp (p : Packet) (d : Device) :
    (park p d).disp = d.disp := by
  obtain ⟨_, _, _, h⟩ := park_frame p d; rw [h]
@[simp] theorem park_reed (p : Packet) (d : Device) :
    (park p d).reed = d.reed := by
  obtain ⟨_, _, _, h⟩ := park_frame p d; rw [h]
@[simp] theorem park_xfer (p : Packet) (d : Device) :
    (park p d).xfer = d.xfer := by
  obtain ⟨_, _, _, h⟩ := park_frame p d; rw [h]
@[simp] theorem park_nvme (p : Packet) (d : Device) :
    (park p d).nvme = d.nvme := by
  obtain ⟨_, _, _, h⟩ := park_frame p d; rw [h]
@[simp] theorem park_gen (p : Packet) (d : Device) :
    (park p d).gen = d.gen := by
  obtain ⟨_, _, _, h⟩ := park_frame p d; rw [h]
@[simp] theorem park_marks (p : Packet) (d : Device) :
    (park p d).marks = d.marks := by
  obtain ⟨_, _, _, h⟩ := park_frame p d; rw [h]
@[simp] theorem park_fresh (p : Packet) (d : Device) :
    (park p d).fresh = d.fresh := by
  obtain ⟨_, _, _, h⟩ := park_frame p d; rw [h]

/-! ### complete, part by part -/

@[simp] theorem complete_sampleIndex (p : Packet) (st : Status) (r : List Byte) (d : Device) :
    (complete p st r d).sampleIndex = d.sampleIndex := by
  obtain ⟨_, _, _, _, _, h⟩ := complete_frame p st r d; rw [h]
@[simp] theorem complete_time (p : Packet) (st : Status) (r : List Byte) (d : Device) :
    (complete p st r d).time = d.time := by
  obtain ⟨_, _, _, _, _, h⟩ := complete_frame p st r d; rw [h]
@[simp] theorem complete_cfg (p : Packet) (st : Status) (r : List Byte) (d : Device) :
    (complete p st r d).cfg = d.cfg := by
  obtain ⟨_, _, _, _, _, h⟩ := complete_frame p st r d; rw [h]
@[simp] theorem complete_fault (p : Packet) (st : Status) (r : List Byte) (d : Device) :
    (complete p st r d).fault = d.fault := by
  obtain ⟨_, _, _, _, _, h⟩ := complete_frame p st r d; rw [h]
@[simp] theorem complete_clk (p : Packet) (st : Status) (r : List Byte) (d : Device) :
    (complete p st r d).clk = d.clk := by
  obtain ⟨_, _, _, _, _, h⟩ := complete_frame p st r d; rw [h]
@[simp] theorem complete_conv (p : Packet) (st : Status) (r : List Byte) (d : Device) :
    (complete p st r d).conv = d.conv := by
  obtain ⟨_, _, _, _, _, h⟩ := complete_frame p st r d; rw [h]
@[simp] theorem complete_strm (p : Packet) (st : Status) (r : List Byte) (d : Device) :
    (complete p st r d).strm = d.strm := by
  obtain ⟨_, _, _, _, _, h⟩ := complete_frame p st r d; rw [h]
@[simp] theorem complete_power (p : Packet) (st : Status) (r : List Byte) (d : Device) :
    (complete p st r d).power = d.power := by
  obtain ⟨_, _, _, _, _, h⟩ := complete_frame p st r d; rw [h]
@[simp] theorem complete_yard (p : Packet) (st : Status) (r : List Byte) (d : Device) :
    (complete p st r d).yard = d.yard := by
  obtain ⟨_, _, _, _, _, h⟩ := complete_frame p st r d; rw [h]
@[simp] theorem complete_lane (p : Packet) (st : Status) (r : List Byte) (d : Device) :
    (complete p st r d).lane = d.lane := by
  obtain ⟨_, _, _, _, _, h⟩ := complete_frame p st r d; rw [h]
@[simp] theorem complete_spec (p : Packet) (st : Status) (r : List Byte) (d : Device) :
    (complete p st r d).spec = d.spec := by
  obtain ⟨_, _, _, _, _, h⟩ := complete_frame p st r d; rw [h]
@[simp] theorem complete_trig (p : Packet) (st : Status) (r : List Byte) (d : Device) :
    (complete p st r d).trig = d.trig := by
  obtain ⟨_, _, _, _, _, h⟩ := complete_frame p st r d; rw [h]
@[simp] theorem complete_tiu (p : Packet) (st : Status) (r : List Byte) (d : Device) :
    (complete p st r d).tiu = d.tiu := by
  obtain ⟨_, _, _, _, _, h⟩ := complete_frame p st r d; rw [h]
@[simp] theorem complete_dens (p : Packet) (st : Status) (r : List Byte) (d : Device) :
    (complete p st r d).dens = d.dens := by
  obtain ⟨_, _, _, _, _, h⟩ := complete_frame p st r d; rw [h]
@[simp] theorem complete_disp (p : Packet) (st : Status) (r : List Byte) (d : Device) :
    (complete p st r d).disp = d.disp := by
  obtain ⟨_, _, _, _, _, h⟩ := complete_frame p st r d; rw [h]
@[simp] theorem complete_reed (p : Packet) (st : Status) (r : List Byte) (d : Device) :
    (complete p st r d).reed = d.reed := by
  obtain ⟨_, _, _, _, _, h⟩ := complete_frame p st r d; rw [h]
@[simp] theorem complete_xfer (p : Packet) (st : Status) (r : List Byte) (d : Device) :
    (complete p st r d).xfer = d.xfer := by
  obtain ⟨_, _, _, _, _, h⟩ := complete_frame p st r d; rw [h]
@[simp] theorem complete_nvme (p : Packet) (st : Status) (r : List Byte) (d : Device) :
    (complete p st r d).nvme = d.nvme := by
  obtain ⟨_, _, _, _, _, h⟩ := complete_frame p st r d; rw [h]
@[simp] theorem complete_gen (p : Packet) (st : Status) (r : List Byte) (d : Device) :
    (complete p st r d).gen = d.gen := by
  obtain ⟨_, _, _, _, _, h⟩ := complete_frame p st r d; rw [h]
@[simp] theorem complete_marks (p : Packet) (st : Status) (r : List Byte) (d : Device) :
    (complete p st r d).marks = d.marks := by
  obtain ⟨_, _, _, _, _, h⟩ := complete_frame p st r d; rw [h]
@[simp] theorem complete_fresh (p : Packet) (st : Status) (r : List Byte) (d : Device) :
    (complete p st r d).fresh = d.fresh := by
  obtain ⟨_, _, _, _, _, h⟩ := complete_frame p st r d; rw [h]

end Sys2Proof.Laws
end

