-- ==== Sys2Proof/Laws/Tables.lean ====
section
/-! SUPPORT. Laws of the tables that hold sparse data (memory, registers, marks), of folds over commands, and of bytes. -/

namespace Sys2Proof.Laws

open Sys2Proof.Machine

/-- A fold whose every step leaves the value as it is. -/
theorem foldl_fixed {α β : Type} (f : β → α → β) (b : β) : ∀ l : List α, (∀ x ∈ l, f b x = b) → l.foldl f b = b
  | [], _ => rfl
  | x :: xs, h => by
    rw [List.foldl, h x (by simp)]
    exact foldl_fixed f b xs (fun y hy => h y (by simp [hy]))

/-- What a step of a fold keeps, the fold keeps. -/
theorem foldl_keeps {α β : Type} (P : β → Prop) (f : β → α → β) : ∀ (l : List α) (b : β), P b → (∀ b, P b → ∀ x ∈ l, P (f b x)) →
    P (l.foldl f b)
  | [], _, h, _ => h
  | x :: xs, b, h, k =>
    foldl_keeps P f xs (f b x) (k b h x (by simp)) (fun c hc y hy => k c hc y (by simp [hy]))

/-- Another index is not touched by a set. -/
theorem tget_tset_other {α : Type} [DecidableEq α] (z v : α) {i j : Nat} (h : i ≠ j) : ∀ t : Table α, tget z (tset z t i v) j = tget z t j
  | [] => by
    unfold tset
    split <;> simp [tget, h]
  | (k, w) :: t => by
    unfold tset
    by_cases hk : k = i
    · subst hk
      simp only [beq_self_eq_true, if_true]
      split <;> simp [tget, h]
    · simp only [beq_iff_eq, hk, if_false]
      split
      · split <;> simp [tget, h]
      · simp [tget, tget_tset_other z v h t]

/-- A value other than the unlisted one is read back. -/
theorem tget_tset_new {α : Type} [DecidableEq α] (z v : α) (i : Nat) (h : v ≠ z) : ∀ t : Table α, tget z (tset z t i v) i = v
  | [] => by simp [tset, h, tget]
  | (k, w) :: t => by
    unfold tset
    by_cases hk : k = i
    · subst hk
      simp [h, tget]
    · simp only [beq_iff_eq, hk, if_false]
      split
      · simp [tget]
      · simp [tget, hk, tget_tset_new z v i h t]

/-! ### Bytes (R5) -/

@[simp] theorem leBytes_length : ∀ n v : Nat, (leBytes n v).length = n
  | 0, _ => rfl
  | n + 1, v => by simp [leBytes, leBytes_length n]

/-- The number that the bytes of a number spell. -/
theorem leNat_leBytes : ∀ n v : Nat, leNat (leBytes n v) = v % 256 ^ n
  | 0, v => by simp [leBytes, leNat, Nat.mod_one]
  | n + 1, v => by
    simp only [leBytes, leNat, leNat_leBytes n, BitVec.toNat_ofNat]
    have h : v % 256 ^ (n + 1) = v % 256 + 256 * (v / 256 % 256 ^ n) := by rw [Nat.pow_succ', Nat.mod_mul]
    rw [h]

end Sys2Proof.Laws
end

