-- ==== Sys2Proof/Laws/Marks.lean ====
section
/-! SUPPORT. The high-water marks behind a command (R23). -/

namespace Sys2Proof.Laws

open Sys2Proof.Machine Sys2Proof.Safety

/-- Noting marks lowers none, and each stall it names ends at or below its own. -/
theorem mark_fold (d : Device) : ∀ (l : List (Nat × Nat)) (t : Table Nat),
    (∀ k, tget 0 t k ≤ tget 0 (l.foldl (fun t s => if tget 0 t (markKey s) < stallOccupancy d s.1 s.2 then
        tset 0 t (markKey s) (stallOccupancy d s.1 s.2) else t) t) k)
    ∧ ∀ x ∈ l, stallOccupancy d x.1 x.2 ≤ tget 0 (l.foldl (fun t s => if tget 0 t (markKey s) < stallOccupancy d s.1 s.2 then
        tset 0 t (markKey s) (stallOccupancy d s.1 s.2) else t) t) (markKey x)
  | [], t => ⟨fun _ => Nat.le_refl _, by simp⟩
  | y :: l, t => by
    have step : ∀ k, tget 0 t k ≤ tget 0 (if tget 0 t (markKey y) < stallOccupancy d y.1 y.2 then
        tset 0 t (markKey y) (stallOccupancy d y.1 y.2) else t) k := by
      intro k
      split
      · rename_i h
        by_cases e : k = markKey y
        · subst e; rw [tget_tset_new 0 _ _ (by omega)]; omega
        · exact Nat.le_of_eq (tget_tset_other 0 _ (Ne.symm e) t).symm
      · exact Nat.le_refl _
    have own : stallOccupancy d y.1 y.2 ≤ tget 0 (if tget 0 t (markKey y) < stallOccupancy d y.1 y.2 then
        tset 0 t (markKey y) (stallOccupancy d y.1 y.2) else t) (markKey y) := by
      split
      · exact Nat.le_of_eq (tget_tset_new 0 _ _ (by omega) t).symm
      · omega
    obtain ⟨ih1, ih2⟩ := mark_fold d l (if tget 0 t (markKey y) < stallOccupancy d y.1 y.2 then
        tset 0 t (markKey y) (stallOccupancy d y.1 y.2) else t)
    refine ⟨fun k => Nat.le_trans (step k) (ih1 k), ?_⟩
    intro x hx
    rcases List.mem_cons.1 hx with rfl | hx
    · exact Nat.le_trans own (ih1 _)
    · exact ih2 x hx

theorem allStalls_marks (d : Device) (m : Table Nat) : allStalls { d with marks := m } = allStalls d := by
  have h : stallInstances { d with marks := m } = stallInstances d := by funext i; rfl
  unfold allStalls; rw [h]

theorem stallOccupancy_marks (d : Device) (m : Table Nat) : stallOccupancy { d with marks := m } = stallOccupancy d := by
  funext i j; rfl

end Sys2Proof.Laws
end

