-- ==== Sys2Proof/Laws/Memory.lean ====
section
/-! SUPPORT. Memory keeps its canonical form under every operation that changes it, and a byte reads back as it was written. -/

namespace Sys2Proof.Laws

open Sys2Proof.Machine Sys2Proof.Safety

/-! ### Sparse tables -/

theorem tableWfFrom_mono {α : Type} [DecidableEq α] (z : α) {lo lo' : Nat} (h : lo' ≤ lo) : ∀ t : Table α, tableWfFrom z lo t = true →
    tableWfFrom z lo' t = true
  | [], _ => rfl
  | (j, v) :: t, k => by
    simp only [tableWfFrom, Bool.and_eq_true, decide_eq_true_eq] at *
    exact ⟨⟨by omega, k.1.2⟩, k.2⟩

/-- A set keeps the canonical form. -/
theorem tset_wfFrom {α : Type} [DecidableEq α] (z v : α) {i : Nat} : ∀ (t : Table α) {lo : Nat}, lo ≤ i → tableWfFrom z lo t = true →
    tableWfFrom z lo (tset z t i v) = true
  | [], lo, hl, _ => by
    unfold tset
    split <;> simp [tableWfFrom, *]
  | (j, w) :: t, lo, hl, k => by
    simp only [tableWfFrom, Bool.and_eq_true, decide_eq_true_eq] at k
    unfold tset
    by_cases hj : j = i
    · subst hj
      simp only [beq_self_eq_true, if_true]
      split
      · exact tableWfFrom_mono z (by omega) t k.2
      · simp [tableWfFrom, k.2, *]
    · simp only [beq_iff_eq, hj, if_false]
      split
      · split
        · simp [tableWfFrom, k.1, k.2]
        · rename_i h1 h2
          simp only [tableWfFrom, Bool.and_eq_true, decide_eq_true_eq]
          exact ⟨⟨hl, h2⟩, ⟨h1, k.1.2⟩, k.2⟩
      · simp only [tableWfFrom, Bool.and_eq_true, decide_eq_true_eq]
        exact ⟨k.1, tset_wfFrom z v t (by omega) k.2⟩

theorem tset_wf {α : Type} [DecidableEq α] (z v : α) (i : Nat) {t : Table α} (h : tableWf z t = true) : tableWf z (tset z t i v) = true :=
  tset_wfFrom z v t (Nat.zero_le i) h

/-- Entries taken out of a table leave it canonical. -/
theorem filter_wfFrom {α : Type} [DecidableEq α] (z : α) (p : Nat × α → Bool) : ∀ (t : Table α) {lo : Nat}, tableWfFrom z lo t = true →
    tableWfFrom z lo (t.filter p) = true
  | [], _, _ => rfl
  | (j, v) :: t, lo, k => by
    simp only [tableWfFrom, Bool.and_eq_true, decide_eq_true_eq] at k
    rw [List.filter]
    split
    · simp only [tableWfFrom, Bool.and_eq_true, decide_eq_true_eq]
      exact ⟨k.1, filter_wfFrom z p t k.2⟩
    · exact tableWfFrom_mono z (by omega) _ (filter_wfFrom z p t k.2)

/-- Below its first index a canonical table holds the unlisted value. -/
theorem tget_below {α : Type} [DecidableEq α] (z : α) {i : Nat} : ∀ (t : Table α) {lo : Nat}, i < lo → tableWfFrom z lo t = true → tget z t i = z
  | [], _, _, _ => rfl
  | (j, v) :: t, lo, h, k => by
    simp only [tableWfFrom, Bool.and_eq_true, decide_eq_true_eq] at k
    have e : j ≠ i := by omega
    simp only [tget, beq_iff_eq, e, if_false]
    exact tget_below z t (by omega : i < j + 1) k.2

/-- A set is read back from a canonical table. -/
theorem tget_tset_wfFrom {α : Type} [DecidableEq α] (z v : α) {i : Nat} : ∀ (t : Table α) {lo : Nat}, tableWfFrom z lo t = true →
    tget z (tset z t i v) i = v
  | [], _, _ => by
    unfold tset
    split <;> simp [tget, *]
  | (j, w) :: t, lo, k => by
    simp only [tableWfFrom, Bool.and_eq_true, decide_eq_true_eq] at k
    unfold tset
    by_cases hj : j = i
    · subst hj
      simp only [beq_self_eq_true, if_true]
      split
      · rename_i h
        rw [h]
        exact tget_below z t (Nat.lt_succ_self j) k.2
      · simp [tget]
    · simp only [beq_iff_eq, hj, if_false]
      split
      · split
        · rename_i h1 h2
          rw [h2]
          simp only [tget, beq_iff_eq, hj, if_false]
          exact tget_below z t (by omega : i < j + 1) k.2
        · simp [tget]
      · simp only [tget, beq_iff_eq, hj, if_false]
        exact tget_tset_wfFrom z v t k.2

theorem tget_tset {α : Type} [DecidableEq α] (z v : α) (i : Nat) {t : Table α} (h : tableWf z t = true) : tget z (tset z t i v) i = v :=
  tget_tset_wfFrom z v t h

/-! ### Memory -/

theorem writeCell_wf (a : Nat) (b : Byte) {m : List Host.Cell} (h : memoryWf m = true) : memoryWf (writeCell m a b) = true :=
  tset_wf _ _ _ h

theorem writeCells_wf : ∀ (bs : List Byte) (a : Nat) {m : List Host.Cell}, memoryWf m = true → memoryWf (writeCells m a bs) = true
  | [], _, _, h => h
  | b :: bs, a, _, h => writeCells_wf bs (a + 1) (writeCell_wf a b h)

theorem memWrite_wf (a : Nat) (bs : List Byte) {d : Device} (h : memoryWf d.mem = true) : memoryWf (memWrite a bs d).mem = true :=
  writeCells_wf bs a h

/-- Clearing a region (POR#, the clearing of Loft, zeroisation) keeps the form. -/
theorem filter_wf (p : Host.Cell → Bool) {m : List Host.Cell} (h : memoryWf m = true) : memoryWf (m.filter p) = true :=
  filter_wfFrom emptyByte p m h

theorem reset_wf : MemoryCanonical State.reset := rfl

theorem porAssert_wf {d : Device} (h : memoryWf d.mem = true) : memoryWf (porAssert d).mem = true := filter_wf _ h

theorem clearLoft_wf {d : Device} (h : memoryWf d.mem = true) : memoryWf (clearLoft d).mem = true := filter_wf _ h

/-- A byte outside the written ones keeps its value. -/
theorem memByte_writeCells_outside : ∀ (bs : List Byte) (a x : Nat) (m : List Host.Cell), x < a ∨ a + bs.length ≤ x →
    memByte (writeCells m a bs) x = memByte m x
  | [], _, _, _, _ => rfl
  | b :: bs, a, x, m, h => by
    simp only [List.length_cons] at h
    rw [writeCells, memByte_writeCells_outside bs (a + 1) x _ (by omega)]
    exact tget_tset_other emptyByte b (by omega : a ≠ x) m

/-- A written byte reads back. -/
theorem memByte_inside : ∀ (bs : List Byte) (a x : Nat) (m : List Host.Cell), memoryWf m = true → a ≤ x → x < a + bs.length →
    memByte (writeCells m a bs) x = bs.getD (x - a) 0
  | [], a, x, _, _, h, h' => by simp at h'; omega
  | b :: bs, a, x, m, hm, h, h' => by
    simp only [List.length_cons] at h'
    rw [writeCells]
    by_cases e : x = a
    · subst e
      rw [memByte_writeCells_outside bs (x + 1) x _ (by omega)]
      simp only [Nat.sub_self, List.getD_cons_zero]
      exact tget_tset emptyByte b x hm
    · rw [memByte_inside bs (a + 1) x _ (writeCell_wf a b hm) (by omega) (by omega)]
      obtain ⟨k, rfl⟩ : ∃ k, x = a + 1 + k := ⟨x - a - 1, by omega⟩
      rw [show a + 1 + k - a = k + 1 by omega, show a + 1 + k - (a + 1) = k by omega]
      rfl

end Sys2Proof.Laws
end

