-- ==== Sys2Proof/Laws/Queues.lean ====
section
/-! SUPPORT. What posting an entry does to its completion queue and to memory (R431, R440, R454). -/

namespace Sys2Proof.Laws

open Sys2Proof.Machine

theorem cplQueue_set {ci : Nat} {v : CplQueue} (d : Device) (h : v.live = true) : cplQueue (setCplQueue ci v d) ci = v :=
  tget_tset_new _ _ _ (by intro e; rw [e] at h; cases h) _

theorem cplQueue_drop (t : Option Nat) (d : Device) (ci : Nat) : cplQueue (dropFlightOpt t d) ci = cplQueue d ci := by cases t <;> rfl

theorem mem_drop (t : Option Nat) (d : Device) : (dropFlightOpt t d).mem = d.mem := by cases t <;> rfl

theorem cplQueue_signal (v : Nat) (d : Device) (ci : Nat) : cplQueue (signalVector v d) ci = cplQueue d ci := by
  unfold signalVector; split <;> rfl

/-- A signal writes no byte but those of its message. -/
theorem mem_signal (v : Nat) (d : Device) (x : Nat)
    (h : x < hostBase + (msixEntry d v).addr % 2 ^ 51 ∨ hostBase + (msixEntry d v).addr % 2 ^ 51 + 4 ≤ x) :
    memByte (signalVector v d).mem x = memByte d.mem x := by
  unfold signalVector
  split
  · rfl
  · exact memByte_writeCells_outside _ _ _ _ (by simpa using h)

/-- Counting an entry changes the count of its queue only. -/
theorem count_queue (ci : Nat) (d : Device) (h : (cplQueue d ci).live = true) :
    ∃ n, cplQueue (countEntry ci d) ci = { cplQueue d ci with unsignalled := n } := by
  unfold countEntry
  dsimp only
  split
  · exact ⟨0, by rw [cplQueue_signal, cplQueue_set]; exact h⟩
  · exact ⟨_, by rw [cplQueue_set]; exact h⟩

/-- Counting an entry writes no byte but those of the queue's MSI-X message. -/
theorem count_mem (ci : Nat) (d : Device) (x : Nat)
    (h : x < hostBase + (msixEntry d (cplQueue d ci).vector).addr % 2 ^ 51
      ∨ hostBase + (msixEntry d (cplQueue d ci).vector).addr % 2 ^ 51 + 4 ≤ x) :
    memByte (countEntry ci d).mem x = memByte d.mem x := by
  unfold countEntry
  dsimp only
  split
  · rw [mem_signal]
    · rfl
    · exact h
  · rfl

/-- Merging leaves an entry waiting. -/
theorem mergeEvent_some (ws : List WaitingEntry) (e : WaitingEntry) (l) (h : mergeEvent ws e = some l) : l ≠ [] := by
  cases ws with
  | nil => simp [mergeEvent] at h
  | cons w ws =>
    unfold mergeEvent at h
    split at h
    · simp at h; subst h; simp
    · simp at h; obtain ⟨a, _, rfl⟩ := h; simp

end Sys2Proof.Laws
end

