-- ==== Sys2Proof/Laws/Records.lean ====
section
/-! SUPPORT. Sizes of the records that enter stall 0x10 (R285, R298). -/

namespace Sys2Proof.Laws

open Sys2Proof.Machine

theorem foldl_add (l : List Nat) (a : Nat) : l.foldl (· + ·) a = a + l.foldl (· + ·) 0 := by
  induction l generalizing a with
  | nil => rfl
  | cons x l ih => simp only [List.foldl]; rw [ih (a + x), ih (0 + x)]; omega

/-- A GAP record is one line. -/
theorem dropsRec_units (d : Device) (c : Nat) (x : Drops) : recUnits (dropsRec d c x) = 1 := by
  unfold recUnits dropsRec gapPayload
  simp [zeroBytes, leBytes_length, ceilDiv]

end Sys2Proof.Laws
end

