-- ==== Sys2Proof/WellFormed.lean ====
section
/-! DEFINITION. Which terms of `Instr` are commands of the block: a row that is a command packet carries a packet with the row's own
opcode, op byte and options; a row of an event carries operands of the size its rule gives. The meanings do not rely on it. -/

namespace Sys2Proof

open Sys2Proof.Machine

/-- The packet of a row, the opcode of the row (the table of opcodes behind R447), and where a command has several rows the place and the value of
the op byte. -/
def packetRow (i : Instr) : Option (Packet × Nat × Option (Nat × Nat)) :=
  match i with
  | .nop p => some (p, 0x0000, none)
  | .identify p => some (p, 0x0001, none)
  | .getStatus p => some (p, 0x0002, none)
  | .sleep p => some (p, 0x0003, none)
  | .wake p => some (p, 0x0004, none)
  | .blockReset p => some (p, 0x0005, none)
  | .safeExit p => some (p, 0x0006, none)
  | .queueCreate p => some (p, 0x0008, none)
  | .queueDelete p => some (p, 0x0009, none)
  | .cfgWriteBase p => some (p, 0x0100, none)
  | .cfgWriteOverlayReplace p => some (p, 0x0101, some (1, 0))
  | .cfgWriteOverlayAppend p => some (p, 0x0101, some (1, 1))
  | .cfgWriteOverlayFree p => some (p, 0x0101, some (1, 2))
  | .cfgRead p => some (p, 0x0102, none)
  | .cfgValidate p => some (p, 0x0103, none)
  | .cfgCommit p => some (p, 0x0104, none)
  | .cfgCommitGroup p => some (p, 0x0104, none)
  | .cfgAbort p => some (p, 0x0105, none)
  | .clkSet p => some (p, 0x0200, none)
  | .clkStatus p => some (p, 0x0201, none)
  | .loRampLoad p => some (p, 0x0202, none)
  | .calRun p => some (p, 0x0300, none)
  | .calRead p => some (p, 0x0301, none)
  | .calWrite p => some (p, 0x0302, none)
  | .maskLoad p => some (p, 0x0500, none)
  | .windowLoad p => some (p, 0x0501, none)
  | .disarm p => some (p, 0x0600, some (0, 0))
  | .arm p => some (p, 0x0600, some (0, 1))
  | .rearm p => some (p, 0x0600, some (0, 2))
  | .trigForce p => some (p, 0x0601, none)
  | .trigStatus p => some (p, 0x0602, none)
  | .tiuRun p => some (p, 0x0700, none)
  | .tiuRunAbort p => some (p, 0x0700, none)
  | .yardAlloc p => some (p, 0x0800, none)
  | .yardFree p => some (p, 0x0801, none)
  | .dispCommit p => some (p, 0x0802, none)
  | .paletteLoad p => some (p, 0x0803, none)
  | .streamOpen p => some (p, 0x0900, some (0, 0))
  | .streamClose p => some (p, 0x0900, some (0, 1))
  | .streamResume p => some (p, 0x0900, some (0, 2))
  | .streamAck p => some (p, 0x0901, none)
  | .xferStart p => some (p, 0x0902, some (0, 0))
  | .xferResume p => some (p, 0x0902, some (0, 1))
  | .xferStop p => some (p, 0x0902, some (0, 2))
  | .xferAbort p => some (p, 0x0902, some (0, 3))
  | .volCreate p => some (p, 0x0A00, some (0, 0))
  | .volMount p => some (p, 0x0A00, some (0, 1))
  | .volUnmount p => some (p, 0x0A00, some (0, 2))
  | .recStart p => some (p, 0x0A01, none)
  | .recStop p => some (p, 0x0A02, none)
  | .play p => some (p, 0x0A03, none)
  | .recDelete p => some (p, 0x0A04, none)
  | .segDefine p => some (p, 0x0B00, some (1, 0))
  | .segCopy p => some (p, 0x0B00, some (1, 1))
  | .segClear p => some (p, 0x0B00, some (1, 2))
  | .seqLoad p => some (p, 0x0B01, none)
  | .genJump p => some (p, 0x0B02, some (0, 0))
  | .genStart p => some (p, 0x0B02, some (0, 1))
  | .genStop p => some (p, 0x0B02, some (0, 2))
  | .genStatus p => some (p, 0x0B02, some (0, 3))
  | .kernelLoad p => some (p, 0x0C00, none)
  | .kernelBind p => some (p, 0x0C01, some (0, 0))
  | .kernelUnbind p => some (p, 0x0C01, some (0, 1))
  | .kernelStart p => some (p, 0x0C01, some (0, 2))
  | .kernelStop p => some (p, 0x0C01, some (0, 3))
  | .kernelStatus p => some (p, 0x0C01, some (0, 4))
  | .groupForm p => some (p, 0x0D00, some (0, 0))
  | .groupLeave p => some (p, 0x0D00, some (0, 1))
  | .groupStatus p => some (p, 0x0D00, some (0, 2))
  | .groupSync p => some (p, 0x0D01, none)
  | .pairForm p => some (p, 0x0D02, some (0, 0))
  | .pairDissolve p => some (p, 0x0D02, some (0, 1))
  | .pairStatus p => some (p, 0x0D02, some (0, 2))
  | .pairTakeover p => some (p, 0x0D03, none)
  | .faultAck p => some (p, 0x0E00, none)
  | .faultReadRecords p => some (p, 0x0E01, some (0, 0))
  | .faultReadLog p => some (p, 0x0E01, some (0, 1))
  | .faultReadLive p => some (p, 0x0E01, some (0, 2))
  | .faultReadEvents p => some (p, 0x0E01, some (0, 3))
  | .eventMap p => some (p, 0x0E02, none)
  | .faultDump p => some (p, 0x0E03, none)
  | .authChallenge p => some (p, 0x0F00, none)
  | .authResponse p => some (p, 0x0F01, none)
  | .authEnd p => some (p, 0x0F02, none)
  | .keyGenerate p => some (p, 0x0F03, some (0, 0))
  | .keyImport p => some (p, 0x0F03, some (0, 1))
  | .keyExport p => some (p, 0x0F03, some (0, 2))
  | .keyDestroy p => some (p, 0x0F03, some (0, 3))
  | .keyWrapStatus p => some (p, 0x0F03, some (0, 4))
  | .zeroize p => some (p, 0x0F04, none)
  | .zeroizePermanent p => some (p, 0x0F04, none)
  | .selfTest p => some (p, 0x0F05, none)
  | .imageUpdateWrite p => some (p, 0x0F06, some (0, 0))
  | .commitVersion p => some (p, 0x0F06, some (0, 1))
  | .imageUpdateStatus p => some (p, 0x0F06, some (0, 2))
  | .teleRead p => some (p, 0x1000, none)
  | .powerCap p => some (p, 0x1001, none)
  | _ => none

/-- The packet has the form of R432 and R435: a queue that exists in the table of queues, a tag and a target of 16 bits, an address of 64
bits, and a parameter area of 48 bytes, or of an EXT block. -/
def packetForm (p : Packet) : Bool :=
  (match p.src with
    | .queue q => decide (q < 64)
    | .forwarded dev q role => decide (dev < 8) && decide (q < 64) && decide (role < 3)
    | .mailbox | .mirrored => true)
    && decide (p.replyAddr < 2 ^ 64) && decide (48 ≤ p.params.length) && decide (p.params.length ≤ 4096) && p.params.length % 16 == 0
    && (bit p.flags.toNat 2 || p.params.length == 48)

/-- The row is the one that the packet's option bits name (R230, R55, R563). -/
def optionsOk (i : Instr) : Bool :=
  match i with
  | .tiuRun p => !bit (pByte p 2) 1
  | .tiuRunAbort p => bit (pByte p 2) 1
  | .cfgCommit p => !groupFlag p
  | .cfgCommitGroup p => groupFlag p
  | .zeroize p => !bit (pByte p 0) 0
  | .zeroizePermanent p => bit (pByte p 0) 0
  | _ => true

/-- Operands of events: a beat holds sixteen codes (R95), an entry lies in the entry memory (R348), a descriptor of a reply holds at most
256 bytes (R439). -/
def operandsOk (i : Instr) : Bool :=
  match i with
  | .sampleDelivery _ codes => codes.length == 16
  | .entryMemoryWrite _ e _ => decide (e < 2 ^ 20)
  | .cpl _ _ _ reply => decide (reply.length ≤ 256)
  | _ => true

def wellFormed (i : Instr) : Bool :=
  (match packetRow i with
    | some (p, opcode, op) => p.opcode == opcode && packetForm p && op.all (fun o => pByte p o.1 == o.2)
    | none => true)
    && optionsOk i && operandsOk i

end Sys2Proof
end

