-- ==== Sys2Proof/Tests/Slice0.lean ====
section
/-! SUPPORT. States and operands that meet the hypotheses of each statement (a `test_witness_` theorem per statement, a conjunct per
clause), and the ill-formed commands that WellFormed refuses. -/

namespace Sys2Proof.Tests

open Sys2Proof Sys2Proof.Machine Sys2Proof.Safety Sys2Proof.Laws

set_option Elab.async false

/-! ### Small states -/

/-- A device that has started up and serves its queues: what WAKE_COMPLETE and the start-up rows leave of the registers that matter. -/
def ready : Device :=
  { power := { por := false, state := .ready, railsGood := 10, domains := 0x7FFFFFFF#32 }
    host := { perst := false, linkUp := true, configReady := true, msixEnable := true, enable := true, enabled := true }
    clk := { started := true, sysPll := true, refPresent := true, sclkEver := true
             sclk := { ({} : ClockState).sclk with locked := true, gated := false }
             lo := { ({} : ClockState).lo with locked := true, gated := false } }
    pad := { testsPassed := true } }

/-- A 64-byte packet of submission queue `q` with the given parameter bytes. -/
def packet (q op : Nat) (ps : List Nat) : Packet :=
  { src := .queue q, opcode := op, flags := 0, tag := 7, target := 0xF000, replyAddr := 0
    params := padTo (ps.map (BitVec.ofNat 8)) 48 }

/-- A state without waiting commands. -/
def stateOf (d : Device) : State := { dev := d, pending := [] }

/-- `ready` with admin queues 0, submission queue 1 and completion queue 63, of 16 entries each, in host memory. -/
def withQueues : Device :=
  let q : SubQueue := { live := true, entries := 16, base := hostBase, cq := 0, weight := 1 }
  let c : CplQueue := { live := true, entries := 16, base := hostBase + 65536 }
  { ready with host := { ready.host with
      sqs := [(0, q), (1, { q with base := hostBase + 4096 })], cqs := [(0, c), (63, { c with base := hostBase + 131072 })] } }

/-- The device before ENABLE: admin queue registers written, no queue yet. -/
def beforeEnable : Device :=
  { ready with host := { ready.host with enable := false, enabled := false, asqBase := 4096, acqBase := 8192, aqSize := 0x000F000F } }

/-- An entry that waits in the CP. -/
def oldEntry : WaitingEntry := { bytes := zeroBytes 32, frees := some 3, event := none }

/-- A board that sequences its rails through the device. -/
def board : Board :=
  { groupId := 0, pwrSeqExt := false, xtal32 := true, refin := true, perst := false, fuses := {}, flash := {}, selfTest := true, fuseRead := true }

/-- `withQueues` with bytes at the start of host memory. -/
def withBytes (bs : List Nat) : Device := { withQueues with mem := writeCells [] (hostBase + 1048576) (bs.map (BitVec.ofNat 8)) }

/-- The low six bytes of the address of those bytes, and the rest of it. -/
def dataAddr : List Nat := [0, 0, 16, 0, 0, 0, 8, 0]

/-- `withQueues` after Yard bring-up with twelve single-rank DIMMs of 32 GiB at 6,400 MT/s. -/
def withYard : Device := bringUpYard (List.replicate 12 (some { gib := 32, ranks := 1, x8 := false, speed := 2 }, 0)) withQueues

/-- A group commit of this device (ID 0) for itself and member 1, armed here only. -/
def groupRun : GroupCommit :=
  { packet := packet 1 0x0104 [], epoch := 2, generation := 1, mask := 3, armed := 1, refused := 0, applied := 0 }

/-- A GROUP_SYNC at its first step. -/
def syncRun0 : SyncRun :=
  { packet := packet 1 0x0D01 [], external := false, noBus := false, phase := .query, reported := 0, failing := 0, roots := 0, armed := 0,
    captures := [], transits := 0, transitMax := 0 }

/-- A frame with link sequence 5 that waits for its acknowledgement. -/
def frame5 : TxFrame := { seq := 5, dest := 1, vc := 0, e2e := 0, msg := none, source := 0, payload := [] }

/-- Device 0 of a group of two, with port 3 up to device 1. -/
def pairable : Device :=
  setShunisPort 3 { up := true, powered := true, trained := 15, neighbour := some 1 }
    { withYard with group := { withYard.group with id := 0, members := 3 } }

/-- The shadow, device 1, of a formed pair that mirrors stream 3. -/
def shadow : Device :=
  { pairable with group := { pairable.group with
      id := 1, pairFormed := true, pairRole := 2, pairPeer := some 0, mirrored := 8#256, pairMuted := true } }

/-- A code set of channel 0 (R111) at 16,000 MHz after one pass, with its CRC. -/
def calSet : List Byte :=
  [1#8, 0#8, 0#8, 1#8, 0#8, 0#8, 0x80#8, 0x3E#8, 1#8, 0#8, 0#8, 0#8, 0xE1#8, 0x40#8, 0xF1#8, 0xC7#8]
    ++ resetSlices.flatMap (fun s => leBytes 4 (sliceWord s))

/-- A mounted volume on the drive of port 7, unencrypted, with 1 MiB units. -/
def plainVolume : Volume :=
  { ports := [some 7], stripeLog2 := 20, encrypted := false, mac := false, keySlot := 0, keys := none, wrapped := [], uuid := zeroBytes 16,
    label := zeroBytes 16, dataStart := 65792, dataRows := 1000, journalLbas := 65536, mountCount := 1, jseq := 0, jlive := 0,
    failed := false, retired := [], head := 0, recordings := [], freed := [] }

/-- Recording 9 of stream 253 on volume 7, which runs. -/
def runRec : RunningRec :=
  { id := 9, volume := 7, stream := 253, loop := false, base := 0, written := 0, stop := none, reason := 0, packet := none,
    flushes := none, scanned := 0, lastSeq := 0 }

/-- A drive that bring-up accepts. -/
def usableDrive : DriveId := { formatOk := true, mdts := 0, mqes := 255, capacity := 1073741824 }

/-- The word of a Reed instruction with the fields op, D, A and B. -/
def reedWord (op a b c : Nat) : Nat := op * 2 ^ 58 + a * 2 ^ 52 + b * 2 ^ 46 + c * 2 ^ 40

/-- Core 31 about to issue a word. -/
def withCore (w : Nat) : Device := setCore 31 { ({} : ReedCore) with mode := .running, loaded := true, program := tset 0 [] 0 (BitVec.ofNat 64 w) } ready

/-- A memory binding of core 31, port 0. -/
def memBinding : Binding :=
  { packet := packet 1 0x0C01 [], core := 31, port := 0, kind := .memory, batchLog2 := 6, source := 0, xRegion := 0, yHdr := 0,
    memAddr := hostBase, memLen := 512, firstBin := 0, begins := none }

/-- Binding 127 is `memBinding`. -/
def bound (d : Device) : Device := setBinding 127 (some memBinding) d

/-- The cluster of core 31 enabled and usable. -/
def clusterReady : Device :=
  let d := setActive (cfgKey 0xD 0x83 1) 1 withQueues
  { d with reed := { d.reed with usable := [(3, true)] } }

/-- The smallest kernel image: one empty section (R408). -/
def smallImage : List Byte :=
  [0x52#8, 0x4B#8, 0x52#8, 0x4E#8, 1#8, 0#8, 1#8, 0#8] ++ zeroBytes 8 ++ leBytes 4 80 ++ leBytes 4 0x34600DE8 ++ zeroBytes 56

/-- `clusterReady` with that image at the start of host memory. -/
def withImage : Device := { clusterReady with mem := writeCells [] (hostBase + 1048576) smallImage }

def zeros (n : Nat) : List Nat := List.replicate n 0

/-- A class 0 read of the first line of Yard channel 11 with twelve channels. -/
def yardRead : YardReq := { master := 0x200, addr := yardBase + 11 * 256, rowHit := false, data := none }

/-- `withQueues` with an image that names operators, a Crypto Officer's session on queue 1, keys in slots 13 and 14, and flash. -/
def officer : Device :=
  { withQueues with pad := { withQueues.pad with
      image := some { securityVersion := 3, operators := [(1, [])] }, ownerVerified := true, sessions := [(1, 1)]
      slots := [(13, some 1#256), (14, some 2#256)], flash := { withQueues.pad.flash with present := true } } }

/-! ### Witnesses -/

theorem test_witness_stepRunsFront :
    (State.reset.pending.isEmpty) = true := by decide +kernel

theorem test_witness_marksKept :
    ((allStalls State.reset.dev).all (fun x => decide (stallOccupancy State.reset.dev x.1 x.2 ≤ tget 0 State.reset.dev.marks (markKey x)))) = true
    ∧ (match step State.reset with
       | .next _ => true
       | _ => false) = true := by decide +kernel

theorem test_witness_memoryReadsBack :
    (memoryWf ready.mem) = true
    ∧ (memoryWf (memWrite hostBase [1, 0, 2] ready).mem) = true := by decide +kernel

theorem test_witness_completionSlots :
    ((cplQueue withQueues 63).live && oldEntry.bytes.length == 32 && (cplQueue withQueues 63).waiting.isEmpty && !(cplQueue withQueues 63).writeError
      && slotFree (cplQueue withQueues 63) && memoryWf withQueues.mem) = true
    ∧ (let d := setCplQueue 63 { cplQueue withQueues 63 with waiting := [oldEntry] } withQueues
       (cplQueue d 63).live && !(cplQueue d 63).waiting.isEmpty) = true := by decide +kernel

theorem test_packetRowsHoldNop : Instr.nop ∈ packetRows := by simp [packetRows]

theorem test_witness_acceptanceOrder :
    (let p := packet 1 0x0000 []
     !cpRuns State.reset.dev && p.src != .mailbox) = true
    ∧ (let p := { packet 1 0x0000 [] with src := .mailbox }
     !cpRuns State.reset.dev && p.opcode != 0x0002) = true
    ∧ (let p := { packet 1 0x0002 [] with src := .mailbox, flags := 0x8000 }
     !cpRuns State.reset.dev && !(cmdSpec 0x0002).any (fun c => headerOk State.reset.dev c p)) = true
    ∧ (let p := { packet 1 0x0000 [] with src := .mailbox, target := 0x2000 }
     (cmdSpec p.opcode).any (fun c => headerOk withQueues c p) && !targetsSelf withQueues p) = true
    ∧ (let d := { withQueues with host := { withQueues.host with mcheck := true } }
     cpRuns d && d.host.mcheck) = true
    ∧ (cpRuns withQueues && !withQueues.host.mcheck && (cmdSpec 0x0FFF).isNone) = true
    ∧ (let p := { packet 1 0x0000 [] with flags := 0x8000 }
     (cmdSpec p.opcode).any (fun c => !headerOk withQueues c p)) = true
    ∧ (let p := packet 1 0x0000 []
     let d := holdTag p none withQueues
     (cmdSpec p.opcode).any (fun c => headerOk d c p) && isQueue p && tagInFlight d p.tag.toNat) = true
    ∧ (let p := { packet 1 0x0000 [] with target := 0x2000 }
     (cmdSpec p.opcode).any (fun c => headerOk withQueues c p) && isQueue p && !tagInFlight withQueues p.tag.toNat && !targetsSelf withQueues p
       && !bit withQueues.group.members.toNat (targetDevice p)) = true
    ∧ (let p := { packet 1 0x0000 [] with target := 0x1000 }
     (cmdSpec p.opcode).any (fun c => headerOk pairable c p) && isQueue p && !tagInFlight pairable p.tag.toNat && !targetsSelf pairable p
       && bit pairable.group.members.toNat (targetDevice p) && (routePort pairable (targetDevice p)).isSome) = true
    ∧ (let p := packet 1 0x0000 []
     let d := { withQueues with power := { withQueues.power with state := .safe } }
     (cmdSpec p.opcode).any (fun c => headerOk d c p && !c.safeOk) && !tagInFlight d p.tag.toNat && targetsSelf d p) = true
    ∧ (let p := packet 1 0x0003 []
     let d := { withQueues with power := { withQueues.power with state := .sleep } }
     (cmdSpec p.opcode).any (fun c => headerOk d c p && !c.sleepOk) && !tagInFlight d p.tag.toNat && targetsSelf d p && cpRuns d) = true
    ∧ (let p := packet 1 0x0008 []
     (cmdSpec p.opcode).any (fun c => headerOk withQueues c p && executeCheck withQueues c p == some .denied)
       && !tagInFlight withQueues p.tag.toNat && targetsSelf withQueues p) = true
    ∧ (let p := packet 1 0x0902 [4]
     (cmdSpec p.opcode).any (fun c => headerOk withQueues c p && executeCheck withQueues c p == none)
       && !tagInFlight withQueues p.tag.toNat && targetsSelf withQueues p && opReserved p) = true := by decide +kernel

theorem test_reservedRowsHoldNop : (Instr.nop, 0x0000, []) ∈ reservedRows := by simp [reservedRows]

theorem test_reservedPaddockRowsHoldAuthEnd : (Instr.authEnd, 0x0F02, []) ∈ reservedPaddockRows := by simp [reservedPaddockRows]

theorem test_witness_reservedFieldsRefused :
    (let p := packet 1 0x0000 [1]
     admitted withQueues 0x0000 p && !reservedZero p []) = true
    ∧ (let p := packet 1 0x0F02 [0, 1]
     admitted withQueues 0x0F02 p && !reservedZero p [] && !(taken p withQueues).pad.errorState) = true
    ∧ (let p := packet 0 0x0008 ([0] ++ List.replicate 46 0 ++ [1])
     admitted withQueues 0x0008 p && pByte p 0 == 0 && !reservedZero p [(0, 6), (8, 8)]) = true
    ∧ (let p := packet 0 0x0008 ([1] ++ List.replicate 46 0 ++ [1])
     admitted withQueues 0x0008 p && pByte p 0 == 1 && !reservedZero p [(0, 4), (6, 11), (18, 2)]) = true := by decide +kernel

theorem test_witness_powerCapRule :
    (let p := packet 1 0x1001 [230]
     admitted withQueues 0x1001 p && reservedZero p [(0, 2)] && decide (30 ≤ p16 p 0) && decide (p16 p 0 ≤ 230)) = true
    ∧ (let p := packet 1 0x1001 [29]
     admitted withQueues 0x1001 p && decide (p16 p 0 < 30)) = true
    ∧ (let p := packet 1 0x1001 [231]
     admitted withQueues 0x1001 p && decide (230 < p16 p 0)) = true
    ∧ (let p := packet 1 0x1001 [100, 0, 1]
     admitted withQueues 0x1001 p && !reservedZero p [(0, 2)]) = true := by decide +kernel

theorem test_witness_refillRequestRule :
    (let d := { ready with cfg := { ready.cfg with active := [(cfgKey 0x0A 3 0x10, some 2), (cfgKey 0x0A 3 0x11, some 1)] } }
     xferN d 3 0x10 == 2 && xferN d 3 0x11 == 1) = true := by decide +kernel

theorem test_witness_commitChecksBus :
    ((failingCheck ready (cfgVal ready) (cfgVal ready) (fun _ => false) [] []).all (fun x => x.1 != 1)) = true := by decide +kernel

theorem test_witness_commitKeepsBusyClusters :
    (let d := { ready with cfg := { ready.cfg with active := [(cfgKey 0x0D 0x83 1, some 1)] }, reed := { ready.reed with cores := [(31, { mode := .running })] } }
     cfgOn d 0x0D 0x83 1 && vN (fieldReset) 0x0D 0x83 1 == 0 && (Machine.core d 31).mode == .running) = true
    ∧ (let d := { ready with cfg := { ready.cfg with active := [(cfgKey 0x0D 0x83 1, some 1)] }, reed := { ready.reed with cores := [(24, { mode := .waiting })] } }
     cfgOn d 0x0D 0x83 1 && vN (fieldReset) 0x0D 0x83 1 == 0 && (Machine.core d 24).mode == .waiting) = true
    ∧ (let d := { ready with cfg := { ready.cfg with active := [(cfgKey 0x0D 0x83 1, some 1)] }, reed := { ready.reed with bindings := [(127, some { memBinding with core := 31 })] } }
     cfgOn d 0x0D 0x83 1 && d.reed.bindings.any (fun e => e.2.any (fun b => b.core / 8 == 3))) = true := by decide +kernel

theorem test_witness_stallsDropAndCount :
    (decide ((List.replicate 63 (plainFault 1 1 0 0)).length < 64) && decide (64 ≤ (List.replicate 64 (plainFault 1 1 0 0)).length)) = true
    ∧ (let r : Rec := { type := 1, source := 1, flags := 0, firstIndex := 0, generation := 0, payload := [] }
     decide (stallLines (stream ready 7) + recUnits r ≤ stallDepth ready 7) && noticeRoom ready 7 (recUnits r)) = true
    ∧ (let r : Rec := { type := 1, source := 1, flags := 0, firstIndex := 0, generation := 0, payload := zeroBytes 65536 }
     decide (stallDepth ready 7 < stallLines (stream ready 7) + recUnits r)) = true := by decide +kernel

theorem test_witness_queueAndQuietCommandsComplete :
    (admitted ready 0x0000 (packet 1 0x0000 []) && reservedZero (packet 1 0x0000 []) []) = true
    ∧ (admitted ready 0x0001 (packet 1 0x0001 []) && reservedZero (packet 1 0x0001 []) []) = true
    ∧ (admitted ready 0x0002 (packet 1 0x0002 []) && reservedZero (packet 1 0x0002 []) []) = true
    ∧ (let p := packet 0 0x0008 [0, 63, 2, 0, 0, 16, 0, 0, 0, 0, 0, 0, 0, 0, 8, 0]
     admitted withQueues 0x0008 p && queueParamsOk (taken p withQueues) p && pByte p 1 != 0xFF && pByte p 0 == 0
       && !queueExists (taken p withQueues) 0 (pByte p 1)) = true
    ∧ (let p := packet 0 0x0008 [1, 1, 0, 16, 0, 0, 255, 0, 0, 0, 0, 0, 0, 0, 8, 0]
     admitted withQueues 0x0008 p && queueParamsOk (taken p withQueues) p && pByte p 1 != 0xFF && pByte p 0 == 1
       && !queueExists (taken p withQueues) 1 (pByte p 1)) = true
    ∧ (let p := packet 0 0x0008 [0, 255, 2, 0, 0, 1, 0, 0, 0, 0, 0, 0, 0, 0, 8, 0]
     admitted withQueues 0x0008 p && queueParamsOk (taken p withQueues) p && pByte p 1 == 0xFF
       && (List.range 64).find? (fun i => i != 0 && !queueExists (taken p withQueues) (pByte p 0) i) == some 2) = true
    ∧ (let p := packet 0 0x0009 [1, 63]
     admitted withQueues 0x0009 p && reservedZero p [(0, 2)] && pByte p 0 == 1 && decide (1 ≤ pByte p 1) && decide (pByte p 1 ≤ 63)
       && (cplQueue (taken p withQueues) (pByte p 1)).live && !cqNamed (taken p withQueues) (pByte p 1)) = true
    ∧ (let p := packet 0 0x0009 [0, 1]
     admitted withQueues 0x0009 p && reservedZero p [(0, 2)] && pByte p 0 == 0 && decide (1 ≤ pByte p 1) && decide (pByte p 1 ≤ 63)
       && (subQueue (taken p withQueues) (pByte p 1)).live && (subQueue (taken p withQueues) (pByte p 1)).deleting == none
       && !earlierRuns (taken p withQueues) (pByte p 1)) = true := by decide +kernel

theorem test_witness_enableStartsAdminQueues :
    (hostLink beforeEnable && !beforeEnable.host.enable && adminOk beforeEnable.host) = true
    ∧ (let d := { beforeEnable with host := { beforeEnable.host with aqSize := 0 } }
       hostLink d && !d.host.enable && !adminOk d.host) = true
    ∧ hostLink withQueues = true := by decide +kernel

theorem test_witness_doorbellsMoveTheirQueues :
    (hostLink withQueues && (subQueue withQueues 1).live && decide (15 < (subQueue withQueues 1).entries)
      && (subQueue withQueues 1).deleting == none) = true
    ∧ (hostLink withQueues = true ∧ (subQueue withQueues 1).entries ≤ 16)
    ∧ (hostLink withQueues && (cplQueue withQueues 0).live && decide (0 < (cplQueue withQueues 0).entries)
      && decide ((0 + (cplQueue withQueues 0).entries - (cplQueue withQueues 0).head) % (cplQueue withQueues 0).entries
        ≤ ((cplQueue withQueues 0).tail + (cplQueue withQueues 0).entries - (cplQueue withQueues 0).head) % (cplQueue withQueues 0).entries)) = true
    ∧ (hostLink withQueues = true ∧ (cplQueue withQueues 5).live = false) := by decide +kernel

theorem test_witness_entriesReachTheHost :
    (let d := setCplQueue 63 { cplQueue withQueues 63 with waiting := [oldEntry], unsignalled := 1, coUs := 5 } withQueues
     let c := cplQueue d 63
     c.live && !c.writeError && slotFree c && c.waiting == [oldEntry] && c.coUs != 0 && c.unsignalled != 0 && hostLink d) = true
    ∧ (let d := setSubQueue 1 { subQueue withQueues 1 with tail := 1 } withQueues
       mayFetch d && nextQueue d == some (1, (1, 0))) = true := by decide +kernel

theorem test_witness_hostWindowsReadAndWrite :
    (hostLink withQueues) = true
    ∧ (ready.host.linkUp && ready.host.configReady) = true
    ∧ (
      let d := { ready with host := { ready.host with configReady := false } }
      d.host.linkUp && !d.host.configReady) = true
    ∧ (!ready.power.por && !ready.host.mboxBusy) = true := by decide +kernel

theorem test_witness_startUpProceeds :
    (({} : Device).power.por) = true
    ∧ (
      let d : Device := { ({} : Device) with power := { ({} : PowerState) with railsRunning := true, railsGood := 8 } }
      d.power.railsRunning && d.power.railsGood + 1 == 9 && railIsGood 9 0 (((managedRails[8]?).map (·.2)).getD 0)) = true
    ∧ (
      let d : Device := { ready with power := { ready.power with state := .waitImage } }
      hostLink d && d.power.state == .waitImage) = true
    ∧ (
      let d : Device := { ready with power := { ready.power with state := .safe } }
      let e : Device := { ready with power := { ready.power with state := .loading } }
      d.power.state == .safe && !isOpen (stream d 254) && e.power.state == .loading && !isOpen (stream e 254)) = true
    ∧ (!ready.host.perst && ready.clk.sysPll) = true
    ∧ (({} : Device).host.perst) = true := by decide +kernel

theorem test_witness_powerCommandsAct :
    (
      let p := packet 1 0x0003 []
      admitted withQueues 0x0003 p && reservedZero p [(0, 9)] && decide (pByte p 8 < 4) && withQueues.group.pairRole == 0
        && withQueues.nvme.running == [] && withQueues.nvme.playing == []) = true
    ∧ (
      let d := { withQueues with power := { withQueues.power with state := .sleep } }
      let p := packet 1 0x0004 []
      admitted d 0x0004 p && reservedZero p [] && d.power.state == .sleep && d.power.waking == none) = true
    ∧ (
      let p := packet 1 0x1001 [230]
      admitted withQueues 0x1001 p && reservedZero p [(0, 2)] && decide (30 ≤ p16 p 0) && decide (p16 p 0 ≤ 230)) = true
    ∧ (
      let p := packet 1 0x1000 [7]
      admitted withQueues 0x1000 p && reservedZero p [(0, 1), (8, 8)] && decide (pByte p 0 < 8) && p64 p 8 == 0 && withQueues.power.state != .sleep) = true
    ∧ (
      let e := { withQueues with power := { withQueues.power with state := .sleep } }
      let p := packet 1 0x1000 [7]
      admitted e 0x1000 p && reservedZero p [(0, 1), (8, 8)] && decide (pByte p 0 < 8) && p64 p 8 == 0 && e.power.state == .sleep) = true := by decide +kernel

theorem test_witness_powerEventsAct_1 :
    (
      let d := { setActive (cfgKey 2 0 1) 1 ready with power := { ready.power with domains := 0xFF#32 } }
      bellowsRuns d && !domainReady d 8 && domainCondition d 8) = true
    ∧ (bellowsRuns ready && domainReady ready 30 && !domainCondition ready 30) = true
    ∧ (bellowsRuns ready) = true
    ∧ (bellowsRuns ready) = true
    ∧ (
      let d := { ready with power := { ready.power with sevenMs := 100 } }
      decide (100 ≤ d.power.sevenMs)) = true
    ∧ (!ready.power.por && !ready.power.thermalTrip) = true := by decide +kernel

theorem test_witness_powerEventsAct_2 :
    (!ready.power.por) = true
    ∧ (bellowsRuns ready) = true
    ∧ (
      let d := { ready with power := { ready.power with state := .sleep } }
      d.power.state == .sleep) = true
    ∧ (
      let d := { ready with power := { ready.power with state := .sleep } }
      d.power.state == .sleep && d.power.waking == none) = true
    ∧ (
      let d := { ready with power := { ready.power with state := .sleep, wakeTime := 1, wakeTrig := true } }
      d.power.state == .sleep && d.power.waking == none && d.power.wakeTime != 0 && d.power.wakeTrig) = true
    ∧ (
      let d := { ready with power := { ready.power with state := .sleep, waking := some (none, 5) } }
      d.power.waking == some (none, 5) && d.clk.sclk.relock == .idle && d.clk.lo.relock == .idle) = true := by decide +kernel

theorem test_witness_settingsAreStagedAndRead :
    (
      let p := packet 1 0x0100 (dataAddr ++ [1])
      let d := withBytes [1, 0, 0, 2, 0, 0, 0, 0, 1]
      admitted d 0x0100 p && reservedZero p [(0, 12)] && (match readChanges (taken p d) (p64 p 0) (p32 p 8) with
        | .ok l => l == [(0x02000001, 1)]
        | .error _ => false)) = true
    ∧ (
      let p := packet 1 0x0101 ([31, 0, 0, 0, 0, 0, 0, 0] ++ dataAddr ++ [1])
      let d := withBytes [1, 0, 0, 2, 0, 0, 0, 0, 1]
      admitted d 0x0101 p && pByte p 1 == 0 && reservedZero p [(0, 2), (8, 12)] && p32 p 16 == 1 && decide (pByte p 0 < 32)
        && (match readChanges (taken p d) (p64 p 8) (p32 p 16) with
        | .ok _ => true
        | .error _ => false)) = true
    ∧ (
      let p := packet 1 0x0101 ([0, 1, 0, 0, 0, 0, 0, 0] ++ dataAddr ++ [1])
      let d := withBytes [1, 0, 0, 2, 0, 0, 0, 0, 1]
      admitted d 0x0101 p && pByte p 1 == 1 && reservedZero p [(0, 2), (8, 12)] && p32 p 16 == 1 && decide (pByte p 0 < 32)
        && (match readChanges (taken p d) (p64 p 8) (p32 p 16) with
        | .ok l => decide ((l.foldl addEntry ((overlay (taken p d) (pByte p 0)).getD [])).length ≤ 4096)
        | .error _ => false)) = true
    ∧ (
      let p := packet 1 0x0101 [31, 2]
      admitted withQueues 0x0101 p && pByte p 1 == 2 && reservedZero p [(0, 2), (8, 12)] && p32 p 16 == 0 && decide (pByte p 0 < 32)) = true
    ∧ (
      let p := packet 1 0x0102 [1, 0, 0, 2, 1]
      admitted withQueues 0x0102 p && reservedZero p [(0, 5)] && decide (pByte p 4 ≤ 1) && (fieldOf (p32 p 0)).isSome) = true := by decide +kernel

theorem test_witness_commitsAreAcceptedAndAborted :
    (
      let p := packet 1 0x0103 []
      let d := taken p withYard
      let t := targetEpoch p (turnsOn d (withChanges (valuesAfter d d.cfg.pendingCommits.length) (commitContent p d))) d
      admitted withYard 0x0103 p && commitParamsOk p && validateCommit d t (commitContent p d) (roleHeld d p == 1) == none) = true
    ∧ (
      let p := packet 1 0x0104 []
      let d := taken p withYard
      let turns := turnsOn d (withChanges (valuesAfter d d.cfg.pendingCommits.length) (commitContent p d))
      let t := targetEpoch p turns d
      admitted withYard 0x0104 p && !groupFlag p && commitParamsOk p && validateCommit d t (commitContent p d) (roleHeld d p == 1) == none
        && !commitLate p t turns d) = true
    ∧ (
      let p := { packet 1 0x0104 ((List.replicate 18 0) ++ [1]) with flags := 2 }
      let d := taken p withYard
      let turns := turnsOn d (withChanges (valuesAfter d d.cfg.pendingCommits.length) (commitContent p d))
      let t := targetEpoch p turns d
      admitted withYard 0x0104 p && commitParamsOk p && bit (pByte p 18) d.group.id && d.group.commit == none
        && (List.range 8).all (fun n => !bit (pByte p 18) n || n == d.group.id || bit d.group.members.toNat n)
        && validateCommit d t (commitContent p d) (roleHeld d p == 1) == none && !commitLate p t turns d
        && serialAfter (d.cfg.generation + 1) d.cfg.generation) = true
    ∧ (
      let p := packet 1 0x0105 [5]
      let e := { withYard with cfg := { withYard.cfg with pendingCommits :=
        [{ packet := some { packet 1 0x0104 [] with tag := 5 }, epoch := 9, content := [], waitAdopted := false }] } }
      let d := taken p e
      admitted e 0x0105 p && reservedZero p [(0, 3)] && decide (pByte p 2 ≤ 1) && p16 p 0 != 0xFFFF
        && (d.cfg.pendingCommits.filter (fun m => commitTag m == some (p16 p 0))).length == 1 && d.group.commit == none
        && !removalFails d (d.cfg.pendingCommits.filter (fun m => commitTag m == some (p16 p 0))) []) = true := by decide +kernel

theorem test_witness_tokensFormAndAreAdopted :
    (
      let d := { ready with sampleIndex := 1048576 }
      tokenReady d) = true
    ∧ (!tokenReady ready) = true
    ∧ (ready.power.state != .sleep) = true
    ∧ (
      let d := { ready with cfg := { ready.cfg with lastToken := 1 }, conv := { ready.conv with channels := [(0, { next := 1048576 })] } }
      d.power.state != .sleep && adoptedBy d (tokenBlockKey (.converter 0)) == 0 && decide (0 + 1 ≤ d.cfg.lastToken)
        && canAdopt d (tokenBlockKey (.converter 0)) (0 + 1)) = true := by decide +kernel

theorem test_witness_groupCommitMessagesAct :
    (
      let d := { withYard with group := { withYard.group with members := 3 } }
      inMask d.group.members 1 && cpRuns d) = true
    ∧ (
      let d := setGroupCommit (some groupRun) ready
      d.group.commit == some groupRun) = true
    ∧ (ready.group.id != 1) = true
    ∧ (
      let d := setGroupCommit (some groupRun) { ready with cfg := { ready.cfg with pendingCommits :=
        [{ packet := none, epoch := 2, content := [], waitAdopted := false, generation := some 1, master := some 0 }] } }
      d.group.commit == some groupRun && decide (epochStart d groupRun.epoch ≤ d.sampleIndex + 2 * 2 ^ epochExp d)
        && groupRun.armed != groupRun.mask && groupWaits d) = true
    ∧ (
      let d := setGroupCommit (some groupRun) { ready with sampleIndex := 3145728 }
      d.group.commit == some groupRun && decide (epochStart d (groupRun.epoch + 1) ≤ d.sampleIndex) && !groupWaits d) = true := by decide +kernel

theorem test_witness_groupCommandsAct_1 :
    (
      let p := packet 1 0x0D00 [0, 1]
      let d := taken p withQueues
      admitted withQueues 0x0D00 p && reservedZero p [(0, 2)] && inMask 1 d.group.id && d.group.members == 0 && d.group.forming == none
        && !duplicateIds d 1 && diameter d 1 == some 0) = true
    ∧ (
      let p := packet 1 0x0D00 [1]
      let d := { withQueues with group := { withQueues.group with members := 3 } }
      admitted d 0x0D00 p && reservedZero p [(0, 2)] && d.group.members != 0 && !d.group.pairFormed && d.group.pairPlan == none) = true
    ∧ (
      let p := packet 1 0x0D00 [2]
      admitted withQueues 0x0D00 p && reservedZero p [(0, 2)]) = true
    ∧ (
      let p := packet 1 0x0D01 [3]
      admitted withQueues 0x0D01 p && reservedZero p [(0, 1)] && decide (pByte p 0 ≤ 3) && withQueues.group.syncRun == none
        && !withQueues.group.syncArmed) = true
    ∧ (
      let d := setSyncRun (some { syncRun0 with phase := .arming, armed := 1 }) (setActive (cfgKey 0x0F 0 3) 2 ready)
      d.group.syncRun == some { syncRun0 with phase := .arming, armed := 1 } && syncMembers d == 1 && isRoot d) = true
    ∧ (
      let d := { ready with group := { ready.group with syncArmed := true } }
      d.group.syncRun == none && d.group.syncArmed) = true := by decide +kernel

theorem test_witness_groupCommandsAct_2 :
    (
      let d := setSyncRun (some { syncRun0 with phase := .pulsed }) ready
      d.group.syncRun == some { syncRun0 with phase := .pulsed }) = true
    ∧ (
      let d := setSyncRun (some { syncRun0 with phase := .pulsed, external := true }) ready
      d.group.syncRun == some { syncRun0 with phase := .pulsed, external := true }) = true := by decide +kernel

theorem test_witness_linkMessagesAct :
    (!(shunisPort ready 3).up && !(shunisPort ready 3).training && ready.power.state != .sleep && cpRuns ready) = true
    ∧ (
      let d := setShunisPort 3 { training := true } ready
      (shunisPort d 3).training) = true
    ∧ (
      let d := setShunisPort 3 { up := true } ready
      (shunisPort d 3).up) = true
    ∧ (
      let d := { ready with group := { ready.group with members := 3 } }
      inMask d.group.members 1) = true
    ∧ (
      let d := holdTag (packet 1 0 []) (some 1) withQueues
      (tget none d.host.flights 7).any (fun f => f.forwardedTo == some 1)) = true := by decide +kernel

theorem test_witness_pairCommandsAct :
    (
      let p := packet 1 0x0D02 ([0, 0, 0, 0, 0, 0, 0, 0, 3])
      let d := taken p pairable
      admitted pairable 0x0D02 p && reservedZero p [(0, 3), (8, 40)] && decide (pByte p 1 ≤ 3) && pByte p 2 == 0 && decide (pByte p 47 < 64)
        && d.group.id == 2 * pByte p 1 && !d.group.pairFormed && d.group.pairPlan == none && decide (epochIndex d + 3 ≤ p64 p 8)
        && pairReady d (2 * pByte p 1 + 1) (pairStreams p) && !(streamsOf (pairStreams p)).any (ringTooShort d)) = true
    ∧ (
      let p := packet 1 0x0D02 [1, 0, 1]
      admitted shadow 0x0D02 p && reservedZero p [(0, 3)] && decide (pByte p 2 ≤ 1) && shadow.group.id / 2 == pByte p 1 && shadow.group.pairFormed) = true
    ∧ (
      let p := packet 1 0x0D02 [2]
      admitted shadow 0x0D02 p && reservedZero p [(0, 2)] && shadow.group.id / 2 == pByte p 1) = true
    ∧ (
      let p := packet 1 0x0D03 []
      let e := { shadow with group := { shadow.group with id := 0, pairRole := 1, pairPeer := some 1 } }
      let d := taken p e
      admitted e 0x0D03 p && reservedZero p [(1, 2), (8, 8)] && decide (pByte p 2 ≤ 1) && d.group.id / 2 == pByte p 1 && d.group.pairFormed
        && d.group.pairRole == 1 && !d.group.pairDegraded && d.group.takeoverAt == none && decide (d.sampleIndex < epochStart d (epochIndex d + 3))) = true := by decide +kernel

theorem test_witness_pairEventsAct_1 :
    (shadow.group.pairFormed && shadow.group.pairPeer == some 0) = true
    ∧ (shadow.group.pairFormed && shadow.group.pairRole == 2 && !shadow.group.pairDegraded) = true
    ∧ (
      let d := { shadow with group := { shadow.group with pairRole := 1 } }
      d.group.pairFormed && d.group.pairRole == 1 && !d.group.pairDegraded) = true
    ∧ (
      let d := { shadow with group := { shadow.group with pairRole := 1, takeoverAt := some (none, 0) } }
      let e := { shadow with group := { shadow.group with takeoverAt := some (none, 0) } }
      d.group.takeoverAt == some (none, 0) && d.group.pairPeer == some 0 && d.group.pairRole == 1 && decide (epochStart d 0 ≤ d.sampleIndex)
        && e.group.pairRole == 2) = true
    ∧ (mirrorsIn shadow 3) = true
    ∧ (mirrorsIn shadow 3 && keyQueue shadow 3 == []) = true := by decide +kernel

theorem test_witness_pairEventsAct_2 :
    (
      let u : Unconfirmed := { tag := 7, packet := packet 1 0 [], status := .ok, reply := [] }
      let d := { shadow with group := { shadow.group with unconfirmed := [u] } }
      d.group.unconfirmed.find? (fun u => u.tag == 7) == some u) = true
    ∧ (shadow.group.pairRole == 2 && (packet 1 0x0B00 []).opcode != 0x0100 && (packet 1 0x0B00 []).opcode != 0x0101) = true
    ∧ (
      let d := { shadow with group := { shadow.group with forwardedRunning := 511 } }
      decide (d.group.forwardedRunning < 512)) = true
    ∧ (
      let d := { ready with pad := { ready.pad with store := { control := [{}] } } }
      cpRuns d && !parityHolds (fetchWord (upsetWord d.pad.store 0 0) 0)) = true := by decide +kernel

theorem test_witness_clockCommandsAct :
    (
      let p := packet 1 0x0200 [0, 0, 0, 0, 0, 0, 0, 0, 0x00, 0x00, 0x51, 0x4A, 0x8D, 0x0E, 0, 0]
      let d := taken p withQueues
      admitted withQueues 0x0200 p && reservedZero p [(0, 1), (8, 8)] && pByte p 0 == 0
        && (sclkDividers (stagedVal d (cfgKey 1 2 1)).toNat (p64 p 8)).isSome) = true
    ∧ (
      let p := packet 1 0x0200 [1, 0, 0, 0, 0, 0, 0, 0, 0x00, 0x00, 0x51, 0x4A, 0x8D, 0x0E, 0, 0]
      let d := taken p withQueues
      admitted withQueues 0x0200 p && reservedZero p [(0, 1), (8, 8)] && pByte p 0 == 1
        && (loDividers (stagedVal d (cfgKey 1 2 1)).toNat (stagedVal d (cfgKey 1 1 1)).toNat (p64 p 8)).isSome) = true
    ∧ (admitted withQueues 0x0201 (packet 1 0x0201 [0, 1]) && reservedZero (packet 1 0x0201 [0, 1]) [(0, 8)]) = true
    ∧ (
      let p := packet 1 0x0202 ([3, 0, 1, 0, 0, 0, 0, 0] ++ dataAddr)
      let d := taken p (withBytes [1, 0, 0, 0, 0, 0, 1, 0, 1, 0, 0, 1])
      admitted (withBytes [1, 0, 0, 0, 0, 0, 1, 0, 1, 0, 0, 1]) 0x0202 p && reservedZero p [(0, 1), (2, 2), (8, 8)] && decide (pByte p 0 < 4)
        && p16 p 2 == 1 && reachable d .cp false (p64 p 8) 16 && (decodeAll readSegment (readEntries d (p64 p 8) 16 1)).isSome
        && !rampStoreBusy d 3) = true := by decide +kernel

theorem test_witness_clockEventsAct_1 :
    (
      let d := setSynth .lo { synth ready .lo with relock := .search } ready
      (synth d .lo).relock == .search && d.clk.refPresent) = true
    ∧ (
      let d := setSynth .lo { synth ready .lo with relock := .closing } ready
      d.clk.lo.relock == .closing && d.clk.refPresent) = true
    ∧ (
      let d := setSynth .sclk { synth ready .sclk with relock := .closing } ready
      d.clk.sclk.relock == .closing && d.clk.refPresent) = true
    ∧ (
      let d := setSynth .lo { synth ready .lo with relock := .closing } ready
      let e := setSynth .sclk { synth ready .sclk with relock := .search } ready
      (synth d .lo).relock == .closing && d.clk.refPresent && (synth e .sclk).relock == .search && e.clk.refPresent) = true
    ∧ ((synth ready .sclk).locked && ready.clk.refPresent) = true
    ∧ (ready.clk.refPresent && !refinAgrees ready 0) = true := by decide +kernel

theorem test_witness_clockEventsAct_2 :
    (
      let d := { ready with clk := { ready.clk with refPresent := false, holdover := true } }
      !d.clk.refPresent && refinAgrees d (cfgN d 1 2 1)) = true
    ∧ (
      let d := { ready with clk := { ready.clk with slewing := true } }
      d.clk.slewing) = true
    ∧ (
      let g : RampSegment := { delta := 1, interval := 1, count := 4, last := true, waitTrig := false, restart := false }
      let d := { ready with clk := { ready.clk with rampStores := [(0, [g])], ramp := { ready.clk.ramp with active := true, waiting := false, step := 1 } } }
      d.clk.ramp.active && !d.clk.ramp.waiting && (rampProfile d)[d.clk.ramp.segment]? == some g) = true
    ∧ (!ready.clk.onRc && !cfgOn ready 1 2 4) = true
    ∧ (
      let d := setActive (cfgKey 0x0F 0 2) 1 ready
      let e := { ready with group := { ready.group with syncArmed := true } }
      d.power.state != .sleep && d.clk.refPresent && cfgN d 0x0F 0 2 == 1 && e.power.state != .sleep && e.clk.refPresent && e.group.syncArmed) = true := by decide +kernel

theorem test_witness_faultCommandsAct_1 :
    (
      let p := { packet 1 0x0005 [] with target := 0xF080#16 }
      admitted withQueues 0x0005 p && reservedZero p [] && resetBlockOf (unitOf p) == some 0x80) = true
    ∧ (
      let p := packet 1 0x0006 []
      let d := { withQueues with power := { withQueues.power with state := .safe } }
      admitted d 0x0006 p && reservedZero p [] && (taken p d).power.state == .safe && exitBlocker (taken p d) == none) = true
    ∧ (
      let p := packet 1 0x0E01 []
      admitted withQueues 0x0E01 p && reservedZero p [(0, 1), (4, 12)]) = true
    ∧ (
      let p := packet 1 0x0E01 ([1, 0, 0, 0, 1, 0, 0, 0] ++ dataAddr)
      let x : FaultEntry := faultEntry withQueues (plainFault 0x080 7 1 0) 0
      let d := taken p { withQueues with fault := { withQueues.fault with log := [x] } }
      admitted { withQueues with fault := { withQueues.fault with log := [x] } } 0x0E01 p && faultReadOk d p 64 && (d.fault.log.take (p32 p 4)).length == 1) = true
    ∧ (
      let p := packet 1 0x0E01 ([2, 0, 0, 0, 0, 0, 0, 0] ++ dataAddr)
      admitted withQueues 0x0E01 p && faultReadOk (taken p withQueues) p 128) = true
    ∧ (
      let p := packet 1 0x0E00 [1]
      let x : FaultEntry := faultEntry withQueues (plainFault 0x080 7 1 0) 0
      let d := { withQueues with fault := { withQueues.fault with contained := some x } }
      admitted d 0x0E00 p && reservedZero p [(0, 1), (8, 8)] && decide (pByte p 0 ≤ 2) && faultRecord (taken p d) (pByte p 0) == some x && x.firstTime == p64 p 8) = true := by decide +kernel

theorem test_witness_faultCommandsAct_2 :
    (
      let p := packet 1 0x0E03 ([0, 0, 0, 0, 0, 0, 0, 0] ++ dataAddr ++ [64])
      let d := taken p withQueues
      admitted withQueues 0x0E03 p && reservedZero p [(8, 12)] && p64 p 8 != 0 && reachable d .cp true (p64 p 8) (min (p32 p 16) (dumpBytes d).length)) = true
    ∧ (
      let p := packet 1 0x0E02 [0x40, 0, 1, 63]
      admitted withQueues 0x0E02 p && eventMapOk (taken p withQueues) p) = true := by decide +kernel

theorem test_witness_faultEventsAct :
    (
      let m := plainFault 0x1C1 1 1 0
      let d := raiseFault m (openReaction 0x1C0 ready)
      d.fault.inbox == [m] && m.source != 0x3F0 && isCollateral d m.source m.kind) = true
    ∧ (
      let m := plainFault 0x080 7 1 0
      let d := raiseFault m ready
      d.fault.inbox == [m] && m.source != 0x3F0 && !isCollateral d m.source m.kind && faultRecord d m.cls == none) = true
    ∧ (
      let m := plainFault 0x080 7 1 0
      let x : FaultEntry := faultEntry ready m 0
      let d := raiseFault m { ready with fault := { ready.fault with contained := some x } }
      d.fault.inbox == [m] && m.source != 0x3F0 && !isCollateral d m.source m.kind && faultRecord d m.cls == some x && sameFault x x) = true
    ∧ (
      let m := plainFault 0x080 7 1 0
      let x : FaultEntry := faultEntry ready (plainFault 0x040 1 1 0) 0
      let d := raiseFault m { ready with fault := { ready.fault with contained := some x } }
      d.fault.inbox == [m] && m.source != 0x3F0 && !isCollateral d m.source m.kind && faultRecord d m.cls == some x && !sameFault x (faultEntry d m 0)) = true
    ∧ (
      let d := beginReset 0x80 none ready
      resetBlockOf 0x80 == some 0x80 && (d.fault.resets.find? (fun x => x.block == 0x80)).isSome) = true := by decide +kernel

/-- The bytes that the CRC of `calSet` covers. -/
def calSetBody : List Byte := calSet.take 12 ++ calSet.drop 16

theorem test_calSetCrc0 : ((calSetBody.drop 0).take 32).foldl crcByte 4294967295#32 = 1175155238#32 := by decide +kernel
theorem test_calSetCrc1 : ((calSetBody.drop 32).take 32).foldl crcByte 1175155238#32 = 106106283#32 := by decide +kernel
theorem test_calSetCrc2 : ((calSetBody.drop 64).take 32).foldl crcByte 106106283#32 = 1385965572#32 := by decide +kernel
theorem test_calSetCrc3 : ((calSetBody.drop 96).take 32).foldl crcByte 1385965572#32 = 513616934#32 := by decide +kernel
theorem test_calSetCrc4 : ((calSetBody.drop 128).take 32).foldl crcByte 513616934#32 = 1348250581#32 := by decide +kernel
theorem test_calSetCrc5 : ((calSetBody.drop 160).take 32).foldl crcByte 1348250581#32 = 3803209656#32 := by decide +kernel
theorem test_calSetCrc6 : ((calSetBody.drop 192).take 32).foldl crcByte 3803209656#32 = 859713665#32 := by decide +kernel
theorem test_calSetCrc7 : ((calSetBody.drop 224).take 32).foldl crcByte 859713665#32 = 4177350239#32 := by decide +kernel
theorem test_calSetCrc8 : ((calSetBody.drop 256).take 32).foldl crcByte 4177350239#32 = 940490526#32 := by decide +kernel
theorem test_calSetOk : codeSetOk 0 calSet = true := by
  have e : calSetBody = (calSetBody.drop 0).take 32 ++ ((calSetBody.drop 32).take 32 ++ ((calSetBody.drop 64).take 32
      ++ ((calSetBody.drop 96).take 32 ++ ((calSetBody.drop 128).take 32 ++ ((calSetBody.drop 160).take 32
      ++ ((calSetBody.drop 192).take 32 ++ ((calSetBody.drop 224).take 32 ++ (calSetBody.drop 256).take 32))))))) := by decide +kernel
  have c : crc32c (calSet.take 12 ++ calSet.drop 16) = 0xC7F140E1#32 := by
    rw [show calSet.take 12 ++ calSet.drop 16 = calSetBody from rfl, e]
    simp only [crc32c, List.foldl_append, test_calSetCrc0, test_calSetCrc1, test_calSetCrc2, test_calSetCrc3, test_calSetCrc4,
      test_calSetCrc5, test_calSetCrc6, test_calSetCrc7, test_calSetCrc8]
    decide
  unfold codeSetOk
  simp only [c]
  decide +kernel

theorem test_witness_converterCommandsAct :
    (
      let e := setActive (cfgKey 2 0 2) 1 (setActive (cfgKey 2 0 1) 1 withQueues)
      let p := packet 1 0x0300 [1, 3]
      let d := taken p e
      let chs := maskChannels (pByte p 0)
      admitted e 0x0300 p && reservedZero p [(0, 2)] && chs == [0] && pByte p 1 == 3
        && chs.all (fun ch => calMode d ch != 0 && convEnabled d ch && availableSpares (converter d ch) != [])) = true
    ∧ (
      let p := packet 1 0x0301 ([3, 0, 0, 0, 0, 0, 0, 0] ++ dataAddr)
      let p1 := packet 1 0x0301 ([3, 1, 0, 0, 0, 0, 0, 0] ++ dataAddr)
      let q : PendingSet := { packet := packet 1 0x0302 [], slices := [], tRef := 0, sclkMhz := 16000, passCount := 0, applyAt := 64, startPass := true, bytes := [] }
      let e := setConverter 3 { converter withQueues 3 with pendingSet := some q } withQueues
      admitted withQueues 0x0301 p && reservedZero p [(0, 2), (8, 16)] && decide (pByte p 0 ≤ 3) && pByte p 1 == 0 && p64 p 8 % 64 == 0
        && reachable (taken p withQueues) .cp true (p64 p 8) 288
        && admitted e 0x0301 p1 && reservedZero p1 [(0, 2), (8, 16)] && pByte p1 1 == 1 && (converter (taken p1 e) 3).pendingSet == some q) = true
    ∧ (
      let p := packet 1 0x0302 ([0, 0, 0, 0, 0, 0, 0, 0] ++ dataAddr)
      let e : Device := { withQueues with mem := (List.range 288).map (fun i => (hostBase + 1048576 + i, calSet.getD i 0)) }
      let d := taken p e
      admitted e 0x0302 p && reservedZero p [(0, 2), (8, 8)] && pByte p 0 == 0 && pByte p 1 == 0 && p64 p 8 % 64 == 0
        && reachable d .cp false (p64 p 8) 288 && memRead d (p64 p 8) 288 == calSet) = true := by decide +kernel

theorem test_witness_converterEventsAct_1 :
    (
      let w : CalWork := { slice := 0, position := 0, run := 1, step := 8, blocks := 0, sums := {}, before := {}, first := {}, now := {}, beyond := false, suspect := false }
      let d := setConverter 0 (setStage (converter ready 0) 67 (some (.calibrate w))) ready
      stageOf (converter d 0) 67 == some (.calibrate w)) = true
    ∧ (
      let w : CalWork := { slice := 0, position := 0, run := 1, step := 9, blocks := 0, sums := {}, before := {}, first := {}, now := {}, beyond := false, suspect := false }
      let d := setConverter 0 (setStage (converter ready 0) 67 (some (.calibrate w))) ready
      stageOf (converter d 0) 67 == some (.calibrate w)) = true
    ∧ (
      let d := setConverter 0 (setStage (converter ready 0) 5 (some (.verify 64 [] false))) ready
      stageOf (converter d 0) 5 == some (.verify 64 [] false)) = true
    ∧ (
      let d := setConverter 0 (setStage (converter ready 0) 5 (some (.handOver 64 false))) ready
      stageOf (converter d 0) 5 == some (.handOver 64 false)) = true
    ∧ (
      let w : CalWork := { slice := 5, position := 0, run := 2, step := 9, blocks := 0, sums := {}, before := {}, first := {}, now := {}, beyond := false, suspect := true }
      let d := setConverter 0 (setStage (converter ready 0) 5 (some (.calibrate w))) ready
      stageOf (converter d 0) 5 == some (.calibrate w)) = true
    ∧ (
      let d := setConverter 0 { converter ready 0 with retry := true } ready
      (converter d 0).retry) = true := by decide +kernel

theorem test_witness_converterEventsAct_2 :
    (
      let d := setActive (cfgKey 2 0 1) 1 ready
      let q : HealthSums := { sumPos := 0, sumAll := 0, sqPos := 1, sqAll := 1000000, codesPos := 0, codesAll := 0 }
      convEnabled d 0 && !healthOk q && holderOf (converter d 0) 5 == some 5 && !inReplacement (converter d 0) 5) = true
    ∧ (
      let q : PendingSet := { packet := packet 1 0x0302 [], slices := [], tRef := 0, sclkMhz := 16000, passCount := 0, applyAt := 64, startPass := true, bytes := [] }
      let d := setConverter 0 { converter ready 0 with pendingSet := some q } ready
      (converter d 0).pendingSet == some q) = true
    ∧ (
      let d := { setActive (cfgKey 2 0 1) 1 ready with strm := { ready.strm with pauseFrom := none } }
      converting d && !tokenDue d 0 (converter d 0).next) = true := by decide +kernel

theorem test_witness_laneAndSlotRowsAct :
    (
      let d := setConverter 0 { converter ready 0 with next := 16 } (setActive (cfgKey 3 0 1) 1 ready)
      laneReady d 0 0) = true
    ∧ (
      let x (i : Nat) : LaneSample :=
        { lane := 0, stamp := 2 * i, i := 0, q := 0, settling := false, saturated := false, present := true, cut := none, gain := 0, gen := 0 }
      let items := (List.range 64).map x
      let e := { ready with spec := { ready.spec with order := [(0, [0])] } }
      let d := setSlot 0 { slotAt ready 0 with newest := [(0, some 126)], stall := { items := items } }
        (setActive (cfgKey 4 0 3) 6 (setActive (cfgKey 4 0 1) 1 e))
      let fc := (nextFrame d 0).getD (0, slotCtx d 0)
      nextFrame d 0 == some fc && frameComplete (slotAt d 0) fc.2 fc.1 && !romStops d 0 fc.2 && frameWhole (slotAt d 0) fc.2 fc.1 && frameTurn d 0) = true
    ∧ (
      let p := packet 1 0x0500 ([15, 0, 0, 0, 0, 0, 0, 0] ++ dataAddr)
      let d := taken p withQueues
      admitted withQueues 0x0500 p && reservedZero p [(0, 1), (8, 8)] && pByte p 0 == 15 && p64 p 8 % 4 == 0 && reachable d .cp false (p64 p 8) 8192
        && (decodeAll readLimits (readEntries d (p64 p 8) 4 2048)).isSome && !maskStoreBusy d 15) = true
    ∧ (
      let p := packet 1 0x0501 ([7, 6, 0, 0, 0, 0, 0, 0] ++ dataAddr)
      let e := withBytes [1, 0, 0, 0, 1]
      let d := taken p e
      let w := (decodeAll readCoefficient (readEntries d (p64 p 8) 4 64)).getD []
      admitted e 0x0501 p && reservedZero p [(0, 2), (8, 8)] && pByte p 0 == 7 && pByte p 1 == 6 && p64 p 8 % 4 == 0
        && reachable d .cp false (p64 p 8) 256 && sumInt w == 2 && !windowStoreBusy d 7) = true := by decide +kernel

theorem test_witness_triggerCommandsAct_1 :
    (
      let p := packet 1 0x0600 [0, 15, 1]
      let q := packet 1 0x0600 [0, 15, 3, 0, 0, 0, 0, 0, 1]
      admitted withQueues 0x0600 p && reservedZero p [(0, 3), (8, 8)] && decide (pByte p 1 ≤ 15) && pByte p 2 == 1
        && admitted withQueues 0x0600 q && reservedZero q [(0, 3), (8, 8)] && pByte q 2 == 3 && decide (firstUnevaluated (taken q withQueues) ≤ p64 q 8)) = true
    ∧ (
      let p := packet 1 0x0600 [1, 15, 1]
      let q := packet 1 0x0600 [1, 15, 3, 0, 0, 0, 0, 0, 1]
      admitted withQueues 0x0600 p && reservedZero p [(0, 3), (8, 8)] && decide (pByte p 1 ≤ 15) && pByte p 2 == 1 && !(taken p withQueues).trig.armed
        && admitted withQueues 0x0600 q && reservedZero q [(0, 3), (8, 8)] && pByte q 2 == 3 && decide (firstUnevaluated (taken q withQueues) ≤ p64 q 8)) = true
    ∧ (
      let p := packet 1 0x0600 [2, 15, 1]
      let q := packet 1 0x0600 [2, 15, 3, 0, 0, 0, 0, 0, 1]
      admitted withQueues 0x0600 p && reservedZero p [(0, 3), (8, 8)] && decide (pByte p 1 ≤ 15) && pByte p 2 == 1
        && admitted withQueues 0x0600 q && reservedZero q [(0, 3), (8, 8)] && pByte q 2 == 3 && decide (firstUnevaluated (taken q withQueues) ≤ p64 q 8)) = true
    ∧ (
      let w : TrigWait := { packet := packet 1 0x0600 [1, 0, 2], instant := 0 }
      let d := { ready with trig := { ready.trig with armWaits := [w] } }
      let d := setActive (cfgKey 5 0 1) 1 d
      d.trig.armWaits.find? (fun x => x.instant == listMin (2 ^ 64) (d.trig.armWaits.map (·.instant))) == some w && waitDue d 0) = true
    ∧ (
      let p := packet 1 0x0601 [0, 0, 1]
      let q := packet 1 0x0601 [0, 0, 3, 0, 0, 0, 0, 0, 1]
      let d := { withQueues with trig := { withQueues.trig with armed := true } }
      admitted d 0x0601 p && reservedZero p [(2, 1), (8, 8)] && pByte p 2 == 1 && (taken p d).trig.armed
        && admitted d 0x0601 q && reservedZero q [(2, 1), (8, 8)] && pByte q 2 == 3 && decide (firstUnevaluated (taken q d) ≤ p64 q 8)) = true
    ∧ (
      let w : TrigWait := { packet := packet 1 0x0601 [0, 0, 2], instant := 0 }
      let d := setActive (cfgKey 5 0 1) 1 { ready with trig := { ready.trig with forceWaits := [w], armed := true } }
      d.trig.forceWaits.find? (fun x => x.instant == listMin (2 ^ 64) (d.trig.forceWaits.map (·.instant))) == some w && waitDue d 0) = true := by decide +kernel

theorem test_witness_triggerCommandsAct_2 :
    (
      let p := packet 1 0x0602 [0, 0x1F]
      admitted withQueues 0x0602 p && reservedZero p [(0, 8)]) = true := by decide +kernel

theorem test_witness_sequencerRowsAct_1 :
    (
      let d := setActive (cfgKey 5 0 1) 0 { ready with sampleIndex := 200000, trig := { ready.trig with again := some 0 } }
      aligned d && d.power.state != .sleep && (match alignedLimit d with
        | some lim => decide (d.trig.evalNext ≤ lim)
        | none => false)) = true
    ∧ (
      let d := setActive (cfgKey 5 0 1) 1 ready
      !aligned d && d.power.state != .sleep) = true
    ∧ (
      let d := { ready with trig := { ready.trig with timers := [(1, some (0, 0))] } }
      tget none d.trig.timers 1 == some (0, 0)) = true
    ∧ (
      let d := setActive (cfgKey 5 0 1) 1 (setActive (cfgKey 5 0x10 0x10F) 1 (setActive (cfgKey 5 0x10 0x103) 2 { ready with trig := { ready.trig with armed := true } }))
      let d := { d with cfg := { d.cfg with lastToken := 0, tokenZero := false } }
      let t := d.trig.entry + transLimit d 0
      let d := { d with sampleIndex := t + 1 }
      !aligned d && d.trig.armed && transN d 0 0 3 == 2 && transN d 0 0 0xF == 1 && usedSources (transN d 0 0 0) == [] && !bit d.trig.timerDone 0
        && decide (d.trig.entry + transLimit d 0 ≤ ballIndex d) && !contextDue d (d.trig.entry + transLimit d 0)) = true
    ∧ (
      let d := { ready with trig := { ready.trig with pulses := [(3, some 0)] } }
      tget none d.trig.pulses 3 == some 0) = true
    ∧ (
      let d := setWindow 7 { isOpen := true, openedAt := 0, autoClose := some 0 } ready
      (trigWindow d 7).autoClose == some 0) = true := by decide +kernel

theorem test_witness_sequencerRowsAct_2 :
    (
      let d := { ready with group := { ready.group with busIntervals := [(7, 0, 0)] } }
      d.group.busIntervals.find? (fun x => x.1 == 7 && decide (x.2.2 ≤ ballIndex d)) == some (7, 0, 0)) = true
    ∧ (
      let d := { ready with trig := { ready.trig with actions := [.open [0] 5] } }
      (match d.trig.actions.find? (fun a => match a with
          | .jump .. => false
          | _ => true) with
        | some a => a == .open [0] 5
        | none => false)) = true
    ∧ (
      let d := setGenerator 1 { mode := .playing } { ready with trig := { ready.trig with actions := [.jump 1 0 none] } }
      (match d.trig.actions.find? (fun a => match a with
          | .jump x _ _ => x == 1
          | _ => false) with
        | some a => a == .jump 1 0 none
        | none => false)) = true
    ∧ (
      let d := setActive (cfgKey 3 0 0x10) 1 (setActive (cfgKey 3 0 1) 1 ready)
      let d := setLane 0 0 { laneAt d 0 0 with next := 4096 } d
      let e := crossTokens 0 0 (laneAt d 0 0).recOld.length d
      let v := laneAt e 0 0
      let r := settingsAt e 0 0 v.recNext
      !resetRuns d (laneFault 0 0) && decide (v.recNext < v.next) && decide (v.recNext + decisionLag e 0 0 r + blockOf r.k ≤ v.next)) = true
    ∧ (
      let m : Meas := { window := 3, lane := 0, opened := 0, start := 0, next := 0, close := some 0, samples := [], cut := false, disarmed := false, late := false, short := false, lo := 0, hi := 0, k := 0, gain := 0, nco := 0, gen := 0 }
      let d := { ready with trig := { ready.trig with ended := [m] } }
      d.trig.ended.find? (fun m => m.window == 3) == some m && decide (m.close.getD 0 ≤ (laneAt d 0 0).next)) = true := by decide +kernel

theorem test_witness_intervalUnitActs_1 :
    (
      let p := packet 1 0x0700 [0, 1, 5, 0, 1, 0, 0, 0, 1, 0, 0, 0, 0, 0, 0, 0, 2]
      admitted withQueues 0x0700 p && reservedZero p [(0, 3), (4, 44)] && pByte p 2 == 5 && runParamsOk (taken p withQueues) p
        && (taken p withQueues).tiu.run == none && decide (ballIndex (taken p withQueues) ≤ p64 p 32)) = true
    ∧ (
      let p := packet 1 0x0700 [0, 1, 2, 0, 1, 0, 0, 0, 1, 0, 0, 0, 0, 0, 0, 0, 2]
      let d := setRun (some (newRun p withQueues)) withQueues
      admitted d 0x0700 p && reservedZero p [(0, 3), (4, 44)] && pByte p 2 == 2 && runParamsOk (taken p d) p && (runActive (taken p d)).isSome) = true
    ∧ (
      let d := { ready with tiu := { ready.tiu with coarse := ready.tiu.coarse + 1 } }
      unitRuns d && !indexPaused d && d.tiu.ticks == []) = true
    ∧ (ready.power.state != .sleep) = true
    ∧ (
      let p := packet 1 0x0700 [0, 1, 1, 0, 1, 0, 0, 0, 1, 0, 0, 0, 0, 0, 0, 0, 2, 0, 0, 0, 0, 0, 0, 0, 1]
      let r := newRun p ready
      let d := setTiuInput 1 { tiuInput ready 1 with toCal := [] } (setTiuInput 0 { tiuInput ready 0 with toCal := [] } (setRun (some r) ready))
      runActive d == some r && (tiuInput d r.startInput).toCal == [] && (tiuInput d r.stopInput).toCal == []) = true
    ∧ (
      let p := packet 1 0x0700 [0, 1, 1, 0, 1, 0, 0, 0, 1, 0, 0, 0, 0, 0, 0, 0, 2, 0, 0, 0, 0, 0, 0, 0, 1]
      let r := { newRun p ready with starts := [{ stamp := 0, span := 0, instant := none }] }
      let d := setRun (some r) ready
      runActive d == some r && r.starts.length == 1) = true := by decide +kernel

theorem test_witness_intervalUnitActs_2 :
    (
      let p := packet 1 0x0700 [0, 1, 1, 0, 1, 0, 0, 0, 1, 0, 0, 0, 0, 0, 0, 0, 2, 0, 0, 0, 0, 0, 0, 0, 1]
      let r := newRun p ready
      let d := setRun (some r) ready
      runActive d == some r && p64 r.packet 24 != 0) = true := by decide +kernel

theorem test_witness_generatorCommandsAct_1 :
    (
      let p := packet 1 0x0B00 [1, 0, 5, 0, 0, 0, 0, 0, 1]
      let d := taken p { withQueues with mem := writeCells [] (entryBase 1) (leBytes 16 (2 ^ 84)) }
      admitted { withQueues with mem := writeCells [] (entryBase 1) (leBytes 16 (2 ^ 84)) } 0x0B00 p && reservedZero p [(0, 12), (16, 8)]
        && segParamsOk d false p && !segLocked (generator d 1) 5 && !rangeHits (generator d 1) 5 0 1 (fun _ => true)
        && !rangeHits (generator d 1) 5 0 1 (segLocked (generator d 1)) && !segNamed d 1 5 && (inRing d 1 5 || rangeValid (fun i => entryWord d 1 (0 + i)) 1)) = true
    ∧ (
      let p := packet 1 0x0B00 ([0, 1, 255, 15, 0, 0, 0, 0, 1, 0, 0, 0, 0, 0, 0, 0] ++ dataAddr)
      let e : Device := { withQueues with mem := writeCells [] (hostBase + 1048576) (leBytes 16 (2 ^ 84)) }
      let d := taken p e
      admitted e 0x0B00 p && reservedZero p [(0, 12), (16, 8)]
        && segParamsOk d true p && !segLocked (generator d 0) 4095 && !rangeHits (generator d 0) 4095 0 1 (fun _ => true)
        && !rangeHits (generator d 0) 4095 0 1 (segLocked (generator d 0)) && !segNamed d 0 4095
        && rangeValid (fun i => memNat d (p64 p 16 + 16 * i) 16) 1) = true
    ∧ (
      let p := packet 1 0x0B00 [1, 2, 255, 15]
      let d := taken p withQueues
      admitted withQueues 0x0B00 p && reservedZero p [(0, 12), (16, 8)] && pByte p 0 == 1 && p16 p 2 == 4095 && !segLocked (generator d 1) 4095 && !segNamed d 1 4095) = true
    ∧ (
      let p := packet 1 0x0B01 ([1, 1, 0, 0, 1, 0, 0, 0] ++ dataAddr)
      let e := withBytes [0, 0, 0, 0, 0, 0, 0, 0, 4]
      let d := taken p e
      let st := (decodeAll readStep (readEntries d (p64 p 8) 16 1)).getD []
      admitted e 0x0B01 p && reservedZero p [(0, 2), (4, 12)] && reachable d .cp false (p64 p 8) 16 && st.length == 1
        && st.all (fun x => decide (x.next < 1) && (if x.stream then x.segment == 0 else (segDef (generator d 1) x.segment).any (fun s => rangeValid (segWord d 1 s) s.count))) && !seqBusy d 1 1) = true
    ∧ (
      let p := packet 1 0x0B02 [0, 1]
      let st : SeqStep := { segment := 0, next := 0, loops := 0, finish := false, wait := false, stream := true }
      let e := setGenerator 1 { mode := .playing, stores := [(0, [st])] } withQueues
      admitted e 0x0B02 p && reservedZero p [(0, 4)] && pByte p 1 == 1 && !genStopped (generator (taken p e) 1) && (stepOf (taken p e) 1 0).isSome) = true
    ∧ (
      let p := packet 1 0x0B02 [1, 1]
      let st : SeqStep := { segment := 0, next := 0, loops := 0, finish := false, wait := false, stream := true }
      let e := setActive (cfgKey 0x0C 1 1) 1 (setGenerator 1 { stores := [(0, [st])] } withQueues)
      admitted e 0x0B02 p && reservedZero p [(0, 5), (8, 8)] && pByte p 1 == 1 && pByte p 4 == 0 && p64 p 8 == 0 && genStopped (generator (taken p e) 1)
        && genN (taken p e) 1 1 == 1 && (stepOf (taken p e) 1 0).isSome) = true := by decide +kernel

theorem test_witness_generatorCommandsAct_2 :
    (
      let p := packet 1 0x0B02 [2, 1]
      let e := setGenerator 1 { mode := .playing } withQueues
      admitted e 0x0B02 p && reservedZero p [(0, 2)] && pByte p 1 == 1 && !genStopped (generator (taken p e) 1)) = true
    ∧ (
      let p := packet 1 0x0B02 [3, 1]
      admitted withQueues 0x0B02 p && reservedZero p [(0, 2), (16, 8)] && pByte p 1 == 1) = true := by decide +kernel

theorem test_witness_generatorRowsAct :
    (
      let d := setGenerator 1 { starting := some (256, 0), stopPending := true } ready
      decisionBoundary (generator d 1) == some 256 && (generator d 1).ending == none) = true
    ∧ (
      let c := idleChoice 0 0 0 .waiting none true
      let d := setGenerator 1 { starting := some (0, 0), queue := [c] } ready
      (generator d 1).starting == some (0, 0) && (generator d 1).queue == [c]) = true
    ∧ (
      let c := idleChoice 0 0 0 .waiting none true
      let n := idleChoice 256 0 0 .waiting none false
      let d := setActive (cfgKey 0x0C 1 1) 1 (setGenerator 1 { mode := .waiting, current := some { c with stop := 0 }, queue := [n] } ready)
      (generator d 1).current == some { c with stop := 0 } && (generator d 1).queue == [n]) = true
    ∧ (
      let d := setGenerator 1 { mode := .playing, current := some { idleChoice 0 0 0 .playing none true with segment := some 0 }, segments := [(0, some { first := 0, count := 1, committed := true, written := [] })] } ready
      (changePoint d 1).any (fun x => decide (x.1 ≤ ballIndex d))) = true
    ∧ (
      let d := setGenerator 1 { pulseEnds := [(3, some 0)] } ready
      tget none (generator d 1).pulseEnds 3 == some 0) = true
    ∧ (segOfEntry (generator ready 1) 1048575 == none) = true := by decide +kernel

/-- The cells of `n` grey palette entries from an address on. -/
def greyCells : Nat → Nat → List Host.Cell
  | _, 0 => []
  | a, n + 1 => (a, 16#8) :: (a + 1, 128#8) :: (a + 2, 128#8) :: greyCells (a + 4) n

/-- `withQueues` with `n` grey palette entries at the start of host memory. -/
def withGrey (n : Nat) : Device := { withQueues with mem := greyCells (hostBase + 1048576) n }

theorem greyCells_below : ∀ (n a x : Nat), x < a → memByte (greyCells a n) x = 0#8
  | 0, _, _, _ => rfl
  | n + 1, a, x, h => by
    have ih := greyCells_below n (a + 4) x (by omega)
    simp only [memByte, greyCells, tget, beq_iff_eq] at ih ⊢
    rw [if_neg (by omega), if_neg (by omega), if_neg (by omega)]
    exact ih

theorem greyCells_at : ∀ (n a i : Nat), i < n → memByte (greyCells a n) (a + 4 * i) = 16#8 ∧ memByte (greyCells a n) (a + 4 * i + 1) = 128#8
    ∧ memByte (greyCells a n) (a + 4 * i + 2) = 128#8 ∧ memByte (greyCells a n) (a + 4 * i + 3) = 0#8
  | n + 1, a, 0, _ => by
    have z := greyCells_below n (a + 4) (a + 3) (by omega)
    simp only [memByte] at z
    simp [memByte, greyCells, tget, z]
  | n + 1, a, i + 1, h => by
    have ih := greyCells_at n (a + 4) i (by omega)
    have e : a + 4 * (i + 1) = a + 4 + 4 * i := by omega
    rw [e]
    simp only [memByte, greyCells, tget, beq_iff_eq] at ih ⊢
    refine ⟨?_, ?_, ?_, ?_⟩
    · rw [if_neg (by omega), if_neg (by omega), if_neg (by omega)]; exact ih.1
    · rw [if_neg (by omega), if_neg (by omega), if_neg (by omega)]; exact ih.2.1
    · rw [if_neg (by omega), if_neg (by omega), if_neg (by omega)]; exact ih.2.2.1
    · rw [if_neg (by omega), if_neg (by omega), if_neg (by omega)]; exact ih.2.2.2

theorem decodeAll_of_all {α : Type} (f : List Byte → Option α) : ∀ l : List (List Byte), (∀ b ∈ l, (f b).isSome = true) → (decodeAll f l).isSome = true
  | [], _ => rfl
  | b :: bs, h => by
    have h1 := h b (by simp)
    have h2 := decodeAll_of_all f bs (fun x hx => h x (by simp [hx]))
    cases e1 : f b <;> cases e2 : decodeAll f bs <;> simp_all [decodeAll]

/-- A palette of 256 grey entries in host memory decodes. -/
theorem test_greyPalette : (decodeAll readColour (readEntries (withGrey 256) (hostBase + 1048576) 4 256)).isSome = true := by
  apply decodeAll_of_all
  intro b hb
  simp only [readEntries, List.mem_map, List.mem_range] at hb
  obtain ⟨i, hi, rfl⟩ := hb
  obtain ⟨h0, h1, h2, h3⟩ := greyCells_at 256 (hostBase + 1048576) i hi
  have hm : memRead (withGrey 256) (hostBase + 1048576 + 4 * i) 4 = [16#8, 128#8, 128#8, 0#8] := by
    have hr : ∀ k, readByte (withGrey 256) (hostBase + 1048576 + 4 * i + k) = memByte (greyCells (hostBase + 1048576) 256) (hostBase + 1048576 + 4 * i + k) := by
      intro k
      unfold readByte
      rw [if_neg (by simp [hostBase]; omega)]
      rfl
    simp only [memRead, show List.range 4 = [0, 1, 2, 3] from rfl, List.map, hr, h1, h2, h3]
    simp [h0]
  rw [hm]
  rfl

theorem test_paletteEntries : (let p := packet 1 0x0803 ([2, 0, 0, 0, 0, 0, 0, 0] ++ dataAddr)
    decodeAll readColour (readEntries (taken p (withGrey 256)) (p64 p 8) 4 256)).isSome = true := by
  have e : p64 (packet 1 0x0803 ([2, 0, 0, 0, 0, 0, 0, 0] ++ dataAddr)) 8 = hostBase + 1048576 := by decide +kernel
  show (decodeAll readColour (readEntries (taken _ (withGrey 256)) (p64 _ 8) 4 256)).isSome = true
  rw [e]
  exact test_greyPalette

theorem test_witness_viewCommandsAct :
    (
      let p := packet 1 0x0800 [0, 0, 32, 0, 0, 0, 0, 0]
      let d := taken p withYard
      admitted withYard 0x0800 p && reservedZero p [(0, 8)] && p64 p 0 == 2 ^ 21 && (poolFind d (p64 p 0) (2 ^ 21)).isSome
        && ((List.range 4096).find? (fun h => h != 0 && (bufferOf d h).isNone)).isSome) = true
    ∧ (
      let e : Device := addBuffer { base := yardBase, size := 2 ^ 21, handle := some 1 } withYard
      let p := packet 1 0x0801 [1, 0]
      let d := taken p e
      match bufferOf d 1 with
      | some b => admitted e 0x0801 p && reservedZero p [(0, 2)] && p16 p 0 == 1 && b.freeing.isNone && !namedByMap d 1 && !underWindow d b && !bufferHeld d 1
      | none => false) = true
    ∧ (
      let e0 : Device := addBuffer { base := yardBase, size := 2 ^ 21, handle := some 1 } withYard
      let e : Device := { e0 with disp := { e0.disp with running := true, committed := { ({} : PlaneState) with l0 := some ⟨1, 0, 0, 0, 0⟩ } } }
      let p := packet 1 0x0801 [1, 0]
      let d := taken p e
      match bufferOf d 1 with
      | some b => admitted e 0x0801 p && reservedZero p [(0, 2)] && p16 p 0 == 1 && b.freeing.isNone && !namedByMap d 1 && !underWindow d b && bufferHeld d 1
      | none => false) = true
    ∧ (
      let e0 : Device := addBuffer { base := yardBase, size := 2 ^ 21, handle := some 1 } withYard
      let p := packet 1 0x0802 [1, 0, 1, 0]
      let d := taken p e0
      admitted e0 0x0802 p && reservedZero p [(0, 1), (2, 4), (8, 28)] && bit (pByte p 0) 0 && !bit (pByte p 0) 1
        && planesOk d 0 ⟨1, 0, 0, 0, 0⟩ && scanN d 4 == 0) = true
    ∧ (
      let p := packet 1 0x0803 ([2, 0, 0, 0, 0, 0, 0, 0] ++ dataAddr)
      let d := taken p (withGrey 256)
      admitted (withGrey 256) 0x0803 p && reservedZero p [(0, 1), (8, 8)] && pByte p 0 == 2 && reachable d .cp false (p64 p 8) 1024 && !paletteBusy d 2) = true := by decide +kernel

theorem test_witness_viewEventsAct_1 :
    (
      let x : Spectrum := { slot := 14, stamp := 0, centre := 0, frameNumber := 0, flags := 0, ctx := slotCtx ready 14, computed := true, bins := [0, 100], trace := [] }
      let d : Device := setMap 7 { ({} : DensMap) with stall := { ({} : DensMap).stall with items := [x] } } ready
      mapN d 7 1 != 1 && (densMap d 7).stall.items == [x]) = true
    ∧ (
      let x : Spectrum := { slot := 14, stamp := 0, centre := 0, frameNumber := 0, flags := 0, ctx := slotCtx ready 14, computed := true, bins := [0, 100], trace := [] }
      let d : Device := setMap 7 { ({} : DensMap) with stall := { ({} : DensMap).stall with items := [x] } }
        (setActive (cfgKey 7 7 1) 1 (setActive (cfgKey 7 7 0xA) 1 (setActive (cfgKey 7 7 0xC) 1 ready)))
      mapN d 7 1 == 1 && !tokenWaits d 0x0707 x.stamp && !scheduledWaits d 7 x.stamp && !(densMap d 7).deferred.any (·.settings.isSome)) = true
    ∧ (
      let d : Device := setMap 7 { ({} : DensMap) with drain := some ({}, mapCtx ready 7) } ready
      (densMap d 7).drain == some ({}, mapCtx ready 7)) = true
    ∧ (
      let w : ColourWork := { ctx := { mapCtx ready 7 with colBuf := 1, colNbuf := 2 }, values := [] }
      let s0 : Device := setMap 7 { ({} : DensMap) with colour := [w] } (addBuffer { base := yardBase, size := 2 ^ 21, handle := some 1 } withYard)
      (densMap s0 7).colour == [w]) = true
    ∧ (
      let d : Device := { withYard with disp := { withYard.disp with running := true } }
      d.disp.running && !d.disp.blanking) = true
    ∧ (
      let d : Device := { ready with disp := { ready.disp with running := true, blanking := true } }
      d.disp.running && d.disp.blanking && (List.range 4096).any (frameStartsAt d)) = true := by decide +kernel

theorem test_witness_viewEventsAct_2 :
    (
      let d : Device := { ready with disp := { ready.disp with running := true } }
      d.disp.running && !d.disp.blanking && decide (719 < (modeActive (scanN d 1)).2)) = true
    ∧ (({ ready with disp := { ready.disp with running := true } } : Device).disp.running) = true
    ∧ ((dpPort (setDpPort 1 { ({} : DpPort) with connected := true } ready) 1).connected) = true
    ∧ (
      let d : Device := setDpPort 1 { ({} : DpPort) with connected := true } { setActive (cfgKey 8 2 1) 1 ready with disp := { ready.disp with running := true } }
      d.disp.running && (dpPort d 1).connected && dpN d 1 1 == 1) = true
    ∧ ((dpPort (setDpPort 1 { ({} : DpPort) with trained := true } ready) 1).trained) = true := by decide +kernel

theorem test_witness_streamCommandsAct :
    (
      let p := packet 1 0x0900 [0, 253, 26]
      let d := taken p withYard
      admitted withYard 0x0900 p && reservedZero p [(0, 3)] && pByte p 2 == 26 && pByte p 1 == 253 && !isOpen (stream d 253)
        && (poolFind d (2 ^ 26) (2 ^ 26)).isSome) = true
    ∧ (
      let e := setStream 253 { ({} : Stream) with ringLog2 := 26, ringBase := yardBase } withYard
      let p := packet 1 0x0900 [1, 253]
      let d := taken p e
      admitted e 0x0900 p && reservedZero p [(0, 2)] && pByte p 1 == 253 && isOpen (stream d 253) && (stream d 253).closing.isNone
        && neverEnabled d 253) = true
    ∧ (
      let e := setStream 253 { ({} : Stream) with ringLog2 := 26, ringBase := yardBase, halted := true, haltDrops := { count := 2 } } withYard
      let p := packet 1 0x0900 [2, 253]
      let d := taken p e
      admitted e 0x0900 p && reservedZero p [(0, 2)] && isOpen (stream d 253) && (stream d 253).halted
        && decide (consumers d 253 = 0 ∨ 128 ≤ freeSpace d 253 (stream d 253))) = true
    ∧ (
      let v : Stream := { ringLog2 := 26, ringBase := yardBase, writeOffset := 64, nextSeq := 6 }
      let e := memWrite (yardBase + 12) (leBytes 8 5) (memWrite (yardBase + 60) (leBytes 4 1) (setStream 253 v (setActive (cfgKey 9 253 3) 1 withYard)))
      let p := packet 1 0x0901 [253, 0, 0, 0, 0, 0, 0, 0, 5, 0, 0, 0, 0, 0, 0, 0, 64]
      let d := taken p e
      admitted e 0x0901 p && reservedZero p [(0, 2), (8, 16)] && pByte p 1 == 0 && isOpen (stream d 253) && bit (consumers d 253) 0
        && !ringBound d 253 && decide ((stream d 253).hostOffset < p64 p 16) && p64 p 16 == 64 && (stream d 253).writeOffset == 64
        && recordEndsAt d (stream d 253) (p64 p 16) (p64 p 8)) = true
    ∧ (
      let v : Stream := { ringLog2 := 26, ringBase := yardBase, writeOffset := 64, nextSeq := 6, hostOffset := 64, hostSeq := some 5 }
      let e := setStream 253 v (setActive (cfgKey 9 253 3) 1 withYard)
      let p := packet 1 0x0901 [253, 0, 0, 0, 0, 0, 0, 0, 5, 0, 0, 0, 0, 0, 0, 0, 64]
      let d := taken p e
      admitted e 0x0901 p && reservedZero p [(0, 2), (8, 16)] && pByte p 1 == 0 && isOpen (stream d 253) && bit (consumers d 253) 0
        && !ringBound d 253 && p64 p 16 == (stream d 253).hostOffset && (stream d 253).hostSeq == some (p64 p 8)) = true := by decide +kernel

theorem test_witness_streamEventsAct :
    (
      let r : Rec := { type := 4, source := 0x3001, flags := 0, firstIndex := 0, generation := 0, payload := [] }
      let d : Device := setStream 255 { ({} : Stream) with ringLog2 := 26, stall := [r] } (setActive (cfgKey 9 255 1) 1 ready)
      isOpen (stream d 255) && !resetRuns d 0x200
        && takeFirst (fun r => !epochBefore (stream d 255) r && !gapWaits d 255 r) (stream d 255).stall == some (r, [])) = true
    ∧ ((stream (setStream 255 { ({} : Stream) with inFlight := [3] } ready) 255).inFlight == [3]) = true
    ∧ (
      (stream (setStream 255 { ({} : Stream) with mirrorDue := true } ready) 255).mirrorDue
        && (stream (setStream 255 { ({} : Stream) with mirrorDue := true } ready) 255).mirrorAt.isNone) = true
    ∧ (
      let x : EpochDue := { epoch := 0, deviceTime := 0, generation := 1, prevGeneration := 0, fsclkHz := 1, refinHz := 1, exponent := 20, flags := 0, merged := 0, syncCount := 0, pauseNs := 0, wanted := true, enabled := true }
      let d : Device := setStream 255 { ({} : Stream) with ringLog2 := 26, epochDue := [x] } ready
      isOpen (stream d 255) && epochReady d 255 x) = true := by decide +kernel

/-- `withQueues` with a drive on port 7 that holds bytes in its first LBA. -/
def withDrive (b : List Byte) : Device :=
  setPort 7 { linkUp := true, ready := true, capacity := 2 ^ 30, disk := [(0, { bytes := b })] } withQueues

/-- A superblock that the device writes is valid when it is read (R327). -/
theorem superValid_superblock (v : Volume) (i : Nat) (b : Bool) : superValid (superblock v i b) = true := by
  have hp : ∀ l : List Byte, (padTo l 4092).length = 4092 := by
    intro l; simp [padTo, sliceBytes, zeroBytes] <;> omega
  have hm : ∀ l r : List Byte, superMagic <+: l → superMagic.length = 8 → (padTo l 4092 ++ r).take 8 = l.take 8 := by
    intro l r h h8
    have : 8 ≤ l.length := by have := h.length_le; omega
    rw [List.take_append_of_le_length (by rw [hp]; omega)]
    simp only [padTo, sliceBytes, List.drop_zero]
    rw [List.take_append_of_le_length (by simp; omega), List.take_take]
    rfl
  have h2 : ∀ l r : List Byte, 10 ≤ l.length → getLe (padTo l 4092 ++ r) 8 2 = getLe l 8 2 := by
    intro l r h
    have hd : (List.drop 8 (padTo l 4092 ++ r)).take 2 = (l.drop 8).take 2 := by
      have k : ∀ m : List Byte, (m.drop 8).take 2 = (m.take 10).drop 8 := fun m => by rw [List.drop_take]
      rw [k, k, List.take_append_of_le_length (by rw [hp]; omega)]
      simp only [padTo, sliceBytes, List.drop_zero]
      rw [List.take_append_of_le_length (by simp; omega), List.take_take]
      rfl
    simp only [getLe, sliceBytes, hd]
  unfold superValid superblock
  simp only [Bool.and_eq_true, beq_iff_eq, List.append_assoc]
  refine ⟨⟨?_, ?_⟩, ?_⟩
  · rw [hm _ _ (List.prefix_append _ _) (by decide)]
    exact List.take_left' (by decide)
  · rw [h2 _ _ (by simp [superMagic, leBytes_length]; omega)]
    rfl
  · rw [List.take_left' (hp _)]
    simp only [getLe, sliceBytes, List.drop_left' (hp _)]
    rw [List.take_of_length_le (by simp [leBytes_length])]
    simp only [leBytes_length, Nat.sub_self, zeroBytes, List.replicate, List.append_nil]
    rw [leNat_leBytes]
    exact Nat.mod_eq_of_lt (BitVec.isLt _)

theorem withDrive_block (b : List Byte) (h : b.isEmpty = false) : readBlock (withDrive b) 7 0 none 0 = some b := by
  have e : tget {} (port (withDrive b) 7).disk 0 = { bytes := b } := by
    simp [withDrive, port, setPort, withQueues, ready, tset, tget]
  simp [readBlock, e, h]

theorem withDrive_super (b : List Byte) (h : b.isEmpty = false) (hv : superValid b = true) : readSuper (withDrive b) 7 = some b := by
  simp [readSuper, List.findSome?, withDrive_block b h, hv, Option.filter]

theorem withDrive_finds (b : List Byte) (h : b.isEmpty = false) (hv : superValid b = true) (h1 : getLe b 11 1 = 1) (h2 : getLe b 10 1 = 0)
    (h3 : getLe b 13 1 = 0) (r : Nat) : findVolume (withDrive b) [7] false r = .ok (superVolume b [some 7] none [], false) := by
  have e : driveReady (withDrive b) 7 = true := by simp [withDrive, driveReady, port, setPort, withQueues, ready, tset, tget]
  have e1 : (superVolume b [some 7] none []).encrypted = false := by simp [superVolume, h3, bit]
  have e2 : ∀ v : Volume, v.failed = false → v.encrypted = false → ({ v with failed := false, encrypted := false } : Volume) = v := by
    intro v hf hg; cases v; simp_all
  have e3 := e2 (superVolume b [some 7] none []) (by simp [superVolume, h3, bit]) e1
  simp [findVolume, e, withDrive_super b h hv, h1, h2, h3, bit, List.range, List.range.loop, e1]
  exact e3

set_option maxRecDepth 8000 in
/-- The volume that the superblock on the drive states can be mounted. -/
theorem test_mountable (r : Nat) : findVolume (withDrive (superblock plainVolume 0 false)) [7] false r
    = .ok (superVolume (superblock plainVolume 0 false) [some 7] none [], false) := by
  have take : ∀ (l r : List Byte) (k n : Nat), k + n ≤ l.length → k + n ≤ 4092 → getLe (padTo l 4092 ++ r) k n = getLe l k n := by
    intro l r k n h h'
    have hp : (padTo l 4092).length = 4092 := by simp [padTo, sliceBytes, zeroBytes] <;> omega
    have c : ∀ m : List Byte, (m.drop k).take n = (m.take (k + n)).drop k := fun m => by rw [List.drop_take]; simp
    have d : ((padTo l 4092 ++ r).drop k).take n = (l.drop k).take n := by
      rw [c, c, List.take_append_of_le_length (by rw [hp]; omega)]
      simp only [padTo, sliceBytes, List.drop_zero]
      rw [List.take_append_of_le_length (by simp; omega), List.take_take, Nat.min_eq_left h']
    simp only [getLe, sliceBytes, d]
  refine withDrive_finds _ (by simp [superblock, leBytes]) (superValid_superblock ..) ?_ ?_ ?_ r
  · exact (take _ _ 11 1 (by simp [superMagic, leBytes_length]; omega) (by omega)).trans (by decide +kernel)
  · exact (take _ _ 10 1 (by simp [superMagic, leBytes_length]; omega) (by omega)).trans (by decide +kernel)
  · exact (take _ _ 13 1 (by simp [superMagic, leBytes_length]; omega) (by omega)).trans (by decide +kernel)
theorem test_mountableHeld (p : Packet) (r : Nat) : findVolume (taken p (withDrive (superblock plainVolume 0 false))) [7] false r
    = .ok (superVolume (superblock plainVolume 0 false) [some 7] none [], false) := by
  rw [← test_mountable r]
  have k : ∀ (d : Device) (h : HostState) (m : Table Nat), findVolume { d with host := h, marks := m } [7] false r
      = findVolume d [7] false r := fun _ _ _ => rfl
  obtain ⟨h, m, e⟩ := Laws.taken_frame p (withDrive (superblock plainVolume 0 false))
  rw [e]
  exact k _ _ _

theorem test_witness_volumeCommandsAct :
    (
      let v : StoragePort := { linkUp := true, ready := true, capacity := 2 ^ 30 }
      let e := setPort 7 v withQueues
      let p := packet 1 0x0A00 [0, 7, 128, 20, 4]
      let d := taken p e
      let ps := maskPorts (pByte p 2)
      admitted e 0x0A00 p && volParams p && pByte p 3 == 20 && p32 p 8 == 0 && !bit (pByte p 4) 0 && !bit (pByte p 4) 1 && bit (pByte p 4) 2
        && !ps.isEmpty && (volume d (pByte p 1)).isNone && !ps.any (inVolume d) && ps.all (driveReady d)
        && listMin (2 ^ 64) (ps.map (fun q => ((port d q).capacity - 1 - dataStartOf 65536 20) / unitLbas 20)) != 0) = true
    ∧ (
      let e := withDrive (superblock plainVolume 0 false)
      let p := packet 1 0x0A00 [1, 6, 128]
      let d := taken p e
      admitted e 0x0A00 p && volParams p && maskPorts (pByte p 2) == [7] && (volume d (pByte p 1)).isNone && !([7].any (inVolume d))
        && !bit (pByte p 4) 2) = true
    ∧ (
      let e := setVolume 7 (some plainVolume) withQueues
      let p := packet 1 0x0A00 [2, 7]
      let d := taken p e
      admitted e 0x0A00 p && volParams p && (volume d (pByte p 1)).isSome && !volumeBusy d (pByte p 1)) = true := by decide +kernel

theorem test_witness_recorderCommandsAct :
    (
      let e := setStream 253 { ({} : Stream) with ringLog2 := 26, ringBase := yardBase }
        (setVolume 7 (some plainVolume) (setActive (cfgKey 9 253 3) 3 (setActive (cfgKey 0x0B 0x17 1) 2 (setActive (cfgKey 0x0B 0x17 2) 4 withYard))))
      let p := packet 1 0x0A01 [7, 253, 1, 0, 0, 0, 0, 0, 1]
      let d := taken p e
      admitted e 0x0A01 p && reservedZero p [(0, 3), (8, 24)] && volume d 7 == some plainVolume && bit (consumers d 253) 1 && !recordingOn d 253
        && !d.nvme.waits.any (fun w => w.stream == 253 && w.stopOf.isNone) && d.nvme.running.isEmpty && isOpen (stream d 253)
        && decide (4 * 2 ^ plainVolume.stripeLog2 * driveCount plainVolume ≤ 2 ^ (stream d 253).ringLog2)
        && volumeRateOk d (cfgVal d) 7 plainVolume [253] && decide (d.sampleIndex < p64 p 8 * 2 ^ epochExp d)) = true
    ∧ (
      let e : Device := { withQueues with nvme := { withQueues.nvme with running := [runRec] } }
      let p := packet 1 0x0A02 [9]
      let d := taken p e
      admitted e 0x0A02 p && reservedZero p [(0, 5), (8, 8)] && pByte p 4 == 0 && runningRec d (p32 p 0) == some runRec
        && !d.nvme.waits.any (fun w => w.stopOf == some (p32 p 0))) = true
    ∧ (
      let e := setVolume 7 (some { plainVolume with recordings := [{ id := 9, extents := [(0, 2, 0)] }] }) withQueues
      let p := packet 1 0x0A04 [9]
      let d := taken p e
      admitted e 0x0A04 p && reservedZero p [(0, 4)] && (findRecording d (p32 p 0)).isSome && (runningRec d (p32 p 0)).isNone
        && !d.nvme.playing.any (fun x => x.recording == p32 p 0)) = true
    ∧ (
      let e := setStream 253 { ({} : Stream) with ringLog2 := 26, ringBase := yardBase }
        (setVolume 7 (some { plainVolume with recordings := [{ id := 9, extents := [(0, 2, 0)] }] }) (setActive (cfgKey 9 253 1) 1 (setActive (cfgKey 9 253 3) 1 withQueues)))
      let p := packet 1 0x0A03 [7, 253, 0, 0, 9]
      let d := taken p e
      admitted e 0x0A03 p && reservedZero p [(0, 2), (4, 24)] && (volume d 7).isSome && ((volume d 7).bind (fun v => recordingIn v 9)).isSome
        && playTarget d 253 && d.nvme.playing.isEmpty) = true := by decide +kernel

theorem test_witness_recorderEventsAct_1 :
    (
      let r : RunningRec := { runRec with ahead := [0] }
      let d := prepareUnit 9 (setStream 253 { ({} : Stream) with ringLog2 := 26, ringBase := yardBase, writeOffset := 1048576 }
        (setPort 7 { ({} : StoragePort) with ready := true }
        (setVolume 7 (some plainVolume) { ready with nvme := { ready.nvme with running := [r] } })))
      (match runningRec d 9 with
      | some r => r.ahead.head? == some 0 && (volume d r.volume).isSome
      | none => false)) = true
    ∧ (wearRuns (setPort 7 { ({} : StoragePort) with ready := true } ready) 7) = true
    ∧ (wearRuns (setPort 7 { ({} : StoragePort) with ready := true } ready) 7) = true
    ∧ (
      let d := setPort 7 { ({} : StoragePort) with linkUp := true, queue := [.bringUp usableDrive] } ready
      (port d 7).linkUp && !(port d 7).failed) = true
    ∧ (
      let d := setPort 7 { ({} : StoragePort) with linkUp := true } ready
      (port d 7).linkUp && !(port d 7).failed) = true
    ∧ (
      let d := setPort 7 { ({} : StoragePort) with linkUp := true } ready
      (port d 7).linkUp) = true := by decide +kernel

theorem test_witness_recorderEventsAct_2 :
    (
      let d := setActive (cfgKey 0x0B 0x17 1) 1 ready
      !(port d 7).linkUp && !(port d 7).failed && portN d 7 1 != 0 && d.power.state != .sleep) = true
    ∧ (
      let x : Playback := { packet := packet 1 0x0A03 [], volume := 7, recording := 9, stream := 253, next := 64, limit := 64, firstSeq := none, played := 1, count := 0, rate := 0, bytes := 0, begun := 0, retried := false }
      ({ ready with nvme := { ready.nvme with playing := [x] } } : Device).nvme.playing == [x] && decide (x.limit ≤ x.next)) = true
    ∧ (
      let v : Volume := { plainVolume with recordings := [{ id := 9, extents := [(0, 1, 0)], length := 64 }] }
      let x : Playback := { packet := packet 1 0x0A03 [], volume := 6, recording := 9, stream := 253, next := 0, limit := 64, firstSeq := none, played := 0, count := 0, rate := 0, bytes := 0, begun := 0, retried := false }
      let d1 := setPort 7 { ({} : StoragePort) with ready := true } (setVolume 6 (some v) ready)
      let d : Device := { d1 with nvme := { d1.nvme with playing := [x] } }
      d.nvme.playing == [x] && volume d 6 == some v
        && (match recordingIn v 9 with
            | some r => !(playPort v r x.next).any (fun p => !nvmeRoom d p 1)
            | none => false)) = true := by decide +kernel

theorem test_witness_xferCommandsAct :
    (
      let p := packet 1 0x0902 ([0, 63, 0, 0, 0, 0, 0, 0] ++ dataAddr)
      let d := taken p (setActive (cfgKey 0x0A 63 1) 1 withQueues)
      admitted (setActive (cfgKey 0x0A 63 1) 1 withQueues) 0x0902 p && xferParams p && descriptorOk d (p64 p 8) && (chan d 63).state == .idle
        && xferN d 63 1 != 0) = true
    ∧ (admitted withQueues 0x0902 (packet 1 0x0902 [1, 63]) && xferParams (packet 1 0x0902 [1, 63])) = true
    ∧ (admitted withQueues 0x0902 (packet 1 0x0902 [2, 63]) && xferParams (packet 1 0x0902 [2, 63])) = true
    ∧ (admitted withQueues 0x0902 (packet 1 0x0902 [3, 63]) && xferParams (packet 1 0x0902 [3, 63])) = true := by decide +kernel

theorem test_witness_xferEventsAct_1 :
    ((chan (setChan 63 { ({} : XferChan) with state := .running } ready) 63).state == .running) = true
    ∧ (
      let d := setChan 63 { ({} : XferChan) with state := .waitOwn } (setActive (cfgKey 0x0A 63 4) 1 ready)
      (chan d 63).state == .waitOwn && xferN d 63 4 != 0) = true
    ∧ (
      let x : Descriptor := { src := 0, dst := 0, srcLine := 64, srcStride := 0, srcLines := 1, dstLine := 64, dstStride := 0, dstLines := 1, next := 0, control := 8, total := 64, started := true }
      let d := setChan 63 { ({} : XferChan) with state := .running, desc := some x } ready
      wantsBurst (chan d 63) && !burstReady d 63) = true
    ∧ (
      let x : Descriptor := { src := 0, dst := 0, srcLine := 64, srcStride := 0, srcLines := 1, dstLine := 64, dstStride := 0, dstLines := 1, next := 0, control := 0, total := 64, started := true }
      let d := setChan 63 { ({} : XferChan) with state := .running, desc := some x } ready
      wantsBurst (chan d 63) && burstReady d 63 && burstWinner d == some 63 && decide (inFlightTotal d < 1024)) = true
    ∧ (
      let x : Descriptor := { src := yardBase, dst := hostBase, srcLine := 64, srcStride := 0, srcLines := 1, dstLine := 64, dstStride := 0, dstLines := 1, next := 0, control := 0, total := 64, started := true }
      let d := setChan 63 { ({} : XferChan) with state := .running, desc := some x, inFlight := [(0, 64)] } withYard
      (chan d 63).desc == some x && (chan d 63).inFlight == [(0, 64)]) = true
    ∧ (
      let x : Descriptor := { src := 0, dst := 0, srcLine := 64, srcStride := 0, srcLines := 1, dstLine := 64, dstStride := 0, dstLines := 1, next := 0, control := 0, total := 64, started := true }
      let d := setChan 63 { ({} : XferChan) with state := .running, desc := some x, issued := 64 } ready
      (chan d 63).state == .running && (chan d 63).desc == some x && (chan d 63).inFlight.isEmpty && (chan d 63).error.isNone
        && decide (x.total ≤ (chan d 63).issued)) = true := by decide +kernel

theorem test_witness_xferEventsAct_2 :
    (
      let d := setChan 63 { ({} : XferChan) with state := .waitReq } (setActive (cfgKey 0x0A 63 5) 1 ready)
      (chan d 63).state == .waitReq && xferN d 63 5 != 0 && !(chan d 63).desc.any (lineAllows d)) = true := by decide +kernel

theorem test_witness_reedVectorOps_1 :
    (
      let w := reedWord 0x0C 1 2 3
      let d := withCore w
      issuesNext d 31 w && iOp w == 0x0C && issuesClean (settled d 31) w (let v := settled d 31
        [(2, .vec (physReg v (iD w)) (packLanes ((zip8 (· + ·) (vecLanes v (iA w)) (vecLanes v (iB w))).map sat16)))] ++ moved v w)) = true
    ∧ (
      let w := reedWord 0x0D 1 2 3
      let d := withCore w
      issuesNext d 31 w && iOp w == 0x0D && issuesClean (settled d 31) w (let v := settled d 31
        [(2, .vec (physReg v (iD w)) (packLanes ((zip8 (· - ·) (vecLanes v (iA w)) (vecLanes v (iB w))).map sat16)))] ++ moved v w)) = true
    ∧ (
      let w := reedWord 0x0E 1 2 3
      let d := withCore w
      issuesNext d 31 w && iOp w == 0x0E && issuesClean (settled d 31) w (let v := settled d 31
        [(2, .vec (physReg v (iD w)) (packLanes (zip8 max (vecLanes v (iA w)) (vecLanes v (iB w)))))] ++ moved v w)) = true
    ∧ (
      let w := reedWord 0x0F 1 2 3
      let d := withCore w
      issuesNext d 31 w && iOp w == 0x0F && issuesClean (settled d 31) w (let v := settled d 31
        [(2, .vec (physReg v (iD w)) (packLanes (zip8 min (vecLanes v (iA w)) (vecLanes v (iB w)))))] ++ moved v w)) = true
    ∧ (
      let w := reedWord 0x11 1 2 3
      let d := withCore w
      issuesNext d 31 w && iOp w == 0x11 && issuesClean (settled d 31) w (let v := settled d 31
        [(2, .vec (physReg v (iD w)) (packLanes ((vecLanes v (iA w)).map (fun y => sat16 (y * 2 ^ iX w)))))] ++ moved v w)) = true
    ∧ (
      let w := reedWord 0x12 1 2 3
      let d := withCore w
      issuesNext d 31 w && iOp w == 0x12 && issuesClean (settled d 31) w (let v := settled d 31
        [(2, .vec (physReg v (iD w)) (packLanes ((((vecLanes v (iA w)) ++ (vecLanes v (iB w))).drop (iX w % 8)).take 8)))] ++ moved v w)) = true := by decide +kernel

theorem test_witness_reedVectorOps_2 :
    (
      let w := reedWord 0x13 1 2 3
      let d := withCore w
      issuesNext d 31 w && iOp w == 0x13 && issuesClean (settled d 31) w (let v := settled d 31
        [(1, .vec (physReg v (iD w)) (packLanes ((vecLanes v (iA w)))))] ++ moved v w)) = true
    ∧ (
      let w := reedWord 0x14 1 2 3
      let d := withCore w
      issuesNext d 31 w && iOp w == 0x14 && issuesClean (settled d 31) w (let v := settled d 31
        [(1, .vec (physReg v (iD w)) (packLanes (List.replicate 8 (getLane (vecLanes v (iA w)) (iX w % 8)))))] ++ moved v w)) = true
    ∧ (
      let w := reedWord 0x15 1 2 3
      let d := withCore w
      issuesNext d 31 w && iOp w == 0x15 && issuesClean (settled d 31) w (let v := settled d 31
        [(2, .vec (physReg v (iD w)) (packLanes (((vecLanes v (iA w)).zipIdx).map (fun y => if y.2 % 2 == 1 then sat16 (-y.1) else y.1))))] ++ moved v w)) = true
    ∧ (
      let w := reedWord 0x0B 1 2 3
      let d := withCore w
      issuesNext d 31 w && iOp w == 0x0B && issuesClean (settled d 31) w (let v := settled d 31
        let l := (accLanes v (iA w)).map (fun y => convSat y (iB w))
        [(2, .vec (physReg v (iD w)) (packLanes (l.map (·.1))))] ++ moved v w)) = true
    ∧ (
      let w := reedWord 0x10 1 2 3
      let d := withCore w
      issuesNext d 31 w && iOp w == 0x10 && issuesClean (settled d 31) w (let v := settled d 31
        let l := (vecLanes v (iA w)).map (fun y => convSat y (iX w))
        [(2, .vec (physReg v (iD w)) (packLanes (l.map (·.1))))] ++ moved v w)) = true
    ∧ (
      let w := reedWord 0x01 1 2 3
      let d := withCore w
      issuesNext d 31 w && iOp w == 0x01 && issuesClean (settled d 31) w (moved (settled d 31) w)) = true := by decide +kernel

theorem test_witness_reedVectorOps_3 :
    (
      let w := reedWord 0x00 1 2 3
      let d := withCore w
      issuesNext d 31 w && iOp w == 0x00 && issuesClean (settled d 31) w (moved (settled d 31) w)) = true
    ∧ (
      let d := withCore (reedWord 0x16 1 2 3)
      let u := Machine.core d 31
      u.mode == .running && u.wait == .none && u.stopping.isEmpty && reservedOp (iOp (tget 0 u.program u.pc).toNat) && illegal (tget 0 u.program u.pc).toNat) = true := by decide +kernel

theorem test_witness_reedAccumulatorOps_1 :
    (
      let w := reedWord 0x02 1 2 3
      let d := withCore w
      issuesNext d 31 w && iOp w == 0x02 && issuesClean (settled d 31) w (let v := settled d 31
        let l := (zip8 (· + ·) (fwdLanes v (iD w)) (negIf (bit (iX w) 3) (zip8 (· * ·) (vecLanes v (iA w)) (vecLanes v (iB w))))).map acc40
        [(1, .fwd (iD w) (l.map (·.1))), (3, .acc (iD w) (l.map (·.1)))] ++ moved v w)) = true
    ∧ (
      let w := reedWord 0x03 1 2 3
      let d := withCore w
      issuesNext d 31 w && iOp w == 0x03 && issuesClean (settled d 31) w (let v := settled d 31
        let l := (negIf (bit (iX w) 3) (zip8 (· * ·) (vecLanes v (iA w)) (vecLanes v (iB w)))).map acc40
        [(1, .fwd (iD w) (l.map (·.1))), (3, .acc (iD w) (l.map (·.1)))] ++ moved v w)) = true
    ∧ (
      let w := reedWord 0x04 1 2 3
      let d := withCore w
      issuesNext d 31 w && iOp w == 0x04 && issuesClean (settled d 31) w (let v := settled d 31
        let l := (zip8 (· + ·) (fwdLanes v (iD w)) (negIf (bit (iX w) 3) ((vecLanes v (iA w)).map (· * getLane (vecLanes v (iB w)) (iX w % 8))))).map acc40
        [(1, .fwd (iD w) (l.map (·.1))), (3, .acc (iD w) (l.map (·.1)))] ++ moved v w)) = true
    ∧ (
      let w := reedWord 0x05 1 2 3
      let d := withCore w
      issuesNext d 31 w && iOp w == 0x05 && issuesClean (settled d 31) w (let v := settled d 31
        let l := (zip8 (· + ·) (fwdLanes v (iD w)) (negIf (bit (iX w) 3) (complexLanes (bit (iX w) 0) (vecLanes v (iA w)) (vecLanes v (iB w))))).map acc40
        [(1, .fwd (iD w) (l.map (·.1))), (3, .acc (iD w) (l.map (·.1)))] ++ moved v w)) = true
    ∧ (
      let w := reedWord 0x06 1 2 3
      let d := withCore w
      issuesNext d 31 w && iOp w == 0x06 && issuesClean (settled d 31) w (let v := settled d 31
        let l := (negIf (bit (iX w) 3) (complexLanes (bit (iX w) 0) (vecLanes v (iA w)) (vecLanes v (iB w)))).map acc40
        [(1, .fwd (iD w) (l.map (·.1))), (3, .acc (iD w) (l.map (·.1)))] ++ moved v w)) = true
    ∧ (
      let w := reedWord 0x07 1 2 3
      let d := withCore w
      issuesNext d 31 w && iOp w == 0x07 && issuesClean (settled d 31) w (let v := settled d 31
        let l := (zip8 (· + ·) (fwdLanes v (iD w)) (powerLanes (vecLanes v (iA w)))).map acc40
        [(1, .fwd (iD w) (l.map (·.1))), (3, .acc (iD w) (l.map (·.1)))] ++ moved v w)) = true := by decide +kernel

theorem test_witness_reedAccumulatorOps_2 :
    (
      let w := reedWord 0x08 1 2 3
      let d := withCore w
      issuesNext d 31 w && iOp w == 0x08 && issuesClean (settled d 31) w (let v := settled d 31
        let l := (zeroLanes).map acc40
        [(1, .fwd (iD w) (l.map (·.1))), (1, .acc (iD w) (l.map (·.1)))] ++ moved v w)) = true
    ∧ (
      let w := reedWord 0x09 1 2 3
      let d := withCore w
      issuesNext d 31 w && iOp w == 0x09 && issuesClean (settled d 31) w (let v := settled d 31
        let l := (zip8 (· + ·) (fwdLanes v (iD w)) (accLanes v (iA w))).map acc40
        [(1, .fwd (iD w) (l.map (·.1))), (3, .acc (iD w) (l.map (·.1)))] ++ moved v w)) = true
    ∧ (
      let w := reedWord 0x0A 1 2 3
      let d := withCore w
      issuesNext d 31 w && iOp w == 0x0A && issuesClean (settled d 31) w (let v := settled d 31
        let l := ((accLanes v (iA w)).sum :: List.replicate 7 0).map acc40
        [(3, .fwd (iD w) (l.map (·.1))), (3, .acc (iD w) (l.map (·.1)))] ++ moved v w)) = true := by decide +kernel

theorem test_witness_reedRegisterOps_1 :
    (
      let w := reedWord 0x30 1 0 0
      let d := withCore w
      issuesNext d 31 w && iOp w == 0x30 && !clash (settled d 31) [(1, .addr (iD w) (bits w 0 17))]) = true
    ∧ (
      let w := reedWord 0x31 1 0 0
      let d := withCore w
      issuesNext d 31 w && iOp w == 0x31 && !clash (settled d 31) [(1, .modifier (iD w) (bits w 0 23))]) = true
    ∧ (
      let w := reedWord 0x32 1 0 0
      let d := withCore w
      issuesNext d 31 w && iOp w == 0x32 && !clash (settled d 31) (let v := settled d 31
        [(1, .addr (iD w) (wrapAddr (aReg v (iD w)) (signed 18 (bits w 0 18)) (modLength (mReg v (iD w)))))])) = true
    ∧ (
      let w := reedWord 0x33 1 2 0
      let d := withCore w
      issuesNext d 31 w && iOp w == 0x33 && (aReg (settled d 31) (iA w) + bits w 0 17) % 2 ^ 17 % 4 == 0) = true
    ∧ (
      let w := reedWord 0x34 0 0 0 + 2 * 65536 + 5
      let d := withCore w
      issuesNext d 31 w && iOp w == 0x34 && flowException w (settled d 31) == none) = true
    ∧ (
      let w := reedWord 0x35 0 0 0
      let d := withCore w
      issuesNext d 31 w && iOp w == 0x35 && flowException w (settled d 31) == none) = true := by decide +kernel

theorem test_witness_reedRegisterOps_2 :
    (
      let w := reedWord 0x3C 0 0 0
      let d := withCore w
      issuesNext d 31 w && iOp w == 0x3C) = true := by decide +kernel

theorem test_witness_reedCoreServices_1 :
    (
      let w := reedWord 0x36 1 0 0
      let d := bound (withCore w)
      issuesNext d 31 w && iOp w == 0x36 && (portBinding (setCore 31 (settled d 31) d) 31 (bits (iX w) 0 2)).isSome) = true
    ∧ (
      let w := reedWord 0x37 1 0 0
      let d := setCore 31 { Machine.core (withCore w) 31 with current := some 3, yRam := [(0, 8#8)] } ready
      issuesNext d 31 w && iOp w == 0x37 && ramNat (settled d 31) .y (aReg (settled d 31) 1) 2 == 8) = true
    ∧ (
      let w := reedWord 0x38 1 0 0
      issuesNext (withCore w) 31 w && iOp w == 0x38 && aReg (settled (withCore w) 31) 1 % 2 == 0) = true
    ∧ (
      let w := reedWord 0x39 0 0 0
      issuesNext (withCore w) 31 w && iOp w == 0x39) = true
    ∧ (
      let w := reedWord 0x3A 1 0 0
      let d := setCore 31 { Machine.core (withCore w) 31 with yRam := [(12, 64#8)] } (setActive (cfgKey 0xD 31 0x14) 64 (setActive (cfgKey 0xD 31 0x18) 3 ready))
      issuesNext d 31 w && iOp w == 0x3A && (xferOf (setCore 31 (settled d 31) d) 31 w (settled d 31)).isSome) = true
    ∧ (
      let w := reedWord 0x3B 0 0 0
      issuesNext (withCore w) 31 w && iOp w == 0x3B) = true := by decide +kernel

theorem test_witness_reedCoreServices_2 :
    (
      let x : CoreXfer := { addr := yardBase, ram := 0, length := 64, toWindow := false, yRam := true }
      let d := setCore 31 { ({} : ReedCore) with mode := .waiting, wait := .xfers, xfers := [x] } withYard
      (Machine.core d 31).xfers == [x]) = true
    ∧ (
      let o : CoreOutput := { binding := 3, firstIndex := 0, gen := 0, payload := [] }
      let d := setCore 31 { ({} : ReedCore) with outputs := [o] } ready
      (Machine.core d 31).outputs == [o]) = true
    ∧ (
      let d := setCore 31 { ({} : ReedCore) with mode := .running } (setActive (cfgKey 0xD 31 1) 100 ready)
      cfgN d 0xD 31 1 != 0 && coreActive (Machine.core d 31) && (Machine.core d 31).wait == .none) = true := by decide +kernel

/-- The bytes that the CRC of `smallImage` covers. -/
def smallImageBody : List Byte := smallImage.take 20 ++ zeroBytes 4 ++ smallImage.drop 24

theorem test_imageCrc0 : ((smallImageBody.drop 0).take 32).foldl crcByte 4294967295#32 = 4288899997#32 := by decide +kernel
theorem test_imageCrc1 : ((smallImageBody.drop 32).take 32).foldl crcByte 4288899997#32 = 3647297197#32 := by decide +kernel
theorem test_imageCrc2 : ((smallImageBody.drop 64).take 16).foldl crcByte 3647297197#32 = 3416257047#32 := by decide +kernel
theorem test_imageOk : imageOk smallImage = true := by
  have e : smallImageBody = (smallImageBody.drop 0).take 32 ++ ((smallImageBody.drop 32).take 32 ++ (smallImageBody.drop 64).take 16) := by
    decide +kernel
  have c : crc32c (smallImage.take 20 ++ zeroBytes 4 ++ smallImage.drop 24) = 0x34600DE8#32 := by
    rw [show smallImage.take 20 ++ zeroBytes 4 ++ smallImage.drop 24 = smallImageBody from rfl, e]
    simp only [crc32c, List.foldl_append, test_imageCrc0, test_imageCrc1, test_imageCrc2]
    decide
  unfold imageOk
  simp only [c]
  decide +kernel

theorem test_imageInMemory : memRead withImage (hostBase + 1048576) 80 = smallImage := by decide +kernel

theorem test_witness_kernelCommandsAct_1 :
    (
      let e := withImage
      let p := packet 1 0x0C00 ([0, 0, 0, 128, 80, 0, 0, 0] ++ dataAddr ++ [1])
      let d := taken p e
      let cs := maskCores (p32 p 0)
      admitted e 0x0C00 p && reservedZero p [(0, 17)] && pByte p 16 == 1 && p32 p 4 == 80 && p64 p 8 == hostBase + 1048576
        && reachable d .cp false (p64 p 8) 80 && cs == [31] && !cs.any (fun c => coreActive (Machine.core d c)) && !cs.any (fun c => !clusterOn d c)) = true
    ∧ (
      let e : Device := clusterReady
      let p := packet 1 0x0C01 ([0, 255, 31, 0, 3, 6] ++ zeros 18 ++ dataAddr ++ [0, 2])
      let d := taken p e
      let c := ratedValues d false (cfgVal d)
      let loads := loftBuffers d c (bindingLoads d c ++ [bindingLoad c .memory 0 6 0])
      admitted e 0x0C01 p && bindParamsOk d p && lowestFree d == some 0 && (portBinding d 31 0).isNone && clusterOn d 31
        && sourceReady d .memory 0 && loftOk loads && banksOk loads) = true
    ∧ (
      let p := packet 1 0x0C01 [1, 127]
      let d := taken p (bound withQueues)
      admitted (bound withQueues) 0x0C01 p && kernelReserved p && pByte p 1 == 127 && (binding d 127).isSome && memBinding.unbinding.isNone) = true
    ∧ (
      let e := setCore 31 { ({} : ReedCore) with loaded := true, mode := .exception } clusterReady
      let p := packet 1 0x0C01 [2, 0, 31]
      let d := taken p e
      admitted e 0x0C01 p && kernelReserved p && pByte p 2 == 31 && (Machine.core d 31).loaded && !coreActive (Machine.core d 31) && clusterOn d 31) = true
    ∧ (
      let p := packet 1 0x0C01 [3, 0, 31]
      admitted withQueues 0x0C01 p && kernelReserved p && pByte p 2 == 31 && (Machine.core (taken p withQueues) 31).mode != .faulted) = true
    ∧ (
      let p := packet 1 0x0C01 [4, 0, 31]
      admitted withQueues 0x0C01 p && kernelReserved p && pByte p 2 == 31) = true := by decide +kernel

theorem test_witness_kernelCommandsAct_2 :
    (
      let d := formBatches 127 4 (setBinding 127 (some memBinding) ready)
      (match binding d 127 with
      | some b => b.unbinding.isNone && !b.ready.contains b.nextBuffer && !b.held.contains b.nextBuffer
      | none => false)) = true := by decide +kernel

theorem test_witness_yardSchedulingActs :
    (channelServes withYard 11) = true
    ∧ (
      let r : YardReq := { yardRead with master := 0x3FD }
      let d : Device := { setYardChannel 11 { ({} : YardChannel) with queue := [r] } ready with time := 10 ^ 12 }
      (yardChannel d 11).queue[0]? == some r && reqClass r != 0 && !r.promoted && decide (r.since + ageLimit d (reqClass r) < d.time)) = true
    ∧ (channelServes withYard 11 && decide (0 < (yardChannel withYard 11).ranks)) = true
    ∧ (channelServes withYard 11) = true := by decide +kernel

theorem test_witness_yardErrorsActs :
    (
      let d0 := setActive (cfgKey 0xE 0 2) 1 withYard
      let d : Device := { d0 with time := scrubDue d0 11 + d0.time }
      channelServes d 11 && yardN d 2 == 1 && (yardChannel d 11).replay.isEmpty && decide (scrubSpent d 11 < scrubShare d 11)
        && decide (scrubDue d 11 ≤ d.time) && !scrubYields d 11 ((yardChannel d 11).scrubSince.getD d.time)) = true
    ∧ (channelServes withYard 11) = true
    ∧ (
      let d := setYardChannel 11 { yardChannel withYard 11 with replay := tset none [] 1 (some 2) } withYard
      (tget none (yardChannel d 11).replay 1).isSome && !(yardChannel d 11).failed) = true
    ∧ (ready.power.state != .sleep && !loftWaits ready 511 false) = true := by decide +kernel

theorem test_witness_authenticationActs :
    (
      let p := packet 1 0x0F00 [7]
      admitted withQueues 0x0F00 p && reservedZero p [(0, 1)] && pByte p 0 == 7 && !paddockDenies (taken p withQueues)
        && !(taken p withQueues).pad.lockedOut) = true
    ∧ (
      let p : Packet := { packet 1 0x0F01 [] with flags := 4, params := padTo (leBytes 16 0) 112 }
      admitted withQueues 0x0F01 p && flagSet p 2 && reservedZero p [(0, 1), (16, 96)] && !paddockDenies (taken p withQueues)) = true
    ∧ (admitted withQueues 0x0F02 (packet 1 0x0F02 []) && reservedZero (packet 1 0x0F02 []) [] && !paddockDenies (taken (packet 1 0x0F02 []) withQueues)) = true := by decide +kernel

theorem test_witness_keyAndImageActs_1 :
    (
      let p := packet 1 0x0F03 [0, 15]
      admitted officer 0x0F03 p && keyParamsOk p && !paddockDenies (taken p officer) && tget none (taken p officer).pad.slots 15 == none) = true
    ∧ (
      let p := packet 1 0x0F03 ([1, 15, 14, 0, 0, 0, 0, 0] ++ dataAddr)
      let d := taken p officer
      admitted officer 0x0F03 p && keyParamsOk p && !paddockDenies d && reachable d .cp false (p64 p 8) 40 && tget none d.pad.slots 15 == none
        && (keyOfSlot d 14).isSome) = true
    ∧ (
      let p := packet 1 0x0F03 ([2, 13, 14, 0, 0, 0, 0, 0] ++ dataAddr)
      let d := taken p officer
      admitted officer 0x0F03 p && keyParamsOk p && !paddockDenies d && reachable d .cp true (p64 p 8) 40 && (keyOfSlot d 13).isSome
        && (keyOfSlot d 14).isSome) = true
    ∧ (
      let p := packet 1 0x0F03 [3, 14]
      admitted officer 0x0F03 p && keyParamsOk p && !paddockDenies (taken p officer) && (tget none (taken p officer).pad.slots 14).isSome) = true
    ∧ (admitted officer 0x0F03 (packet 1 0x0F03 [4]) && reservedZero (packet 1 0x0F03 [4]) [(0, 3), (8, 8)]) = true
    ∧ (
      let p := packet 1 0x0F06 ([0, 0, 0, 0, 0, 0, 0, 0] ++ dataAddr ++ [64])
      let d := taken p officer
      admitted officer 0x0F06 p && reservedZero p [(0, 1), (8, 12)] && !paddockDenies d && reachable d .cp false (p64 p 8) (p32 p 16)
        && d.pad.flash.present) = true := by decide +kernel

theorem test_witness_keyAndImageActs_2 :
    (
      let p := packet 1 0x0F06 [1]
      let d := taken p officer
      admitted officer 0x0F06 p && reservedZero p [(0, 1), (8, 12)] && !paddockDenies d) = true
    ∧ (admitted officer 0x0F06 (packet 1 0x0F06 [2]) && reservedZero (packet 1 0x0F06 [2]) [(0, 1), (8, 12)]) = true := by decide +kernel

theorem test_witness_zeroisationAndTestActs_1 :
    (admitted officer 0x0F04 (packet 1 0x0F04 []) && reservedZero (packet 1 0x0F04 []) [(0, 1), (8, 4)] && pByte (packet 1 0x0F04 []) 0 == 0) = true
    ∧ (
      let p := packet 1 0x0F04 [1, 0, 0, 0, 0, 0, 0, 0, 0x4F, 0x52, 0x45, 0x5A]
      admitted officer 0x0F04 p && reservedZero p [(0, 1), (8, 4)] && pByte p 0 == 1 && p32 p 8 == 0x5A45524F) = true
    ∧ (!ready.power.por && decide (1000 ≤ 1000)) = true
    ∧ (!ready.power.por && decide (200 ≤ 200) && decide (200 < 1000)) = true
    ∧ (decide (199 < 200)) = true
    ∧ (
      let p := packet 1 0x0F05 [7]
      admitted officer 0x0F05 p && reservedZero p [(0, 1)] && pByte p 0 == 7 && !paddockDenies (taken p officer)) = true := by decide +kernel

theorem test_witness_zeroisationAndTestActs_2 :
    (
      let d := setActive (cfgKey 0x12 0 2) 1 ready
      cfgN d 0x12 0 2 != 0 && d.power.state == .ready) = true
    ∧ (tapTaken (jtagMode ready) .extest == .bypass) = true
    ∧ (jtagMode (setActive (cfgKey 0x12 0 1) 2 ready) == 2) = true := by decide +kernel

/-! ### Ill-formed commands -/

/-- The parameter bytes `ps` in a packet of queue 1. -/
def packetOf (op : Nat) (ps : List Nat) : Packet := packet 1 op ps

theorem test_wellFormed_good : (wellFormed (.xferAbort (packetOf 0x0902 [3, 63])) && wellFormed (.nop (packetOf 0 []))
    && wellFormed (.sampleDelivery 3 (List.replicate 16 0))) = true := by decide +kernel

theorem test_wellFormed_opcode : wellFormed (.nop (packetOf 0x0001 [])) = false := by decide +kernel

theorem test_wellFormed_opByte : wellFormed (.xferAbort (packetOf 0x0902 [2, 63])) = false := by decide +kernel

theorem test_wellFormed_queue : wellFormed (.nop (packet 64 0 [])) = false := by decide +kernel

theorem test_wellFormed_forwarded : wellFormed (.nop { packet 1 0 [] with src := .forwarded 8 0 0 }) = false := by decide +kernel

theorem test_wellFormed_replyAddr : wellFormed (.nop { packet 1 0 [] with replyAddr := 2 ^ 64 }) = false := by decide +kernel

theorem test_wellFormed_params : (wellFormed (.nop { packet 1 0 [] with params := zeroBytes 32 })
    || wellFormed (.nop { packet 1 0 [] with flags := 4, params := zeroBytes 50 })
    || wellFormed (.nop { packet 1 0 [] with flags := 4, params := zeroBytes 4112 })
    || wellFormed (.nop { packet 1 0 [] with params := zeroBytes 64 })) = false := by decide +kernel

theorem test_wellFormed_options : (wellFormed (.tiuRun (packetOf 0x0700 [0, 0, 2])) || wellFormed (.tiuRunAbort (packetOf 0x0700 []))
    || wellFormed (.cfgCommitGroup (packetOf 0x0104 [])) || wellFormed (.zeroizePermanent (packetOf 0x0F04 []))) = false := by decide +kernel

theorem test_wellFormed_operands : (wellFormed (.sampleDelivery 0 (List.replicate 15 0)) || wellFormed (.entryMemoryWrite 0 (2 ^ 20) 0)
    || wellFormed (.cpl 0 0 0 (zeroBytes 257))) = false := by decide +kernel

end Sys2Proof.Tests
end

section
/-! SUPPORT. Reading memory back through the block's own reads (R5, R16). -/

namespace Sys2Proof.Proofs

open Sys2Proof.Machine Sys2Proof.Safety Sys2Proof.Laws

/-- Outside the real-time and system regions of Loft, bytes written to canonical memory are the bytes read there next. -/
theorem memRead_memWrite {a : Nat} {d : Device} (bs : List Byte) (ha : 0xF000000 ≤ a) (h : memoryWf d.mem = true) :
    memRead (memWrite a bs d) a bs.length = bs := by
  refine List.ext_getElem (by simp [memRead]) fun i hi hb => ?_
  have hr : readByte (memWrite a bs d) (a + i) = memByte (writeCells d.mem a bs) (a + i) :=
    if_neg (by omega)
  have hw : memByte (writeCells d.mem a bs) (a + i) = bs.getD (a + i - a) 0 :=
    memByte_inside bs a (a + i) d.mem h (by omega) (by omega)
  rw [Nat.add_sub_cancel_left, List.getD_eq_getElem bs 0 hb] at hw
  simp only [memRead, List.getElem_map, List.getElem_range]
  exact hr.trans hw

/-- A number written little-endian outside those regions reads back modulo what its bytes hold. -/
theorem memNat_memWrite_leBytes {a : Nat} {d : Device} (n v : Nat) (ha : 0xF000000 ≤ a) (h : memoryWf d.mem = true) :
    memNat (memWrite a (leBytes n v) d) a n = v % 256 ^ n := by
  have hr := memRead_memWrite (leBytes n v) ha h
  rw [leBytes_length] at hr
  rw [memNat, hr, leNat_leBytes]

/-- Settles O5: the canonical form makes a table lookup after a set exact, so bytes read back, and a set at another address is not seen. -/
theorem memoryReadsBack : Obligations.MemoryReadsBack := by
  intro a bs d h
  exact ⟨memWrite_wf a bs h,
    fun x => memByte_inside bs a x d.mem h,
    fun x => memByte_writeCells_outside bs a x d.mem,
    fun n v ha => memNat_memWrite_leBytes n v ha h⟩

end Sys2Proof.Proofs
end

section
/-! SUPPORT. The check of the reserved parameter bytes (R10): a command makes it first, so that it alone decides. -/

namespace Sys2Proof.Proofs

open Sys2Proof.Machine Sys2Proof.Safety Sys2Proof.Laws

/-- On every device with `pre`, a byte set outside the parameters `used` makes the command `body` complete with BAD_PARAM and do
nothing else. -/
def RefusesReserved (pre : Device → Prop) (used : List (Nat × Nat)) (body : Packet → Device → Device) : Prop :=
  ∀ p d, pre d → reservedZero p used = false → ∃ reply, body p d = complete p .badParam reply d

/-- The row is a packet command whose own part refuses a reserved byte. -/
def RowRefuses (pre : Device → Prop) (x : (Packet → Instr) × Nat × List (Nat × Nat)) : Prop :=
  ∃ body, (∀ p s, exec (x.1 p) s = act (accept p body) s) ∧ RefusesReserved pre x.2.2 body

/-- What such a row does with an admitted packet. -/
theorem RowRefuses.exec_admitted {pre : Device → Prop} {x : (Packet → Instr) × Nat × List (Nat × Nat)} (hx : RowRefuses pre x)
    {s : State} {p : Packet} (ha : admitted s.dev x.2.1 p = true) (hr : reservedZero p x.2.2 = false) (hp : pre (taken p s.dev)) :
    ∃ reply, exec (x.1 p) s = .next (after s (complete p .badParam reply (taken p s.dev))) := by
  obtain ⟨body, hexec, hbody⟩ := hx
  obtain ⟨reply, hreply⟩ := hbody p (taken p s.dev) hp hr
  exact ⟨reply, by rw [hexec, act_admitted body ha, hreply]⟩

/-! ### The shapes of the check -/

section
variable {pre : Device → Prop} {used : List (Nat × Nat)} {g : Packet → Device → Bool} {reply : Packet → Device → List Byte}
  {rest : Packet → Device → Device}

/-- The first check of the command holds of every packet with a reserved byte set. -/
theorem refuses_of_guard (hg : ∀ p d, reservedZero p used = false → g p d = true) :
    RefusesReserved pre used (fun p d => if g p d then complete p .badParam (reply p d) d else rest p d) :=
  fun p d _ h => ⟨reply p d, if_pos (hg p d h)⟩

/-- The command acts only where no reserved byte is set. -/
theorem refuses_of_pass :
    RefusesReserved pre used (fun p d => if reservedZero p used then rest p d else complete p .badParam (reply p d) d) :=
  fun p d _ h => ⟨reply p d, if_neg (by simp [h])⟩

/-- A command of Paddock, outside the error state (R562). -/
theorem refuses_of_paddockGuard (hg : ∀ p d, reservedZero p used = false → g p d = true) :
    RefusesReserved (fun d => d.pad.errorState = false) used
      (fun p d => if paddockDenies d then complete p .denied [] d
        else if g p d then complete p .badParam (reply p d) d else rest p d) := by
  intro p d hd h
  have hn : ¬ paddockDenies d = true := by simp [paddockDenies, hd]
  exact ⟨reply p d, (if_neg hn).trans (if_pos (hg p d h))⟩

end

/-- BLOCK_RESET gives the same answer to a unit that is no block. -/
theorem blockReset_refuses (pre : Device → Prop) : RefusesReserved pre [] blockReset := by
  intro p d _ h
  cases hb : resetBlockOf (unitOf p) <;> exact ⟨[], by simp [blockReset, hb, h]⟩

/-- CFG_READ gives the same answer to a key that names no field. -/
theorem cfgRead_refuses (pre : Device → Prop) : RefusesReserved pre [(0, 5)] cfgRead := by
  intro p d _ h
  cases hf : fieldOf (p32 p 0) <;> exact ⟨[], by simp [cfgRead, hf, h]⟩

/-- Both forms of CFG_COMMIT check the parameters first. -/
theorem cfgCommit_refuses (pre : Device → Prop) : RefusesReserved pre [(0, 19)] cfgCommit := by
  intro p d _ h
  have hc : commitParamsOk p = false := by simp [commitParamsOk, h]
  cases hg : groupFlag p
  · exact ⟨[], by simp [cfgCommit, hg, cfgCommitPlain, hc]⟩
  · exact ⟨[], by simp [cfgCommit, hg, cfgCommitGroup, hc]⟩

/-- MASK_LOAD reads a table of 2,048 entries behind its check; with its definition unfolded first, they stay untouched. -/
theorem maskLoad_refuses (pre : Device → Prop) : RefusesReserved pre [(0, 1), (8, 8)] maskLoad := by
  unfold maskLoad
  exact refuses_of_guard fun p d h => by simp [h]

/-- QUEUE_CREATE has one table per kind of queue; its parameters are good only where no byte is set outside that of their kind. -/
theorem queueParamsOk_eq_false_of_reserved {p : Packet} (d : Device)
    (h : (pByte p 0 = 0 ∧ reservedZero p [(0, 6), (8, 8)] = false)
      ∨ (pByte p 0 = 1 ∧ reservedZero p [(0, 4), (6, 11), (18, 2)] = false)) : queueParamsOk d p = false := by
  obtain ⟨hk, hr⟩ | ⟨hk, hr⟩ := h <;> simp [queueParamsOk, hk, hr]

/-! ### The tables -/

section
variable (pre : Device → Prop)

theorem nop_row : RowRefuses pre (.nop, 0x0000, []) := ⟨nop, fun _ _ => rfl, refuses_of_pass⟩

theorem identify_row : RowRefuses pre (.identify, 0x0001, []) := ⟨identify, fun _ _ => rfl, refuses_of_pass⟩

theorem getStatus_row : RowRefuses pre (.getStatus, 0x0002, []) := ⟨getStatus, fun _ _ => rfl, refuses_of_pass⟩

theorem blockReset_row : RowRefuses pre (.blockReset, 0x0005, []) := ⟨_, fun _ _ => rfl, blockReset_refuses pre⟩

theorem cfgRead_row : RowRefuses pre (.cfgRead, 0x0102, [(0, 5)]) := ⟨_, fun _ _ => rfl, cfgRead_refuses pre⟩

theorem cfgCommit_row : RowRefuses pre (.cfgCommit, 0x0104, [(0, 19)]) := ⟨_, fun _ _ => rfl, cfgCommit_refuses pre⟩

theorem maskLoad_row : RowRefuses pre (.maskLoad, 0x0500, [(0, 1), (8, 8)]) := ⟨_, fun _ _ => rfl, maskLoad_refuses pre⟩

end

/-- The rows of another shape stand above; every other row has the check as its first. -/
theorem reservedRows_refuse : ∀ x ∈ reservedRows, RowRefuses (fun _ => True) x := by
  simp only [reservedRows, List.forall_mem_append, List.forall_mem_cons, List.not_mem_nil, false_implies, implies_true, and_true,
    nop_row, identify_row, getStatus_row, blockReset_row, cfgRead_row, cfgCommit_row, maskLoad_row, true_and]
  and_intros
  all_goals exact ⟨_, fun _ _ => rfl, refuses_of_guard fun p d h => by
    simp [h, xferParams, volParams, kernelReserved, bindParamsOk, commitParamsOk, formParamsOk, faultReadOk, eventMapOk]⟩

theorem reservedPaddockRows_refuse : ∀ x ∈ reservedPaddockRows, RowRefuses (fun d => d.pad.errorState = false) x := by
  simp only [reservedPaddockRows, List.forall_mem_cons, List.not_mem_nil, false_implies, implies_true, and_true]
  and_intros
  all_goals exact ⟨_, fun _ _ => rfl, refuses_of_paddockGuard fun p d h => by simp [h, keyParamsOk]⟩

/-- Settles O8: every row of the tables makes the check of its reserved bytes first, so an admitted packet that fails it meets
BAD_PARAM and nothing else. -/
theorem reservedFieldsRefused : Obligations.ReservedFieldsRefused := by
  refine ⟨fun x hx s p ha hr => (reservedRows_refuse x hx).exec_admitted ha hr trivial,
    fun x hx s p ha hr hp => (reservedPaddockRows_refuse x hx).exec_admitted ha hr hp, fun s p ha hr => ?_⟩
  have hq : queueCreate p (taken p s.dev) = complete p .badParam [] (taken p s.dev) :=
    if_pos (by simp [queueParamsOk_eq_false_of_reserved _ hr])
  calc exec (.queueCreate p) s = act (accept p queueCreate) s := rfl
    _ = .next (after s (complete p .badParam [] (taken p s.dev))) := by rw [act_admitted queueCreate ha, hq]

end Sys2Proof.Proofs
end

section
/-! SUPPORT. The high-water marks along a step (R23): every row ends by noting them, and device time alone moves no occupancy. -/

namespace Sys2Proof.Proofs

open Sys2Proof.Machine Sys2Proof.Safety Sys2Proof.Laws

/-- A row other than TAP_INSTRUCTION changes the device and then notes the marks; none is refused. -/
theorem exec_after_of_ne_tapInstruction {c : Instr} (h : ∀ t, c ≠ .tapInstruction t) (s : State) :
    ∃ d, exec c s = .next (after s d) := by
  cases c with
  | tapInstruction t => exact absurd rfl (h t)
  | _ => exact ⟨_, rfl⟩

/-- TAP_INSTRUCTION is refused where it reaches the debug unit of Mehrik, and else sets the instruction register (R564). -/
theorem exec_tapInstruction (t : TapInstr) (s : State) :
    exec (.tapInstruction t) s = .next (after s (setTap t s.dev)) ∨ exec (.tapInstruction t) s = .refused .mehrikDebug := by
  change execTapInstruction t s = _ ∨ execTapInstruction t s = _
  unfold execTapInstruction
  split
  · exact .inr rfl
  · exact .inl rfl

/-- A next state that a command answers is one behind which the marks were noted. -/
theorem exec_next_after {c : Instr} {s t : State} (h : exec c s = .next t) : ∃ d, t = after s d := by
  by_cases hc : ∃ x, c = .tapInstruction x
  · obtain ⟨x, rfl⟩ := hc
    obtain hx | hx := exec_tapInstruction x s <;> rw [hx] at h <;> cases h
    exact ⟨_, rfl⟩
  · obtain ⟨d, hd⟩ := exec_after_of_ne_tapInstruction (not_exists.mp hc) s
    rw [hd] at h
    cases h
    exact ⟨d, rfl⟩

@[simp] theorem after_dev (s : State) (d : Device) : (after s d).dev = noteMarks d := rfl

@[simp] theorem allStalls_noteMarks (d : Device) : allStalls (noteMarks d) = allStalls d := allStalls_marks d _

@[simp] theorem stallOccupancy_noteMarks (d : Device) : stallOccupancy (noteMarks d) = stallOccupancy d := stallOccupancy_marks d _

/-- Noting the marks of a device raises each to the occupancy of its stall. -/
theorem occupancy_le_noteMarks (d : Device) :
    ∀ x ∈ allStalls d, stallOccupancy d x.1 x.2 ≤ tget 0 (noteMarks d).marks (markKey x) := by
  simp only [noteMarks]
  exact (mark_fold d (allStalls d) d.marks).2

/-- Behind a command every mark holds, whatever the device was before: the occupancies are those that were noted. -/
theorem marksHold_after (s : State) (d : Device) : MarksHold (after s d) := by
  intro x hx
  rw [after_dev, allStalls_noteMarks] at hx
  rw [after_dev, stallOccupancy_noteMarks]
  exact occupancy_le_noteMarks d x hx

@[simp] theorem stallInstances_tickDevice (d : Device) : stallInstances (tickDevice d) = stallInstances d := by funext id; rfl

@[simp] theorem allStalls_tickDevice (d : Device) : allStalls (tickDevice d) = allStalls d := by simp [allStalls]

@[simp] theorem stallOccupancy_tickDevice (d : Device) : stallOccupancy (tickDevice d) = stallOccupancy d := by funext id i; rfl

/-- A nanosecond of device time changes neither a stall nor a mark. -/
theorem marksHold_tickDevice {s : State} (h : MarksHold s) : MarksHold { s with dev := tickDevice s.dev } := by
  intro x hx
  rw [allStalls_tickDevice] at hx
  rw [stallOccupancy_tickDevice]
  exact h x hx

/-- Settles O4: a step is a nanosecond, which moves no occupancy, or a command, behind which the marks are noted. -/
theorem marksKept : Obligations.MarksKept := by
  intro s t hs ht
  unfold step at ht
  split at ht
  · cases ht
    exact marksHold_tickDevice hs
  · obtain ⟨d, rfl⟩ := exec_next_after ht
    exact marksHold_after _ d

end Sys2Proof.Proofs
end

section
/-! SUPPORT. Epoch tokens (R24, R26): what TOKEN_FORM and TOKEN_ADOPT answer, and the adoption of one token. -/

namespace Sys2Proof.Proofs

open Sys2Proof.Machine Sys2Proof.Safety Sys2Proof.Laws

theorem exec_tokenForm (s : State) : exec .tokenForm s = .next (after s (tokenForm s.dev)) := rfl

theorem exec_tokenAdopt (b : TokenBlock) (upTo : Nat) (s : State) :
    exec (.tokenAdopt b upTo) s = .next (after s (tokenAdopt b upTo s.dev)) := rfl

theorem tokenForm_of_not_ready {d : Device} (h : tokenReady d = false) : tokenForm d = d := by
  simp [tokenForm, h]

theorem tokenAdopt_of_awake {d : Device} (b : TokenBlock) (upTo : Nat) (h : d.power.state ≠ .sleep) :
    tokenAdopt b upTo d = settleAdoptions (pruneTokens (adoptUpTo (tokenBlockKey b) (min upTo d.cfg.lastToken)
      (min upTo d.cfg.lastToken - adoptedBy d (tokenBlockKey b)) d)) :=
  if_neg (by simpa using h)

/-- A block that may adopt one token more, and can, adopts it alone: no other one is left to merge with it. -/
theorem adoptUpTo_one {b : Nat} {d : Device} (h : canAdopt d b (adoptedBy d b + 1) = true) :
    adoptUpTo b (adoptedBy d b + 1) 1 d = adoptOne b (adoptedBy d b + 1) (adoptedBy d b + 1) d := by
  simp [adoptUpTo, mergedWith, h]

/-- Settles O24: TOKEN_FORM turns on its guard alone, and the next token that a block can adopt uses up the one turn it has. -/
theorem tokensFormAndAreAdopted : Obligations.TokensFormAndAreAdopted := by
  refine ⟨fun s h => ?_, fun s h => ?_, fun s b upTo h => ?_, fun s b n h hn hlast hcan => ?_⟩
  · rw [exec_tokenForm]
    rw [tokenForm, if_neg (by simp [h])]
  · rw [exec_tokenForm, tokenForm_of_not_ready h]
  · rw [exec_tokenAdopt, tokenAdopt_of_awake b upTo h]
  · subst hn
    have hlim : min (adoptedBy s.dev (tokenBlockKey b) + 1) s.dev.cfg.lastToken = adoptedBy s.dev (tokenBlockKey b) + 1 :=
      min_eq_left hlast
    rw [exec_tokenAdopt, tokenAdopt_of_awake b _ h, hlim, Nat.add_sub_cancel_left, adoptUpTo_one hcan]

end Sys2Proof.Proofs
end

section
/-! SUPPORT. The state after POR# (R12, R50): every table is empty, so every part of it reads as its reset value and no stall holds a unit. -/

namespace Sys2Proof.Proofs

open Sys2Proof.Machine Sys2Proof.Safety Sys2Proof.Laws

/-- A ring that nothing was written to holds no line, whoever consumes it (R294). -/
theorem ringLines_of_unwritten (d : Device) (n : Nat) {s : Stream} (hw : s.writeOffset = 0) (hf : s.inFlight = []) :
    ringLines d n s = 0 := by
  simp [ringLines, hw, hf]

/-- Behind POR# every stall is empty: its queue is an entry that no table lists, or a list that starts empty. -/
theorem stallOccupancy_reset (id i : Nat) : stallOccupancy State.reset.dev id i = 0 := by
  unfold stallOccupancy
  split
  case h_11 => exact ringLines_of_unwritten _ _ rfl rfl
  all_goals rfl

/-- An empty stall is never above its mark. -/
theorem marksHold_reset : MarksHold State.reset := fun x _ => (stallOccupancy_reset x.1 x.2).trans_le (Nat.zero_le _)

/-- Settles O2: an index that a table does not list reads as the value of the part after POR#. For a byte of memory that value, zero, is
the choice of the model (log entry 3). -/
theorem resetState : Obligations.ResetState :=
  ⟨fun _ => rfl, fun _ => rfl, fun _ => rfl, fun _ => rfl, fun _ => ⟨rfl, rfl, rfl⟩, fun _ => rfl, fun _ => rfl, rfl, rfl, rfl, rfl, rfl, rfl, rfl,
    rfl, rfl, rfl, reset_wf, marksHold_reset⟩

end Sys2Proof.Proofs
end

section
/-! SUPPORT. The staged configuration (R46-R49): what the commands that write and read it do behind their checks. -/

namespace Sys2Proof.Proofs

open Sys2Proof.Machine Sys2Proof.Safety Sys2Proof.Laws

section
variable {p : Packet} {d : Device} {l : List (Nat × Int)}

theorem cfgWriteBase_of_changes (hz : reservedZero p [(0, 12)] = true) (hl : readChanges d (p64 p 0) (p32 p 8) = .ok l) :
    cfgWriteBase p d = complete p .ok (leBytes 4 noIndex) (l.foldl (fun d e => stage e.1 e.2 d) d) := by
  simp [cfgWriteBase, hz, hl]

/-- The overlay that CFG_WRITE_OVERLAY with mode 0 (REPLACE) or 1 (APPEND) makes of the changes `l` (R48). -/
def overlayWritten (mode : Nat) (p : Packet) (d : Device) (l : List (Nat × Int)) : List (Nat × Int) :=
  if mode == 0 then l else l.foldl addEntry ((overlay d (pByte p 0)).getD [])

/-- REPLACE and APPEND differ only in the overlay that they make: both store it where it has room. -/
theorem cfgWriteOverlay_of_changes {mode : Nat} (hz : reservedZero p [(0, 2), (8, 12)] = true) (hop : pByte p 1 = mode) (hmode : mode < 2)
    (h1 : 1 ≤ p32 p 16) (h2 : p32 p 16 ≤ 4096) (hi : pByte p 0 < 32) (hl : readChanges d (p64 p 8) (p32 p 16) = .ok l)
    (hlen : (overlayWritten mode p d l).length ≤ 4096) :
    cfgWriteOverlay mode p d = complete p .ok (leBytes 4 noIndex ++ leBytes 4 (overlayWritten mode p d l).length)
      { d with cfg := { d.cfg with overlays := tset none d.cfg.overlays (pByte p 0) (some (overlayWritten mode p d l)) } } := by
  have hparams : ¬ 2 < pByte p 1 := by omega
  have hreads : mode ≠ 2 := by omega
  unfold cfgWriteOverlay
  dsimp only
  rw [if_neg (by simp [hz, hparams, hreads, h1, h2]), if_neg (Nat.not_le.mpr hi), if_neg (by simpa using hreads), hl]
  exact if_neg (Nat.not_lt.mpr hlen)

/-- FREE (mode 2) reads no changes. -/
theorem cfgWriteOverlay_free (hz : reservedZero p [(0, 2), (8, 12)] = true) (hop : pByte p 1 = 2) (hn : p32 p 16 = 0) (hi : pByte p 0 < 32) :
    cfgWriteOverlay 2 p d = complete p .ok (leBytes 4 noIndex ++ leBytes 4 0)
      { d with cfg := { d.cfg with overlays := tset none d.cfg.overlays (pByte p 0) none } } := by
  simp [cfgWriteOverlay, hz, hop, hn, Nat.not_le.mpr hi]

/-- CFG_READ of a key that names a field (R49): a read-only field has one value, another its staged or its active one. -/
theorem cfgRead_of_field {f : FieldSpec} (hz : reservedZero p [(0, 5)] = true) (hs : pByte p 4 ≤ 1) (hf : fieldOf (p32 p 0) = some f) :
    cfgRead p d = complete p .ok (leInt 8 (if f.readOnly then readOnlyValue d (p32 p 0 / 16777216) (p32 p 0 / 65536 % 256) (p32 p 0 % 65536)
          else if pByte p 4 == 0 then stagedVal d (p32 p 0) else cfgVal d (p32 p 0))
        ++ leBytes 4 d.cfg.generation.toNat ++ leBytes 4 d.cfg.pendingCommits.length) d := by
  simp [cfgRead, hf, hz, Nat.not_lt.mpr hs]

end

/-- Settles O22: an admitted packet runs its command, and the premises are the checks of that command. A list that REPLACE stores has
the length that its count gives; of APPEND the overlay that grows is checked. -/
theorem settingsAreStagedAndRead : Obligations.SettingsAreStagedAndRead := by
  refine ⟨fun s p l ha hz hl => ?_, fun s p l ha hz hop h1 h2 hi hl => ?_, fun s p l ha hz hop h1 h2 hi hl hlen => ?_,
    fun s p ha hz hop hn hi => ?_, fun s p f ha hz hs hf => ?_⟩
  · exact (act_admitted cfgWriteBase ha).trans (by rw [cfgWriteBase_of_changes hz hl]; rfl)
  · exact (act_admitted (cfgWriteOverlay 0) ha).trans
      (by rw [cfgWriteOverlay_of_changes hz hop (by decide) h1 h2 hi hl (readChanges_length hl)]; rfl)
  · exact (act_admitted (cfgWriteOverlay 1) ha).trans (by rw [cfgWriteOverlay_of_changes hz hop (by decide) h1 h2 hi hl hlen]; rfl)
  · exact (act_admitted (cfgWriteOverlay 2) ha).trans (by rw [cfgWriteOverlay_free hz hop hn hi]; rfl)
  · exact (act_admitted cfgRead ha).trans (by rw [cfgRead_of_field hz hs hf])

end Sys2Proof.Proofs
end

section
/-! SUPPORT. Commits (R54-R57, R61, R65): what CFG_VALIDATE, both forms of CFG_COMMIT and CFG_ABORT do behind their checks. -/

namespace Sys2Proof.Proofs

open Sys2Proof.Machine Sys2Proof.Safety Sys2Proof.Laws

/-! ### The commit that a packet asks for (R51, R55, R56) -/

/-- Its content, behind every pending commit, turns on a domain. -/
def commitTurns (p : Packet) (d : Device) : Bool :=
  turnsOn d (withChanges (valuesAfter d d.cfg.pendingCommits.length) (commitContent p d))

def commitEpoch (p : Packet) (d : Device) : Nat := targetEpoch p (commitTurns p d) d

/-- Its content passes every check at its target epoch. -/
def CommitPasses (p : Packet) (d : Device) : Prop :=
  validateCommit d (commitEpoch p d) (commitContent p d) (roleHeld d p == 1) = none

section
variable {p : Packet} {d : Device}

/-- CFG_VALIDATE reports and changes nothing (R54). -/
theorem cfgValidate_of_passes (hp : commitParamsOk p = true) (hv : CommitPasses p d) :
    cfgValidate p d = complete p (if atEpochFlag p && decide (epochStart d (commitEpoch p d) ≤ d.sampleIndex) then .late else .ok)
      (zeroBytes 8 ++ (leBytes 8 (reportedLoads d (commitEpoch p d) (commitContent p d)).1
        ++ leBytes 8 (reportedLoads d (commitEpoch p d) (commitContent p d)).2)) d := by
  unfold CommitPasses commitEpoch commitTurns at *
  simp [cfgValidate, hp, hv]

/-- A CFG_COMMIT that passes in time is accepted and waits (R56, R57). -/
theorem cfgCommit_of_passes (hg : groupFlag p = false) (hp : commitParamsOk p = true) (hv : CommitPasses p d)
    (hl : commitLate p (commitEpoch p d) (commitTurns p d) d = false) (hm : (mirroring d && mirrorSource p) = false) :
    cfgCommit p d = park p (acceptCommit
      { packet := some p, epoch := commitEpoch p d, content := commitContent p d, waitAdopted := bit (p16 p 12) 1 } (bit (p16 p 12) 0) d) := by
  unfold CommitPasses commitEpoch commitTurns at *
  simp [cfgCommit, cfgCommitPlain, hg, hp, hv, hl, hm]

/-! ### A group commit at its master (R65) -/

/-- The generation that it sets: the next one where the packet names none. -/
def groupGeneration (p : Packet) (d : Device) : BitVec 32 :=
  if p32 p 14 == 0 then d.cfg.generation + 1 else BitVec.ofNat 32 (p32 p 14)

/-- The master's own commit. -/
def masterCommit (p : Packet) (d : Device) : Commit :=
  { packet := none, epoch := commitEpoch p d, content := commitContent p d, waitAdopted := false, generation := some (groupGeneration p d),
    master := some d.group.id }

/-- The group commit as it starts: only the master has armed. -/
def groupStart (p : Packet) (d : Device) : GroupCommit :=
  { packet := p, epoch := commitEpoch p d, generation := groupGeneration p d, mask := BitVec.ofNat 8 (pByte p 18),
    armed := BitVec.ofNat 8 (2 ^ d.group.id), refused := 0, applied := 0 }

/-- A group commit that passes in time: the master arms and sends PREPARE to the others of the mask. -/
theorem cfgCommitGroup_of_passes (hp : commitParamsOk p = true) (hself : bit (pByte p 18) d.group.id = true)
    (hmem : ∀ n < 8, bit (pByte p 18) n = true → n ≠ d.group.id → bit d.group.members.toNat n = true) (hc : d.group.commit = none)
    (hv : CommitPasses p d) (hl : commitLate p (commitEpoch p d) (commitTurns p d) d = false)
    (hs : serialAfter (groupGeneration p d) d.cfg.generation = true) :
    cfgCommitGroup p d = park p (((List.range 8).filter (fun n => bit (pByte p 18) n && n != d.group.id)).foldl
      (fun d' n => sendMsg n (.prepare (commitEpoch p d) (groupGeneration p d) (commitContent p d) (BitVec.ofNat 8 (pByte p 18))) d')
      (setGroupCommit (some (groupStart p d)) (acceptCommit (masterCommit p d) (bit (p16 p 12) 0) d))) := by
  have hthere : (List.range 8).any (fun n => bit (pByte p 18) n && n != d.group.id && !bit d.group.members.toNat n) = false := by
    simp only [List.any_eq_false, List.mem_range]
    intro n hn
    simpa using hmem n hn
  unfold CommitPasses commitEpoch commitTurns groupGeneration at *
  unfold cfgCommitGroup
  dsimp only
  rw [if_neg (by simp [hp, hself]), if_neg (by simp [hthere]), if_neg (by simp [hc]), hv]
  dsimp only
  rw [if_neg (by simp [hl]), if_neg (by rw [hs]; decide)]
  rfl

end

/-! ### Abort (R61) -/

/-- Among the elements of a list, those that a predicate picked are the ones that it picks. -/
theorem filter_contains_filter {α : Type} [BEq α] [LawfulBEq α] (q : α → Bool) (l : List α) :
    l.filter (fun x => (l.filter q).contains x) = l.filter q :=
  List.filter_congr fun x hx => by simp [hx]

/-- The pending commits that a CFG_ABORT of the packet's tag ends. -/
def abortVictims (p : Packet) (d : Device) : List Commit := d.cfg.pendingCommits.filter (fun m => commitTag m == some (p16 p 0))

/-- The pending commits that the end of `victims` leaves. -/
def commitsKept (victims : List Commit) (d : Device) : List Commit := d.cfg.pendingCommits.filter (fun m => !victims.contains m)

/-- The device once the commits `victims` are taken out and completed with ABORTED, the dirty fields dropped where the packet says so. -/
def abortedDevice (p : Packet) (victims : List Commit) (d : Device) : Device :=
  let e := victims.foldl (fun d m => completeOpt m.packet .aborted [] d) { d with cfg := { d.cfg with pendingCommits := commitsKept victims d } }
  if bit (pByte p 2) 0 then { e with cfg := { e.cfg with dirty := [] } } else e

section
variable {p : Packet} {d : Device}

/-- Without a group commit of its own the device ends the named commits alone. -/
theorem finishAbort_of_passes (hr : removalFails d (abortVictims p d) (commitsKept (abortVictims p d) d) = false) :
    finishAbort p (abortVictims p d) false false d
      = complete p .ok (leBytes 2 ((abortVictims p d).length + 0)) (abortedDevice p (abortVictims p d) d) := by
  have hgone : d.cfg.pendingCommits.filter (fun m => (abortVictims p d).contains m) = abortVictims p d := filter_contains_filter _ _
  unfold finishAbort
  simp only [Bool.false_and, Bool.or_false, hgone]
  exact if_neg (Bool.eq_false_iff.mp hr)

/-- A tag that waits, in a device without a group commit, names pending commits only. -/
theorem cfgAbort_of_waiting (hz : reservedZero p [(0, 3)] = true) (hb : pByte p 2 ≤ 1) (ht : p16 p 0 ≠ 0xFFFF)
    (hne : abortVictims p d ≠ []) (hc : d.group.commit = none) :
    cfgAbort p d = finishAbort p (abortVictims p d) false false d := by
  unfold abortVictims at *
  unfold cfgAbort
  dsimp only
  rw [if_neg (by simp [hz, Nat.not_lt.mpr hb]), if_neg (by simpa using ht), if_pos (by simp [List.isEmpty_eq_false_iff.mpr hne]), hc]
  rfl

end

/-- Settles O23: the premises are the checks of each command, and an admitted CFG_COMMIT is one that a pair does not mirror. -/
theorem commitsAreAcceptedAndAborted : Obligations.CommitsAreAcceptedAndAborted := by
  unfold Obligations.CommitsAreAcceptedAndAborted
  and_intros
  · intro s p ha hp d content t hv
    exact (act_admitted cfgValidate ha).trans (by rw [cfgValidate_of_passes hp hv]; rfl)
  · intro s p ha hg hp d content turns t hv hl
    have hm := admitted_unmirrored ha (by simp [mirroredClass, admitted_opcode ha, hg])
    exact (act_admitted cfgCommit ha).trans (by rw [cfgCommit_of_passes hg hp hv hl hm]; rfl)
  · intro s p ha hp d mask content turns t g m run hself hmem hc hv hl hs
    exact (act_admitted cfgCommitGroup ha).trans (by rw [cfgCommitGroup_of_passes hp hself hmem hc hv hl hs]; rfl)
  · intro s p ha hz hb d victims kept ht hne hc hr
    exact (act_admitted cfgAbort ha).trans (by rw [cfgAbort_of_waiting hz hb ht hne hc, finishAbort_of_passes hr]; rfl)

end Sys2Proof.Proofs
end

section
/-! SUPPORT. Group commits (R65, R66): what the messages of the two phases and the two deadlines do. -/

namespace Sys2Proof.Proofs

open Sys2Proof.Machine Sys2Proof.Safety Sys2Proof.Laws

section
variable {d : Device} {g : GroupCommit}

theorem armedReply_of_commit (src : Nat) (h : d.group.commit = some g) :
    armedReply src d = setGroupCommit (some { g with armed := g.armed ||| (deviceBit src &&& g.mask) }) d := by
  simp [armedReply, h]

theorem refusedReply_of_commit (src : Nat) (h : d.group.commit = some g) :
    refusedReply src d = setGroupCommit (some { g with refused := g.refused ||| (deviceBit src &&& g.mask) }) d := by
  simp [refusedReply, h]

theorem appliedReply_of_commit (src : Nat) (h : d.group.commit = some g) :
    appliedReply src d = settleGroupCommit (setGroupCommit (some { g with applied := g.applied ||| (deviceBit src &&& g.mask) }) d) := by
  simp [appliedReply, h]

/-- Two epochs before its target a waiting commit that is not armed everywhere is abandoned. -/
theorem armDeadline_of_unarmed (h : d.group.commit = some g) (ht : epochStart d g.epoch ≤ d.sampleIndex + 2 * 2 ^ epochExp d)
    (ha : g.armed ≠ g.mask) (hw : groupWaits d = true) : armDeadline d = abandonGroupCommit d := by
  simp [armDeadline, h, ht, ha, hw]

/-- An epoch behind its target a commit that the master applied completes with TIMEOUT and the members that it still misses. -/
theorem appliedTimeout_of_applied (h : d.group.commit = some g) (ht : epochStart d (g.epoch + 1) ≤ d.sampleIndex) (hw : groupWaits d = false) :
    appliedTimeout d = complete g.packet .timeout (commitReply g.epoch g.generation (g.mask &&& ~~~g.applied).toNat) (setGroupCommit none d) := by
  simp [appliedTimeout, h, ht, hw]

end

/-- Settles O25: behind its guard each message and deadline does one thing. That PREPARE is checked as a Crypto Officer's, and that a
generation not after the one in force answers BAD_PARAM, are choices of the model (log entries 95 and 26). -/
theorem groupCommitMessagesAct : Obligations.GroupCommitMessagesAct := by
  refine ⟨fun s src t gen content mask hsrc hcp => ?_, fun s src g h => ?_, fun s src st g h => ?_, fun s src hsrc => ?_, fun s src g h => ?_,
    fun s g h ht ha hw => ?_, fun s g h ht hw => ?_⟩
  · have hmember : ¬ (!inMask s.dev.group.members src.val || !cpRuns s.dev) = true := by simp [hsrc, hcp]
    exact (act_after (prepare src.val t gen content) s).trans (congrArg (fun d => Host.Outcome.next (after s d)) (if_neg hmember))
  · exact (act_after (armedReply src.val) s).trans (by rw [armedReply_of_commit _ h])
  · exact (act_after (refusedReply src.val) s).trans (by rw [refusedReply_of_commit _ h])
  · have hother : ¬ (src.val == s.dev.group.id) = true := by simpa using hsrc
    exact (act_after (abortMsg src.val) s).trans (congrArg (fun d => Host.Outcome.next (after s d)) (if_neg hother))
  · exact (act_after (appliedReply src.val) s).trans (by rw [appliedReply_of_commit _ h])
  · exact (act_after armDeadline s).trans (by rw [armDeadline_of_unarmed h ht ha hw])
  · exact (act_after appliedTimeout s).trans (by rw [appliedTimeout_of_applied h ht hw])

end Sys2Proof.Proofs
end

section
/-! SUPPORT. The clock block (R70-R88): what its commands do behind their checks, and what its events do where their condition holds. -/

namespace Sys2Proof.Proofs

open Sys2Proof.Machine Sys2Proof.Safety Sys2Proof.Laws

/-! ### Commands -/

section
variable {p : Packet} {d : Device}

/-- CLK_SET of the SCLK stages the divider set that reaches the target exactly: no residual error is left. -/
theorem clkSet_of_sclkDividers {r fb : Nat} (hz : reservedZero p [(0, 1), (8, 8)] = true) (hy : pByte p 0 = 0)
    (hd : sclkDividers (stagedVal d (cfgKey 1 2 1)).toNat (p64 p 8) = some (r, fb)) :
    clkSet p d = complete p .ok (leInt 8 0 ++ leBytes 1 r ++ leBytes 1 0 ++ leBytes 2 fb ++ leBytes 4 0)
      (stage (cfgKey 1 0 2) fb (stage (cfgKey 1 0 1) r d)) := by
  simp [clkSet, hz, hy, hd]

/-- CLK_SET of the LO keeps the staged ref_div and stages the divider and the word nearest to the target. -/
theorem clkSet_of_loDividers {o word : Nat} (hz : reservedZero p [(0, 1), (8, 8)] = true) (hy : pByte p 0 = 1)
    (hd : loDividers (stagedVal d (cfgKey 1 2 1)).toNat (stagedVal d (cfgKey 1 1 1)).toNat (p64 p 8) = some (o, word)) :
    clkSet p d = complete p .ok
      (leInt 8 (loError (stagedVal d (cfgKey 1 2 1)).toNat (stagedVal d (cfgKey 1 1 1)).toNat o word (p64 p 8))
        ++ leBytes 1 (stagedVal d (cfgKey 1 1 1)).toNat ++ leBytes 1 o
        ++ leBytes 2 (word / 4294967296) ++ leBytes 4 (word % 4294967296))
      (stage (cfgKey 1 1 4) o (stage (cfgKey 1 1 3) ((word % 4294967296 : Nat) : Int)
        (stage (cfgKey 1 1 2) ((word / 4294967296 : Nat) : Int) d))) := by
  simp [clkSet, hz, hy, hd]

theorem clkStatus_of_reservedZero (hz : reservedZero p [(0, 8)] = true) :
    clkStatus p d = complete p .ok (leBytes 8 (clockStatus d)) (clearClockBits (p64 p 0) d) := by
  simp [clkStatus, hz]

/-- LO_RAMP_LOAD of a list that decodes, into a store that no context uses. -/
theorem loRampLoad_of_segments {g : List RampSegment} (hz : reservedZero p [(0, 1), (2, 2), (8, 8)] = true) (hs : pByte p 0 < 4)
    (hpos : 0 < p16 p 2) (hmax : p16 p 2 ≤ 1024) (hr : reachable d .cp false (p64 p 8) (16 * p16 p 2) = true)
    (hg : decodeAll readSegment (readEntries d (p64 p 8) 16 (p16 p 2)) = some g) (hb : rampStoreBusy d (pByte p 0) = false) :
    loRampLoad p d = complete p .ok []
      { d with clk := { d.clk with rampStores := tset [] d.clk.rampStores (pByte p 0) g } } := by
  have hstore : ¬ 3 < pByte p 0 := by omega
  have hlong : ¬ 1024 < p16 p 2 := by omega
  simp [loRampLoad, hz, hstore, hpos.ne', hlong, hr, hg, hb]

end

/-- Settles O30: an admitted packet runs its command, and the premises are the checks of that command. -/
theorem clockCommandsAct : Obligations.ClockCommandsAct := by
  unfold Obligations.ClockCommandsAct
  and_intros
  · intro s p r fb ha hz hy d hd
    exact (act_admitted clkSet ha).trans (by rw [clkSet_of_sclkDividers hz hy hd])
  · intro s p o word ha hz hy d r refin hd
    exact (act_admitted clkSet ha).trans (by rw [clkSet_of_loDividers hz hy hd])
  · intro s p ha hz
    exact (act_admitted clkStatus ha).trans (by rw [clkStatus_of_reservedZero hz])
  · intro s p g ha hz d hs hpos hmax hr hg hb
    exact (act_admitted loRampLoad ha).trans (by rw [loRampLoad_of_segments hz hs hpos hmax hr hg hb])

/-! ### Events -/

/-- The device once a ramp step has moved the feedback word by the delta of its segment `g`; a band crossing mutes LO_OUT and takes its
core and band (R81). -/
def rampMoved (crossing : Option (Nat × Nat)) (g : RampSegment) (d : Device) : Device :=
  let e := { d with clk := { d.clk with ramp := { d.clk.ramp with word := d.clk.ramp.word + g.delta, step := d.clk.ramp.step + 1 } } }
  match crossing with
  | none => e
  | some (vco, band) =>
    raiseEvent 0x041 3 (ballIndex e) 0 { e with clk := { e.clk with
      ramp := { e.clk.ramp with crossing := true }, lo := { e.clk.lo with core := vco % 4, band := band % 64 } } }

section
variable {d : Device}

/-- A running ramp takes its step; behind the last step of a segment the profile goes on, starts again or ends (R81). -/
theorem rampStep_of_running {crossing : Option (Nat × Nat)} {g : RampSegment} (ha : d.clk.ramp.active = true)
    (hw : d.clk.ramp.waiting = false) (hg : (rampProfile d)[d.clk.ramp.segment]? = some g) :
    rampStep crossing d = (
      let r := d.clk.ramp
      let e := rampMoved crossing g d
      if r.step + 1 < g.count then e
      else if g.last = false ∧ r.segment + 1 < (rampProfile d).length then enterSegment (r.segment + 1) e
      else if cfgOn e 1 1 0x13 then enterSegment 0 e
      else raiseEvent 0x043 2 (ballIndex e) 0 { e with clk := { e.clk with ramp := { e.clk.ramp with active := false } } }) := by
  unfold rampStep rampMoved
  cases crossing <;> simp [hg, ha, hw]

@[simp] theorem ballIndex_raiseEvent (source code index qualifier : Nat) : ballIndex (raiseEvent source code index qualifier d) = ballIndex d := by
  simp [ballIndex]

section
variable (c : Int) (hp : d.power.state ≠ .sleep) (hr : d.clk.refPresent = true) (hs : cfgN d 0x0F 0 2 = 1 ∨ d.group.syncArmed = true)
include hp hr hs

/-- SYNC is heard where it is enabled or armed, with the reference present and outside SLEEP (R493). -/
theorem sync_guard_open :
    ¬ (d.power.state == .sleep || !d.clk.refPresent || !(cfgN d 0x0F 0 2 == 1 || d.group.syncArmed)) = true := by
  obtain hs | hs := hs <;> simp [hp, hr, hs]

/-- During a relock of SCLK it is only noted (R88). -/
theorem sync_of_relocking (hl : relocking d.clk.sclk = true) :
    sync c d = (
      let e := raiseEvent 0x040 3 (ballIndex d) 0 { d with clk := { d.clk with syncIgnored := true } }
      raiseEvent 0x3C4 4 (ballIndex e) 0 e) := by
  rw [sync, if_neg (sync_guard_open hp hr hs), if_pos hl]
  dsimp only
  rw [ballIndex_raiseEvent]
  rfl

/-- Outside one the old count ends and the new one starts (R493). -/
theorem sync_of_not_relocking (hl : relocking d.clk.sclk = false) :
    sync c d = reportSync c (raiseEvent 0x3C4 3 0 0 (startNewCount (haltGen 1 2 .aborted (haltGen 0 2 .aborted
      (syncLaneBatches (trigSync (tiuSync (convSync (endOldCount (adoptOldTokens d)))))))))) := by
  rw [sync, if_neg (sync_guard_open hp hr hs), if_neg (by simp [hl])]

end

end

/-- The outcome of an event whose effect on the device is known. -/
theorem act_next {f : Device → Device} {s : State} {e : Device} (h : f s.dev = e) : act f s = .next (after s e) :=
  (act_after f s).trans (by rw [h])

/-- Settles O31: the premises of each event open its guard, and what stands behind it is what the statement says. The end of a profile
without LAST, the hold of LO_OUT behind SAFE_EXIT and the SYNC event at every SYNC are choices of the model (log entries 96, 111 and 59). -/
theorem clockEventsAct : Obligations.ClockEventsAct := by
  unfold Obligations.ClockEventsAct
  and_intros
  · intro s y core band periods hy hr
    refine act_next (f := bandSearchDone y core band periods) ((if_pos (by simp [hy, hr])).trans ?_)
    cases y <;> rfl
  · intro s hy hr
    exact act_next (f := lockDetect .lo) (if_neg (by simp [synth, hy, hr]))
  · intro s hy hr
    exact act_next (f := lockDetect .sclk) (if_neg (by simp [synth, hy, hr]))
  · intro s y hy hr
    exact act_next (f := relockTimeout y) (if_pos (by simpa [hr] using hy.symm))
  · intro s y hy hr
    exact act_next (f := lossOfLock y) (if_pos (by simp [hy, hr]))
  · intro s hz hr hoff
    have hany : hz.any (refinAgrees s.dev) = false := by
      cases hz with
      | none => rfl
      | some f => exact hoff f rfl
    exact act_next (f := referenceLost hz) (if_neg (by simp [hr, hany]))
  · intro s hz hr hin
    exact act_next (f := referenceQualified hz) (if_neg (by simp [hr, hin]))
  · intro s hs
    exact act_next (f := slewComplete) (if_neg (by simp [hs]))
  · intro s crossing g ha hw hg
    exact act_next (rampStep_of_running ha hw hg)
  · exact fun _ => rfl
  · intro s hrc hoff
    exact act_next (f := droneFallback) (if_neg (by simp [hrc, hoff]))
  · exact fun _ => rfl
  · intro s c hp hr hs
    refine act_next (f := sync c) ?_
    cases hl : relocking s.dev.clk.sclk
    · exact sync_of_not_relocking c hp hr hs hl
    · exact sync_of_relocking c hp hr hs hl

end Sys2Proof.Proofs
end

section
/-! SUPPORT. The converters (R95-R118): what the calibration commands do behind their checks, and what the events do where their condition
holds. -/

namespace Sys2Proof.Proofs

open Sys2Proof.Machine Sys2Proof.Safety Sys2Proof.Laws

/-! ### Commands -/

section
variable {p : Packet} {d : Device}

/-- CAL_RUN whose channels can all start a pass, none in one that it may not restart (R116). -/
theorem calRun_of_startable (hz : reservedZero p [(0, 2)] = true) (hm : pByte p 0 ≤ 15) (ho : pByte p 1 ≤ 3)
    (hidle : bit (pByte p 1) 0 = true ∨ ∀ ch ∈ maskChannels (pByte p 0), (converter d ch).pass = none)
    (hready : ∀ ch ∈ maskChannels (pByte p 0), calMode d ch ≠ 0 ∧ convEnabled d ch = true ∧ availableSpares (converter d ch) ≠ []) :
    calRun p d = (
      let chs := maskChannels (pByte p 0)
      let d := chs.foldl (fun d ch => startPass ch 2 (abandonPass ch d)) d
      if bit (pByte p 1) 1 = true ∧ chs ≠ [] then
        park p { d with conv := { d.conv with
          waiters := d.conv.waiters ++ [{ packet := p, channels := chs, results := calResults d chs, failed := false }] } }
      else complete p .ok (calResultBytes (calResults d chs)) d) := by
  have hbusy : ((maskChannels (pByte p 0)).any (fun ch => (converter d ch).pass.isSome) && !bit (pByte p 1) 0) = false := by
    obtain hrestart | hnone := hidle
    · simp [hrestart]
    · have : (maskChannels (pByte p 0)).any (fun ch => (converter d ch).pass.isSome) = false :=
        List.any_eq_false.mpr fun ch h => by simp [hnone ch h]
      simp [this]
  have hstate : (maskChannels (pByte p 0)).any (fun ch => calMode d ch == 0 || !convEnabled d ch) = false :=
    List.any_eq_false.mpr fun ch h => by
      obtain ⟨hmode, hon, -⟩ := hready ch h
      simp [hmode, hon]
  have hspare : (maskChannels (pByte p 0)).any (fun ch => (availableSpares (converter d ch)).isEmpty) = false :=
    List.any_eq_false.mpr fun ch h => by
      obtain ⟨-, -, hfree⟩ := hready ch h
      simp [hfree]
  unfold calRun
  dsimp only
  rw [if_neg (by simp [hz, hm, ho]), if_neg (Bool.eq_false_iff.mp hbusy), if_neg (Bool.eq_false_iff.mp hstate),
    if_neg (Bool.eq_false_iff.mp hspare)]
  simp only [Bool.and_eq_true, Bool.not_eq_true', List.isEmpty_eq_false_iff]

/-- The code set that CAL_READ writes: the one in use, or the pending one (R116). -/
theorem calRead_of_set (hz : reservedZero p [(0, 2), (8, 16)] = true) (hc : pByte p 0 ≤ 3) (hs : pByte p 1 ≤ 1) (ha : p64 p 8 % 64 = 0)
    (hr : reachable d .cp true (p64 p 8) 288 = true) (hq : pByte p 1 = 0 ∨ (converter d (pByte p 0)).pendingSet ≠ none) :
    calRead p d = complete p .ok (leBytes 8 (channelStatus d (pByte p 0)))
      (clearChannelBits (pByte p 0) (p64 p 16) (memWrite (p64 p 8)
        (if pByte p 1 = 0 then codeSetInUse d (pByte p 0) else ((converter d (pByte p 0)).pendingSet.map (·.bytes)).getD []) d)) := by
  unfold calRead
  dsimp only
  rw [if_neg (by simp [hz, hc, hs, ha, hr])]
  by_cases hsel : pByte p 1 = 0
  · simp [hsel]
  · obtain ⟨q, hpend⟩ := Option.ne_none_iff_exists'.mp (hq.resolve_left hsel)
    simp [hsel, hpend]

/-- The pending set that CAL_WRITE makes of the bytes `bs` for an instant (R111, R113). -/
def writtenSet (p : Packet) (bs : List Byte) (instant : Nat) : PendingSet :=
  { packet := p, slices := (List.range 68).map (fun i => readSlice (getLe bs (16 + 4 * i) 4)),
    tRef := signed 16 (getLe bs 4 2), sclkMhz := getLe bs 6 2, passCount := getLe bs 8 4, applyAt := instant,
    startPass := pByte p 1 == 1, bytes := bs }

/-- CAL_WRITE of a valid set. -/
theorem calWrite_of_set (hz : reservedZero p [(0, 2), (8, 8)] = true) (hc : pByte p 0 ≤ 3) (hs : pByte p 1 ≤ 1) (ha : p64 p 8 % 64 = 0)
    (hr : reachable d .cp false (p64 p 8) 288 = true) (hok : codeSetOk (pByte p 0) (memRead d (p64 p 8) 288) = true) :
    calWrite p d = (
      let ch := pByte p 0
      let e := continueWork ch (abandonPass ch d)
      let e := match (converter e ch).pendingSet with
        | some q => complete q.packet .aborted [] e
        | none => e
      let e := setConverter ch { converter e ch with pendingSet := some (writtenSet p (memRead d (p64 p 8) 288)
        (if e.clk.sclk.gated then ballIndex e else ceilDiv (ballIndex e + 65536) 64 * 64)) } e
      if e.clk.sclk.gated then applySet ch e else park p e) := by
  unfold calWrite
  dsimp only
  rw [if_neg (by simp [hz, hc, hs, ha, hr])]
  exact if_neg (by simp [hok])

end

/-- The outcome of an admitted packet whose effect behind acceptance is known. -/
theorem admitted_next {op : Nat} {p : Packet} {body : Packet → Device → Device} {s : State} {e : Device}
    (ha : admitted s.dev op p = true) (h : body p (taken p s.dev) = e) : act (accept p body) s = .next (after s e) :=
  act_next ((accept_admitted body ha).trans h)

/-- Settles O34: an admitted packet runs its command, and the premises are the checks of that command. -/
theorem converterCommandsAct : Obligations.ConverterCommandsAct := by
  unfold Obligations.ConverterCommandsAct
  and_intros
  · intro s p ha hz hm ho d chs hidle hready
    exact admitted_next ha (calRun_of_startable hz hm ho hidle hready)
  · intro s p ha hz hc hs d hal hr hq
    exact admitted_next ha (calRead_of_set hz hc hs hal hr hq)
  · intro s p ha hz hc hs ch hal hr hok
    exact admitted_next ha (calWrite_of_set hz hc hs hal hr hok)

/-! ### Events -/

section
variable {d : Device} {ch n : Nat}

/-- A calibration step goes on until its 64th qualifying block, which changes the codes of the slice (R100, R101). -/
theorem calibrationStepEnd_of_calibrate {w : CalWork} (bs : List CalSums) (hg : stageOf (converter d ch) n = some (.calibrate w))
    (hw : w.step ≤ 8) :
    calibrationStepEnd ch n bs d = (
      let t := bs.foldl (testBlock (cfgInt d 2 ch 4)) (w, (converter d ch).signalLow)
      let c := { converter d ch with signalLow := t.2 }
      if t.1.blocks ≠ 64 then setConverter ch (setStage c n (some (.calibrate t.1))) d
      else
        let r := calStep t.1 d.fresh
        setConverter ch (setStage c n (some (.calibrate { t.1 with
          now := r.1, beyond := r.2.1, step := w.step + 1, blocks := 0, sums := {} })))
          (if r.2.2 then takeFresh (takeFresh d) else d)) := by
  unfold calibrationStepEnd
  dsimp only
  rw [hg]
  dsimp only
  rw [if_neg (Nat.not_lt.mpr hw)]
  simp only [bne_iff_ne]

/-- Behind its eighth step the first run of a slice starts the second from the codes that it began with; the second ends the
calibration of the slice (R101, R102). -/
theorem calibrationRunEnd_of_calibrate {w : CalWork} (hg : stageOf (converter d ch) n = some (.calibrate w)) (hw : 8 < w.step) :
    calibrationRunEnd ch n d =
      if w.run = 1 then setConverter ch (setStage (converter d ch) n
        (some (.calibrate { w with run := 2, step := 1, first := w.now, now := w.before }))) d
      else finishSlice ch w d := by
  unfold calibrationRunEnd
  dsimp only
  rw [hg]
  dsimp only
  rw [if_neg (Nat.not_le.mpr hw)]
  simp only [beq_iff_eq]

theorem verificationEnd_of_verify {spare : Nat} {tried : List Nat} {sus : Bool} (q : VerifySums)
    (hg : stageOf (converter d ch) n = some (.verify spare tried sus)) :
    verificationEnd ch n q d =
      if verifyPasses q sus then setConverter ch (setStage (converter d ch) n (some (.handOver spare sus))) d
      else verificationFailed ch n spare tried sus d := by
  simp [verificationEnd, hg]

/-- The verified spare takes the position of the slice, which is calibrated as a spare (R104). -/
theorem handOver_of_handOver {spare : Nat} {sus : Bool} (hg : stageOf (converter d ch) n = some (.handOver spare sus)) :
    handOver ch n d = (
      let old := sliceAt (converter d ch) n
      let c := setSlice (converter d ch) spare { sliceAt (converter d ch) spare with state := 0, position := old.position }
      let c := setSlice c n { old with state := 1 }
      let e := setConverter ch (beginCalibrate c n old.position sus) d
      if sus then noSpareLeft ch e else e) := by
  simp [handOver, hg]

/-- A run that exceeds its time ends, and ends a pass only where it belongs to one (R106). -/
theorem runTimeout_of_calibrate {w : CalWork} (hg : stageOf (converter d ch) n = some (.calibrate w)) :
    runTimeout ch n d = (
      let c := setStage { converter d ch with signalLow := true } n none
      if ofPass c n then
        let c := requeue { c with
          pass := none, incomplete := true, retry := true, result := (c.result.1, c.result.2.1, c.result.2.2.1, 2) }
        continueWork ch (passEnded ch true (raiseEvent (convSource ch) 3 (ballIndex d) 0 (setConverter ch c d)))
      else continueWork ch (setConverter ch { requeue c with degraded := false } d)) := by
  unfold runTimeout
  dsimp only
  rw [hg]

/-- An unhealthy slice that holds a position and is not being replaced (R107, R109). -/
theorem healthCheck_of_unhealthy {pos : Nat} {q : HealthSums} (he : convEnabled d ch = true) (hq : healthOk q = false)
    (hh : holderOf (converter d ch) pos = some n) (hr : inReplacement (converter d ch) n = false) :
    healthCheck ch pos q d =
      if (availableSpares (converter d ch)).isEmpty then unserviceable ch n d
      else match stageOf (converter d ch) n with
        | some g => setConverter ch (setStage (converter d ch) n (some (markSuspect g))) d
        | none => continueWork ch (setConverter ch { converter d ch with suspects := (converter d ch).suspects ++ [n] } d) := by
  unfold healthCheck
  dsimp only
  rw [if_neg (by simp [he, hq]), hh]
  exact if_neg (Bool.eq_false_iff.mp hr)

/-- The instant of a pending set: a pass that has started meanwhile is abandoned, and the whole set takes effect (R113). -/
theorem applySet_of_pending {q : PendingSet} (hq : (converter d ch).pendingSet = some q) :
    applySet ch d = (
      let e := abandonPass ch d
      let c := converter e ch
      let c := { c with
        slices := q.slices, suspects := [], stages := [], retry := false, disagreements := []
        tRef := some q.tRef, passCount := BitVec.ofNat 32 q.passCount, sclkMhz := q.sclkMhz, codesValid := true
        degraded := c.degraded && !q.slices.any (fun s => s.state == 1), pendingSet := none, spareQueue := [] }
      let e := setConverter ch (requeue c) e
      let e := complete q.packet .ok (leBytes 8 q.applyAt) e
      if q.startPass || sclkDiffers e ch then startPass ch 6 e else evaluateStart ch e) := by
  unfold applySet
  dsimp only
  rw [hq]

end

/-- Settles O35: the premises of each event open its guard, and what stands behind it is what the statement says. That a set hand-over
abandons a pass, that the timeout of a suspect's run ends no pass, and the condition of a retry are choices of the model (log entries 101,
102 and 103). -/
theorem converterEventsAct : Obligations.ConverterEventsAct := by
  unfold Obligations.ConverterEventsAct
  and_intros
  · exact fun _ _ _ => rfl
  · intro s ch n bs w hg hw
    exact act_next (calibrationStepEnd_of_calibrate bs hg hw)
  · intro s ch n w hg hw
    exact act_next (calibrationRunEnd_of_calibrate hg hw)
  · intro s ch n q spare tried sus hg
    exact act_next (verificationEnd_of_verify q hg)
  · intro s ch n spare sus hg
    exact act_next (handOver_of_handOver hg)
  · intro s ch n w hg
    exact act_next (runTimeout_of_calibrate hg)
  · intro s ch hr
    exact act_next (f := calibrationRetry ch.val) (if_neg (by simp [hr]))
  · intro s ch pos q n he hq hh hr
    exact act_next (healthCheck_of_unhealthy he hq hh hr)
  · intro s ch q hq
    exact act_next (applySet_of_pending hq)
  · intro s ch codes hc hlen ht
    exact act_next (f := sampleDelivery ch.val codes) (if_neg (by simp [hc, hlen, ht]))

end Sys2Proof.Proofs
end

section
/-! SUPPORT. The lanes and the spectral engine (R128-R130, R151, R156, R186): what LANE_SAMPLE and FRAME_COMPUTE do where their condition
holds, and what the loads of a mask and of a window do behind their checks. -/

namespace Sys2Proof.Proofs

open Sys2Proof.Machine Sys2Proof.Safety Sys2Proof.Laws

section
variable {p : Packet} {d : Device}

/-- The frame that is first in turn and complete is computed, or skipped where a lane sample of it was lost (R151). -/
theorem frameCompute_of_nextFrame {key f : Nat} {c : SlotCtx} (hn : nextFrame d key = some (f, c))
    (hc : frameComplete (slotAt d key) c f = true) (hr : romStops d key c = false) (ht : frameTurn d key = true) :
    frameCompute key d =
      if frameWhole (slotAt d key) c f then
        let r := computeFrame key c f d
        feedSlotBindings r.1 r.2.1 (deliverSpectrum key r.1 r.2.2)
      else deliverSpectrum key (skippedSpectrum key c f) (skipFrame key c f d) := by
  have hopen : (!frameComplete (slotAt d key) c f || romStops d key c || !frameTurn d key) = false := by simp [hc, hr, ht]
  unfold frameCompute
  rw [hn]
  dsimp only
  rw [if_neg (Bool.eq_false_iff.mp hopen)]
  cases frameWhole (slotAt d key) c f <;> rfl

/-- MASK_LOAD of 2,048 pairs of limits into a store that no context uses (R186). -/
theorem maskLoad_of_limits {m : List (Int × Int)} (hz : reservedZero p [(0, 1), (8, 8)] = true) (hs : pByte p 0 ≤ 15)
    (ha : p64 p 8 % 4 = 0) (hr : reachable d .cp false (p64 p 8) 8192 = true)
    (hm : decodeAll readLimits (readEntries d (p64 p 8) 4 2048) = some m) (hfree : maskStoreBusy d (pByte p 0) = false) :
    maskLoad p d = complete p .ok [] { d with trig := { d.trig with masks := tset [] d.trig.masks (pByte p 0) m } } := by
  unfold maskLoad
  dsimp only
  rw [if_neg (by simp [hz, hs, ha, hr]), hm]
  exact if_neg (Bool.eq_false_iff.mp hfree)

/-- WINDOW_LOAD of coefficients with a positive sum into a store that no context uses (R156). -/
theorem windowLoad_of_coefficients {w : List Int} (hz : reservedZero p [(0, 2), (8, 8)] = true) (hs : pByte p 0 ≤ 7)
    (hlo : 6 ≤ pByte p 1) (hhi : pByte p 1 ≤ 16) (ha : p64 p 8 % 4 = 0)
    (hr : reachable d .cp false (p64 p 8) (4 * 2 ^ pByte p 1) = true)
    (hw : decodeAll readCoefficient (readEntries d (p64 p 8) 4 (2 ^ pByte p 1)) = some w) (hpos : 0 < sumInt w)
    (hfree : windowStoreBusy d (pByte p 0) = false) :
    windowLoad p d =
      complete p .ok (leInt 8 (sumInt w) ++ leInt 4 (roundHalfEven (sumInt w) (2 ^ pByte p 1)) ++ leBytes 4 (enbwUnits w))
        { d with spec := { d.spec with windows := tset [] d.spec.windows (pByte p 0) w } } := by
  unfold windowLoad
  dsimp only
  rw [if_neg (by simp [hz, hs, hlo, hhi, ha, hr]), hw]
  dsimp only
  rw [if_neg (Int.not_le.mpr hpos)]
  exact if_neg (Bool.eq_false_iff.mp hfree)

end

/-- Settles O36: the premises of each event open its guard, an admitted packet runs its command, and what stands behind the checks is
what the statement says. -/
theorem laneAndSlotRowsAct : Obligations.LaneAndSlotRowsAct := by
  unfold Obligations.LaneAndSlotRowsAct
  and_intros
  · intro s ch l hready
    exact act_next (f := laneSample ch.val l.val) (if_neg (by simp [hready]))
  · intro s ch n f c key hn hc hr ht
    exact act_next (frameCompute_of_nextFrame hn hc hr ht)
  · intro s p m ha hz d hs hal hr hm hfree
    exact admitted_next ha (maskLoad_of_limits hz hs hal hr hm hfree)
  · intro s p w ha hz d lg total hs hlo hhi hal hr hw hpos hfree
    exact admitted_next ha (windowLoad_of_coefficients hz hs hlo hhi hal hr hw hpos hfree)

end Sys2Proof.Proofs
end

section
/-! SUPPORT. The trigger commands (R213-R215): what they do behind their checks, and what a command that waits for its instant does when it
is due. -/

namespace Sys2Proof.Proofs

open Sys2Proof.Machine Sys2Proof.Safety Sys2Proof.Laws

section
variable {p : Packet} {d : Device}

/-- TRIG_ARM behind its checks: with an at_sample that has not passed it waits for it, else it acts at the first instant not yet evaluated,
once every instant below that one is evaluated (R213). -/
theorem trigArm_of_checks {op : Nat} (hz : reservedZero p [(0, 3), (8, 8)] = true) (hstate : pByte p 1 ≤ 15) (hopt : pByte p 2 ≤ 3)
    (hidle : op = 1 → d.trig.armed = false) (hlate : atSample p = true → firstUnevaluated d ≤ p64 p 8) :
    trigArm op p d =
      if atSample p then park p { d with trig := { d.trig with armWaits := d.trig.armWaits ++ [{ packet := p, instant := p64 p 8 }] } }
      else
        let a := firstUnevaluated d
        let e := evaluateBelow a a d
        if evaluatedBelow e a then armAct op a p e
        else park p { e with trig := { e.trig with armWaits := e.trig.armWaits ++ [{ packet := p, instant := a }] } } := by
  have hbusy : (op == 1 && d.trig.armed) = false := by simpa using hidle
  unfold trigArm
  rw [if_neg (by simp [hz, hstate, hopt]), if_neg (Bool.eq_false_iff.mp hbusy)]
  cases hat : atSample p
  · rfl
  · exact if_neg (Nat.not_lt.mpr (hlate hat))

/-- DISARM clears the counters in every state; only an ARM that is refused leaves them. -/
theorem armAct_disarm (a : Nat) :
    armAct 0 a p d =
      complete p .ok (leBytes 8 a) (disarmAt a (if bit (pByte p 2) 0 then { d with trig := { d.trig with counters := [] } } else d)) := by
  simp [armAct]

theorem armAct_arm_of_armed (a : Nat) (h : d.trig.armed = true) : armAct 1 a p d = complete p .badState [] d := by
  simp [armAct, h]

theorem armAct_arm_of_disarmed (a : Nat) (h : d.trig.armed = false) :
    armAct 1 a p d = (
      let e := if bit (pByte p 2) 0 then { d with trig := { d.trig with counters := [] } } else d
      let e := { e with trig := { e.trig with armed := true, armedAt := a, evalNext := max e.trig.evalNext a } }
      complete p .ok (leBytes 8 a) (raiseEvent 0x1C0 3 a 0 (enterState (pByte p 1) a e))) := by
  cases hb : bit (pByte p 2) 0 <;> simp [armAct, h, hb]

theorem armAct_rearm (a : Nat) :
    armAct 2 a p d = (
      let e := if bit (pByte p 2) 0 then { d with trig := { d.trig with counters := [] } } else d
      let was := e.trig.armed
      let e := { e with trig := { e.trig with armed := true, armedAt := a, evalNext := max e.trig.evalNext a } }
      let e := enterState (pByte p 1) a e
      complete p .ok (leBytes 8 a) (if was then e else raiseEvent 0x1C0 3 a 0 e)) := by
  simp [armAct]

/-- The waiting TRIG_ARM with the lowest instant acts when it is due (R213). -/
theorem trigArmAtSample_of_due {w : TrigWait}
    (hw : d.trig.armWaits.find? (fun x => x.instant == listMin (2 ^ 64) (d.trig.armWaits.map (·.instant))) = some w)
    (hdue : waitDue d w.instant = true) :
    trigArmAtSample d = armAct (pByte w.packet 0) w.instant w.packet
      { d with trig := { d.trig with armWaits := d.trig.armWaits.erase w } } := by
  unfold trigArmAtSample
  dsimp only
  rw [hw]
  exact if_pos hdue

/-- TRIG_FORCE of an armed sequencer: with an at_sample that has not passed it waits for it, else source 47 pulses now (R214). -/
theorem trigForce_of_armed (hz : reservedZero p [(2, 1), (8, 8)] = true) (hopt : pByte p 2 ≤ 3) (harmed : d.trig.armed = true)
    (hlate : atSample p = true → firstUnevaluated d ≤ p64 p 8) :
    trigForce p d =
      if atSample p then park p { d with trig := { d.trig with forceWaits := d.trig.forceWaits ++ [{ packet := p, instant := p64 p 8 }] } }
      else forceAct (firstUnevaluated d) p d := by
  unfold trigForce
  rw [if_neg (by simp [hz, hopt]), if_neg (by simp [harmed])]
  cases hat : atSample p
  · rfl
  · exact if_neg (Nat.not_lt.mpr (hlate hat))

/-- The waiting TRIG_FORCE with the lowest instant pulses source 47 when it is due, or finds the sequencer disarmed (R214). -/
theorem trigForceAtSample_of_due {w : TrigWait}
    (hw : d.trig.forceWaits.find? (fun x => x.instant == listMin (2 ^ 64) (d.trig.forceWaits.map (·.instant))) = some w)
    (hdue : waitDue d w.instant = true) :
    trigForceAtSample d = (
      let e := { d with trig := { d.trig with forceWaits := d.trig.forceWaits.erase w } }
      if d.trig.armed then forceAct w.instant w.packet e else complete w.packet .badState [] e) := by
  unfold trigForceAtSample
  dsimp only
  rw [hw]
  refine (if_pos hdue).trans ?_
  cases d.trig.armed <;> rfl

end

/-- Settles O37: the premises are the checks of each command, and a waiting command acts when it is due. That option bit 0 of TRIG_FORCE
clears the counters is a choice of the model (log entry 23). -/
theorem triggerCommandsAct : Obligations.TriggerCommandsAct := by
  unfold Obligations.TriggerCommandsAct
  and_intros
  · intro s p ha hz hstate hopt d hlate
    refine admitted_next ha ((trigArm_of_checks hz hstate hopt (by simp) hlate).trans ?_)
    simp only [armAct_disarm]
    rfl
  · intro s p ha hz hstate hopt d hlate hidle
    refine admitted_next ha ((trigArm_of_checks hz hstate hopt (fun _ => hidle) hlate).trans ?_)
    cases harmed : (evaluateBelow (firstUnevaluated d) (firstUnevaluated d) d).trig.armed
    · simp only [armAct_arm_of_disarmed _ harmed, harmed]
      rfl
    · simp only [armAct_arm_of_armed _ harmed, harmed]
      rfl
  · intro s p ha hz hstate hopt d hlate
    refine admitted_next ha ((trigArm_of_checks hz hstate hopt (by simp) hlate).trans ?_)
    simp only [armAct_rearm]
    rfl
  · intro s w hw hdue
    exact act_next (trigArmAtSample_of_due hw hdue)
  · intro s p ha hz hopt d harmed hlate
    exact admitted_next ha (trigForce_of_armed hz hopt harmed hlate)
  · intro s w hw hdue
    exact act_next (trigForceAtSample_of_due hw hdue)
  · intro s p ha hz
    exact admitted_next ha (if_neg (by simp [hz]))

end Sys2Proof.Proofs
end

section
/-! SUPPORT. The rows of the sequencer, of its windows and of what its actions reach (R190-R212, R361, R496, R622), where their condition
holds. -/

namespace Sys2Proof.Proofs

open Sys2Proof.Machine Sys2Proof.Safety Sys2Proof.Laws

section
variable {d : Device}

/-! ### The sequencer (R190-R202) -/

/-- Aligned mode takes one step up to its limit (R197). -/
theorem sequencerEvaluate_of_limit {lim : Nat} (hal : aligned d = true) (hp : d.power.state ≠ .sleep) (hl : alignedLimit d = some lim)
    (hle : d.trig.evalNext ≤ lim) : sequencerEvaluate d = evaluateNext lim d := by
  unfold sequencerEvaluate
  rw [if_neg (by simp [hal, hp]), hl]
  exact if_neg (Nat.not_lt.mpr hle)

/-- A running timer pulses its source at the instant that ends it (R190). -/
theorem timerExpiry_of_passed {n a l : Nat} (ht : tget none d.trig.timers n = some (a, l)) (hle : a + l ≤ ballIndex d) :
    timerExpiry n d = postEvent (pulseEvent (40 + n) (a + l) none false) (setTimer n none d) := by
  unfold timerExpiry expireTimer
  rw [ht]
  exact if_pos hle

/-- The after edge of a transition without sources, in fast mode (R193, R200). -/
theorem transitionTimer_of_due {m : Nat} (hal : aligned d = false) (harmed : d.trig.armed = true)
    (hmode : transN d d.trig.state m 3 = 2) (htimer : transN d d.trig.state m 0xF = 1)
    (hused : usedSources (transN d d.trig.state m 0) = []) (hdone : bit d.trig.timerDone m = false)
    (hle : d.trig.entry + transLimit d m ≤ ballIndex d) (hctx : contextDue d (d.trig.entry + transLimit d m) = false) :
    transitionTimer m d = runFast (d.trig.entry + transLimit d m) d := by
  unfold transitionTimer
  exact if_neg (by simp [hal, harmed, hmode, htimer, hused, hdone, hle, hctx])

theorem trigOutPulseEnd_of_passed {o t : Nat} (ht : tget none d.trig.pulses o = some t) (hle : t ≤ d.time) :
    trigOutPulseEnd o d = { d with trig := { d.trig with pulses := tset none d.trig.pulses o none } } := by
  unfold trigOutPulseEnd
  rw [ht]
  exact if_pos hle

/-! ### Windows, bus lines and actions (R206, R496, R622) -/

theorem windowAutoClose_of_passed {w t : Nat} (ht : (trigWindow d w).autoClose = some t)
    (hle : t ≤ if aligned d then d.trig.evalNext else ballIndex d) : windowAutoClose w d = closeWindows [w] t false d := by
  unfold windowAutoClose
  rw [ht]
  exact if_pos hle

theorem busLineRelease_of_ended {n : Nat} {x : Nat × Nat × Nat}
    (hx : d.group.busIntervals.find? (fun x => x.1 == n && decide (x.2.2 ≤ ballIndex d)) = some x) :
    busLineRelease n d = postEvent (levelEvent (28 + n) x.2.2 none false false)
      { d with group := { d.group with busIntervals := d.group.busIntervals.erase x } } := by
  unfold busLineRelease
  rw [hx]

/-- The actions that ACTION_ARRIVAL takes: those of windows. -/
def isWindowAction : SeqAction → Bool
  | .jump .. => false
  | _ => true

/-- The actions that JUMP_REQUEST_ARRIVAL of a generator takes. -/
def isJumpOf (g : Nat) : SeqAction → Bool
  | .jump x _ _ => x == g
  | _ => false

/-- An action leaves stall 0x09, which accepts again once half of it is free. -/
def leaveStall (a : SeqAction) (d : Device) : Device :=
  let rest := d.trig.actions.erase a
  { d with trig := { d.trig with actions := rest, actionsFull := d.trig.actionsFull && decide (128 < rest.length) } }

/-- A window action at the record paths: it opens on the lanes that its windows name, and closes on every lane (R206). -/
def reachRecordPaths (a : SeqAction) (d : Device) : Device :=
  match a with
  | .open ws t => ws.foldl (fun d w => (allLanes.filter (fun x => winHasLane d w x.1 x.2)).foldl (fun d x => openOnLane w t x.1 x.2 d) d) d
  | .close ws t => ws.foldl (fun d w => allLanes.foldl (fun d x => closeOnLane w t x.1 x.2 d) d) d
  | .jump .. => d

/-- The oldest window action in the stall reaches the record paths (R622). -/
theorem actionArrival_of_found {a : SeqAction} (ha : d.trig.actions.find? isWindowAction = some a) :
    actionArrival d = reachRecordPaths a (leaveStall a d) := by
  change (match d.trig.actions.find? isWindowAction with
    | none => d
    | some a => reachRecordPaths a (leaveStall a d)) = _
  rw [ha]

/-- The oldest jump request for a generator reaches it; one that is stopped ignores it (R361). -/
theorem jumpRequestArrival_of_found {g step : Nat} {due : Option Nat} (ha : d.trig.actions.find? (isJumpOf g) = some (.jump g step due)) :
    jumpRequestArrival g d = (
      let e := leaveStall (.jump g step due) d
      if genStopped (generator e g) then
        raiseEvent (genSource g) 4 (ballIndex e) step (setGenerator g { generator e g with jumpIgnored := true } e)
      else placeRequest g step none (min (ballIndex e) (due.getD (ballIndex e))) e) := by
  change (match d.trig.actions.find? (isJumpOf g) with
    | some (.jump _ _ _) => _
    | _ => d) = _
  rw [ha]
  rfl

/-! ### Record paths and measurements (R138, R212) -/

/-- A lane decides its next stamp, or passes those at which it records nothing, once what the decision needs has come (R206, R622). -/
theorem stampDecide_of_decidable {ch l : Nat} (hr : resetRuns d (laneFault ch l) = false) :
    let e := crossTokens ch l (laneAt d ch l).recOld.length d
    let v := laneAt e ch l
    let r := settingsAt e ch l v.recNext
    v.recNext < v.next → (laneEnabled e ch l = true → v.recNext + decisionLag e ch l r + blockOf r.k ≤ v.next) →
    stampDecide ch l d =
      if r.mode = 0 then
        let stop := match v.recOld with
          | (b, _) :: _ => max v.recNext (min v.next b)
          | [] => v.next
        setLane ch l { v with recNext := stop, wins := v.wins.filter (fun w => match w.stop with
          | some t => decide (stop < t)
          | none => true) } e
      else if r.gate = 1 ∧ r.hist ≠ 0 then decideHistory ch l r e
      else decideStall ch l r e := by
  intro e v r hnext hlag
  have hcome : ¬ (laneEnabled e ch l && decide (v.next < v.recNext + decisionLag e ch l r + blockOf r.k)) = true := by
    simpa using hlag
  unfold stampDecide
  rw [if_neg (Bool.eq_false_iff.mp hr)]
  refine (if_neg hcome).trans ((if_neg (Nat.not_le.mpr hnext)).trans ?_)
  simp only [beq_iff_eq, bne_iff_ne, Bool.and_eq_true]
  rfl

/-- A measurement that has ended is reported once its lane has come to its end, or will not (R212). -/
theorem measurementComplete_of_ended {w : Nat} {m : Meas} (hm : d.trig.ended.find? (fun m => m.window == w) = some m)
    (hend : laneEnabled d (m.lane / 8) (m.lane % 8) = false ∨ m.cut = true ∨ m.disarmed = true
      ∨ m.close.getD 0 ≤ (laneAt d (m.lane / 8) (m.lane % 8)).next) :
    measurementComplete w d = (
      let m' := advanceMeas d m
      let e := takeFresh (takeFresh { d with trig := { d.trig with
        ended := d.trig.ended.erase m, historyShort := d.trig.historyShort || m'.short } })
      let e := if m'.short then raiseEvent 0x1C3 2 m.start 0 e else e
      emitRec { type := 0x06, source := windowSource w, flags := headerFlags e [m.lane / 8], firstIndex := m.start,
                generation := m.gen, payload := measPayload d.fresh m' } e) := by
  have hcome : ¬ (decide ((laneAt d (m.lane / 8) (m.lane % 8)).next < m.close.getD 0) && laneEnabled d (m.lane / 8) (m.lane % 8)
      && !m.cut && !m.disarmed) = true := by
    obtain h | h | h | h := hend <;> simp [h]
  unfold measurementComplete
  rw [hm]
  exact if_neg (by simpa using hcome)

end

/-- Settles O38: the premises of each event open its guard, and what stands behind it is what the statement says. That a fast event waits
for its token with no other behind it, that an output pulse ends at its own time also behind DISARM, and that a jump request at a stopped
generator is ignored are choices of the model (log entries 23, 21 and 115). -/
theorem sequencerRowsAct : Obligations.SequencerRowsAct := by
  unfold Obligations.SequencerRowsAct
  and_intros
  · intro s lim hal hp hl hle
    exact act_next (sequencerEvaluate_of_limit hal hp hl hle)
  · intro s hal hp
    exact act_next (f := fastEvent) (if_neg (by simp [hal, hp]))
  · exact fun _ _ => rfl
  · exact fun _ _ => rfl
  · intro s n a l ht hle
    exact act_next (timerExpiry_of_passed ht hle)
  · intro s m t hal harmed hmode htimer hused hdone hle hctx
    exact act_next (transitionTimer_of_due hal harmed hmode htimer hused hdone hle hctx)
  · intro s o t ht hle
    exact act_next (trigOutPulseEnd_of_passed ht hle)
  · intro s w t ht hle
    exact act_next (windowAutoClose_of_passed ht hle)
  · intro s n x hx
    exact act_next (busLineRelease_of_ended hx)
  · intro s a ha
    exact act_next (actionArrival_of_found ha)
  · intro s g step due ha
    exact act_next (jumpRequestArrival_of_found ha)
  · intro s ch l d v r hr hnext hlag
    exact act_next (stampDecide_of_decidable hr hnext hlag)
  · intro s w m hm hend
    exact act_next (measurementComplete_of_ended hm hend)

end Sys2Proof.Proofs
end

section
/-! SUPPORT. The interval unit (R222-R233): what its command does behind its checks, and what its events do where their condition holds. -/

namespace Sys2Proof.Proofs

open Sys2Proof.Machine Sys2Proof.Safety Sys2Proof.Laws

section
variable {p : Packet} {d : Device} {r : TiuRun}

/-! ### Runs (R226, R230-R233) -/

/-- The parameters of a TIU_RUN are good (R230, R231). -/
theorem runChecks_pass (hz : reservedZero p [(0, 3), (4, 44)] = true) (hopt : pByte p 2 ≤ 7) (hok : runParamsOk d p = true) :
    ¬ (!reservedZero p [(0, 3), (4, 44)] || decide (7 < pByte p 2) || !runParamsOk d p) = true := by
  simp [hz, hopt, hok]

/-- The at_sample of a TIU_RUN, where it has one, has not passed (R231). -/
theorem atSample_not_late (hlate : bit (pByte p 2) 2 = true → ballIndex d ≤ p64 p 32) :
    ¬ (bit (pByte p 2) 2 && decide (p64 p 32 < ballIndex d)) = true := by
  simpa using hlate

/-- TIU_RUN behind its checks starts a run, whose inputs are then calibrated (R226, R230). -/
theorem tiuRun_of_idle (hz : reservedZero p [(0, 3), (4, 44)] = true) (hopt : pByte p 2 ≤ 7) (hok : runParamsOk d p = true)
    (hidle : d.tiu.run = none) (hlate : bit (pByte p 2) 2 = true → ballIndex d ≤ p64 p 32) :
    tiuRun false p d = park p (calibrateInputs [pByte p 0, pByte p 1]
      (setRun (some (newRun p (swapBlocks tiuBlocks d))) (swapBlocks tiuBlocks d))) := by
  have hbusy : ¬ d.tiu.run.isSome = true := by simp [hidle]
  unfold tiuRun
  dsimp only
  rw [if_neg (runChecks_pass hz hopt hok), if_neg Bool.false_ne_true, if_neg hbusy, if_neg (atSample_not_late hlate)]

/-- TIU_RUN with ABORT behind its checks ends the active run (R233). -/
theorem tiuRun_abort_of_active (hz : reservedZero p [(0, 3), (4, 44)] = true) (hopt : pByte p 2 ≤ 7) (hok : runParamsOk d p = true)
    (hr : runActive d = some r) (hlate : bit (pByte p 2) 2 = true → ballIndex d ≤ p64 p 32) :
    tiuRun true p d = complete p .ok (runReply 2 (atRunEnd d r)) (endRun (atRunEnd d r) 2 .aborted d) := by
  unfold tiuRun
  dsimp only
  rw [if_neg (runChecks_pass hz hopt hok), if_pos rfl, hr]
  exact if_neg (atSample_not_late hlate)

/-- The run accepts edges once both its inputs are calibrated (R226). -/
theorem runCalibrationComplete_of_calibrated (hr : runActive d = some r) (hstart : (tiuInput d r.startInput).toCal = [])
    (hstop : (tiuInput d r.stopInput).toCal = []) :
    runCalibrationComplete d = setRun (some { r with accepting := true, gap := r.gap || indexPaused d }) d := by
  unfold runCalibrationComplete
  rw [hr]
  exact if_pos (by simp [hstart, hstop])

/-- The earliest pending start of the active run expires (R232). -/
theorem pendingStartExpiry_of_pending {x : PendStart} {l : List PendStart} (hr : runActive d = some r) (hl : r.starts = x :: l) :
    pendingStartExpiry d = setRun (some { r with starts := l, unmatched := r.unmatched + 1 }) d := by
  unfold pendingStartExpiry
  rw [hr]
  dsimp only
  rw [hl]

/-- The timeout that the active run was given ends it (R233). -/
theorem tiuTimeout_of_active (hr : runActive d = some r) (ht : p64 r.packet 24 ≠ 0) : tiuTimeout d = endRun r 1 .timeout d := by
  unfold tiuTimeout
  rw [hr]
  exact if_neg (by simpa using ht)

/-! ### Edges and index ticks (R222-R224, R228) -/

/-- What an edge does to the unit: the count goes on, an edge that comes is noted at its input, and one that is stamped is taken by an
interpolator, or missed where none can take it or its input is dead (R222-R224). -/
theorem edgeStamp_eq (n : Nat) (rising : Bool) (k cycles raw : Nat) :
    edgeStamp n rising k cycles raw d = (
      let c := d.tiu.coarse + cycles
      let e := { d with tiu := { d.tiu with coarse := c } }
      if edgeComes e n rising then
        let e := edgeAside n rising (setTiuInput n { tiuInput e n with level := rising } e)
        if stamped e n rising then
          let v := tiuInput e n
          match edgeInterp v (cfgInt e 6 (1 + n) 2) c raw k with
          | none => missEdge n rising e
          | some (m, i, t) =>
            if v.lastEdge.any (fun l => decide (t - l < deadTime v)) then missEdge n rising e
            else takeEdge n rising t (i.r2 - i.r1).toNat
              (setTiuInput n { setInterp v m { i with lastEdge := some t } with lastEdge := some t } e)
        else e
      else e) := by
  unfold edgeStamp
  dsimp only
  generalize { d with tiu := { d.tiu with coarse := d.tiu.coarse + cycles } } = e
  cases edgeComes e n rising with
  | false => rfl
  | true =>
    generalize edgeAside n rising (setTiuInput n { tiuInput e n with level := rising } e) = e
    cases stamped e n rising with
    | false => rfl
    | true =>
      cases edgeInterp (tiuInput e n) (cfgInt e 6 (1 + n) 2) (d.tiu.coarse + cycles) raw k with
      | none => rfl
      | some x => cases (tiuInput e n).lastEdge <;> rfl

/-- A tick that is later than the last, and of another index, is kept among the 16 newest and converts what waited for it (R228). -/
theorem indexTick_of_later (cycles fine : Nat) :
    let e := { d with tiu := { d.tiu with coarse := d.tiu.coarse + cycles } }
    let i := ballIndex e / 1024 * 1024
    let t : Int := ((e.tiu.coarse * 1600 + fine : Nat) : Int)
    unitRuns e = true → indexPaused e = false → (∀ x ∈ e.tiu.ticks.head?, x.1 ≠ i ∧ x.2 < t) →
    indexTick cycles fine d = convertEdges { e with tiu := { e.tiu with ticks := ((i, t) :: e.tiu.ticks).take 16 } } := by
  intro e i t hruns hpaused hlater
  unfold indexTick
  dsimp only
  refine if_neg ?_
  rw [hruns, hpaused]
  cases hx : d.tiu.ticks.head? with
  | none => exact Bool.false_ne_true
  | some x => simpa [i, t, e] using hlater x hx

end

/-- Settles O39: the premises of each row are its checks, and what stands behind them is what the statement says. That an edge which no
interpolator can take is missed, and that the 16 newest ticks are held, are choices of the model (log entries 75 and 108). -/
theorem intervalUnitActs : Obligations.IntervalUnitActs := by
  unfold Obligations.IntervalUnitActs
  and_intros
  · intro s p ha hz hopt d hok hidle hlate
    exact admitted_next ha (tiuRun_of_idle hz hopt hok hidle hlate)
  · intro s p r ha hz hopt d hok hr hlate
    exact admitted_next ha (tiuRun_abort_of_active hz hopt hok hr hlate)
  · intro s n rising k cycles r
    exact act_next (edgeStamp_eq n.val rising k.val cycles r)
  · intro s cycles fine d i t hruns hpaused hlater
    exact act_next (indexTick_of_later cycles fine.val hruns hpaused hlater)
  · intro s n k sum1 sum2 hawake
    exact act_next (f := interpolatorCalibration n.val k.val sum1 sum2) (if_neg (by simpa using hawake))
  · intro s r hr hstart hstop
    exact act_next (runCalibrationComplete_of_calibrated hr hstart hstop)
  · intro s r x l hr hl
    exact act_next (pendingStartExpiry_of_pending hr hl)
  · intro s r hr ht
    exact act_next (tiuTimeout_of_active hr ht)

end Sys2Proof.Proofs
end

section
/-! SUPPORT. The commands of the Yard pool and of the live view (R254, R264-R267): what they do behind their checks. -/

namespace Sys2Proof.Proofs

open Sys2Proof.Machine Sys2Proof.Safety Sys2Proof.Laws

section
variable {p : Packet} {d : Device}

/-- YARD_ALLOC takes the range and the handle that it finds (R266). -/
theorem yardAlloc_of_found {a n : Nat} (hz : reservedZero p [(0, 8)] = true) (hunit : p64 p 0 % 2 ^ 21 = 0) (hpos : 0 < p64 p 0)
    (hmax : p64 p 0 ≤ 2 ^ 34) (ha : poolFind d (p64 p 0) (2 ^ 21) = some a)
    (hn : (List.range 4096).find? (fun h => h != 0 && (bufferOf d h).isNone) = some n) :
    yardAlloc p d = complete p .ok (leBytes 2 n ++ zeroBytes 6 ++ leBytes 8 a)
      (addBuffer { base := a, size := p64 p 0, handle := some n } d) := by
  have hsize : ¬ (!reservedZero p [(0, 8)] || p64 p 0 % 2 ^ 21 != 0 || p64 p 0 == 0 || decide (2 ^ 34 < p64 p 0)) = true := by
    rw [hz, hunit, beq_eq_false_iff_ne.mpr hpos.ne', decide_eq_false (Nat.not_lt.mpr hmax)]
    decide
  unfold yardAlloc
  dsimp only
  rw [if_neg hsize, ha, hn]

/-- YARD_FREE of a buffer that nothing of the configuration names turns on whether a plane state holds it (R267). -/
theorem yardFree_of_unnamed {b : YardBuffer} (hz : reservedZero p [(0, 2)] = true) (hpos : p16 p 0 ≠ 0)
    (hb : bufferOf d (p16 p 0) = some b) (hfree : b.freeing = none) (hmap : namedByMap d (p16 p 0) = false)
    (hwin : underWindow d b = false) :
    yardFree p d =
      if bufferHeld d (p16 p 0) then park p { d with yard := { d.yard with
        buffers := d.yard.buffers.map (fun x => if x = b then { b with freeing := some p } else x) } }
      else complete p .ok [] { d with yard := { d.yard with buffers := d.yard.buffers.erase b } } := by
  have hunnamed : ¬ (namedByMap d (p16 p 0) || underWindow d b) = true := by simp [hmap, hwin]
  unfold yardFree
  dsimp only
  rw [if_neg (by simp [hz]), if_neg (by simpa using hpos), hb]
  exact (if_neg (by simp [hfree])).trans (if_neg hunnamed)

/-- DISP_COMMIT of valid planes, of which layer 0 takes none while it shows a map, commits them and answers the display frame that first
shows them (R264, R265). -/
theorem dispCommit_of_planes (hz : reservedZero p [(0, 1), (2, 4), (8, 28)] = true) (hf : pByte p 0 ≤ 15) :
    let l0 : Planes := { handle := p16 p 2, y := p32 p 8, c := p32 p 12, v := p32 p 16, alpha := 0 }
    let l1 : Planes := { handle := p16 p 4, y := p32 p 20, c := p32 p 24, v := p32 p 28, alpha := p32 p 32 }
    (bit (pByte p 0) 0 = true → planesOk d 0 l0 = true ∧ scanN d 4 = 0) → (bit (pByte p 0) 1 = true → planesOk d 1 l1 = true) →
    dispCommit p d = complete p .ok (leBytes 8 (showFrame d)) (retireBuffers { d with disp := { d.disp with
      committed := { d.disp.committed with
        l0 := if bit (pByte p 0) 2 then none else if bit (pByte p 0) 0 then some l0 else d.disp.committed.l0,
        l1 := if bit (pByte p 0) 3 then none else if bit (pByte p 0) 1 then some l1 else d.disp.committed.l1,
        l0Off := bit (pByte p 0) 2 },
      newContent := d.disp.newContent || (bit (pByte p 0) 1 || bit (pByte p 0) 3
        || (scanN d 4 == 0 && (bit (pByte p 0) 0 || bit (pByte p 0) 2))) } }) := by
  intro l0 l1 h0 h1
  have hplanes0 : (bit (pByte p 0) 0 && !planesOk d 0 l0) = false := by simpa using fun hb => (h0 hb).1
  have hplanes1 : (bit (pByte p 0) 1 && !planesOk d 1 l1) = false := by simpa using h1
  have hplanar : ¬ (bit (pByte p 0) 0 && scanN d 4 != 0) = true := by simpa using fun hb => (h0 hb).2
  have hchecks : ¬ (!reservedZero p [(0, 1), (2, 4), (8, 28)] || decide (15 < pByte p 0) || (bit (pByte p 0) 0 && !planesOk d 0 l0)
      || (bit (pByte p 0) 1 && !planesOk d 1 l1)) = true := by
    simp [hz, hf, hplanes0, hplanes1]
  exact (if_neg hchecks).trans (if_neg hplanar)

/-- PALETTE_LOAD of 256 colours into a store that no context uses (R254). -/
theorem paletteLoad_of_colours {pal : List (Nat × Nat × Nat)} (hz : reservedZero p [(0, 1), (8, 8)] = true) (hs : pByte p 0 ≤ 3)
    (hr : reachable d .cp false (p64 p 8) 1024 = true) (hpal : decodeAll readColour (readEntries d (p64 p 8) 4 256) = some pal)
    (hfree : paletteBusy d (pByte p 0) = false) :
    paletteLoad p d = complete p .ok [] { d with disp := { d.disp with palettes := tset [] d.disp.palettes (pByte p 0) pal } } := by
  unfold paletteLoad
  dsimp only
  rw [if_neg (by simp [hz, hs, hr]), hpal]
  exact if_neg (Bool.eq_false_iff.mp hfree)

end

/-- Settles O42: an admitted packet runs its command, and the premises are the checks of that command. That YARD_ALLOC takes the first free
range and the lowest free handle is a choice of the model (log entry 38). -/
theorem viewCommandsAct : Obligations.ViewCommandsAct := by
  unfold Obligations.ViewCommandsAct
  and_intros
  · intro s p a n ha hz hunit hpos hmax d hfound hn
    exact admitted_next ha (yardAlloc_of_found hz hunit hpos hmax hfound hn)
  · intro s p b ha hz hpos d hb hfree hmap hwin hheld
    exact admitted_next ha ((yardFree_of_unnamed hz hpos hb hfree hmap hwin).trans (if_neg (Bool.eq_false_iff.mp hheld)))
  · intro s p b ha hz hpos d hb hfree hmap hwin hheld
    exact admitted_next ha ((yardFree_of_unnamed hz hpos hb hfree hmap hwin).trans (if_pos hheld))
  · intro s p ha hz hf d l0 l1 h0 h1
    exact admitted_next ha (dispCommit_of_planes hz hf h0 h1)
  · intro s p pal ha hz hs d hr hpal hfree
    exact admitted_next ha (paletteLoad_of_colours hz hs hr hpal hfree)

end Sys2Proof.Proofs
end

section
/-! SUPPORT. Density maps, colour frames, scan-out and the ports (R243-R273): what each event does where its condition holds. -/

namespace Sys2Proof.Proofs

open Sys2Proof.Machine Sys2Proof.Safety Sys2Proof.Laws

/-! ### The intake of spectra (R243-R245, R250) -/

/-- The map `m` as the spectrum `x` finds it: its open frame is marked short where a spectrum of it was lost before `x`. -/
def mapBefore (m : Nat) (x : Spectrum) (d : Device) : DensMap :=
  let v := densMap d m
  if lostHere d m x then { v with frame := { v.frame with flags := v.frame.flags ||| 1 } } else v

/-- The open frame `f` once it counts the spectrum `x`, its cells being `r.1` and `r.2` telling whether one was full. -/
def frameWith (x : Spectrum) (r : Table Nat × Bool) (f : DensFrame) : DensFrame :=
  { cells := r.1, spectra := f.spectra + 1, firstStamp := if f.spectra == 0 then x.stamp else f.firstStamp, lastStamp := x.stamp,
    flags := f.flags ||| takenFlags x ||| (if r.2 then 0x80 else 0) }

/-- The device once map `m` counts the computed spectrum `x` and keeps `rest` in its stall; the first full cell of a frame raises its
event. -/
def countSpectrum (m : Nat) (x : Spectrum) (rest : List Spectrum) (d : Device) : Device :=
  let v := mapBefore m x d
  let r := addSpectrum (mapCtx d m) x.bins v.frame.cells
  let e := setMap m { v with
    stall := { (densMap d m).stall with items := rest }, frame := frameWith x r v.frame, satEvent := v.satEvent || r.2 } d
  if r.2 && !v.satEvent then raiseEvent (mapFault m) 2 x.stamp 0 e else e

/-- The device once map `m` is short of the spectrum `x`, which was not computed, and keeps `rest` in its stall. -/
def missSpectrum (m : Nat) (x : Spectrum) (rest : List Spectrum) (d : Device) : Device :=
  let v := mapBefore m x d
  setMap m { v with stall := { (densMap d m).stall with items := rest }, frame := { v.frame with flags := v.frame.flags ||| 1 } } d

section
variable {d : Device} {m : Nat} {x : Spectrum} {rest : List Spectrum}

/-- What the intake does with the oldest spectrum of its stall, case by case. -/
theorem spectrumIntake_of_items (hx : (densMap d m).stall.items = x :: rest) :
    spectrumIntake m d =
      if mapN d m 1 != 1 then setMap m { densMap d m with stall := { (densMap d m).stall with items := [] } } d
      else if tokenWaits d (0x0700 + m) x.stamp || scheduledWaits d m x.stamp || (densMap d m).deferred.any (·.settings.isSome) then d
      else if !x.computed then missSpectrum m x rest d
      else
        let e := countSpectrum m x rest d
        if mapN e m 0xA == 0 && decide (mapN e m 0xB ≤ (mapBefore m x d).frame.spectra + 1) then
          endFrame m (mapCtx d m) { flags := 0 } e
        else e := by
  unfold spectrumIntake
  dsimp only
  rw [hx]
  rfl

theorem spectrumIntake_of_disabled (hoff : mapN d m 1 ≠ 1) (hne : (densMap d m).stall.items ≠ []) :
    spectrumIntake m d = setMap m { densMap d m with stall := { (densMap d m).stall with items := [] } } d := by
  obtain ⟨x, rest, hx⟩ := List.exists_cons_of_ne_nil hne
  exact (spectrumIntake_of_items hx).trans (if_pos (by simpa using hoff))

/-- The next spectrum, where nothing stands before it, is counted, or noted as one that the frame is short of. -/
theorem spectrumIntake_of_next (hx : (densMap d m).stall.items = x :: rest) (hon : mapN d m 1 = 1)
    (htoken : tokenWaits d (0x0700 + m) x.stamp = false) (hsched : scheduledWaits d m x.stamp = false)
    (hdef : (densMap d m).deferred.any (·.settings.isSome) = false) :
    spectrumIntake m d =
      if x.computed = false then missSpectrum m x rest d
      else
        let e := countSpectrum m x rest d
        if mapN e m 0xA = 0 ∧ mapN e m 0xB ≤ (mapBefore m x d).frame.spectra + 1 then endFrame m (mapCtx d m) { flags := 0 } e else e := by
  rw [spectrumIntake_of_items hx, if_neg (by simp [hon]), if_neg (by simp only [htoken, hsched, hdef]; decide)]
  exact if_congr (by simp) rfl (if_congr (by simp) rfl rfl)

/-! ### Drains and colour frames (R246, R247, R256) -/

/-- The first slot, from the next one on, of the buffer of the colour frame `w` that no plane state holds (R256). -/
def freeColourSlot (w : ColourWork) (next : Nat) (d : Device) : Option Nat :=
  ((List.range w.ctx.colNbuf).map (fun j => (next + j) % w.ctx.colNbuf)).find? (fun j => !colourHeld d w.ctx.colBuf j)

/-- The colour frame `w` of map `m` is written to slot `j` of the buffer `b`, and is new content for the layer that shows the map. -/
def storeColour (m : Nat) (w : ColourWork) (j : Nat) (b : YardBuffer) (d : Device) : Device :=
  let e := memWrite (b.base + j * colourSlot w.ctx) (colourBytes w (palette d w.ctx.colPalette)) d
  let e := setMap m { densMap e m with
    colourNext := (j + 1) % w.ctx.colNbuf, colourDone := some (w.ctx.colBuf, j, w.ctx.cols, w.ctx.rows, w.ctx.colFormat) } e
  if cfgN e 8 0 4 == m + 1 then { e with disp := { e.disp with newContent := true } } else e

/-- A colour frame of map `m` that has nowhere to go is counted (R256). -/
def dropColour (m : Nat) (d : Device) : Device :=
  raiseEvent 0x188 1 (ballIndex d) 0 (setMap m { densMap d m with colourDropped := (densMap d m).colourDropped + 1 } d)

/-- The colour frame `w` of map `m`, which has left its stall, goes to the first slot that is free from `next` on, or is dropped. -/
def placeColour (m : Nat) (w : ColourWork) (next : Nat) (d : Device) : Device :=
  match freeColourSlot w next d, bufferOf d w.ctx.colBuf with
  | some j, some b => storeColour m w j b d
  | _, _ => dropColour m d

/-- The oldest colour frame leaves stall 0x08. -/
theorem colourFrameComplete_of_waiting {w : ColourWork} {later : List ColourWork} (hw : (densMap d m).colour = w :: later) :
    colourFrameComplete m d =
      placeColour m w (densMap d m).colourNext (setMap m { densMap d m with colour := later } d) := by
  unfold colourFrameComplete
  dsimp only
  rw [hw]
  rfl

/-! ### Scan-out (R258, R259, R263, R264) -/

/-- Scan-out may latch: at the end of the active lines, and with variable timing at each line of the blanking until new content is latched. -/
theorem latch_guard_open (hr : d.disp.running = true)
    (hb : d.disp.blanking = false ∨ (variableTiming d = true ∧ d.disp.newLatched = false)) :
    ¬ (!d.disp.running || (d.disp.blanking && (!variableTiming d || d.disp.newLatched))) = true := by
  obtain hb | ⟨hv, hn⟩ := hb
  · simp [hr, hb]
  · simp [hr, hv, hn]

theorem displayFrameStart_of_start {lines : Nat} (hr : d.disp.running = true) (hb : d.disp.blanking = true)
    (hs : frameStartsAt d lines = true) :
    displayFrameStart lines d = { d with disp := { d.disp with
      active := d.disp.latched, blanking := false, newLatched := false, underflowRaised := false,
      frameCount := d.disp.frameCount + 1 } } :=
  if_neg (by simp [hr, hb, hs])

/-- A line of the mode's active lines is fetched while scan-out runs outside the blanking. -/
theorem lineFetch_guard_open {line : Nat} (hr : d.disp.running = true) (hb : d.disp.blanking = false)
    (hl : line < (modeActive (scanN d 1)).2) :
    ¬ (!d.disp.running || d.disp.blanking || (modeActive (scanN d 1)).2 ≤ line) = true := by
  simp [hr, hb, hl]

/-! ### Ports (R262, R273) -/

section
variable {n : Nat}

theorem hotPlug_of_running (a : Bool) (lanes rate : Nat) (hr : d.disp.running = true) :
    hotPlug n a lanes rate d = raiseEvent (0x191 + n) 1 (ballIndex d) 0
      (setDpPort n { dpPort d n with connected := true, trained := false, adaptive := a, sinkLanes := lanes, sinkRate := rate } d) :=
  if_neg (by simp [hr])

theorem unplug_of_connected (hc : (dpPort d n).connected = true) :
    unplug n d = raiseEvent (0x191 + n) 2 (ballIndex d) 0 (setDpPort n {} d) :=
  if_neg (by simp [hc])

theorem linkLost_of_trained (ht : (dpPort d n).trained = true) :
    linkLost n d = raiseEvent (0x191 + n) 4 (ballIndex d) 0 (setDpPort n { dpPort d n with trained := false } d) :=
  if_neg (by simp [ht])

/-- Training of a connected and enabled port fails for its lanes, or for the bandwidth of the mode, or succeeds (R262). -/
theorem linkTrained_of_connected (lanes rate : Nat) (hr : d.disp.running = true) (hc : (dpPort d n).connected = true)
    (hon : dpN d n 1 = 1) :
    linkTrained n lanes rate d = (
      let p := dpPort d n
      if (lanes ≠ 1 ∧ lanes ≠ 2 ∧ lanes ≠ 4) ∨ p.sinkLanes < lanes then raiseFault (plainFault (0x191 + n) 5 0 0) d
      else
        let r := min (min rate (min p.sinkRate 3)) (dpN d n 3)
        if lanes * linkRate r < modeClock (scanN d 1) * 24 then
          raiseEvent (0x191 + n) 5 (ballIndex d) 0 (setDpPort n { p with trained := false, lanes := lanes, rate := r } d)
        else raiseEvent (0x191 + n) 3 (ballIndex d) 0 (setDpPort n { p with trained := true, lanes := lanes, rate := r } d)) := by
  have hopen : ¬ (!d.disp.running || !(dpPort d n).connected || dpN d n 1 != 1) = true := by simp [hr, hc, hon]
  have hlanes : ((lanes != 1 && lanes != 2 && lanes != 4) || decide ((dpPort d n).sinkLanes < lanes)) = true
      ↔ (lanes ≠ 1 ∧ lanes ≠ 2 ∧ lanes ≠ 4) ∨ (dpPort d n).sinkLanes < lanes := by
    simp [and_assoc]
  exact (if_neg hopen).trans (if_congr hlanes rfl rfl)

end

end

/-- Settles O43: the premises of each event open its guard, and what stands behind it is what the statement says. That a drain is one step,
that colour takes the frames whose number is a multiple of col_every, that late ranges are sent as background and that a latch leaves a
disabled port untrained are choices of the model (log entries 36 and 37). -/
theorem viewEventsAct : Obligations.ViewEventsAct := by
  unfold Obligations.ViewEventsAct
  and_intros
  · intro s m hoff hne
    exact act_next (spectrumIntake_of_disabled hoff hne)
  · intro s m x rest hx hon htoken hsched hdef
    exact act_next (spectrumIntake_of_next hx hon htoken hsched hdef)
  · intro s m f c hdrain
    refine act_next (f := drainComplete m.val) ?_
    unfold drainComplete
    dsimp only
    rw [hdrain]
  · intro s m w rest hw
    exact act_next (colourFrameComplete_of_waiting hw)
  · intro s hr hb
    exact act_next (f := latchInstant) (if_neg (latch_guard_open hr hb))
  · intro s lines hr hb hs
    exact act_next (displayFrameStart_of_start hr hb hs)
  · intro s line late hr hb hl
    exact act_next (f := lineFetch line late) (if_neg (lineFetch_guard_open hr hb hl))
  · intro s n a lanes rate hr
    exact act_next (hotPlug_of_running a lanes rate hr)
  · intro s n hc
    exact act_next (unplug_of_connected hc)
  · intro s n lanes rate hr hc hon
    exact act_next (linkTrained_of_connected lanes rate hr hc hon)
  · intro s n ht
    exact act_next (linkLost_of_trained ht)

end Sys2Proof.Proofs
end

section
/-! SUPPORT. The commands of a stream and of its host consumer (R286, R293, R294, R297): what they do behind their checks. -/

namespace Sys2Proof.Proofs

open Sys2Proof.Machine Sys2Proof.Safety Sys2Proof.Laws

/-- The answer to an acknowledgement that is applied: with the state block at once, or on the peer's confirmation where this device is the
primary of a mirrored stream (R293, R504). -/
def answerAck (p : Packet) (d : Device) : Device :=
  match mirrorsOut d (pByte p 0), d.group.pairPeer with
  | true, some peer =>
    let e := sendMsg peer (.ackMirror false p.tag.toNat (pByte p 0) (p64 p 8) (p64 p 16)) d
    { e with group := { e.group with unconfirmed := e.group.unconfirmed ++
        [{ tag := p.tag.toNat, packet := p, status := .ok, reply := stateBlock e (pByte p 0) }] } }
  | _, _ => complete p .ok (stateBlock d (pByte p 0)) d

/-- A GAP record of drops does not depend on the streams. -/
theorem dropsRec_setStream (n cause : Nat) (v : Stream) (x : Drops) (d : Device) :
    dropsRec (setStream n v d) cause x = dropsRec d cause x := rfl

section
variable {p : Packet} {d : Device}

/-- STREAM_OPEN of a closed stream takes the place that it finds for the ring (R286). -/
theorem streamOpen_of_closed {a : Nat} (hz : reservedZero p [(0, 3)] = true) (hmin : 26 ≤ pByte p 2) (hmax : pByte p 2 ≤ 39)
    (hn : pByte p 1 < 254) (hclosed : isOpen (stream d (pByte p 1)) = false)
    (ha : poolFind d (2 ^ pByte p 2) (2 ^ pByte p 2) = some a) :
    streamOpen p d = complete p .ok (leBytes 8 a) (setStream (pByte p 1) { ({} : Stream) with ringLog2 := pByte p 2, ringBase := a }
      (addBuffer { base := a, size := 2 ^ pByte p 2, handle := none } d)) := by
  have hsize : ¬ (!reservedZero p [(0, 3)] || decide (pByte p 2 < 26) || decide (39 < pByte p 2)) = true := by simp [hz, hmin, hmax]
  unfold streamOpen openStream
  dsimp only
  rw [if_neg hsize, if_neg (Nat.not_le.mpr hn), if_neg (Bool.eq_false_iff.mp hclosed), ha]
  rfl

/-- CLOSE of an open stream that no context enables turns on whether the recorder reads the ring (R286). -/
theorem streamClose_of_neverEnabled (hz : reservedZero p [(0, 2)] = true) (hn : pByte p 1 < 254)
    (hopen : isOpen (stream d (pByte p 1)) = true) (hclosing : (stream d (pByte p 1)).closing = none)
    (hoff : neverEnabled d (pByte p 1) = true) :
    streamClose p d =
      if recordingOn d (pByte p 1) then
        park p (setStream (pByte p 1) { stream d (pByte p 1) with closing := some p } d)
      else complete p .ok [] (closeStream (pByte p 1) d) := by
  have hstate : ¬ (!isOpen (stream d (pByte p 1)) || decide (254 ≤ pByte p 1) || (stream d (pByte p 1)).closing.isSome) = true := by
    simp [hopen, hn, hclosing]
  unfold streamClose
  dsimp only
  rw [if_neg (by simp [hz]), if_neg hstate, if_neg (by simp [hoff])]

/-- RESUME of a halted stream, which either has no consumer or has room for two lines (R297). -/
theorem streamResume_of_halted (hz : reservedZero p [(0, 2)] = true) :
    let n := pByte p 1
    let v := stream d n
    isOpen v = true → v.halted = true → consumers d n = 0 ∨ 128 ≤ freeSpace d n v →
    streamResume p d = complete p .ok [] (writeStateBlock n (appendRec n
      (dropsRec d 0x0A (if v.haltDrops.count == 0 then { v.haltDrops with first := v.haltFirst, last := v.haltFirst } else v.haltDrops))
      (setStream n { v with halted := false, haltDrops := {} } d))) := by
  intro n v hopen hhalted hroom
  have hstate : ¬ (!isOpen v || !v.halted) = true := by simp [hopen, hhalted]
  have hfits : ¬ (consumers d n != 0 && decide (freeSpace d n v < 128)) = true := by
    obtain h | h := hroom <;> simp [h]
  unfold streamResume
  dsimp only
  rw [if_neg (by simp [hz]), if_neg hstate, if_neg hfits, dropsRec_setStream]

/-- STREAM_ACK by the host, of an open stream that has a host consumer other than a ring binding, reaches the checks of its offset (R293). -/
theorem streamAck_of_hostConsumer (hz : reservedZero p [(0, 2), (8, 16)] = true) (hhost : pByte p 1 = 0) :
    let n := pByte p 0
    let v := stream d n
    isOpen v = true → bit (consumers d n) 0 = true → ringBound d n = false →
    streamAck p d =
      if p64 p 16 == v.hostOffset && v.hostSeq == some (p64 p 8) then complete p .ok (stateBlock d n) d
      else if p64 p 16 % 64 != 0 || decide (p64 p 16 < v.hostOffset) || decide (v.writeOffset < p64 p 16)
          || !recordEndsAt d v (p64 p 16) (p64 p 8) then complete p .badParam [] d
      else answerAck p (applyAck n (p64 p 8) (p64 p 16) d) := by
  intro n v hopen hcons hbound
  have hparams : ¬ (!reservedZero p [(0, 2), (8, 16)] || decide (1 < pByte p 1)) = true := by simp [hz, hhost]
  have hstate : ¬ (pByte p 1 == 1 || !isOpen v || !bit (consumers d n) 0 || ringBound d n) = true := by
    simp [hhost, hopen, hcons, hbound]
  exact (if_neg hparams).trans (if_neg hstate)

/-- The acknowledgement of a record that ends beyond the host's offset is applied (R293, R294). -/
theorem streamAck_of_record (hz : reservedZero p [(0, 2), (8, 16)] = true) (hhost : pByte p 1 = 0) :
    let n := pByte p 0
    let v := stream d n
    isOpen v = true → bit (consumers d n) 0 = true → ringBound d n = false → v.hostOffset < p64 p 16 → p64 p 16 ≤ v.writeOffset →
    p64 p 16 % 64 = 0 → recordEndsAt d v (p64 p 16) (p64 p 8) = true →
    streamAck p d = answerAck p (applyAck n (p64 p 8) (p64 p 16) d) := by
  intro n v hopen hcons hbound hbeyond hwritten hline hends
  have hnew : ¬ (p64 p 16 == v.hostOffset && v.hostSeq == some (p64 p 8)) = true := by simp [hbeyond.ne']
  have hoffset : ¬ (p64 p 16 % 64 != 0 || decide (p64 p 16 < v.hostOffset) || decide (v.writeOffset < p64 p 16)
      || !recordEndsAt d v (p64 p 16) (p64 p 8)) = true := by
    simp [hline, hbeyond.le, hwritten, hends]
  exact (streamAck_of_hostConsumer hz hhost hopen hcons hbound).trans ((if_neg hnew).trans (if_neg hoffset))

/-- An acknowledgement equal to the previous one answers the state block and changes nothing (R293). -/
theorem streamAck_of_repeat (hz : reservedZero p [(0, 2), (8, 16)] = true) (hhost : pByte p 1 = 0) :
    let n := pByte p 0
    let v := stream d n
    isOpen v = true → bit (consumers d n) 0 = true → ringBound d n = false → p64 p 16 = v.hostOffset → v.hostSeq = some (p64 p 8) →
    streamAck p d = complete p .ok (stateBlock d n) d := by
  intro n v hopen hcons hbound hoffset hseq
  exact (streamAck_of_hostConsumer hz hhost hopen hcons hbound).trans (if_pos (by simp [v, n, hoffset, hseq]))

end

/-- Settles O44: an admitted packet runs its command, and the premises are the checks of that command. That the ring takes the lowest free
aligned range is a choice of the model (log entry 38). -/
theorem streamCommandsAct : Obligations.StreamCommandsAct := by
  unfold Obligations.StreamCommandsAct
  and_intros
  · intro s p a ha hz hmin hmax hn d hclosed hfound
    exact admitted_next ha (streamOpen_of_closed hz hmin hmax hn hclosed hfound)
  · intro s p ha hz hn d v hopen hclosing hoff
    exact admitted_next ha (streamClose_of_neverEnabled hz hn hopen hclosing hoff)
  · intro s p ha hz n d v hopen hhalted hroom
    exact admitted_next ha (streamResume_of_halted hz hopen hhalted hroom)
  · intro s p ha hz hhost n d v hopen hcons hbound hbeyond hwritten hline hends
    exact admitted_next ha (streamAck_of_record hz hhost hopen hcons hbound hbeyond hwritten hline hends)
  · intro s p ha hz hhost n d v hopen hcons hbound hoffset hseq
    exact admitted_next ha (streamAck_of_repeat hz hhost hopen hcons hbound hoffset hseq)

end Sys2Proof.Proofs
end

section
/-! SUPPORT. The gatherer, the rings and the EPOCH records (R284, R290, R292, R296, R300): what each event does where its condition holds. -/

namespace Sys2Proof.Proofs

open Sys2Proof.Machine Sys2Proof.Safety Sys2Proof.Laws

section
variable {d : Device} {n : Nat}

/-- The first record of the stall that may be taken leaves it, unless only a pending context enables the stream; the gatherer takes it
where the stream is enabled (R296, R300, R304). -/
theorem recordArrival_of_found {r : Rec} {rest : List Rec} (hopen : isOpen (stream d n) = true) (hruns : resetRuns d 0x200 = false)
    (hr : takeFirst (fun r => !epochBefore (stream d n) r && !gapWaits d n r) (stream d n).stall = some (r, rest)) :
    recordArrival n d =
      if streamEnabled d n then takeRecord n r (setStream n { stream d n with stall := rest } d)
      else if willEnable d n then d
      else setStream n { stream d n with stall := rest } d := by
  have hguard : ¬ (!isOpen (stream d n) || resetRuns d 0x200) = true := by simp [hopen, hruns]
  unfold recordArrival
  dsimp only
  rw [if_neg hguard, hr]

/-- The oldest record in flight is in the Yard: W passes it (R290). -/
theorem ringWriteComplete_of_inFlight {u : Nat} {us : List Nat} (hu : (stream d n).inFlight = u :: us) :
    ringWriteComplete n d = setStream n { stream d n with
      inFlight := us, writeOffset := (stream d n).writeOffset + 64 * u, mirrorDue := true
      recOffset := if recordingOn d n then (stream d n).recOffset else (stream d n).writeOffset + 64 * u } d := by
  unfold ringWriteComplete
  dsimp only
  rw [hu]

/-- A state block that is due is mirrored 200 ns behind the last one (R292). -/
theorem stateBlockWrite_of_due (hdue : (stream d n).mirrorDue = true)
    (hlast : (stream d n).mirrorAt.all (fun t => decide (t + 200 ≤ d.time)) = true) :
    stateBlockWrite n d = writeStateBlock n d :=
  if_pos (by simp only [hdue, hlast, Bool.and_self])

/-- The oldest boundary whose token has come from every source leaves the list of those due: its record is written where the stream was
enabled there and wants it, and requests for a boundary that the stream did not carry are answered (R284, R300). -/
theorem epochRecordWrite_of_ready {e : EpochDue} {rest : List EpochDue} (he : (stream d n).epochDue = e :: rest)
    (hopen : isOpen (stream d n) = true) (hready : epochReady d n e = true) :
    epochRecordWrite n d = (
      let x := setStream n { stream d n with epochDue := rest } d
      if !e.enabled then missRequests n e.epoch false x
      else if !e.wanted then x
      else
        let f := settleRequests n (allocOffset (stream d n)) (takeRecord n (epochRecord x e) x)
        if (stream f n).nextSeq == (stream x n).nextSeq && !mirrorsIn f n && bit e.flags 4
        then missRequests n e.epoch true f else f) := by
  have hguard : ¬ (!isOpen (stream d n) || !epochReady d n e) = true := by simp [hopen, hready]
  unfold epochRecordWrite
  dsimp only
  rw [he]
  exact if_neg hguard

end

/-- Settles O45: the premises of each event open its guard, and what stands behind it is what the statement says. -/
theorem streamEventsAct : Obligations.StreamEventsAct := by
  unfold Obligations.StreamEventsAct
  and_intros
  · intro s n r rest v hopen hruns hr
    exact act_next (congrArg (settleRequests n.val (allocOffset v)) (recordArrival_of_found hopen hruns hr))
  · intro s n u us v hu
    exact act_next (ringWriteComplete_of_inFlight hu)
  · intro s n hdue hlast
    exact act_next (stateBlockWrite_of_due hdue hlast)
  · intro s n e rest v he hopen hready
    exact act_next (epochRecordWrite_of_ready he hopen hready)

end Sys2Proof.Proofs
end

section
/-! SUPPORT. VOL_CREATE, VOL_MOUNT and VOL_UNMOUNT (R326, R327, R330, R560): what each does behind its checks. -/

namespace Sys2Proof.Proofs

open Sys2Proof.Machine Sys2Proof.Safety Sys2Proof.Laws

section
variable {p : Packet} {d : Device}

/-- The LBAs of a new volume's journal, of which 0 stands for 65,536 (R330). -/
def createdJournal (p : Packet) : Nat := if p32 p 8 == 0 then 65536 else p32 p 8

/-- The rows of a new volume: those of its smallest drive behind the journal (R327, R330). -/
def createdRows (p : Packet) (d : Device) : Nat :=
  listMin (2 ^ 64) ((maskPorts (pByte p 2)).map (fun q =>
    ((port d q).capacity - 1 - dataStartOf (createdJournal p) (pByte p 3)) / unitLbas (pByte p 3)))

/-- The UUID of a new volume is drawn first; an encrypted one then draws its keys (R330, R560). -/
def createdKeys (slot : Option (BitVec 256)) (d : Device) : List Byte × Device :=
  if slot.isSome then freshKeys 4 (drbgBytes 16 d).2 else ([], (drbgBytes 16 d).2)

/-- The volume that VOL_CREATE makes, encrypted where a key slot is given: empty, and every row of it freed (R330, R560). -/
def createdVolume (p : Packet) (slot : Option (BitVec 256)) (d : Device) : Volume :=
  let ps := maskPorts (pByte p 2)
  let jl := createdJournal p
  let keys := (createdKeys slot d).1
  { ports := ps.map some, stripeLog2 := pByte p 3, encrypted := slot.isSome, mac := bit (pByte p 4) 1
    keySlot := if slot.isSome then pByte p 5 else 0, keys := slot.map (fun _ => splitKeys keys)
    wrapped := match slot with
      | some w => Config.kwWrap w keys
      | none => []
    uuid := (drbgBytes 16 d).1, label := sliceBytes p.params 12 16, dataStart := dataStartOf jl (pByte p 3)
    dataRows := createdRows p d, journalLbas := jl, mountCount := 1, jseq := 0, jlive := 0, failed := false, retired := [], head := 0
    recordings := [], freed := (List.range ps.length).map (fun i => (i, 0, createdRows p d)) }

/-- A volume with rows is created: its drives get an empty journal and DIRTY superblocks (R330). -/
theorem createVolume_of_rows {slot : Option (BitVec 256)} (hrows : createdRows p d ≠ 0) :
    createVolume p slot d = (
      let v := createdVolume p slot d
      complete p .ok (volReply (createdRows p d) 0) (setVolume (pByte p 1) (some v)
        (writeSupers v true ((maskPorts (pByte p 2)).foldl (fun d q => eraseJournal (createdJournal p) q d) (createdKeys slot d).2)))) := by
  refine (if_neg (show ¬ (createdRows p d == 0) = true by simpa using hrows)).trans ?_
  cases slot <;> rfl

/-- What VOL_CREATE checks of its parameters: the drives, the stripe unit, the journal and the options (R330). -/
structure CreateParams (p : Packet) : Prop where
  params : volParams p = true
  drives : maskPorts (pByte p 2) ≠ []
  stripeMin : 20 ≤ pByte p 3
  stripeMax : pByte p 3 ≤ 24
  journal : p32 p 8 = 0 ∨ (p32 p 8 % 256 = 0 ∧ 4096 ≤ p32 p 8 ∧ p32 p 8 ≤ 1048576)
  macEncrypted : bit (pByte p 4) 1 = true → bit (pByte p 4) 0 = true

/-- The volume is not mounted, and its drives are ready, in no volume, and bare or taken by FORCE (R330). -/
structure CreateDrives (p : Packet) (d : Device) : Prop where
  unmounted : volume d (pByte p 1) = none
  free : (maskPorts (pByte p 2)).any (inVolume d) = false
  ready : (maskPorts (pByte p 2)).all (driveReady d) = true
  bare : bit (pByte p 4) 2 = true ∨ (maskPorts (pByte p 2)).any (fun q => (readSuper d q).isSome) = false

/-- VOL_CREATE whose checks hold creates the volume under the key of its slot, or without one (R330, R560). -/
theorem volCreate_of_free {slot : Option (BitVec 256)} (hp : CreateParams p) (hd : CreateDrives p d)
    (hslot : slot.isSome = bit (pByte p 4) 0)
    (hkey : bit (pByte p 4) 0 = true → pByte p 5 ≤ 15 ∧ d.pad.errorState = false ∧ keyOfSlot d (pByte p 5) = slot) :
    volCreate p d = createVolume p slot d := by
  obtain ⟨hz, hne, hmin, hmax, hjournal, hmac⟩ := hp
  obtain ⟨hunmounted, hfree, hready, hbare⟩ := hd
  have hopt : ¬ (bit (pByte p 4) 1 && !bit (pByte p 4) 0) = true := by simpa using hmac
  have hkeySlot : ¬ (bit (pByte p 4) 0 && decide (15 < pByte p 5)) = true := by
    simpa using fun h => (hkey h).1
  have hjl : ¬ (p32 p 8 != 0 && (p32 p 8 % 256 != 0 || decide (p32 p 8 < 4096) || decide (1048576 < p32 p 8))) = true := by
    obtain h | ⟨hmod, hlow, hhigh⟩ := hjournal
    · simp [h]
    · simp [hmod, hlow, hhigh]
  have hold : ¬ (!bit (pByte p 4) 2 && (maskPorts (pByte p 2)).any (fun q => (readSuper d q).isSome)) = true := by
    obtain h | h := hbare <;> simp [h]
  unfold volCreate
  dsimp only
  rw [if_neg ?params, if_neg (by simp [hunmounted, hfree]), if_neg (by simp [hready]), if_neg hold]
  case params =>
    simp only [Bool.or_eq_true, not_or]
    exact ⟨⟨⟨⟨⟨⟨by simp [hz], by simpa using hne⟩, by simpa using hmin⟩, by simpa using hmax⟩, hopt⟩, hkeySlot⟩, hjl⟩
  cases slot with
  | none => exact if_neg (by simp [← hslot])
  | some k =>
    have hencrypted : bit (pByte p 4) 0 = true := hslot.symm
    obtain ⟨-, hpad, hslotKey⟩ := hkey hencrypted
    rw [if_pos hencrypted, hpad, hslotKey]
    rfl

/-- VOL_MOUNT mounts what the superblocks of its drives state (R330). -/
theorem volMount_of_found {v : Volume} {dirty : Bool} (hz : volParams p = true) (hne : maskPorts (pByte p 2) ≠ [])
    (hunmounted : volume d (pByte p 1) = none) (hfree : (maskPorts (pByte p 2)).any (inVolume d) = false)
    (hfound : findVolume d (maskPorts (pByte p 2)) (bit (pByte p 4) 2) (roleHeld d p) = .ok (v, dirty)) :
    volMount p d = (
      let m := mountVolume (pByte p 1) v dirty d
      complete p .ok (volReply v.dataRows m.1) m.2) := by
  unfold volMount
  dsimp only
  rw [if_neg (by simp [hz, hne]), if_neg (by simp [hunmounted, hfree]), hfound]

/-- VOL_UNMOUNT of a volume that nothing uses (R330). -/
theorem volUnmount_of_idle {v : Volume} (hz : volParams p = true) (hv : volume d (pByte p 1) = some v)
    (hidle : volumeBusy d (pByte p 1) = false) :
    volUnmount p d = complete p .ok (volReply v.dataRows 0) (setVolume (pByte p 1) none (writeSupers v false d)) := by
  unfold volUnmount
  dsimp only
  rw [if_neg (by simp [hz]), hv]
  exact if_neg (Bool.eq_false_iff.mp hidle)

end

/-- Settles O46: an admitted packet runs its command, and the premises are the checks of that command. -/
theorem volumeCommandsAct : Obligations.VolumeCommandsAct := by
  unfold Obligations.VolumeCommandsAct
  and_intros
  · intro s p slot ha hz hmin hmax hjournal hmac ps d jl start rows hne hunmounted hfree hready hbare hslot hkey hrows u k v
    exact admitted_next ha ((volCreate_of_free ⟨hz, hne, hmin, hmax, hjournal, hmac⟩ ⟨hunmounted, hfree, hready, hbare⟩ hslot hkey).trans
      (createVolume_of_rows hrows))
  · intro s p v dirty ha hz ps d hne hunmounted hfree hfound m
    exact admitted_next ha (volMount_of_found hz hne hunmounted hfree hfound)
  · intro s p v ha hz d hv hidle
    exact admitted_next ha (volUnmount_of_idle hz hv hidle)

end Sys2Proof.Proofs
end

section
/-! SUPPORT. REC_START, REC_STOP, REC_DELETE and PLAY (R331, R334-R336, R342): what each does behind its checks. -/

namespace Sys2Proof.Proofs

open Sys2Proof.Machine Sys2Proof.Safety Sys2Proof.Laws

section
variable {p : Packet} {d : Device}

/-- What a volume and a stream must be for a recording to start (R331, R342). -/
structure CanRecord (p : Packet) (v : Volume) (d : Device) : Prop where
  consumed : bit (consumers d (pByte p 1)) 1 = true
  notRecorded : recordingOn d (pByte p 1) = false
  notAwaited : d.nvme.waits.any (fun w => w.stream == pByte p 1 && w.stopOf.isNone) = false
  room : d.nvme.running.length < 16
  whole : v.failed = false
  noneRetired : v.retired = []
  opened : isOpen (stream d (pByte p 1)) = true
  ring : 4 * 2 ^ v.stripeLog2 * driveCount v ≤ 2 ^ (stream d (pByte p 1)).ringLog2
  rate : volumeRateOk d (cfgVal d) (pByte p 0) v [pByte p 1] = true

/-- REC_START begins at W, or waits for a boundary that is still to come (R331). -/
theorem recStart_of_canRecord {v : Volume} (hz : reservedZero p [(0, 3), (8, 24)] = true) (hvol : pByte p 0 ≤ 7) (hopt : pByte p 2 ≤ 3)
    (hv : volume d (pByte p 0) = some v) (hcan : CanRecord p v d)
    (htime : bit (pByte p 2) 0 = false ∨ d.sampleIndex < p64 p 8 * 2 ^ epochExp d) :
    recStart p d =
      if bit (pByte p 2) 0 then park p { d with nvme := { d.nvme with waits := d.nvme.waits ++
        [{ packet := p, stream := pByte p 1, epoch := p64 p 8, stopOf := none, missed := false }] } }
      else beginRecording p (stream d (pByte p 1)).writeOffset d := by
  obtain ⟨hcons, hrec, hwait, hroom, hwhole, hretired, hopen, hring, hrate⟩ := hcan
  have hstate : ¬ (!bit (consumers d (pByte p 1)) 1 || recordingOn d (pByte p 1)
      || d.nvme.waits.any (fun w => w.stream == pByte p 1 && w.stopOf.isNone)
      || decide (16 ≤ d.nvme.running.length) || v.failed || !v.retired.isEmpty) = true := by
    simp [hcons, hrec, hwait, hroom, hwhole, hretired]
  unfold recStart
  dsimp only
  rw [if_neg (by simp [hz, hvol, hopt]), hv]
  dsimp only
  rw [if_neg hstate, if_neg (by simp [hopen, hring]), if_neg (by simp [hrate])]
  cases hat : bit (pByte p 2) 0 with
  | false => rfl
  | true =>
    have hcomes : d.sampleIndex < p64 p 8 * 2 ^ epochExp d := by simpa [hat] using htime
    exact if_neg (Nat.not_le.mpr hcomes)

/-- REC_STOP ends the recording at W, or waits for a boundary that is still to come (R334). -/
theorem recStop_of_running {r : RunningRec} (hz : reservedZero p [(0, 5), (8, 8)] = true) (hr : runningRec d (p32 p 0) = some r)
    (hfirst : r.packet = none) (hwait : d.nvme.waits.any (fun w => w.stopOf == some (p32 p 0)) = false)
    (htime : pByte p 4 = 0 ∨ (pByte p 4 = 1 ∧ d.sampleIndex < p64 p 8 * 2 ^ epochExp d)) :
    recStop p d =
      if pByte p 4 == 0 then endRecording (p32 p 0) (stream d r.stream).writeOffset 0 (some p) (park p d)
      else park p { d with nvme := { d.nvme with waits := d.nvme.waits ++
        [{ packet := p, stream := r.stream, epoch := p64 p 8, stopOf := some (p32 p 0), missed := false }] } } := by
  have hopt : ¬ (!reservedZero p [(0, 5), (8, 8)] || decide (1 < pByte p 4)) = true := by
    obtain h | ⟨h, -⟩ := htime <;> simp [hz, h]
  unfold recStop
  dsimp only
  rw [if_neg hopt, hr]
  dsimp only
  rw [if_neg (by simp [hfirst, hwait])]
  obtain hnow | ⟨hat, hcomes⟩ := htime
  · simp [hnow]
  · rw [if_neg (Nat.not_le.mpr hcomes)]

/-- The units of a recording's extents. -/
def recordedUnits (r : Recording) : List Nat := r.extents.flatMap (fun x => (List.range x.2.1).map (fun i => x.1 + i))

/-- REC_DELETE of a recording that neither runs nor is played (R335). -/
theorem recDelete_of_unused {n : Nat} {v : Volume} {r : Recording} (hz : reservedZero p [(0, 4)] = true)
    (hr : findRecording d (p32 p 0) = some (n, v, r)) (hstopped : runningRec d (p32 p 0) = none)
    (hunplayed : d.nvme.playing.any (fun x => x.recording == p32 p 0) = false) :
    recDelete p d = complete p .ok [] (addFreed n (recordedUnits r) (journal n [.deleted (p32 p 0)] d)) := by
  unfold recDelete
  dsimp only
  rw [if_neg (by simp [hz]), hr]
  exact if_neg (by simp [hstopped, hunplayed])

/-- The playback that PLAY queues: from the first byte that the recording still holds to its durable length (R336). -/
def queuedPlayback (p : Packet) (r : Recording) (d : Device) : Playback :=
  { packet := p, volume := pByte p 0, recording := p32 p 4, stream := pByte p 1, next := r.start, limit := r.length
    firstSeq := if p64 p 8 = 2 ^ 64 - 1 then none else some (p64 p 8), played := 0, count := p64 p 16
    rate := p32 p 24, bytes := 0, begun := d.time, retried := false }

/-- PLAY of a recording into a stream that only the host consumes (R336). -/
theorem play_of_target {v : Volume} {r : Recording} (hz : reservedZero p [(0, 2), (4, 24)] = true) (hvol : pByte p 0 ≤ 7)
    (hv : volume d (pByte p 0) = some v) (hr : recordingIn v (p32 p 4) = some r) (htarget : playTarget d (pByte p 1) = true)
    (hroom : d.nvme.playing.length < 8) :
    play p d = park p { d with nvme := { d.nvme with playing := d.nvme.playing ++ [queuedPlayback p r d] } } := by
  have hfound : (volume d (pByte p 0)).bind (fun v => (recordingIn v (p32 p 4)).map (fun r => (v, r))) = some (v, r) := by
    simp [hv, hr]
  unfold play
  dsimp only
  rw [if_neg (by simp [hz, hvol]), hfound]
  dsimp only
  rw [if_neg (by simp [htarget]), if_neg (Nat.not_le.mpr hroom)]
  simp only [queuedPlayback, beq_iff_eq]

end

/-- Settles O47: an admitted packet runs its command, and the premises are the checks of that command. -/
theorem recorderCommandsAct : Obligations.RecorderCommandsAct := by
  unfold Obligations.RecorderCommandsAct
  and_intros
  · intro s p v ha hz hvol hopt n d hv hcons hrec hwait hroom hwhole hretired hopen hring hrate htime
    exact admitted_next ha (recStart_of_canRecord hz hvol hopt hv
      ⟨hcons, hrec, hwait, hroom, hwhole, hretired, hopen, hring, hrate⟩ htime)
  · intro s p r ha hz d hr hfirst hwait htime
    exact admitted_next ha (recStop_of_running hz hr hfirst hwait htime)
  · intro s p n v r ha hz d hr hstopped hunplayed
    exact admitted_next ha (recDelete_of_unused hz hr hstopped hunplayed)
  · intro s p v r ha hz hvol d hv hr htarget hroom
    exact admitted_next ha (play_of_target hz hvol hv hr htarget hroom)

end Sys2Proof.Proofs
end

section
/-! SUPPORT. Units, drives, wear and playback (R325-R343): what each event of the recorder does where its condition holds. -/

namespace Sys2Proof.Proofs

open Sys2Proof.Machine Sys2Proof.Safety Sys2Proof.Laws

section
variable {d : Device}

/-- The ring offset up to which a recording may be stored: its end, once known, and never beyond W (R332, R334). -/
def storeLimit (r : RunningRec) (w : Nat) : Nat :=
  match r.stop with
  | some x => min x w
  | none => w

/-- The oldest unit in flight of a recording is stored with what the ring holds of it, up to the recording's end (R332, R334). -/
theorem unitWriteComplete_of_ahead {id u : Nat} {us : List Nat} {r : RunningRec} {v : Volume}
    (hr : runningRec (prepareUnit id d) id = some r) (hu : r.ahead = u :: us) (hv : volume (prepareUnit id d) r.volume = some v) :
    unitWriteComplete id d = (
      let e := unitBoundary r.volume v (prepareUnit id d)
      let limit := storeLimit r (stream e r.stream).writeOffset
      queueAll id (storeUnit r v u (min (unitBytes v) (limit - (r.base + r.written))) e)) := by
  unfold unitWriteComplete
  dsimp only
  rw [hr]
  dsimp only
  rw [hu, hv]
  rfl

/-- A drive answers while its link is up and it has not failed: a success takes the oldest command out of its queue, a first failure is
retried, and a second one fails the drive (R326, R334, R339). -/
theorem nvmeCompletion_of_linked {p : Nat} (ok : Bool) (hup : (port d p).linkUp = true) (hworks : (port d p).failed = false) :
    nvmeCompletion p ok d = (
      let v := port d p
      if ok then
        let e := setPort p { v with retried := false, queue := v.queue.drop 1 } d
        let f := match v.queue with
          | .bringUp x :: _ => broughtUp p x e
          | .flush id :: _ => flushed id e
          | .write .. :: _ | [] => e
        f.nvme.running.foldl (fun d r => flushEnd r.id (queueAll r.id d)) f
      else if v.retried then driveFailed p d
      else raiseFault (plainFault (portSource p) 4 0 0) (setPort p { v with retried := true } d)) := by
  unfold nvmeCompletion
  dsimp only
  rw [if_neg (by simp [hup, hworks])]
  cases ok <;> rfl

/-- The link of an enabled port comes up: bring-up begins (R326). -/
theorem storageLinkUp_of_enabled {p : Nat} (x : DriveId) (hdown : (port d p).linkUp = false) (hworks : (port d p).failed = false)
    (hon : portN d p 1 ≠ 0) (hawake : d.power.state ≠ .sleep) :
    storageLinkUp p x d = raiseEvent (portSource p) 1 (ballIndex d) 0 (setPort p
      { port d p with linkUp := true, queue := [.bringUp x], retried := false, notUsable := false } d) :=
  if_neg (by simp [hdown, hworks, hon, hawake])

section
variable {x : Playback} {rest : List Playback} {ok authOk : Bool}

/-- A playback that has delivered its count, or has come to its end, completes (R336). -/
theorem playbackRead_of_finished (hx : d.nvme.playing = x :: rest) (hdone : (x.count ≠ 0 ∧ x.count ≤ x.played) ∨ x.limit ≤ x.next) :
    playbackRead ok authOk d = complete x.packet .ok (leBytes 8 x.played ++ zeroBytes 16)
      { d with nvme := { d.nvme with playing := rest } } := by
  unfold playbackRead
  rw [hx]
  dsimp only
  rw [if_pos (by simpa using hdone), List.erase_cons_head]

/-- The device as the read of a playback leaves it: one command has passed through the queue of the drive that holds the record (R325). -/
def playRead (v : Volume) (r : Recording) (next : Nat) (d : Device) : Device :=
  match playPort v r next with
  | some p => nvmePass p d
  | none => d

/-- The length of the record at a playback's place as its header states it, 64 bytes where the statement cannot hold (R278). -/
def playLength (v : Volume) (r : Recording) (x : Playback) (d : Device) : Option Nat :=
  (readRecBytes d v r (x.next + 8) 4).map (fun h =>
    if 0 < getLe h 0 4 && x.next + 64 * getLe h 0 4 ≤ x.limit then 64 * getLe h 0 4 else 64)

/-- A playback with more to deliver reads the record at its place where the drive's queue has room, and delivers, skips, retries or fails
by what it reads (R336, R338, R339). -/
theorem playbackRead_of_unfinished {v : Volume} {r : Recording} (hx : d.nvme.playing = x :: rest)
    (hcount : x.count = 0 ∨ x.played < x.count) (hnext : x.next < x.limit) (hv : volume d x.volume = some v)
    (hr : recordingIn v x.recording = some r) (hroom : (playPort v r x.next).any (fun p => !nvmeRoom d p 1) = false) :
    playbackRead ok authOk d = (
      let e := playRead v r x.next d
      match (playLength v r x e).bind (fun n => readRecBytes e v r x.next n) with
      | none => endPlayback x (if v.failed then 4 else 1) 0 e
      | some b =>
        if !ok then playReadFails x (playPort v r x.next) e
        else match badChunk e v r authOk x.next b.length with
          | some k => endPlayback x 2 k (raiseFault (plainFault 0x280 3 1 0) e)
          | none =>
            let before := match x.firstSeq with
              | some q => decide (getLe b 12 8 < q)
              | none => false
            if !lengthEchoes b then replacePlay x { x with next := x.next + 64, retried := false } e
            else if !recordIntact b || before then replacePlay x { x with next := x.next + b.length, retried := false } e
            else deliverPlayed x b e) := by
  have hmore : ¬ ((x.count != 0 && decide (x.count ≤ x.played)) || decide (x.limit ≤ x.next)) = true := by
    obtain h | h := hcount <;> simp [h, hnext]
  have hfound : (volume d x.volume).bind (fun v => (recordingIn v x.recording).map (fun r => (v, r))) = some (v, r) := by
    simp [hv, hr]
  unfold playbackRead
  rw [hx]
  dsimp only
  rw [if_neg hmore, hfound]
  exact if_neg (Bool.eq_false_iff.mp hroom)

end

end

/-- Settles O48: the premises of each event open its guard, and what stands behind it is what the statement says. That a batch takes up to
256 whole freed ranges, that SMART and wear use an entry of the drive's queue, and that the walk of a playback goes on 64 bytes behind a
length that does not echo are choices of the model (log entries 48, 77 and 114). -/
theorem recorderEventsAct : Obligations.RecorderEventsAct := by
  unfold Obligations.RecorderEventsAct
  and_intros
  · intro s id u us r v d hr hu hv
    exact act_next (unitWriteComplete_of_ahead hr hu hv)
  · intro s ns
    exact act_next (f := checkpoint) rfl
  · intro s p percent critical hruns
    exact act_next (f := smartPoll p.val percent critical) (if_neg (by simp [hruns]))
  · intro s p hruns
    exact act_next (f := deallocationBatch p.val) (if_neg (by simp [hruns]))
  · intro s p ok v hup hworks
    exact act_next (nvmeCompletion_of_linked ok hup hworks)
  · intro s p hup hworks
    exact act_next (f := nvmeCommandTimeout p.val) (if_pos (by simp [hup, hworks]))
  · intro s p hup
    exact act_next (f := driveLinkDown p.val) (if_neg (by simp [hup]))
  · intro s p x hdown hworks hon hawake
    exact act_next (storageLinkUp_of_enabled x hdown hworks hon hawake)
  · intro s x rest ok a hx hdone
    exact act_next (playbackRead_of_finished hx hdone)
  · intro s x rest v r ok a hx hcount hnext hv hr hroom
    exact act_next (playbackRead_of_unfinished hx hcount hnext hv hr hroom)

end Sys2Proof.Proofs
end

section
/-! SUPPORT. XFER_KICK (R322, R323): what each of its operations does behind its checks. -/

namespace Sys2Proof.Proofs

open Sys2Proof.Machine Sys2Proof.Safety Sys2Proof.Laws

/-- A channel that differs from an untouched one reads back as it was set. -/
theorem chan_setChan (c : Nat) {v : XferChan} (hv : v ≠ {}) (d : Device) : chan (setChan c v d) c = v :=
  tget_tset_new (α := XferChan) {} v c hv d.xfer.chans

/-- A channel that START makes RUNNING at the descriptor address `a` (R322): its CRC starts anew, and no descriptor is held. -/
def startedChan (a : Nat) (v : XferChan) : XferChan :=
  { v with state := .running, descAddr := a, desc := none, prefetched := [], crc := 0xFFFFFFFF#32, error := none, stopping := false }

theorem startedChan_ne_reset (a : Nat) (v : XferChan) : startedChan a v ≠ {} :=
  fun h => ChanState.noConfusion (congrArg XferChan.state h)

/-- Every XFER_KICK that starts a channel answers RUNNING and the address of its descriptor (R322). -/
theorem xferReply_startedChan (c a : Nat) (v : XferChan) (d : Device) :
    xferReply (setChan c (startedChan a v) d) c = leBytes 1 1 ++ zeroBytes 7 ++ leBytes 8 a := by
  unfold xferReply
  rw [chan_setChan c (startedChan_ne_reset a v)]
  rfl

section
variable {p : Packet} {d : Device}

/-- START of an enabled channel that is IDLE or HALTED (R322). -/
theorem xferStart_of_free (hz : xferParams p = true) (hdesc : descriptorOk d (p64 p 8) = true)
    (hfree : (chan d (pByte p 1)).state = .idle ∨ (chan d (pByte p 1)).state = .halted) (hon : xferN d (pByte p 1) 1 ≠ 0) :
    xferStart p d = complete p .ok (leBytes 1 1 ++ zeroBytes 7 ++ leBytes 8 (p64 p 8))
      (setChan (pByte p 1) (startedChan (p64 p 8) (chan d (pByte p 1))) d) := by
  have hidle : ¬ ((chan d (pByte p 1)).state != .idle && (chan d (pByte p 1)).state != .halted) = true := by
    obtain h | h := hfree <;> simp [h]
  unfold xferStart
  dsimp only
  rw [if_neg (by simp [hz, hdesc]), if_neg hidle, if_neg (by simpa using hon)]
  exact congrArg (complete p .ok · _) (xferReply_startedChan ..)

/-- RESUME answers the channel as its resumption leaves it (R322). -/
theorem xferResume_of_params (hz : xferParams p = true) :
    xferResume p d = complete p .ok (xferReply (resumeChan (pByte p 1) d) (pByte p 1)) (resumeChan (pByte p 1) d) :=
  if_neg (by simp [hz])

/-- STOP completes at once where it leaves the channel IDLE, else it waits for the descriptor (R322). -/
theorem xferStop_of_params (hz : xferParams p = true) :
    xferStop p d = (
      let c := pByte p 1
      let e := stopChan c d
      if (chan e c).state == .idle then complete p .ok (xferReply e c) e
      else park p (setChan c { chan e c with waiters := (chan e c).waiters ++ [p] } e)) :=
  if_neg (by simp [hz])

/-- ABORT waits where a descriptor runs, else the channel is IDLE at once (R322). -/
theorem xferAbort_of_params (hz : xferParams p = true) :
    xferAbort p d = (
      let c := pByte p 1
      let v := chan d c
      if (v.state == .running || v.state == .waitReq) && v.desc.isSome then
        park p (setChan c { v with aborting := true, waiters := v.waiters ++ [p] } d)
      else complete p .ok (xferReply (chanIdle c d) c) (chanIdle c d)) :=
  if_neg (by simp [hz])

end

/-- Settles O49: an admitted packet runs its operation, and the premises are the checks of that operation. -/
theorem xferCommandsAct : Obligations.XferCommandsAct := by
  unfold Obligations.XferCommandsAct
  and_intros
  · intro s p ha hz c d v hdesc hfree hon
    exact admitted_next ha (xferStart_of_free hz hdesc hfree hon)
  · intro s p ha hz c d v next e
    exact admitted_next ha (xferResume_of_params hz)
  · intro s p ha hz c d v e
    exact admitted_next ha (xferStop_of_params hz)
  · intro s p ha hz c d v
    exact admitted_next ha (xferAbort_of_params hz)

end Sys2Proof.Proofs
end

section
/-! SUPPORT. The descriptors and bursts of a channel (R307-R321): what each event does where its condition holds. -/

namespace Sys2Proof.Proofs

open Sys2Proof.Machine Sys2Proof.Safety Sys2Proof.Laws

section
variable {c : Nat} {d : Device}

/-- The guard of the fetch and the completion of descriptors: only a channel that is RUNNING or in WAIT_REQ passes it. -/
theorem not_halted_guard {v : XferChan} (h : v.state = .running ∨ v.state = .waitReq) :
    ¬ (v.state != .running && v.state != .waitReq) = true := by
  obtain h | h := h <;> simp [h]

/-- A channel whose request line is down waits for it (R319). -/
theorem burstIssue_of_line_down (hwants : wantsBurst (chan d c) = true) (hready : burstReady d c = false) :
    burstIssue c d = setChan c { chan d c with state := .waitReq } d :=
  (if_neg (by simp [hwants])).trans (if_pos (by simp [hready]))

/-- The channel's own turn runs (R320). -/
def turnRuns (c : Nat) (d : Device) : Bool := d.xfer.turn.1 == c && d.xfer.turn.2 != 0

/-- The channel that arbitration serves goes on with its own turn or begins one; it issues one burst, or lets the turn pass where it is
throttled (R320, R534). -/
theorem burstIssue_of_winner (hwants : wantsBurst (chan d c) = true) (hready : burstReady d c = true) (hwins : burstWinner d = some c)
    (hroom : inFlightTotal d < 1024) :
    burstIssue c d = (
      let left := if turnRuns c d then d.xfer.turn.2 else xferN d c 2
      let e := if turnRuns c d then d else beginTurn d
      if throttled e c then { e with xfer := { e.xfer with turn := (c, 0) } }
      else issueBurst c (startRing c (setChan c { chan d c with state := .running }
        { e with xfer := { e.xfer with turn := (c, left - 1), spent := tset 0 e.xfer.spent c (tget 0 e.xfer.spent c + 1) } }))) := by
  have hserved : ¬ (burstWinner d != some c || decide (1024 ≤ inFlightTotal d)) = true := by simp [hwins, hroom]
  unfold burstIssue
  dsimp only
  rw [if_neg (by simp [hwants]), if_neg (by simp [hready]), if_neg (by simpa using hserved)]
  rfl

/-- The status and cause with which a burst fails, if it does (R321). -/
def burstFailure (how : BurstEnd) (poison : Option Nat) : Option (Nat × Nat) :=
  match how with
  | .accessError k => some (2, k)
  | .dataError k => some (3, k)
  | .ok => poison.map (fun k => (3, k))

/-- The oldest burst in flight completes: a failure is kept with the channel, and the bytes of a good burst are written and counted
(R311, R314, R321). -/
theorem burstComplete_of_inFlight {how : BurstEnd} {x : Descriptor} {j n : Nat} {rest : List (Nat × Nat)}
    (hx : (chan d c).desc = some x) (hburst : (chan d c).inFlight = (j, n) :: rest) :
    burstComplete c how d = (
      let v := chan d c
      let bs := memRead d (srcAddr d x j) n
      match burstFailure how (burstPoison d (srcAddr d x j) n) with
      | some e => setChan c { v with inFlight := rest, error := some (v.error.getD e) } d
      | none =>
        let w := { v with inFlight := rest, bytesTotal := v.bytesTotal + BitVec.ofNat 64 n }
        busWrite (dstAddr x j) (burstBytes d x (dstAddr x j) bs) (setChan c
          (if v.error.isSome then w else { w with done := v.done + n, crc := bs.foldl crcByte v.crc })
          (freshOverlap x (dstAddr x j) n (freshLoft (srcAddr d x j) d)))) := by
  unfold burstComplete
  dsimp only
  rw [hx, hburst]
  rfl

/-- With no burst in flight, a descriptor that is aborted, has failed or has issued its last byte is completed (R315, R321). -/
theorem descriptorComplete_of_ended {x : Descriptor} (hruns : (chan d c).state = .running ∨ (chan d c).state = .waitReq)
    (hx : (chan d c).desc = some x) (hdrained : (chan d c).inFlight = [])
    (hends : (chan d c).aborting = true ∨ (chan d c).error.isSome = true ∨ (x.started = true ∧ x.total ≤ (chan d c).issued)) :
    descriptorComplete c d =
      if (chan d c).aborting then finishDescriptor c 5 0x40 true d
      else match (chan d c).error with
        | some (code, cause) => finishDescriptor c code cause false d
        | none => finishDescriptor c 0 0 false d := by
  unfold descriptorComplete
  dsimp only
  rw [if_neg (not_halted_guard hruns), hx]
  dsimp only
  rw [if_neg (by simp [hdrained])]
  cases habort : (chan d c).aborting with
  | true => rfl
  | false =>
    cases herr : (chan d c).error with
    | some e => rfl
    | none =>
      have hmoved : x.started = true ∧ x.total ≤ (chan d c).issued := by simpa [habort, herr] using hends
      simp [hmoved]

end

/-- Settles O50: the premises of each event open its guard, and what stands behind it is what the statement says. That bytes move when
their burst completes, the groups of eight turns and the free bytes of an overlap are choices of the model (log entries 45, 119 and 83). -/
theorem xferEventsAct : Obligations.XferEventsAct := by
  unfold Obligations.XferEventsAct
  and_intros
  · intro s c v hruns
    exact act_next (f := descriptorFetch c.val) (if_neg (not_halted_guard hruns))
  · intro s c hwaits hpoll
    exact act_next (f := ownPoll c.val) (if_pos (by simp [hwaits, hpoll]))
  · intro s c hwants hready
    exact act_next (burstIssue_of_line_down hwants hready)
  · intro s c hwants hready hwins hroom runs left n d
    exact act_next (burstIssue_of_winner hwants hready hwins hroom)
  · intro s c how x j n rest v a b bs hx hburst
    exact act_next (burstComplete_of_inFlight hx hburst)
  · intro s c x v hruns hx hdrained hends
    exact act_next (descriptorComplete_of_ended hruns hx hdrained hends)
  · intro s c hwaits htime hdown
    exact act_next (f := requestLineTimeout c.val) (if_pos (by simp [hwaits, htime, hdown]))

end Sys2Proof.Proofs
end

section
/-! SUPPORT. Check 1 of a commit (R51): rules of the group and of the Reed clusters (R413, R512). -/

namespace Sys2Proof.Proofs

open Sys2Proof.Machine Sys2Proof.Safety Sys2Proof.Laws

section
variable {d : Device} {c : Values}

theorem groupRules_subset : groupRules d c ⊆ blockRules d c := by
  unfold blockRules
  exact List.subset_append_right ..

theorem reedRules_subset : reedRules d c ⊆ blockRules d c := fun r hr => by
  simp only [blockRules, List.mem_append, hr, or_true, true_or]

theorem transitionRules_subset : transitionRules c ⊆ blockRules d c := fun r hr => by
  simp only [blockRules, trigRules, List.mem_append, hr, or_true, true_or]

/-- Where check 1 does not fail, every rule of a block holds. -/
theorem rule_holds_of_check1 {old : Values} {writes : Nat → Bool} {keys : List Nat} {commits : List (Nat × List (Nat × Int))}
    (hpass : ∀ k st, failingCheck d old c writes keys commits ≠ some (1, k, st)) {r : Bool × Nat} (hr : r ∈ blockRules d c) :
    r.1 = true := by
  by_contra hfails
  obtain ⟨k, hk⟩ := check1 (old := old) (writes := writes) (keys := keys) (commits := commits) hr (Bool.eq_false_iff.mpr hfails)
  exact hpass k .badParam hk

/-- A cluster is busy while one of its cores is at work or one of its ports is bound (R413). -/
theorem clusterBusy_of_core_or_port (cl : Nat)
    (h : (∃ i : Fin 8, (Machine.core d (8 * cl + i.val)).mode = .running ∨ (Machine.core d (8 * cl + i.val)).mode = .waiting)
      ∨ ∃ (n : Nat) (b : Binding), (n, some b) ∈ d.reed.bindings ∧ b.core / 8 = cl) :
    clusterBusy d cl = true := by
  unfold clusterBusy
  rw [Bool.or_eq_true]
  refine h.imp ?_ ?_
  · rintro ⟨i, hi⟩
    refine List.any_eq_true.mpr ⟨i.val, List.mem_range.mpr i.isLt, ?_⟩
    simpa [Machine.core] using hi
  · rintro ⟨n, b, hb, hcl⟩
    exact List.any_eq_true.mpr ⟨(n, some b), hb, by simp [hcl]⟩

end

/-- Settles O12: the rule of the cluster is one of the block rules, and it does not hold. -/
theorem commitKeepsBusyClusters : Obligations.CommitKeepsBusyClusters := by
  intro d old c writes keys commits cl hon hoff hbusy
  have hmem : (vN c 0x0D (0x80 + cl.val) 1 == 1 || !cfgOn d 0x0D (0x80 + cl.val) 1 || !clusterBusy d cl.val,
      cfgKey 0x0D (0x80 + cl.val) 1) ∈ reedRules d c :=
    List.mem_append_right _ (List.mem_map.mpr ⟨cl.val, List.mem_range.mpr cl.isLt, rfl⟩)
  exact check1 (reedRules_subset hmem) (by simp [hon, hoff, clusterBusy_of_core_or_port cl.val hbusy])

section
variable {d : Device} {c : Values}

/-- Where check 1 does not fail, each source that the condition of an enabled transition uses is one that a transition may use. -/
theorem transition_source_ok {old : Values} {writes : Nat → Bool} {keys : List Nat} {commits : List (Nat × List (Nat × Int))}
    (hpass : ∀ k st, failingCheck d old c writes keys commits ≠ some (1, k, st)) (i : Fin 16) (t j : Fin 4)
    (hon : trnN c i.val t.val 0x0F ≠ 0) (hused : bit (bits (trnN c i.val t.val 0) (8 * j.val) 8) 7 = true) :
    sourceOk c (bits (trnN c i.val t.val 0) (8 * j.val) 8 % 64) = true := by
  have hrule : (((condBytes (trnN c i.val t.val 0)).filter (fun b => bit b 7)).all (fun b => sourceOk c (b % 64)),
      cfgKey 5 (0x10 + i.val) (0x100 * (t.val + 1))) ∈ transitionRules c := by
    refine List.mem_flatMap.mpr ⟨i.val, List.mem_range.mpr i.isLt, List.mem_flatMap.mpr ⟨t.val, List.mem_range.mpr t.isLt, ?_⟩⟩
    rw [if_neg (by simpa using hon)]
    exact List.mem_cons_self
  have hall := rule_holds_of_check1 hpass (transitionRules_subset hrule)
  exact List.all_eq_true.mp hall _ (List.mem_filter.mpr ⟨List.mem_map.mpr ⟨j.val, List.mem_range.mpr j.isLt, rfl⟩, hused⟩)

/-- Sources 28 to 35 are the bus lines, each in its bit of bus_enable (R512). -/
theorem busLine_enabled_of_sourceOk (n : Fin 8) (h : sourceOk c (28 + n.val) = true) : bit (vN c 0x0F 0 8) n.val = true := by
  unfold sourceOk at h
  rwa [if_neg (by omega), if_neg (by omega), if_neg (by omega), if_pos (by omega), Nat.add_sub_cancel_left] at h

end

/-- Settles O11: the rule of the group is the bound of the delay, and the rule of an enabled transition admits the sources of its
condition, a bus line only where bus_enable has it. -/
theorem commitChecksBus : Obligations.CommitChecksBus := by
  intro d old c writes keys commits hpass
  refine ⟨?_, ?_⟩
  · have hmem : (decide (vN c 0x0F 0 6 + 512 + d.group.busTransitMax ≤ vN c 0x0F 0 5), cfgKey 0x0F 0 5) ∈ groupRules d c :=
      List.mem_singleton_self _
    exact of_decide_eq_true (rule_holds_of_check1 hpass (groupRules_subset hmem))
  · intro i t j n hon hused hcode
    exact busLine_enabled_of_sourceOk n (hcode ▸ transition_source_ok hpass i t j hon hused)

end Sys2Proof.Proofs
end

section
/-! SUPPORT. The slots of a completion queue (R431, R440): an entry is written, or waits in the CP. -/

namespace Sys2Proof.Proofs

open Sys2Proof.Machine Sys2Proof.Safety Sys2Proof.Laws

section
variable {ci : Nat} {e : WaitingEntry} {d : Device}

/-- Into a released slot of a live queue, with none waiting and no write error, the entry is written. -/
theorem postRaw_of_slotFree (hlive : (cplQueue d ci).live = true) (hnone : (cplQueue d ci).waiting = [])
    (hok : (cplQueue d ci).writeError = false) (hfree : slotFree (cplQueue d ci) = true) :
    postRaw ci e d = dropFlightOpt e.frees (writeSlot ci e.bytes d) := by
  unfold postRaw
  dsimp only
  rw [if_neg (by simp [hlive]), if_pos (by simp [hnone, hok, hfree])]

/-- Otherwise an entry of a live queue waits. -/
theorem postRaw_waits (hlive : (cplQueue d ci).live = true)
    (hfull : (cplQueue d ci).waiting ≠ [] ∨ (cplQueue d ci).writeError = true ∨ slotFree (cplQueue d ci) = false) :
    ∃ ws ≠ [], postRaw ci e d = setCplQueue ci { cplQueue d ci with waiting := ws } d := by
  have hclosed : ¬ ((cplQueue d ci).waiting.isEmpty && !(cplQueue d ci).writeError && slotFree (cplQueue d ci)) = true := by
    obtain h | h | h := hfull <;> simp [h]
  unfold postRaw
  dsimp only
  rw [if_neg (by simp [hlive]), if_neg hclosed]
  cases hmerge : mergeEvent (cplQueue d ci).waiting e with
  | some ws => exact ⟨ws, mergeEvent_some _ _ _ hmerge, rfl⟩
  | none => exact ⟨_, by simp, rfl⟩

/-- A queue whose TAIL has moved on by a slot, the phase inverted at the wrap (R440). -/
def tailMoved (c : CplQueue) : CplQueue :=
  { c with tail := (c.tail + 1) % c.entries, phase := if (c.tail + 1) % c.entries == 0 then !c.phase else c.phase }

/-- An entry is written as its bytes, the move of TAIL, and its count. -/
theorem writeSlot_eq (bs : List Byte) : writeSlot ci bs d = countEntry ci (setCplQueue ci (tailMoved (cplQueue d ci))
    (memWrite ((cplQueue d ci).base + 32 * (cplQueue d ci).tail) (withPhase bs (cplQueue d ci).phase) d)) := rfl

/-- The queue behind a written entry: beside TAIL and phase only the count of unsignalled entries changes. -/
theorem cplQueue_writeSlot (bs : List Byte) (hlive : (cplQueue d ci).live = true) :
    ∃ n, cplQueue (writeSlot ci bs d) ci = { tailMoved (cplQueue d ci) with unsignalled := n } := by
  have hmoved : (tailMoved (cplQueue d ci)).live = true := hlive
  rw [writeSlot_eq]
  obtain ⟨n, hn⟩ := count_queue ci (setCplQueue ci (tailMoved (cplQueue d ci))
    (memWrite ((cplQueue d ci).base + 32 * (cplQueue d ci).tail) (withPhase bs (cplQueue d ci).phase) d))
    (by rwa [cplQueue_set _ hmoved])
  exact ⟨n, by rw [hn, cplQueue_set _ hmoved]⟩

/-- A byte that does not lie in the message of the queue's vector is, behind a written entry, what the entry's own write makes it. -/
theorem mem_writeSlot (bs : List Byte) (hlive : (cplQueue d ci).live = true) (x : Nat)
    (hx : x < hostBase + (msixEntry d (cplQueue d ci).vector).addr % 2 ^ 51
      ∨ hostBase + (msixEntry d (cplQueue d ci).vector).addr % 2 ^ 51 + 4 ≤ x) :
    memByte (writeSlot ci bs d).mem x = memByte
      (writeCells d.mem ((cplQueue d ci).base + 32 * (cplQueue d ci).tail) (withPhase bs (cplQueue d ci).phase)) x := by
  rw [writeSlot_eq, count_mem]
  · rfl
  · rwa [cplQueue_set (v := tailMoved (cplQueue d ci)) _ hlive]

@[simp] theorem withPhase_length (bs : List Byte) (phase : Bool) : (withPhase bs phase).length = bs.length := by
  simp [withPhase]

end

/-- Settles O6: the slot is written in the one case, and the waiting entries of the queue alone change in every other. -/
theorem completionSlots : Obligations.CompletionSlots := by
  intro ci e d hlive hlen c t slot msg
  refine ⟨fun hnone hok hfree => ?_, fun hfull => ?_⟩
  · have ht : t = dropFlightOpt e.frees (writeSlot ci e.bytes d) := postRaw_of_slotFree hlive hnone hok hfree
    obtain ⟨n, hq⟩ := cplQueue_writeSlot e.bytes hlive
    have htq : cplQueue t ci = { tailMoved c with unsignalled := n } := by rw [ht, cplQueue_drop, hq]
    have hmem : ∀ x, (x < msg ∨ msg + 4 ≤ x) → memByte t.mem x = memByte (writeCells d.mem slot (withPhase e.bytes c.phase)) x :=
      fun x hx => by rw [ht, mem_drop, mem_writeSlot e.bytes hlive x hx]
    have hnext : (c.tail + 1) % c.entries ≠ c.head := by
      have := hfree
      simp only [slotFree, Bool.and_eq_true, bne_iff_ne] at this
      exact this.2
    rw [htq]
    refine ⟨rfl, rfl, hnext, hnone, ?_, fun x hslot hx => ?_, fun hwf x hlo hhi hx => ?_⟩
    · by_cases hwrap : (c.tail + 1) % c.entries = 0 <;> simp [tailMoved, hwrap]
    · rw [hmem x hx]
      exact memByte_writeCells_outside _ _ _ _ (by simpa [hlen] using hslot)
    · rw [hmem x hx]
      exact memByte_inside _ _ _ _ hwf hlo (by simpa [hlen] using hhi)
  · obtain ⟨ws, hne, ht⟩ := postRaw_waits (e := e) hlive hfull
    have htq : cplQueue t ci = { c with waiting := ws } := by
      rw [show t = _ from ht]
      exact cplQueue_set d hlive
    rw [htq]
    exact ⟨by rw [show t = _ from ht]; rfl, rfl, rfl, rfl, hne⟩

end Sys2Proof.Proofs
end

section
/-! SUPPORT. Stalls 0x27 and 0x10 (R19, R298, R569): what enters them, and what they count. -/

namespace Sys2Proof.Proofs

open Sys2Proof.Machine Sys2Proof.Safety Sys2Proof.Laws

/-! ### Fault messages -/

theorem raiseFault_of_room {m : FaultMsg} {d : Device} (h : d.fault.inbox.length < 64) :
    raiseFault m d = { d with fault := { d.fault with inbox := d.fault.inbox ++ [m] } } :=
  if_pos h

theorem raiseFault_of_full {m : FaultMsg} {d : Device} (h : 64 ≤ d.fault.inbox.length) :
    raiseFault m d = { d with fault := { d.fault with
      lost := tset 0 d.fault.lost (m.source * 64 + m.kind) (tget 0 d.fault.lost (m.source * 64 + m.kind) + 1) } } :=
  if_neg (Nat.not_lt.mpr h)

theorem raiseFault_log (m : FaultMsg) (d : Device) : (raiseFault m d).fault.log = d.fault.log := by
  unfold raiseFault
  split <;> rfl

theorem raiseFault_inbox_le (m : FaultMsg) {d : Device} (h : d.fault.inbox.length ≤ 64) :
    (raiseFault m d).fault.inbox.length ≤ 64 := by
  obtain hroom | hfull := Nat.lt_or_ge d.fault.inbox.length 64
  · rw [raiseFault_of_room hroom]
    simpa using hroom
  · rwa [raiseFault_of_full hfull]

/-! ### Records -/

section
variable {n : Nat} {r : Rec} {d : Device}

/-- The GAP record of earlier drops that goes before the next record, if there were any (R298). -/
def dropsBefore (n : Nat) (d : Device) : List Rec :=
  if (stream d n).stallDrops.count == 0 then [] else [dropsRec d 0x07 (stream d n).stallDrops]

theorem stream_setStream (v : Stream) (hv : v ≠ {}) (d : Device) : stream (setStream n v d) n = v := tget_tset_new _ _ _ hv _

theorem stream_setStream_other {k : Nat} (v : Stream) (hk : k ≠ n) (d : Device) : stream (setStream n v d) k = stream d k :=
  tget_tset_other _ _ hk.symm _

@[simp] theorem stream_noteNotice (lines k : Nat) : stream (noteNotice n lines d) k = stream d k := by
  unfold noteNotice
  split <;> rfl

theorem pushStall_of_room (hfits : stallLines (stream d n) + recUnits r + (dropsBefore n d).length ≤ stallDepth d n)
    (hshare : noticeRoom d n (recUnits r + (dropsBefore n d).length) = true) :
    pushStall n r d = noteNotice n (recUnits r + (dropsBefore n d).length) (setStream n
      { stream d n with stall := (stream d n).stall ++ dropsBefore n d ++ [r], stallDrops := {} } d) :=
  if_pos ⟨by rwa [← Nat.add_assoc], hshare⟩

theorem pushStall_of_no_room (h : stallDepth d n < stallLines (stream d n) + recUnits r + (dropsBefore n d).length
      ∨ noticeRoom d n (recUnits r + (dropsBefore n d).length) = false) :
    pushStall n r d = setStream n { stream d n with stallDrops := addDrop (stream d n).stallDrops r.firstIndex r.source } d := by
  refine if_neg fun ⟨hfits, hshare⟩ => ?_
  obtain h | h := h
  · rw [← Nat.add_assoc] at hfits
    exact absurd hfits (Nat.not_le.mpr h)
  · exact absurd hshare (Bool.eq_false_iff.mp h)

/-- A record either finds room or does not. -/
theorem pushStall_room_cases (n : Nat) (r : Rec) (d : Device) :
    (stallLines (stream d n) + recUnits r + (dropsBefore n d).length ≤ stallDepth d n
        ∧ noticeRoom d n (recUnits r + (dropsBefore n d).length) = true)
      ∨ (stallDepth d n < stallLines (stream d n) + recUnits r + (dropsBefore n d).length
        ∨ noticeRoom d n (recUnits r + (dropsBefore n d).length) = false) := by
  obtain hlong | hfits := Nat.lt_or_ge (stallDepth d n) (stallLines (stream d n) + recUnits r + (dropsBefore n d).length)
  · exact .inr (.inl hlong)
  · cases hshare : noticeRoom d n (recUnits r + (dropsBefore n d).length)
    · exact .inr (.inr rfl)
    · exact .inl ⟨hfits, rfl⟩

@[simp] theorem addDrop_count (x : Drops) (first source : Nat) : (addDrop x first source).count = x.count + 1 := by
  unfold addDrop
  split
  · simp_all
  · rfl

theorem addDrop_first (x : Drops) (first source : Nat) :
    (addDrop x first source).first = if x.count = 0 then first else min x.first first := by
  unfold addDrop
  by_cases h : x.count = 0 <;> simp [h]

theorem addDrop_last (x : Drops) (first source : Nat) :
    (addDrop x first source).last = if x.count = 0 then first else max x.last first := by
  unfold addDrop
  by_cases h : x.count = 0 <;> simp [h]

/-- The stream behind a record that found room. -/
theorem stream_pushStall_of_room (hfits : stallLines (stream d n) + recUnits r + (dropsBefore n d).length ≤ stallDepth d n)
    (hshare : noticeRoom d n (recUnits r + (dropsBefore n d).length) = true) :
    stream (pushStall n r d) n = { stream d n with stall := (stream d n).stall ++ dropsBefore n d ++ [r], stallDrops := {} } := by
  rw [pushStall_of_room hfits hshare, stream_noteNotice]
  exact stream_setStream _ (fun h => by simpa using congrArg Stream.stall h) d

/-- The stream behind a record that was dropped. -/
theorem stream_pushStall_of_no_room (h : stallDepth d n < stallLines (stream d n) + recUnits r + (dropsBefore n d).length
      ∨ noticeRoom d n (recUnits r + (dropsBefore n d).length) = false) :
    stream (pushStall n r d) n = { stream d n with stallDrops := addDrop (stream d n).stallDrops r.firstIndex r.source } := by
  rw [pushStall_of_no_room h]
  exact stream_setStream _ (fun h => by simpa using congrArg (fun s => s.stallDrops.count) h) d

theorem stream_pushStall_other {k : Nat} (hk : k ≠ n) : stream (pushStall n r d) k = stream d k := by
  obtain ⟨hfits, hshare⟩ | h := pushStall_room_cases n r d
  · rw [pushStall_of_room hfits hshare, stream_noteNotice, stream_setStream_other _ hk]
  · rw [pushStall_of_no_room h, stream_setStream_other _ hk]

/-- The lines of a GAP of drops are as many as there are such records. -/
theorem dropsBefore_lines (n : Nat) (d : Device) : ((dropsBefore n d).map recUnits).sum = (dropsBefore n d).length := by
  unfold dropsBefore
  split
  · rfl
  · simp [dropsRec_units]

theorem stallLines_eq_sum (s : Stream) : stallLines s = (s.stall.map recUnits).sum := by
  rw [stallLines, List.sum_eq_foldl]

theorem stallLines_pushStall_le (h : stallLines (stream d n) ≤ stallDepth d n) :
    stallLines (stream (pushStall n r d) n) ≤ stallDepth d n := by
  obtain ⟨hfits, hshare⟩ | hfull := pushStall_room_cases n r d
  · rw [stream_pushStall_of_room hfits hshare]
    rw [stallLines_eq_sum] at *
    simp only [List.map_append, List.sum_append, dropsBefore_lines, List.map_cons, List.map_nil, List.sum_cons, List.sum_nil]
    omega
  · rwa [stream_pushStall_of_no_room hfull]

end

/-- Settles O13: a message or a record enters where there is room, and is counted where there is none. That the notice streams keep
within their share by dropping, and that a record is dropped whole, are choices of the model (log entries 109 and 43). -/
theorem stallsDropAndCount : Obligations.StallsDropAndCount := by
  refine ⟨fun m d => ⟨raiseFault_inbox_le m, fun hroom => ?_, fun hfull => ?_, raiseFault_log m d, raiseFault_mem m d, raiseFault_cfg m d⟩, ?_⟩
  · rw [raiseFault_of_room hroom]
    exact ⟨rfl, rfl⟩
  · rw [raiseFault_of_full hfull]
    exact ⟨rfl, tget_tset_new 0 _ _ (Nat.succ_ne_zero _) _, fun k hk => tget_tset_other 0 _ hk.symm _⟩
  · intro n r d s t gap
    have hgap : gap = dropsBefore n d := if_congr (by simp [s]) rfl rfl
    rw [hgap]
    refine ⟨stallLines_pushStall_le, fun hfits hshare => ?_, fun hfull => ?_, fun k hk => stream_pushStall_other hk⟩
    · rw [show t = _ from stream_pushStall_of_room hfits hshare]
      exact ⟨rfl, rfl⟩
    · rw [show t = _ from stream_pushStall_of_no_room hfull]
      exact ⟨rfl, addDrop_count .., addDrop_first .., addDrop_last ..⟩

end Sys2Proof.Proofs
end

section
/-! SUPPORT. The order of acceptance (R436): for any command, what the first check that fails answers. -/

namespace Sys2Proof.Proofs

open Sys2Proof.Machine Sys2Proof.Safety Sys2Proof.Laws

section
variable {p : Packet} {d : Device} (body : Packet → Device → Device)

/-! ### The CP does not run, or starts anew -/

theorem accept_queue_of_cp_stopped (hcp : cpRuns d = false) (hsrc : p.src ≠ .mailbox) : accept p body d = d := by
  rw [accept, if_pos (by simp [hcp]), if_neg (by simpa using hsrc)]

theorem accept_mailbox_of_cp_stopped (hcp : cpRuns d = false) (hsrc : p.src = .mailbox) : accept p body d = droneStatus p body d := by
  rw [accept, if_pos (by simp [hcp]), if_pos (by simp [hsrc])]

theorem droneStatus_of_other (hop : p.opcode ≠ 0x0002) : droneStatus p body d = mailboxResult p .badState [] d :=
  if_neg (by simpa using hop)

theorem droneStatus_of_bad_getStatus (hop : p.opcode = 0x0002)
    (hbad : ((cmdSpec 0x0002).any (fun c => headerOk d c p) && targetsSelf d p && !opReserved p) = false) :
    droneStatus p body d = mailboxResult p .badParam [] d := by
  unfold droneStatus
  dsimp only
  rw [if_pos (by simp [hop]), hop]
  exact if_neg (Bool.eq_false_iff.mp hbad)

theorem accept_of_machineCheck (hcp : cpRuns d = true) (hm : d.host.mcheck = true) : accept p body d = rejectEarly p .retry d := by
  rw [accept, if_neg (by simp [hcp]), if_pos hm]

/-! ### Checks 1 to 4 -/

section
variable (hcp : cpRuns d = true) (hm : d.host.mcheck = false)
include hcp hm

theorem accept_of_unknown (hc : cmdSpec p.opcode = none) : accept p body d = rejectEarly p .badOpcode d := by
  rw [accept, if_neg (by simp [hcp]), if_neg (by simp [hm]), hc]

variable {c : CmdSpec} (hc : cmdSpec p.opcode = some c)
include hc

theorem accept_of_bad_header (hh : headerOk d c p = false) : accept p body d = rejectEarly p .badParam d := by
  rw [accept, if_neg (by simp [hcp]), if_neg (by simp [hm]), hc]
  exact if_pos (by simp [hh])

variable (hh : headerOk d c p = true)
include hh

theorem accept_of_tagInFlight (hq : isQueue p = true) (ht : tagInFlight d p.tag.toNat = true) :
    accept p body d = rejectEarly p .badState d := by
  rw [accept, if_neg (by simp [hcp]), if_neg (by simp [hm]), hc]
  exact (if_neg (by simp [hh])).trans (if_pos (by simp [hq, ht]))

/-- A good header with a free tag reaches the check of the target. -/
theorem accept_of_header (ht : (isQueue p && tagInFlight d p.tag.toNat) = false) :
    accept p body d =
      if !targetsSelf d p && p.src == .mailbox then rejectEarly p .badParam d
      else if !targetsSelf d p && isQueue p then
        (if !bit d.group.members.toNat (targetDevice p) || (routePort d (targetDevice p)).isNone then rejectEarly p .notPresent d
         else sendMsg (targetDevice p) (.cmd p (roleHeld d p)) (holdTag p (some (targetDevice p)) d))
      else match executeCheck d c p with
        | some st => rejectEarly p st d
        | none =>
          if opReserved p then complete p .badParam [] (if isQueue p then holdTag p none d else d) else
          let mirror := mirroring d && mirroredClass p && mirrorSource p
          let i := if mirror then actingInstant d p else none
          let q := actAtInstant p i
          let d := toPort p (if isQueue p then holdTag q none d else d)
          body q (if mirror && mirrors q body d then sendMirror q p i d else d) := by
  rw [accept, if_neg (by simp [hcp]), if_neg (by simp [hm]), hc]
  exact (if_neg (by simp [hh])).trans (if_neg (by simp [ht]))

theorem accept_mailbox_of_other_target (hsrc : p.src = .mailbox) (hself : targetsSelf d p = false) :
    accept p body d = rejectEarly p .badParam d :=
  (accept_of_header body hcp hm hc hh (by simp [isQueue, hsrc])).trans (if_pos (by simp [hsrc, hself]))

section
variable (hq : isQueue p = true) (ht : tagInFlight d p.tag.toNat = false) (hself : targetsSelf d p = false)
include hq ht hself

theorem accept_queue_of_other_target :
    accept p body d =
      if !bit d.group.members.toNat (targetDevice p) || (routePort d (targetDevice p)).isNone then rejectEarly p .notPresent d
      else sendMsg (targetDevice p) (.cmd p (roleHeld d p)) (holdTag p (some (targetDevice p)) d) := by
  have hsrc : p.src ≠ .mailbox := fun h => by simp [isQueue, h] at hq
  exact (accept_of_header body hcp hm hc hh (by simp [ht])).trans
    ((if_neg (by simp [hsrc])).trans (if_pos (by simp [hself, hq])))

theorem accept_of_absent_target
    (habsent : bit d.group.members.toNat (targetDevice p) = false ∨ routePort d (targetDevice p) = none) :
    accept p body d = rejectEarly p .notPresent d :=
  (accept_queue_of_other_target body hcp hm hc hh hq ht hself).trans (if_pos (by obtain h | h := habsent <;> simp [h]))

theorem accept_of_reachable_member (hmember : bit d.group.members.toNat (targetDevice p) = true)
    (hroute : routePort d (targetDevice p) ≠ none) :
    accept p body d = sendMsg (targetDevice p) (.cmd p (roleHeld d p)) (holdTag p (some (targetDevice p)) d) :=
  (accept_queue_of_other_target body hcp hm hc hh hq ht hself).trans (if_neg (by simp [hmember, hroute]))

end

/-! ### Checks 5 and 6, and the op byte -/

section
variable (ht : (isQueue p && tagInFlight d p.tag.toNat) = false) (hself : targetsSelf d p = true)
include ht hself

theorem accept_of_executeCheck {st : Status} (hx : executeCheck d c p = some st) : accept p body d = rejectEarly p st d := by
  rw [accept_of_header body hcp hm hc hh ht, if_neg (by simp [hself]), if_neg (by simp [hself]), hx]

theorem accept_of_opReserved (hx : executeCheck d c p = none) (hop : opReserved p = true) :
    accept p body d = complete p .badParam [] (if isQueue p then holdTag p none d else d) := by
  rw [accept_of_header body hcp hm hc hh ht, if_neg (by simp [hself]), if_neg (by simp [hself]), hx]
  exact if_pos hop

end

end

end

section
variable {p : Packet} {d : Device} {c : CmdSpec}

theorem executeCheck_of_safe (hs : d.power.state = .safe) (hc : c.safeOk = false) : executeCheck d c p = some .safeState :=
  if_pos (by simp [hs, hc])

theorem executeCheck_of_sleep (hs : d.power.state = .sleep) (hc : c.sleepOk = false) : executeCheck d c p = some .badState :=
  (if_neg (by simp [hs])).trans (if_pos (by simp [hs, hc]))

end

/-- Settles O7: every packet row is acceptance of its packet, and acceptance is decided by the first check that fails. That a queue packet
has no effect while the CP does not run, and that a target without a route gives NOT_PRESENT, are choices of the model (log entries 55
and 57). -/
theorem acceptanceOrder : Obligations.AcceptanceOrder := by
  intro f hf s p
  obtain ⟨body, hexec⟩ := packet_rows_accept f hf
  have hnext : ∀ e, accept p body s.dev = e → exec (f p) s = .next (after s e) := fun e he => (hexec p s).trans (act_next he)
  refine ⟨fun hcp hsrc => hnext _ (accept_queue_of_cp_stopped body hcp hsrc), fun hcp hsrc hop => ?_, fun hcp hsrc hop hbad => ?_,
    fun hcp hm => hnext _ (accept_of_machineCheck body hcp hm), fun hcp hm => ⟨fun hc => hnext _ (accept_of_unknown body hcp hm hc),
      fun c hc => ⟨?_, ?_, ?_, ?_, ?_, ?_, ?_, ?_⟩⟩⟩
  · exact hnext _ ((accept_mailbox_of_cp_stopped body hcp hsrc).trans (droneStatus_of_other body hop))
  · exact hnext _ ((accept_mailbox_of_cp_stopped body hcp hsrc).trans (droneStatus_of_bad_getStatus body hop hbad))
  · exact fun hh => hnext _ (accept_of_bad_header body hcp hm hc hh)
  · exact fun hh hq ht => hnext _ (accept_of_tagInFlight body hcp hm hc hh hq ht)
  · exact fun hh hsrc hself => hnext _ (accept_mailbox_of_other_target body hcp hm hc hh hsrc hself)
  · exact fun hh hq ht hself => ⟨fun habsent => hnext _ (accept_of_absent_target body hcp hm hc hh hq ht hself habsent),
      fun hmember hroute => hnext _ (accept_of_reachable_member body hcp hm hc hh hq ht hself hmember hroute)⟩
  · exact fun hh ht hself hs hok => hnext _ (accept_of_executeCheck body hcp hm hc hh ht hself (executeCheck_of_safe hs hok))
  · exact fun hh ht hself hs hok => hnext _ (accept_of_executeCheck body hcp hm hc hh ht hself (executeCheck_of_sleep hs hok))
  · exact fun hh ht hself hx hop => hnext _ (accept_of_opReserved body hcp hm hc hh ht hself hx hop)
  · exact fun st hh ht hself hx => hnext _ (accept_of_executeCheck body hcp hm hc hh ht hself hx)

end Sys2Proof.Proofs
end

section
/-! SUPPORT. Steps and outcomes of the whole block: the queue's front, TAP instructions, the power cap, the refill request. -/

namespace Sys2Proof.Proofs

open Sys2Proof.Machine Sys2Proof.Safety Sys2Proof.Laws

/-- Settles O1: a step is a match on the queue. -/
theorem stepRunsFront : Obligations.StepRunsFront := by
  refine ⟨fun c rest s => rfl, fun s h => ?_⟩
  unfold step
  rw [h]
  rfl

/-- A TAP instruction that the mode makes a debug instruction of Mehrik is that instruction, under mode 2 (R564). -/
theorem eq_mehrikDebug_of_tapTaken {mode code : Nat} {t : TapInstr} (h : tapTaken mode t = .mehrikDebug code) :
    t = .mehrikDebug code ∧ 2 ≤ mode := by
  cases t with
  | mehrikDebug c =>
    by_cases hm : 2 ≤ mode
    · exact ⟨(if_pos hm).symm.trans h, hm⟩
    · exact absurd ((if_neg hm).symm.trans h) (by simp)
  | bypass | idcode | samplePreload => cases h
  | extest | clamp | highz | extestPulse | extestTrain =>
    unfold tapTaken at h
    dsimp only at h
    split at h <;> cases h

/-- Only a debug instruction of Mehrik is refused. -/
theorem eq_mehrikDebug_of_refused {t : TapInstr} {s : State} (h : exec (.tapInstruction t) s = .refused .mehrikDebug) :
    ∃ code, t = .mehrikDebug code ∧ 2 ≤ jtagMode s.dev := by
  change execTapInstruction t s = _ at h
  unfold execTapInstruction at h
  split at h
  · next code htaken => exact ⟨code, eq_mehrikDebug_of_tapTaken htaken⟩
  · cases h

/-- Settles O3: every other row changes the device behind the queue's back; that a debug instruction is refused is a choice of the model
(log entry 81). -/
theorem everyCommandRuns : Obligations.EveryCommandRuns := by
  intro c s
  by_cases hc : ∃ t, c = .tapInstruction t
  · obtain ⟨t, rfl⟩ := hc
    obtain hnext | hrefused := exec_tapInstruction t s
    · exact .inl ⟨_, hnext, rfl⟩
    · obtain ⟨code, rfl, hmode⟩ := eq_mehrikDebug_of_refused hrefused
      exact .inr ⟨code, rfl, hmode, hrefused⟩
  · obtain ⟨d, hd⟩ := exec_after_of_ne_tapInstruction (not_exists.mp hc) s
    exact .inl ⟨_, hd, rfl⟩

section
variable {p : Packet} {d : Device}

theorem powerCap_of_admissible (hz : reservedZero p [(0, 2)] = true) (hlo : 30 ≤ p16 p 0) (hhi : p16 p 0 ≤ 230) :
    powerCap p d = complete p .ok (leBytes 2 (p16 p 0) ++ leBytes 4 d.power.powerMw ++ leBytes 1 d.power.throttle)
      { d with power := { d.power with capW := p16 p 0 } } :=
  if_neg (by simp [hz, hlo, hhi])

theorem powerCap_of_inadmissible (h : reservedZero p [(0, 2)] = false ∨ p16 p 0 < 30 ∨ 230 < p16 p 0) :
    powerCap p d = complete p .badParam [] d := by
  refine if_pos ?_
  obtain h | h | h := h
  · simp [h]
  · simp [Nat.not_le.mpr h]
  · simp [Nat.not_le.mpr h]

end

/-- Settles O9: the two sides of the command's one check, and a reset power state. -/
theorem powerCapRule : Obligations.PowerCapRule := by
  refine ⟨?_, fun s p ha hbad => ?_, fun s => ⟨_, rfl, rfl⟩⟩
  · intro s p ha hz hlo hhi t
    refine ⟨admitted_next ha ?_, by simp [t], by simp [t]⟩
    simpa using powerCap_of_admissible (d := taken p s.dev) hz hlo hhi
  · exact admitted_next ha (powerCap_of_inadmissible hbad)

theorem lineAsserted_of_generator {d : Device} {n : Nat} (g : Fin 2) (hsrc : xferN d n 0x10 = 2) (hinst : xferN d n 0x11 = g.val) :
    lineAsserted d n = refillRequest d g.val := by
  simp [lineAsserted, hsrc, hinst, g.isLt]

/-- A generator asks for a refill while some segment of its ring is defined, released and unlocked (R365). -/
theorem refillRequest_iff {d : Device} {g : Nat} :
    refillRequest d g = true ↔ ∃ m seg, (m, some seg) ∈ (generator d g).segments
      ∧ genN d g 3 ≤ m ∧ m < genN d g 3 + genN d g 4 ∧ seg.committed = false ∧ segLocked (generator d g) m = false := by
  unfold refillRequest inRing
  simp only [List.any_eq_true, Bool.and_eq_true, decide_eq_true_eq, Bool.not_eq_true', Option.any_eq_true]
  constructor
  · rintro ⟨⟨m, _⟩, hmem, ⟨⟨hlo, hhi⟩, hlock⟩, seg, rfl, hcom⟩
    exact ⟨m, seg, hmem, hlo, hhi, hcom, hlock⟩
  · rintro ⟨m, seg, hmem, hlo, hhi, hcom, hlock⟩
    exact ⟨(m, some seg), hmem, ⟨⟨hlo, hhi⟩, hlock⟩, seg, rfl, hcom⟩

/-- Settles O10: the line of a generator is its refill request. -/
theorem refillRequestRule : Obligations.RefillRequestRule := by
  intro d n g hsrc hinst
  rw [lineAsserted_of_generator g hsrc hinst]
  exact refillRequest_iff

end Sys2Proof.Proofs
end

section
/-! SUPPORT. The generators' commands (R352, R353, R357, R360, R362, R368): what each does behind its checks. -/

namespace Sys2Proof.Proofs

open Sys2Proof.Machine Sys2Proof.Safety Sys2Proof.Laws

section
variable {p : Packet} {d : Device}

/-- The checks of DEFINE and COPY, the words of the new range being `word` (R353): its parameters are in range, nothing locked or named is
touched, no other segment is met, and it reads as valid entries unless the segment is one of the ring. -/
structure SegmentFree (copy : Bool) (word : Nat → Nat) (p : Packet) (d : Device) : Prop where
  params : segParamsOk d copy p = true
  unlocked : segLocked (generator d (pByte p 0)) (p16 p 2) = false
  misses : rangeHits (generator d (pByte p 0)) (p16 p 2) (p32 p 4) (p32 p 8) (fun _ => true) = false
  missesLocked : rangeHits (generator d (pByte p 0)) (p16 p 2) (p32 p 4) (p32 p 8) (segLocked (generator d (pByte p 0))) = false
  unnamed : segNamed d (pByte p 0) (p16 p 2) = false
  valid : inRing d (pByte p 0) (p16 p 2) = true ∨ rangeValid word (p32 p 8) = true

/-- The words that the new range will have: those of entry memory, or with COPY those of the source. -/
def rangeWord (copy : Bool) (p : Packet) (d : Device) (i : Nat) : Nat :=
  if copy then memNat d (p64 p 16 + 16 * i) 16 else entryWord d (pByte p 0) (p32 p 4 + i)

/-- DEFINE and COPY behind their checks. -/
theorem segDefine_of_free {copy : Bool} (hz : reservedZero p [(0, 12), (16, 8)] = true) (h : SegmentFree copy (rangeWord copy p d) p d) :
    segDefine copy p d = (
      let g := pByte p 0
      let n := p16 p 2
      let e := if copy then memWrite (entryBase g + 16 * p32 p 4) (memRead d (p64 p 16) (16 * p32 p 8)) d else d
      let marks : Table Nat := if copy && inRing e g n then (List.range (p32 p 8)).map (fun i => (i, 65535)) else []
      let e := setGenerator g (setSeg n (some { first := p32 p 4, count := p32 p 8, committed := false, written := marks }) (generator e g)) e
      complete p .ok (leBytes 6 (rangeLength (rangeWord copy p d) (p32 p 8))) (if copy && inRing e g n then tryCommit g n e else e)) := by
  have hvalid : ¬ (rangeHits (generator d (pByte p 0)) (p16 p 2) (p32 p 4) (p32 p 8) (fun _ => true)
      || (!inRing d (pByte p 0) (p16 p 2) && !rangeValid (rangeWord copy p d) (p32 p 8))) = true := by
    obtain h' | h' := h.valid <;> simp [h.misses, h']
  unfold segDefine
  dsimp only
  rw [if_neg (by simp [hz, h.params]), if_neg (by simp [h.unlocked, h.missesLocked, h.unnamed])]
  exact if_neg hvalid

/-- CLEAR removes a segment that is neither locked nor named (R353). -/
theorem segClear_of_free (hz : reservedZero p [(0, 12), (16, 8)] = true) (hg : pByte p 0 ≤ 1) (hn : p16 p 2 ≤ 4095)
    (hlock : segLocked (generator d (pByte p 0)) (p16 p 2) = false) (hname : segNamed d (pByte p 0) (p16 p 2) = false) :
    segClear p d = complete p .ok (leBytes 6 0)
      (setGenerator (pByte p 0) (setSeg (p16 p 2) none (generator d (pByte p 0))) d) := by
  unfold segClear
  dsimp only
  rw [if_neg (by simp [hz, hg, hn]), if_neg (by simp [hlock, hname])]

/-- SEQ_LOAD of valid steps into a store that no running generator follows (R357). -/
theorem seqLoad_of_steps {steps : List SeqStep} (hz : reservedZero p [(0, 2), (4, 12)] = true) (hg : pByte p 0 ≤ 1) (hs : pByte p 1 ≤ 1)
    (hpos : 0 < p32 p 4) (hmax : p32 p 4 ≤ 4096) (hr : reachable d .cp false (p64 p 8) (16 * p32 p 4) = true)
    (hsteps : decodeAll readStep (readEntries d (p64 p 8) 16 (p32 p 4)) = some steps)
    (hok : steps.all (fun x => decide (x.next < p32 p 4) && (if x.stream then x.segment == 0
      else (segDef (generator d (pByte p 0)) x.segment).any (fun s => rangeValid (segWord d (pByte p 0) s) s.count))) = true)
    (hfree : seqBusy d (pByte p 0) (pByte p 1) = false) :
    seqLoad p d = complete p .ok [] (setGenerator (pByte p 0)
      { generator d (pByte p 0) with stores := tset [] (generator d (pByte p 0)).stores (pByte p 1) steps } d) := by
  have hparams : ¬ (!reservedZero p [(0, 2), (4, 12)] || decide (1 < pByte p 0) || decide (1 < pByte p 1) || p32 p 4 == 0
      || decide (4096 < p32 p 4) || !reachable d .cp false (p64 p 8) (16 * p32 p 4)) = true := by
    simp [hz, hg, hs, hpos.ne', hmax, hr]
  unfold seqLoad
  dsimp only
  rw [if_neg hparams, hsteps]
  dsimp only
  rw [hok, if_neg (by simp), if_neg (Bool.eq_false_iff.mp hfree)]

/-- JUMP of a running generator to a valid step places its request (R360). -/
theorem genJump_of_running (hz : reservedZero p [(0, 4)] = true) (hg : pByte p 1 ≤ 1) (hn : p16 p 2 ≤ 4095)
    (hruns : genStopped (generator d (pByte p 1)) = false) (hstep : (stepOf d (pByte p 1) (p16 p 2)).isSome = true) :
    genJump p d = placeRequest (pByte p 1) (p16 p 2) (some p) (ballIndex d) (park p d) := by
  have hstate : ¬ (genStopped (generator d (pByte p 1)) || (stepOf d (pByte p 1) (p16 p 2)).isNone) = true := by
    rw [hruns, Option.isNone_eq_false_iff.mpr hstep]
    exact Bool.false_ne_true
  unfold genJump
  dsimp only
  rw [if_neg (by simp [hz, hg, hn]), if_neg hstate]

/-- START of a stopped, enabled generator (R362). -/
theorem genStart_of_stopped (hz : reservedZero p [(0, 5), (8, 8)] = true) (hg : pByte p 1 ≤ 1) (hn : p16 p 2 ≤ 4095)
    (htime : (pByte p 4 = 0 ∧ p64 p 8 = 0) ∨ (pByte p 4 = 1 ∧ ballIndex d + 2048 ≤ p64 p 8))
    (hstopped : genStopped (generator d (pByte p 1)) = true) (hon : genN d (pByte p 1) 1 = 1)
    (hstep : (stepOf d (pByte p 1) (p16 p 2)).isSome = true) :
    genStart p d = (
      let g := pByte p 1
      let v := generator d g
      let b := ceilDiv (if pByte p 4 == 1 then p64 p 8 else ballIndex d + 2048) 256 * 256
      complete p .ok (leBytes 8 b ++ zeroBytes 1) (setGenerator g { v with
        starting := some (b, p16 p 2), acc := 0, ringPtr := genN d g 3, episodes := 0
        segments := v.segments.map (fun e => (e.1, e.2.map (fun x => { x with committedAt := 0 }))) } d)) := by
  have hparams : ¬ (!reservedZero p [(0, 5), (8, 8)] || decide (1 < pByte p 1) || decide (4095 < p16 p 2) || decide (1 < pByte p 4)
      || (pByte p 4 == 0 && p64 p 8 != 0)) = true := by
    obtain ⟨hopt, hidx⟩ | ⟨hopt, -⟩ := htime
    · simp [hz, hg, hn, hopt, hidx]
    · simp [hz, hg, hn, hopt]
  have hlate : ¬ (pByte p 4 == 1 && decide (p64 p 8 < ballIndex d + 2048)) = true := by
    obtain ⟨hopt, -⟩ | ⟨-, hidx⟩ := htime
    · simp [hopt]
    · simp [hidx]
  have hstate : ¬ (!genStopped (generator d (pByte p 1)) || genN d (pByte p 1) 1 != 1 || (stepOf d (pByte p 1) (p16 p 2)).isNone) = true := by
    simp [hstopped, hon, Option.isNone_eq_false_iff.mpr hstep]
  unfold genStart
  dsimp only
  rw [if_neg hparams, if_neg hstate, if_neg hlate]

/-- STOP of a running generator is kept for the next decision (R360, R362). -/
theorem genStop_of_running (hz : reservedZero p [(0, 2)] = true) (hg : pByte p 1 ≤ 1)
    (hruns : genStopped (generator d (pByte p 1)) = false) :
    genStop p d = (
      let v := generator d (pByte p 1)
      park p (setGenerator (pByte p 1) { v with
        stops := v.stops ++ [p], stopPending := true, stopAt := if v.stopPending then v.stopAt else ballIndex d } d)) := by
  unfold genStop
  dsimp only
  rw [if_neg (by simp [hz, hg]), if_neg (Bool.eq_false_iff.mp hruns)]

@[simp] theorem ballIndex_taken : ballIndex (taken p d) = ballIndex d := by simp [ballIndex]

end

/-- Settles O40: an admitted packet runs its command, and the premises are the checks of that command. -/
theorem generatorCommandsAct : Obligations.GeneratorCommandsAct := by
  unfold Obligations.GeneratorCommandsAct
  and_intros
  · intro s p ha hz d g n word hok hlock hmiss hmissLocked hname hvalid
    exact admitted_next ha (segDefine_of_free (copy := false) hz ⟨hok, hlock, hmiss, hmissLocked, hname, hvalid⟩)
  · intro s p ha hz d g n word hok hlock hmiss hmissLocked hname hvalid
    exact admitted_next ha (segDefine_of_free (copy := true) hz ⟨hok, hlock, hmiss, hmissLocked, hname, hvalid⟩)
  · intro s p ha hz hg hn d hlock hname
    exact admitted_next ha (segClear_of_free hz hg hn hlock hname)
  · intro s p steps ha hz d g n hg hs hpos hmax hr hsteps hok hfree
    exact admitted_next ha (seqLoad_of_steps hz hg hs hpos hmax hr hsteps hok hfree)
  · intro s p ha hz hg hn hruns hstep
    exact admitted_next ha ((genJump_of_running hz hg hn hruns hstep).trans (by rw [ballIndex_taken]))
  · intro s p ha hz hg hn d g v i b htime hstopped hon hstep
    exact admitted_next ha (genStart_of_stopped hz hg hn htime hstopped hon hstep)
  · intro s p ha hz hg v hruns
    exact admitted_next ha ((genStop_of_running hz hg hruns).trans (by rw [ballIndex_taken]))
  · intro s p ha hz hg
    exact admitted_next ha (if_neg (by simp [hz, hg]))

end Sys2Proof.Proofs
end

section
/-! SUPPORT. What the generators do by themselves (R351, R354, R358, R359, R362, R371): each event where its condition holds. -/

namespace Sys2Proof.Proofs

open Sys2Proof.Machine Sys2Proof.Safety Sys2Proof.Laws

section
variable {g b : Nat} {d : Device}

/-- The generator decides for boundary `b` once the index lies within half a microcycle of it (R359). -/
theorem decisionPoint_of_near (hb : decisionBoundary (generator d g) = some b) (hnone : (generator d g).ending = none)
    (hnear : b ≤ ballIndex d + 512) : decisionPoint g d = decide1 g b d := by
  unfold decisionPoint
  dsimp only
  rw [hb]
  exact if_neg (by simp [hnone, hnear])

/-- At its boundary a START begins what was decided, or ends (R362). -/
theorem startBoundary_of_decided {n : Nat} (hs : (generator d g).starting = some (b, n)) (hb : b ≤ ballIndex d)
    (hdecided : (generator d g).queue ≠ [] ∨ (generator d g).ending ≠ none) :
    startBoundary g d =
      (match (generator d g).queue, (generator d g).ending with
        | c :: rest, _ => startChoice g c (setGenerator g { generator d g with queue := rest } d)
        | [], some e => stopGen g b e.reason (generator d g).stops .aborted d
        | [], none => d) := by
  unfold startBoundary
  dsimp only
  rw [hs]
  cases hq : (generator d g).queue with
  | cons c rest => cases (generator d g).ending <;> exact if_pos hb
  | nil =>
    cases he : (generator d g).ending with
    | some e => exact if_pos hb
    | none => simp [hq, he] at hdecided

/-- At the end of a play whose follower is decided (R358, R364, R371). -/
theorem segmentBoundary_of_decided {c : Choice} (hc : (generator d g).current = some c) (hstop : c.stop ≤ ballIndex d)
    (hdecided : (generator d g).queue ≠ [] ∨ (generator d g).ending ≠ none) :
    segmentBoundary g d = (
      let d := flushMarkers g 4096 d
      let x := afterPlay d g (generator d g) c
      let v := generator d g
      let ended (e : Nat) : Bool := (c.segment.bind (segDef v)).any (fun s => holdsEntry s e)
      let d := setGenerator g { v with
        acc := x.1, freq := x.2, current := none, badEntries := v.badEntries.filter (fun e => !ended e) } d
      let d := match c.segment with
        | some n => if inRing d g n && !segLocked (generator d g) n then releaseSeg g n d else d
        | none => d
      let d := swapGen g d
      if genN d g 1 = 0 then stopGen g c.stop 7 [] .aborted d
      else match (generator d g).queue with
        | n :: rest => startChoice g n (setGenerator g { generator d g with queue := rest } d)
        | [] => match (generator d g).ending with
          | some e => stopGen g c.stop e.reason (generator d g).stops .aborted d
          | none => d) := by
  have hopen : ¬ (decide (ballIndex d < c.stop) || ((generator d g).queue.isEmpty && (generator d g).ending.isNone)) = true := by
    obtain h | h := hdecided
    · simp [hstop, h]
    · simp [hstop, Option.isNone_eq_false_iff.mpr (Option.ne_none_iff_isSome.mp h)]
  unfold segmentBoundary
  dsimp only
  rw [hc]
  dsimp only
  rw [if_neg hopen]
  exact if_congr beq_iff_eq rfl rfl

theorem markerChangePoint_of_come {i : Nat} {x : Nat × Bool} (hc : changePoint d g = some (i, x)) (hi : i ≤ ballIndex d) :
    markerChangePoint g d = markerChange g d := by
  unfold markerChangePoint
  rw [hc]
  exact if_pos hi

theorem markerPulseEnd_of_come {m e : Nat} (hp : tget none (generator d g).pulseEnds m = some e) (he : e ≤ ballIndex d) :
    markerPulseEnd g m d = (
      let v := generator d g
      setMarkers g (maskOf 4 (fun n => bit v.markers n && n != m)) e
        (setGenerator g { v with pulseEnds := tset none v.pulseEnds m none } d)) := by
  unfold markerPulseEnd
  dsimp only
  rw [hp]
  exact if_pos he

/-- A whole entry marks all its sixteen bytes, whatever was marked before (R354). -/
theorem maskOf_wholeEntry (m v : Nat) :
    maskOf 16 (fun i => bit m i || (decide (0 ≤ i) && decide (i < 0 + (leBytes 16 v).length))) = 65535 := by
  have hall : maskOf 16 (fun i => bit m i || (decide (0 ≤ i) && decide (i < 0 + (leBytes 16 v).length))) = maskOf 16 (fun _ => true) :=
    List.foldl_ext _ _ _ fun acc i hi => by
      have hlt := List.mem_range.mp hi
      simp [hlt]
  rw [hall]
  decide

/-- The write of an entry of the entry memory (R354, R502). -/
theorem entryMemoryWrite_of_entry {e : Nat} (v : BitVec 128) (he : e < 2 ^ 20) :
    entryMemoryWrite g e v d = (
      let written := mirrorEntry g e (memWrite (entryBase g + 16 * e) (leBytes 16 v.toNat) d)
      match segOfEntry (generator d g) e with
      | none => written
      | some n =>
        if inRing d g n && !segLocked (generator d g) n then
          match segDef (generator d g) n with
          | some x =>
            if x.committed then written
            else tryCommit g n (setGenerator g (setSeg n (some { x with written := tset 0 x.written (e - x.first) 65535 })
              (generator d g)) written)
          | none => written
        else raiseEvent (0x2C2 + g) 1 (ballIndex d) e (setGenerator g { generator d g with
          lockedWrites := (generator d g).lockedWrites + 1, lockedWriteFlag := true } d)) := by
  unfold entryMemoryWrite writeEntry
  rw [if_neg (Nat.not_le.mpr he)]
  simp only [maskOf_wholeEntry, Nat.add_zero] <;> rfl

end

/-- Settles O41: the premises of each event open its guard, and what stands behind it is what the statement says. The order
in which a decision takes a STOP, a START and a request is a choice of the model (log entry 49). -/
theorem generatorRowsAct : Obligations.GeneratorRowsAct := by
  unfold Obligations.GeneratorRowsAct
  and_intros
  · intro s g b v hb hnone hnear
    exact act_next (decisionPoint_of_near hb hnone hnear)
  · intro s g b n v hs hb hdecided
    exact act_next (startBoundary_of_decided hs hb hdecided)
  · intro s g c hc hstop hdecided
    exact act_next (segmentBoundary_of_decided hc hstop hdecided)
  · intro s g i x hc hi
    exact act_next (markerChangePoint_of_come hc hi)
  · intro s g m e hp he
    exact act_next (markerPulseEnd_of_come hp he)
  · intro s g e v he
    exact act_next (entryMemoryWrite_of_entry v he)

end Sys2Proof.Proofs
end

section
/-! SUPPORT. Instructions of a Reed core that compute (R384, R388, R393): what a clean one retires with. -/

namespace Sys2Proof.Proofs

open Sys2Proof.Machine Sys2Proof.Safety Sys2Proof.Laws

/-- The outcome of an instruction about to issue whose effect on the settled core is known. -/
theorem issue_outcome {s : State} {n w : Nat} {ops : Nat → Bool} {body : Nat → ReedCore → Device → Device} {e : Device}
    (hi : issuesNext s.dev n w = true) (hop : ops (iOp w) = true)
    (h : body w (settled s.dev n) (setCore n (settled s.dev n) s.dev) = e) :
    act (issue n ops body) s = .next (after s e) :=
  (issue_next body hi hop).trans (by rw [h])

/-- An illegal word raises exception 1 (R386). -/
theorem issue_of_illegal {n : Nat} {ops : Nat → Bool} {body : Nat → ReedCore → Device → Device} {d : Device}
    (hruns : (Machine.core d n).mode = .running) (hwait : (Machine.core d n).wait = .none) (hstop : (Machine.core d n).stopping = [])
    (hop : ops (iOp (tget 0 (Machine.core d n).program (Machine.core d n).pc).toNat) = true)
    (hill : illegal (tget 0 (Machine.core d n).program (Machine.core d n).pc).toNat = true) :
    issue n ops body d = takeException n 1 (setCore n (settled d n) d) := by
  unfold issue
  dsimp only
  rw [if_neg (by rw [issues, hop]; simp [hruns, hwait, hstop])]
  exact if_pos hill

section
variable {n w : Nat} {v : ReedCore} {d : Device}

/-- An instruction that writes a vector and no flag. -/
theorem computeIssue_of_vecWrite {latency : Nat} {l : List Int} {ws : List (Nat × CoreWrite)}
    (hcomp : compute w v = vecWrite v (iD w) latency l)
    (hws : [(latency, .vec (physReg v (iD w)) (packLanes l))] ++ moved v w = ws) (hc : issuesClean v w ws = true) (hk : iOp w ≠ 1) :
    computeIssue n w v d = retire n ws v d :=
  compute_retires n w d (by rw [hcomp]; exact hws) (by rw [hcomp]; rfl) (by rw [hcomp]; rfl) hc hk

/-- An instruction that writes saturated lanes, SAT telling whether one was (R393). -/
theorem computeIssue_of_saturated {latency : Nat} {l : List (Int × Bool)} {ws : List (Nat × CoreWrite)}
    (hcomp : compute w v = { vecWrite v (iD w) latency (l.map (·.1)) with sat := l.any (·.2) })
    (hws : [(latency, .vec (physReg v (iD w)) (packLanes (l.map (·.1))))] ++ moved v w = ws) (hc : issuesClean v w ws = true)
    (hk : iOp w ≠ 1) :
    computeIssue n w v d = retire n ws { v with sat := v.sat || l.any (·.2) } d :=
  sat_retires n w d _ (by rw [hcomp]; exact hws) (by rw [hcomp]; rfl) (by rw [hcomp]) hc hk

/-- An instruction that writes an accumulator, AOV telling whether a lane left its 40 bits (R384). -/
theorem computeIssue_of_accWrite {fast slow : Nat} {exact : List Int} {ws : List (Nat × CoreWrite)}
    (hcomp : compute w v = accWrite (iD w) fast slow exact)
    (hws : [(fast, .fwd (iD w) ((exact.map acc40).map (·.1))), (slow, .acc (iD w) ((exact.map acc40).map (·.1)))] ++ moved v w = ws)
    (hc : issuesClean v w ws = true) (hk : iOp w ≠ 1) :
    computeIssue n w v d = retire n ws { v with aov := v.aov || (exact.map acc40).any (·.2) } d :=
  aov_retires n w d _ (by rw [hcomp]; exact hws) (by rw [hcomp]; rfl) (by rw [hcomp]; rfl) hc hk

/-- nop writes what its moves write. -/
theorem computeIssue_of_nop (hop : iOp w = 0) (hc : issuesClean v w (moved v w) = true) :
    computeIssue n w v d = retire n (moved v w) v d := by
  have hcomp : compute w v = {} := by simp [compute, hop]
  exact compute_retires n w d (by rw [hcomp]; rfl) (by rw [hcomp]) (by rw [hcomp]) hc (by simp [hop])

end

/-! ### What each opcode computes (R384) -/

section
variable {w : Nat} {v : ReedCore}

theorem compute_vmac (hop : iOp w = 0x02) :
    compute w v = accWrite (iD w) 1 3
      (zip8 (· + ·) (fwdLanes v (iD w)) (negIf (bit (iX w) 3) (zip8 (· * ·) (vecLanes v (iA w)) (vecLanes v (iB w))))) := by
  simp only [compute, hop]

theorem compute_vmul (hop : iOp w = 0x03) :
    compute w v = accWrite (iD w) 1 3
      (negIf (bit (iX w) 3) (zip8 (· * ·) (vecLanes v (iA w)) (vecLanes v (iB w)))) := by
  simp only [compute, hop]

theorem compute_vmacb (hop : iOp w = 0x04) :
    compute w v = accWrite (iD w) 1 3
      (zip8 (· + ·) (fwdLanes v (iD w)) (negIf (bit (iX w) 3) ((vecLanes v (iA w)).map (· * getLane (vecLanes v (iB w)) (iX w % 8))))) := by
  simp only [compute, hop]

theorem compute_vcmac (hop : iOp w = 0x05) :
    compute w v = accWrite (iD w) 1 3
      (zip8 (· + ·) (fwdLanes v (iD w)) (negIf (bit (iX w) 3) (complexLanes (bit (iX w) 0) (vecLanes v (iA w)) (vecLanes v (iB w))))) := by
  simp only [compute, hop]

theorem compute_vcmul (hop : iOp w = 0x06) :
    compute w v = accWrite (iD w) 1 3
      (negIf (bit (iX w) 3) (complexLanes (bit (iX w) 0) (vecLanes v (iA w)) (vecLanes v (iB w)))) := by
  simp only [compute, hop]

theorem compute_vpwr (hop : iOp w = 0x07) :
    compute w v = accWrite (iD w) 1 3
      (zip8 (· + ·) (fwdLanes v (iD w)) (powerLanes (vecLanes v (iA w)))) := by
  simp only [compute, hop]

theorem compute_accclr (hop : iOp w = 0x08) :
    compute w v = accWrite (iD w) 1 1
      zeroLanes := by
  simp only [compute, hop]

theorem compute_accadd (hop : iOp w = 0x09) :
    compute w v = accWrite (iD w) 1 3
      (zip8 (· + ·) (fwdLanes v (iD w)) (accLanes v (iA w))) := by
  simp only [compute, hop]

theorem compute_accsum (hop : iOp w = 0x0A) :
    compute w v = accWrite (iD w) 3 3
      ((accLanes v (iA w)).sum :: List.replicate 7 0) := by
  simp only [compute, hop]

theorem compute_vadd (hop : iOp w = 0x0C) :
    compute w v = vecWrite v (iD w) 2 ((zip8 (· + ·) (vecLanes v (iA w)) (vecLanes v (iB w))).map sat16) := by
  simp only [compute, hop]

theorem compute_vsub (hop : iOp w = 0x0D) :
    compute w v = vecWrite v (iD w) 2 ((zip8 (· - ·) (vecLanes v (iA w)) (vecLanes v (iB w))).map sat16) := by
  simp only [compute, hop]

theorem compute_vmax (hop : iOp w = 0x0E) :
    compute w v = vecWrite v (iD w) 2 (zip8 max (vecLanes v (iA w)) (vecLanes v (iB w))) := by
  simp only [compute, hop]

theorem compute_vmin (hop : iOp w = 0x0F) :
    compute w v = vecWrite v (iD w) 2 (zip8 min (vecLanes v (iA w)) (vecLanes v (iB w))) := by
  simp only [compute, hop]

theorem compute_vshl (hop : iOp w = 0x11) :
    compute w v = vecWrite v (iD w) 2 ((vecLanes v (iA w)).map (fun y => sat16 (y * 2 ^ iX w))) := by
  simp only [compute, hop]

theorem compute_valign (hop : iOp w = 0x12) :
    compute w v = vecWrite v (iD w) 2 ((((vecLanes v (iA w)) ++ (vecLanes v (iB w))).drop (iX w % 8)).take 8) := by
  simp only [compute, hop]

theorem compute_vmov (hop : iOp w = 0x13) :
    compute w v = vecWrite v (iD w) 1 (vecLanes v (iA w)) := by
  simp only [compute, hop]

theorem compute_vbcast (hop : iOp w = 0x14) :
    compute w v = vecWrite v (iD w) 1 (List.replicate 8 (getLane (vecLanes v (iA w)) (iX w % 8))) := by
  simp only [compute, hop]

theorem compute_vconj (hop : iOp w = 0x15) :
    compute w v = vecWrite v (iD w) 2 (((vecLanes v (iA w)).zipIdx).map (fun y => if y.2 % 2 == 1 then sat16 (-y.1) else y.1)) := by
  simp only [compute, hop]

theorem compute_vrnd (hop : iOp w = 0x0B) :
    compute w v = { vecWrite v (iD w) 2 (((accLanes v (iA w)).map (fun y => convSat y (iB w))).map (·.1)) with
      sat := ((accLanes v (iA w)).map (fun y => convSat y (iB w))).any (·.2) } := by
  simp only [compute, hop]

theorem compute_vshr (hop : iOp w = 0x10) :
    compute w v = { vecWrite v (iD w) 2 (((vecLanes v (iA w)).map (fun y => convSat y (iX w))).map (·.1)) with
      sat := ((vecLanes v (iA w)).map (fun y => convSat y (iX w))).any (·.2) } := by
  simp only [compute, hop]

end

/-- Settles O51: each instruction computes what R384 gives its opcode, and a clean one retires with that. -/
theorem reedVectorOps : Obligations.ReedVectorOps := by
  unfold Obligations.ReedVectorOps
  and_intros
  · intro s n w hi hop v ws hc
    exact issue_outcome hi (by simp [hop]) (computeIssue_of_vecWrite (compute_vadd hop) rfl hc (by simp [hop]))
  · intro s n w hi hop v ws hc
    exact issue_outcome hi (by simp [hop]) (computeIssue_of_vecWrite (compute_vsub hop) rfl hc (by simp [hop]))
  · intro s n w hi hop v ws hc
    exact issue_outcome hi (by simp [hop]) (computeIssue_of_vecWrite (compute_vmax hop) rfl hc (by simp [hop]))
  · intro s n w hi hop v ws hc
    exact issue_outcome hi (by simp [hop]) (computeIssue_of_vecWrite (compute_vmin hop) rfl hc (by simp [hop]))
  · intro s n w hi hop v ws hc
    exact issue_outcome hi (by simp [hop]) (computeIssue_of_vecWrite (compute_vshl hop) rfl hc (by simp [hop]))
  · intro s n w hi hop v ws hc
    exact issue_outcome hi (by simp [hop]) (computeIssue_of_vecWrite (compute_valign hop) rfl hc (by simp [hop]))
  · intro s n w hi hop v ws hc
    exact issue_outcome hi (by simp [hop]) (computeIssue_of_vecWrite (compute_vmov hop) rfl hc (by simp [hop]))
  · intro s n w hi hop v ws hc
    exact issue_outcome hi (by simp [hop]) (computeIssue_of_vecWrite (compute_vbcast hop) rfl hc (by simp [hop]))
  · intro s n w hi hop v ws hc
    exact issue_outcome hi (by simp [hop]) (computeIssue_of_vecWrite (compute_vconj hop) rfl hc (by simp [hop]))
  · intro s n w hi hop v l ws hc
    exact issue_outcome hi (by simp [hop]) (computeIssue_of_saturated (compute_vrnd hop) rfl hc (by simp [hop]))
  · intro s n w hi hop v l ws hc
    exact issue_outcome hi (by simp [hop]) (computeIssue_of_saturated (compute_vshr hop) rfl hc (by simp [hop]))
  · intro s n w hi hop v hc
    exact issue_outcome hi (by simp [hop]) (step_retires n.val w _ hop hc)
  · intro s n w hi hop v hc
    exact issue_outcome hi (by simp [reservedOp, hop]) (computeIssue_of_nop hop hc)
  · intro s n u w hruns hwait hstop hop hill
    exact act_next (issue_of_illegal hruns hwait hstop hop hill)

/-- Settles O52: the same for the instructions that write an accumulator. -/
theorem reedAccumulatorOps : Obligations.ReedAccumulatorOps := by
  unfold Obligations.ReedAccumulatorOps
  and_intros
  · intro s n w hi hop v l ws hc
    exact issue_outcome hi (by simp [hop]) (computeIssue_of_accWrite (compute_vmac hop) rfl hc (by simp [hop]))
  · intro s n w hi hop v l ws hc
    exact issue_outcome hi (by simp [hop]) (computeIssue_of_accWrite (compute_vmul hop) rfl hc (by simp [hop]))
  · intro s n w hi hop v l ws hc
    exact issue_outcome hi (by simp [hop]) (computeIssue_of_accWrite (compute_vmacb hop) rfl hc (by simp [hop]))
  · intro s n w hi hop v l ws hc
    exact issue_outcome hi (by simp [hop]) (computeIssue_of_accWrite (compute_vcmac hop) rfl hc (by simp [hop]))
  · intro s n w hi hop v l ws hc
    exact issue_outcome hi (by simp [hop]) (computeIssue_of_accWrite (compute_vcmul hop) rfl hc (by simp [hop]))
  · intro s n w hi hop v l ws hc
    exact issue_outcome hi (by simp [hop]) (computeIssue_of_accWrite (compute_vpwr hop) rfl hc (by simp [hop]))
  · intro s n w hi hop v l ws hc
    exact issue_outcome hi (by simp [hop]) (computeIssue_of_accWrite (compute_accclr hop) rfl hc (by simp [hop]))
  · intro s n w hi hop v l ws hc
    exact issue_outcome hi (by simp [hop]) (computeIssue_of_accWrite (compute_accadd hop) rfl hc (by simp [hop]))
  · intro s n w hi hop v l ws hc
    exact issue_outcome hi (by simp [hop]) (computeIssue_of_accWrite (compute_accsum hop) rfl hc (by simp [hop]))

end Sys2Proof.Proofs
end

section
/-! SUPPORT. Register and flow instructions of a Reed core (R385, R390, R391): what each does where it raises no exception. -/

namespace Sys2Proof.Proofs

open Sys2Proof.Machine Sys2Proof.Safety Sys2Proof.Laws

section
variable {n w : Nat} {v : ReedCore} {d : Device}

/-- An instruction that only writes registers retires with its writes where they clash with none and its address is aligned. -/
theorem registerIssue_of_clean {writes : Nat → ReedCore → List (Nat × CoreWrite)} {odd : Nat → ReedCore → Bool}
    (hclash : clash v (writes w v) = false) (hodd : odd w v = false) :
    registerIssue n writes odd w v d = retire n (writes w v) v d := by
  unfold registerIssue
  rw [hclash, hodd]
  rfl

theorem loopIssue_of_fits (h : flowException w v = none) : loopIssue n w v d = setCore n (pushLoop w (issueWrites [] 1 v)) d := by
  unfold loopIssue
  rw [h]

theorem branchIssue_of_fits (h : flowException w v = none) :
    branchIssue n w v d =
      if branchTaken w v then setCore n (branchTo (bits w 0 13) (issueWrites [] 4 v)) d else retire n [] v d := by
  unfold branchIssue
  rw [h]

end

/-- Settles O53: a core about to issue runs the instruction's own part, and the premises shut its exceptions out. That lda takes only
aligned addresses is a choice of the model (log entry 116). -/
theorem reedRegisterOps : Obligations.ReedRegisterOps := by
  unfold Obligations.ReedRegisterOps
  and_intros
  · intro s n w hi hop v ws hclash
    exact issue_outcome hi (by simp [hop]) (registerIssue_of_clean (writes := setaWrites) hclash rfl)
  · intro s n w hi hop v ws hclash
    exact issue_outcome hi (by simp [hop]) (registerIssue_of_clean (writes := setmWrites) hclash rfl)
  · intro s n w hi hop v ws hclash
    exact issue_outcome hi (by simp [hop]) (registerIssue_of_clean (writes := addaWrites) hclash rfl)
  · intro s n w hi hop v a ws haligned hclash
    exact issue_outcome hi (by simp [hop]) (registerIssue_of_clean (writes := ldaWrites) hclash (bne_eq_false_iff_eq.mpr haligned))
  · intro s n w hi hop v hfits
    exact issue_outcome hi (by simp [hop]) (loopIssue_of_fits hfits)
  · intro s n w hi hop v hfits
    exact issue_outcome hi (by simp [hop]) (branchIssue_of_fits hfits)
  · intro s n w hi hop
    exact issue_outcome (body := stopIssue n.val) hi (by simp [hop]) rfl

end Sys2Proof.Proofs
end

section
/-! SUPPORT. The services of a Reed core (R385, R390, R399-R412): what each does where it raises no exception, and the ends of what it
starts. -/

namespace Sys2Proof.Proofs

open Sys2Proof.Machine Sys2Proof.Safety Sys2Proof.Laws

section
variable {n w : Nat} {v : ReedCore} {d : Device}

/-- bget of a port that is bound: what the port holds is released, and the next batch is taken or awaited (R399). -/
theorem bgetIssue_of_bound {i : Nat} {b : Binding} (hclash : clash v [(1, .addr (iD w) 0)] = false)
    (hport : portBinding d n (bits (iX w) 0 2) = some (i, b)) :
    bgetIssue n w v d = takeBatch n (bits (iX w) 0 2) (iD w) (releaseHeld i (bit (iX w) 2)
      (swapBlocks [0x0D00 + n] (retireCycles n 0 [] v d))) := by
  unfold bgetIssue
  dsimp only
  rw [if_neg (Bool.eq_false_iff.mp hclash), hport]

/-- An even address raises no exception. -/
theorem odd_guard_of_even {a : Nat} (h : a % 2 = 0) : (a % 2 == 1) = false := by simp [h]

/-- bput of a block of 1 to 4,040 bytes (R403). -/
theorem bputIssue_of_block (heven : aReg v (iD w) % 2 = 0) (hpos : 0 < ramNat v .y (aReg v (iD w)) 2)
    (hmax : ramNat v .y (aReg v (iD w)) 2 ≤ 4040) :
    bputIssue n w v d = (
      let a := aReg v (iD w)
      let e := retire n [] v d
      let u := Machine.core e n
      match v.current with
      | none => e
      | some b =>
        if u.outputs.length < 4 then setCore n { u with outputs := u.outputs ++ [outputOf v n a b] } e
        else setCore n { u with heldOutput := some (outputOf v n a b), wait := .outputSlot, mode := .waiting } e) := by
  have hcause : firstCause [(aReg v (iD w) % 2 == 1, 3),
      (ramNat v .y (aReg v (iD w)) 2 == 0 || decide (4040 < ramNat v .y (aReg v (iD w)) 2), 9)] = none := by
    simp [firstCause, heven, hpos.ne', hmax]
  unfold bputIssue
  dsimp only
  rw [hcause] <;> rfl

theorem evtIssue_of_even (heven : aReg v (iD w) % 2 = 0) :
    evtIssue n w v d = (
      let a := aReg v (iD w)
      let e := retire n [] v d
      if v.current == some (trigN e (0x41 + bits (iX w) 0 1)) then
        postEvent (pulseEvent (42 + bits (iX w) 0 1) (ramNat v .y a 8) (some (ramNat v .y (a + 8) 2)) false) e
      else e) :=
  if_neg (Bool.eq_false_iff.mp (odd_guard_of_even heven))

/-- xfer of a descriptor that names a transfer: queued, or awaited while four are outstanding (R390, R406). -/
theorem xferIssue_of_transfer {x : CoreXfer} (heven : aReg v (iD w) % 2 = 0) (hx : xferOf d n w v = some x) :
    xferIssue n w v d = (
      let f := retire n [] v d
      let u := Machine.core f n
      if u.xfers.length < 4 then setCore n { u with xfers := u.xfers ++ [x] } f
      else setCore n { u with wait := .xferSlot x, mode := .waiting } f) := by
  unfold xferIssue
  rw [if_neg (Bool.eq_false_iff.mp (odd_guard_of_even heven)), hx]

/-- The oldest transfer of a core completes (R406). -/
theorem windowTransferComplete_of_oldest {x : CoreXfer} {rest : List CoreXfer} (hx : (Machine.core d n).xfers = x :: rest) :
    windowTransferComplete n d = (
      let d := moveBytes n x d
      let e := setCore n { Machine.core d n with xfers := rest } d
      settleStop n (match (Machine.core e n).wait with
        | .xferSlot _ => resumeCore n e
        | .xfers => if rest.isEmpty then resumeCore n e else e
        | _ => e)) := by
  unfold windowTransferComplete
  rw [hx] <;> rfl

/-- The oldest output block of a core becomes its record (R403). -/
theorem outputBlockComplete_of_oldest {o : CoreOutput} {rest : List CoreOutput} (ho : (Machine.core d n).outputs = o :: rest) :
    outputBlockComplete n d = (
      let v := Machine.core d n
      let d := setCore n { v with outputs := rest ++ v.heldOutput.toList, heldOutput := none } d
      let e := if v.wait == .outputSlot then resumeCore n d else d
      settleStop n (emitRec {
        type := 0x0D, source := 0x8000 + o.binding, flags := headerFlags e [], firstIndex := o.firstIndex
        generation := o.gen, payload := o.payload } e)) := by
  unfold outputBlockComplete
  rw [ho]
  rfl

/-- The watchdog of a core that is at work outside bget (R410). -/
theorem watchdog_of_active (hon : cfgN d 0x0D n 1 ≠ 0) (hactive : coreActive (Machine.core d n) = true)
    (houtside : ∀ p a, (Machine.core d n).wait ≠ .batch p a) :
    watchdog n d = (
      let e := takeException n 6 (setCore n { Machine.core d n with stopping := [] } d)
      (Machine.core d n).stopping.foldl (fun d p => complete p .ok [] d) e) := by
  have hopen : (cfgN d 0x0D n 1 != 0 && coreActive (Machine.core d n)) = true := by simp [hon, hactive]
  unfold watchdog
  dsimp only
  rw [hopen]
  cases hwait : (Machine.core d n).wait with
  | batch p a => exact absurd hwait (houtside p a)
  | _ => rfl

end

/-- Settles O54: a core about to issue runs the instruction's own part, and the premises shut its exceptions out. That a bput before the
first bget forms no record, and that all bytes of a transfer move at its completion, are choices of the model (log entries 50 and 85). -/
theorem reedCoreServices : Obligations.ReedCoreServices := by
  unfold Obligations.ReedCoreServices
  and_intros
  · intro s n w i b hi hop v e port hclash hport
    exact issue_outcome hi (by simp [hop]) (bgetIssue_of_bound hclash hport)
  · intro s n w hi hop v a e u heven hpos hmax
    exact issue_outcome hi (by simp [hop]) (bputIssue_of_block heven hpos hmax)
  · intro s n w hi hop v a e heven
    exact issue_outcome hi (by simp [hop]) (evtIssue_of_even heven)
  · intro s n w hi hop
    exact issue_outcome (body := sigIssue n.val) hi (by simp [hop]) rfl
  · intro s n w x hi hop v e f u heven hx
    exact issue_outcome hi (by simp [hop]) (xferIssue_of_transfer heven hx)
  · intro s n w hi hop
    exact issue_outcome (body := xwaitIssue n.val) hi (by simp [hop]) rfl
  · intro s n x rest hx
    exact act_next (windowTransferComplete_of_oldest hx)
  · intro s n o rest ho
    exact act_next (outputBlockComplete_of_oldest ho)
  · intro s n hon hactive houtside
    exact act_next (watchdog_of_active hon hactive houtside)

end Sys2Proof.Proofs
end

section
/-! SUPPORT. Kernels (R394-R409): what KERNEL_LOAD and KERNEL_RUN do behind their checks, and the delivery of a batch. -/

namespace Sys2Proof.Proofs

open Sys2Proof.Machine Sys2Proof.Safety Sys2Proof.Laws

section
variable {p : Packet} {d : Device}

/-- KERNEL_LOAD of a valid image into cores that rest in enabled clusters (R408). -/
theorem kernelLoad_of_image (hz : reservedZero p [(0, 17)] = true) (hstart : pByte p 16 ≤ 1) (hmin : 80 ≤ p32 p 4)
    (hr : reachable d .cp false (p64 p 8) (p32 p 4) = true) (himg : imageOk (memRead d (p64 p 8) (p32 p 4)) = true)
    (hrest : (maskCores (p32 p 0)).any (fun c => coreActive (Machine.core d c)) = false)
    (hon : (maskCores (p32 p 0)).any (fun c => !clusterOn d c) = false) :
    kernelLoad p d = (
      let img := memRead d (p64 p 8) (p32 p 4)
      complete p .ok [] ((maskCores (p32 p 0)).foldl (fun d c => setCore c
        (if pByte p 16 == 1 then startCore (loadCore img (Machine.core d c)) else loadCore img (Machine.core d c)) d) d)) := by
  unfold kernelLoad
  dsimp only
  rw [if_neg (by simp [hz, hstart, hmin, hr]), if_neg (by simp [himg]), if_neg (Bool.eq_false_iff.mp hrest),
    if_neg (Bool.eq_false_iff.mp hon)]

/-- The binding that BIND makes, from the boundary `start` of its source (R394). -/
def boundKernel (p : Packet) (start : Nat) (d : Device) : Binding :=
  let kind := bindKind (pByte p 4)
  { packet := p, core := pByte p 2, port := pByte p 3, kind := kind, batchLog2 := pByte p 5, source := p16 p 6
    xRegion := p32 p 8, yHdr := p32 p 12, memAddr := p64 p 24, memLen := p64 p 32, firstBin := p16 p 42
    begins := if kind == .lane || kind == .slot then some start else none
    position := if kind == .ring then (stream d (p16 p 6)).hostOffset else 0 }

/-- BIND of a free port to a ready source, into a free binding and with room in Loft (R394). -/
theorem kernelBind_of_free {n : Nat} (hp : bindParamsOk d p = true)
    (hn : (if pByte p 1 = 255 then lowestFree d else some (pByte p 1)) = some n) (hfree : binding d n = none)
    (hport : portBinding d (pByte p 2) (pByte p 3) = none) (hon : clusterOn d (pByte p 2) = true)
    (hsource : sourceReady d (bindKind (pByte p 4)) (p16 p 6) = true)
    (hroom : let c := ratedValues d false (cfgVal d)
      let loads := loftBuffers d c (bindingLoads d c ++ [bindingLoad c (bindKind (pByte p 4)) (p16 p 6) (pByte p 5) (p16 p 42)])
      loftOk loads = true ∧ banksOk loads = true) :
    kernelBind p d = (
      let start := bindBoundary d p (bindKind (pByte p 4))
      complete p .ok (leBytes 1 n ++ zeroBytes 7 ++ leBytes 8 start) (setBinding n (some (boundKernel p start d)) d)) := by
  obtain ⟨hloft, hbanks⟩ := hroom
  have hwant : (if pByte p 1 == 255 then lowestFree d else some (pByte p 1)) = some n := by simpa using hn
  unfold kernelBind
  dsimp only
  rw [if_neg (by simp [hp]), hwant]
  dsimp only
  rw [if_neg (by simp [hfree, hport, hon, hsource]), if_neg (by simp [hloft]), if_neg (by simp [hbanks])]
  rfl

/-- UNBIND of a binding discards what waits and settles once the core holds nothing (R409). -/
theorem kernelUnbind_of_bound {b : Binding} (hz : kernelReserved p = true) (hn : pByte p 1 ≤ 127) (hb : binding d (pByte p 1) = some b)
    (hfirst : b.unbinding = none) :
    kernelUnbind p d = (
      let c := { b with unbinding := some p, partialBatch := none, stall := [], ready := [], request := false }
      settleUnbind (pByte p 1) (wakeCore c (park p (setBinding (pByte p 1) (some c) d)))) := by
  unfold kernelUnbind
  dsimp only
  rw [if_neg (by simp [hz, hn]), hb]
  exact if_neg (by simp [hfirst])

theorem kernelStart_of_loaded (hz : kernelReserved p = true) (hn : pByte p 2 ≤ 31) (hl : (Machine.core d (pByte p 2)).loaded = true)
    (hrest : coreActive (Machine.core d (pByte p 2)) = false) (hon : clusterOn d (pByte p 2) = true) :
    kernelStart p d = complete p .ok [] (setCore (pByte p 2) (startCore (Machine.core d (pByte p 2))) d) := by
  unfold kernelStart
  dsimp only
  rw [if_neg (by simp [hz, hn]), if_neg (by simp [hl, hrest, hon])]

theorem kernelStop_of_not_faulted (hz : kernelReserved p = true) (hn : pByte p 2 ≤ 31) (hm : (Machine.core d (pByte p 2)).mode ≠ .faulted) :
    kernelStop p d = (
      let v := Machine.core d (pByte p 2)
      settleStop (pByte p 2) (clearRequests (pByte p 2) (park p (setCore (pByte p 2) { v with stopping := v.stopping ++ [p] } d)))) := by
  unfold kernelStop
  dsimp only
  rw [if_neg (by simp [hz, hn]), if_neg (by simpa using hm)]

/-- Into a next buffer that the kernel has released the oldest batch is delivered (R399). -/
theorem batchDelivery_of_released {n : Nat} {b : Binding} (hb : binding (formBatches n 4 d) n = some b) (hbound : b.unbinding = none)
    (hready : b.ready.contains b.nextBuffer = false) (hheld : b.held.contains b.nextBuffer = false) :
    batchDelivery n d =
      match b.stall with
      | x :: rest => settleMemory n (deliver n x (setBinding n (some { b with stall := rest }) (formBatches n 4 d)))
      | [] => settleMemory n (formBatches n 4 d) := by
  have hopen : ¬ (b.unbinding.isSome || b.ready.contains b.nextBuffer || b.held.contains b.nextBuffer) = true := by
    rw [hbound, hready, hheld]
    decide
  unfold batchDelivery
  dsimp only
  rw [hb]
  exact if_neg hopen

end

/-- Settles O55: an admitted packet runs its operation, and the premises are the checks of that operation. That UNBIND discards the batches
that wait is a choice of the model (log entry 50). -/
theorem kernelCommandsAct : Obligations.KernelCommandsAct := by
  unfold Obligations.KernelCommandsAct
  and_intros
  · intro s p ha hz hstart hmin cs d hr himg hrest hon img
    exact admitted_next ha (kernelLoad_of_image hz hstart hmin hr himg hrest hon)
  · intro s p n ha kind d hp hn hfree hport hon hsource c loads hloft hbanks start
    exact admitted_next ha (kernelBind_of_free hp hn hfree hport hon hsource ⟨hloft, hbanks⟩)
  · intro s p b ha hz hn d hb hfirst c
    exact admitted_next ha (kernelUnbind_of_bound hz hn hb hfirst)
  · intro s p ha hz hn d v hl hrest hon
    exact admitted_next ha (kernelStart_of_loaded hz hn hl hrest hon)
  · intro s p ha hz hn d v hm
    exact admitted_next ha (kernelStop_of_not_faulted hz hn hm)
  · intro s p ha hz hn
    exact admitted_next ha (if_neg (by simp [hz, hn]))
  · intro s n b d hb hbound hready hheld
    exact act_next (batchDelivery_of_released hb hbound hready hheld)

end Sys2Proof.Proofs
end

section
/-! SUPPORT. The CP's own commands and the queues (R425-R431, R448, R454): what each command and event does where its checks let it. -/

namespace Sys2Proof.Proofs

open Sys2Proof.Machine Sys2Proof.Safety Sys2Proof.Laws

/-! ### Commands -/

section
variable {p : Packet} {d : Device}

theorem queueCreate_of_requested (hp : queueParamsOk d p = true) (hid : pByte p 1 ≠ 0xFF)
    (hfree : queueExists d (pByte p 0) (pByte p 1) = false) :
    queueCreate p d = complete p .ok (leBytes 1 (pByte p 1)) (makeQueue (pByte p 0) (pByte p 1) p d) := by
  unfold queueCreate
  dsimp only
  rw [if_neg (by simp [hp]), if_neg (by simpa using hid), if_neg (Bool.eq_false_iff.mp hfree)]

theorem queueCreate_of_lowest {i : Nat} (hp : queueParamsOk d p = true) (hid : pByte p 1 = 0xFF)
    (hi : (List.range 64).find? (fun i => i != 0 && !queueExists d (pByte p 0) i) = some i) :
    queueCreate p d = complete p .ok (leBytes 1 i) (makeQueue (pByte p 0) i p d) := by
  unfold queueCreate
  dsimp only
  rw [if_neg (by simp [hp]), if_pos (by simp [hid]), hi]

/-- The kind, the ID and the reserved bytes of QUEUE_DELETE are good (R428). -/
theorem deleteParams_pass (hz : reservedZero p [(0, 2)] = true) (hk : pByte p 0 < 2) (hlo : 1 ≤ pByte p 1) (hhi : pByte p 1 ≤ 63) :
    ¬ (!reservedZero p [(0, 2)] || decide (2 ≤ pByte p 0) || pByte p 1 == 0 || decide (63 < pByte p 1)) = true := by
  simp [hz, hk, Nat.one_le_iff_ne_zero.mp hlo, hhi]

/-- A completion queue that nothing names is free at once (R428). -/
theorem queueDelete_of_unnamed (hz : reservedZero p [(0, 2)] = true) (hk : pByte p 0 = 1) (hlo : 1 ≤ pByte p 1) (hhi : pByte p 1 ≤ 63)
    (hlive : (cplQueue d (pByte p 1)).live = true) (hun : cqNamed d (pByte p 1) = false) :
    queueDelete p d = complete p .ok [] (setCplQueue (pByte p 1) {} d) := by
  unfold queueDelete
  dsimp only
  rw [if_neg (deleteParams_pass hz (by omega) hlo hhi), if_neg (by simp [queueExists, hk, hlive]), if_pos (by simp [hk]),
    if_neg (Bool.eq_false_iff.mp hun)]

/-- A submission queue without a command in flight is emptied and vanishes (R428). -/
theorem queueDelete_of_idle (hz : reservedZero p [(0, 2)] = true) (hk : pByte p 0 = 0) (hlo : 1 ≤ pByte p 1) (hhi : pByte p 1 ≤ 63)
    (hlive : (subQueue d (pByte p 1)).live = true) (hfirst : (subQueue d (pByte p 1)).deleting = none)
    (hidle : earlierRuns d (pByte p 1) = false) :
    queueDelete p d = settleDeletes (setSubQueue (pByte p 1)
      { subQueue d (pByte p 1) with tail := (subQueue d (pByte p 1)).head, deleting := some p } d) := by
  unfold queueDelete
  dsimp only
  rw [if_neg (deleteParams_pass hz (by omega) hlo hhi), if_neg (by simp [queueExists, hk, hlive]), if_neg (by simp [hk]),
    if_neg (by simp [hfirst]), if_neg (Bool.eq_false_iff.mp hidle)]

end

/-- Settles O14: an admitted packet runs its command, and the premises are the checks of that command. -/
theorem queueAndQuietCommandsComplete : Obligations.QueueAndQuietCommandsComplete := by
  unfold Obligations.QueueAndQuietCommandsComplete
  and_intros
  · exact fun s p ha hz => admitted_next (body := nop) ha (if_pos hz)
  · exact fun s p ha hz => admitted_next (body := identify) ha (if_pos hz)
  · exact fun s p ha hz => admitted_next (body := getStatus) ha (if_pos hz)
  · intro s p ha hp hid hk hfree
    exact admitted_next ha ((queueCreate_of_requested hp hid (by rwa [hk])).trans (by rw [makeQueue, if_pos (by simp [hk])]))
  · intro s p ha hp hid hk hfree
    exact admitted_next ha ((queueCreate_of_requested hp hid (by rwa [hk])).trans (by rw [makeQueue, if_neg (by simp [hk])]))
  · intro s p i ha hp hid hi
    exact admitted_next ha (queueCreate_of_lowest hp hid hi)
  · intro s p ha hz hk hlo hhi hlive hun
    exact admitted_next ha (queueDelete_of_unnamed hz hk hlo hhi hlive hun)
  · intro s p ha hz hk hlo hhi hlive hfirst hidle
    exact admitted_next ha (queueDelete_of_idle hz hk hlo hhi hlive hfirst hidle)

/-! ### ENABLE and its clear (R425) -/

section
variable {d : Device}

/-- ENABLE acts where the host reaches BAR0 and ENABLE is clear. -/
theorem enable_guard_open (hlink : hostLink d = true) (hoff : d.host.enable = false) : ¬ (!hostLink d || d.host.enable) = true := by
  simp [hlink, hoff]

theorem enable_of_adminOk (hlink : hostLink d = true) (hoff : d.host.enable = false) (hok : adminOk d.host = true) :
    enable d =
      setCplQueue 0 { live := true, entries := bits d.host.aqSize 16 12 + 1, base := hostBase + d.host.acqBase % 2 ^ 51
                      vector := 0, coCount := bits d.host.aqCoalesce 0 8, coUs := bits d.host.aqCoalesce 16 16 }
        (setSubQueue 0 { live := true, entries := bits d.host.aqSize 0 12 + 1, base := hostBase + d.host.asqBase % 2 ^ 51, cq := 0 }
          { d with host := { d.host with enable := true, enabled := true } }) :=
  (if_neg (enable_guard_open hlink hoff)).trans (if_neg (by simp [hok]))

theorem enable_of_adminBad (hlink : hostLink d = true) (hoff : d.host.enable = false) (hbad : adminOk d.host = false) :
    enable d = { d with host := { d.host with enable := true, enableError := true } } :=
  (if_neg (enable_guard_open hlink hoff)).trans (if_pos (by simp [hbad]))

end

/-- Settles O15: the two outcomes of ENABLE, and what its clear leaves. That ENABLE acts in every state in which BAR0 answers, that a base
wraps at 2^51, and what a Function Level Reset clears of PCIe are choices of the model (log entries 54, 56 and 15). -/
theorem enableStartsAdminQueues : Obligations.EnableStartsAdminQueues := by
  unfold Obligations.EnableStartsAdminQueues
  and_intros
  · intro s hlink hoff hok
    exact act_next (enable_of_adminOk hlink hoff hok)
  · intro s hlink hoff hbad
    exact act_next (enable_of_adminBad hlink hoff hbad)
  · intro s hlink
    exact ⟨_, act_next (f := enableClear) (if_pos hlink), rfl, rfl, rfl, rfl, rfl, rfl, rfl, rfl, rfl, rfl, rfl⟩
  · intro s hlink
    exact ⟨_, act_next (f := functionLevelReset) (if_pos hlink), rfl, rfl, rfl, rfl, rfl, rfl, rfl, rfl, rfl, rfl, rfl⟩

/-! ### Entries, signals and fetches (R429-R431, R454) -/

section
variable {d : Device} {q : Nat}

/-- A completion queue has a released slot, and no write error stands (R431). -/
theorem completionWrite_guard_open (hlive : (cplQueue d q).live = true) (hok : (cplQueue d q).writeError = false)
    (hfree : slotFree (cplQueue d q) = true) :
    ¬ (!(cplQueue d q).live || (cplQueue d q).writeError || !slotFree (cplQueue d q)) = true := by
  simp [hlive, hok, hfree]

theorem completionWrite_of_waiting {e : WaitingEntry} {rest : List WaitingEntry} (hlive : (cplQueue d q).live = true)
    (hok : (cplQueue d q).writeError = false) (hfree : slotFree (cplQueue d q) = true) (hw : (cplQueue d q).waiting = e :: rest) :
    completionWrite q true d = settleDeletes (dropFlightOpt e.frees
      (writeSlot q e.bytes (setCplQueue q { cplQueue d q with waiting := rest } d))) := by
  unfold completionWrite
  dsimp only
  rw [if_neg (completionWrite_guard_open hlive hok hfree), if_neg (by simp), hw]

theorem completionWrite_of_failure (hlive : (cplQueue d q).live = true) (hok : (cplQueue d q).writeError = false)
    (hfree : slotFree (cplQueue d q) = true) :
    completionWrite q false d = raiseEvent 0x000 2 (ballIndex d) 0 (setCplQueue q { cplQueue d q with writeError := true } d) :=
  (if_neg (completionWrite_guard_open hlive hok hfree)).trans (if_pos rfl)

theorem commandFetch_of_turn {turn : Nat × Nat} (ok : Bool) (hm : mayFetch d = true) (hq : nextQueue d = some (q, turn)) :
    commandFetch ok d =
      if !ok then raiseEvent 0x000 1 (ballIndex d) 0 (setSubQueue q { subQueue d q with fetchError := true } d)
      else
        let e := { d with host := { d.host with turn := turn } }
        runPacket (takeEntry q e).1 (takeEntry q e).2 := by
  unfold commandFetch
  rw [if_neg (by simp [hm]), hq]

end

/-- Settles O17: the premises of each event open its guard, and what stands behind it is what the statement says. That a failing write
with no entry waiting sets WRITE_ERROR too is a choice of the model (log entry 54). -/
theorem entriesReachTheHost : Obligations.EntriesReachTheHost := by
  unfold Obligations.EntriesReachTheHost
  and_intros
  · intro s q e rest hlive hok hfree hw
    exact act_next (completionWrite_of_waiting hlive hok hfree hw)
  · intro s q hlive hok hfree
    exact act_next (completionWrite_of_failure hlive hok hfree)
  · intro s q hlive hus hn
    exact act_next (f := coalesceTimeout q.val) (if_neg (by simp [hlive, hus, hn]))
  · intro s v hlink
    exact act_next (f := msixUnmask v.val) (if_neg (by simp [hlink]))
  · intro s q turn hm hq
    exact act_next (commandFetch_of_turn true hm hq)
  · intro s q turn hm hq
    exact act_next (commandFetch_of_turn false hm hq)

end Sys2Proof.Proofs
end

section
/-! SUPPORT. The host's windows and the management port (R418-R421, R457-R459): where each access has its effect. -/

namespace Sys2Proof.Proofs

open Sys2Proof.Machine Sys2Proof.Safety Sys2Proof.Laws

section
variable {d : Device} {off : Nat}

/-! ### Registers -/

theorem registerWrite_of_dword (v : Nat) (hlink : hostLink d = true) (hal : off % 4 = 0) :
    registerWrite off false v d = writeDword off (v % 2 ^ 32) d :=
  (if_neg (by simp [hlink, hal])).trans (if_neg Bool.false_ne_true)

theorem registerWrite_of_qword (v : Nat) (hlink : hostLink d = true) (hal : off % 8 = 0) :
    registerWrite off true v d = writeDword (off + 4) (v / 2 ^ 32 % 2 ^ 32) (writeDword off (v % 2 ^ 32) d) :=
  (if_neg (by simp [hlink, hal])).trans (if_pos rfl)

theorem writeDword_scratch (x : Nat) : writeDword 0x0C x d = { d with host := { d.host with scratch := x } } := rfl

theorem writeDword_lower_half (x : Nat) (hoff : wideRegister off = true) :
    writeDword off x d = { d with host := { d.host with lowHalves := tset 0 d.host.lowHalves off x } } :=
  if_pos hoff

/-- The upper half of an 8-byte register writes it whole. -/
theorem writeDword_upper_half (x : Nat) (hoff : wideRegister off = true) (hupper : wideRegister (off + 4) = false) :
    writeDword (off + 4) x d = writeWide off (tget 0 d.host.lowHalves off + x * 2 ^ 32) d := by
  unfold writeDword
  rw [if_neg (Bool.eq_false_iff.mp hupper), if_pos (by simp [hoff]), Nat.add_sub_cancel]

theorem wideRegister_offsets (hoff : off = 0x10 ∨ off = 0x18 ∨ off = 0x28 ∨ off = 0x80) :
    wideRegister off = true ∧ wideRegister (off + 4) = false := by
  obtain rfl | rfl | rfl | rfl := hoff <;> decide

/-- An 8-byte write of an 8-byte register: its lower half is kept, the upper writes it whole. -/
theorem writeDword_both_halves (lo hi : Nat) (hoff : off = 0x10 ∨ off = 0x18 ∨ off = 0x28 ∨ off = 0x80) :
    writeDword (off + 4) hi (writeDword off lo d) = (
      let halves := tset 0 d.host.lowHalves off lo
      writeWide off (tget 0 halves off + hi * 2 ^ 32) { d with host := { d.host with lowHalves := halves } }) := by
  obtain ⟨hwide, hupper⟩ := wideRegister_offsets hoff
  rw [writeDword_lower_half lo hwide, writeDword_upper_half hi hwide hupper]

/-! ### Configuration space (R531) -/

theorem configRequest_of_released (r : ConfigReq) (hup : d.host.linkUp = true) (hready : d.host.configReady = true) :
    configRequest r d =
      match r with
      | .read off => { d with host := { d.host with configAnswer := some (configRead off) } }
      | .msixControl e m => (List.range 256).foldl (fun d v => flushVector v d)
          { d with host := { d.host with msixEnable := e, functionMask := m, configAnswer := some 0 } }
      | .resizeBar4 n => { d with host := { d.host with
          bar4Log2 := if 30 ≤ n ∧ n ≤ 41 then n else d.host.bar4Log2, configAnswer := some 0 } } := by
  unfold configRequest
  rw [if_neg (by simp [hup]), if_neg (by simp [hready])]
  cases r with
  | read off => rfl
  | msixControl e m => rfl
  | resizeBar4 n => simp only [Bool.and_eq_true, decide_eq_true_eq]

theorem configRequest_of_unreleased (r : ConfigReq) (hup : d.host.linkUp = true) (hready : d.host.configReady = false) :
    configRequest r d = { d with host := { d.host with configAnswer := none } } :=
  (if_neg (by simp [hup])).trans (if_pos (by simp [hready]))

/-! ### BARs and the management port -/

theorem inBar2_of_fits {n : Nat} (hpos : 0 < n) (hfits : off + n ≤ 0x10000000) : inBar2 off n = true := by
  simp [inBar2, hpos, hfits]

theorem inBar4_of_fits {n : Nat} (hpos : 0 < n) (hfits : off + n ≤ 2 ^ d.host.bar4Log2) : inBar4 d off n = true := by
  simp [inBar4, hpos, hfits]

/-- A byte written into the mailbox command (R459). -/
theorem spiWrite_of_mailbox {a : Nat} (b : Byte) (hpor : d.power.por = false) (hidle : d.host.mboxBusy = false) (hlo : 0x1000 ≤ a)
    (hhi : a < 0x1040) :
    spiWrite a [b] d = { d with host := { d.host with mboxCmd := d.host.mboxCmd.set (a - 0x1000) b } } := by
  have hwrap : a % 2 ^ 24 = a := Nat.mod_eq_of_lt (by omega)
  rw [spiWrite, if_neg (Bool.eq_false_iff.mp hpor), spiWriteFrom, spiWriteFrom, hwrap, spiWriteByte,
    if_neg (Bool.eq_false_iff.mp hidle), if_pos ⟨hlo, hhi⟩]

end

/-- Settles O18: the premises of each access open its guard, and what stands behind it is what the statement says. -/
theorem hostWindowsReadAndWrite : Obligations.HostWindowsReadAndWrite := by
  unfold Obligations.HostWindowsReadAndWrite
  and_intros
  · intro s off v hlink hal
    exact act_next (registerWrite_of_dword v hlink hal)
  · intro s off v hlink hal
    exact act_next (registerWrite_of_qword v hlink hal)
  · intro s v hlink
    exact act_next ((registerWrite_of_dword v hlink rfl).trans (writeDword_scratch _))
  · intro s off v hlink hoff halves
    have hal : off % 8 = 0 := by obtain rfl | rfl | rfl | rfl := hoff <;> rfl
    exact act_next ((registerWrite_of_qword v hlink hal).trans (writeDword_both_halves _ _ hoff))
  · intro s r hup hready
    exact act_next (configRequest_of_released r hup hready)
  · intro s r hup hready
    exact act_next (configRequest_of_unreleased r hup hready)
  · intro s off bs hlink hne hfits
    exact act_next (f := bar2Write off bs) (if_neg (by simp [hlink, inBar2_of_fits (List.length_pos_iff.mpr hne) hfits]))
  · intro s off n hlink hpos hfits
    exact act_next (f := bar2Read off n) (if_pos (by simp [hlink, inBar2_of_fits hpos hfits]))
  · intro s off bs hlink hne hfits
    exact act_next (f := bar4Write off bs) (if_neg (by simp [hlink, inBar4_of_fits (List.length_pos_iff.mpr hne) hfits]))
  · intro s off n hlink hpos hfits
    exact act_next (f := bar4Read off n) (if_pos (by simp [hlink, inBar4_of_fits hpos hfits]))
  · intro s a n hpor
    exact act_next (f := spiRead a n) (if_neg (Bool.eq_false_iff.mp hpor))
  · intro s a bs hpor
    exact act_next (f := spiWrite a bs) (if_neg (Bool.eq_false_iff.mp hpor))
  · intro s a b hpor hidle hlo hhi
    exact act_next (spiWrite_of_mailbox b hpor hidle hlo hhi)
  · intro s hpor
    exact act_next (f := readStatus) (if_neg (Bool.eq_false_iff.mp hpor))
  · intro s hpor hidle
    exact act_next (f := mboxSubmit) (if_neg (by simp [hpor, hidle]))

end Sys2Proof.Proofs
end

section
/-! SUPPORT. The Yard controller and the scrub of Loft (R465-R475): what each event does where its condition holds. -/

namespace Sys2Proof.Proofs

open Sys2Proof.Machine Sys2Proof.Safety Sys2Proof.Laws

/-! ### Scheduling, ageing, refresh, temperature (R465, R466, R472, R473) -/

section
variable {ch : Nat} {d : Device}

theorem yardRequest_of_serving (l : List YardReq) (b : BurstError) (hs : channelServes d ch = true) :
    yardRequest ch l b d = (
      let e := catchUp ch (admitRequests ch l d)
      let v := yardChannel e ch
      match pickRequest (readyList e ch [] v.queue 0) with
      | none => setYardChannel ch { v with yielded := false } e
      | some (i, r) => serveRequest ch r b (setYardChannel ch { v with
          queue := v.queue.eraseIdx i, issued := v.issued + 1, yielded := reqClass r != 0 } e)) := by
  unfold yardRequest
  rw [if_neg (by simp [hs])] <;> rfl

/-- A request beyond the age limit of its class is promoted once (R466). -/
theorem agePromotion_of_aged {i : Nat} {r : YardReq} (hr : (yardChannel d ch).queue[i]? = some r) (hclass : reqClass r ≠ 0)
    (hfirst : r.promoted = false) (hage : r.since + ageLimit d (reqClass r) < d.time) :
    agePromotion ch i d =
      setYardChannel ch { yardChannel d ch with queue := (yardChannel d ch).queue.set i { r with promoted := true } } d := by
  unfold agePromotion
  dsimp only
  rw [hr]
  exact if_neg (by simp [hclass, hfirst, hage])

theorem refresh_of_serving {rank : Nat} (hs : channelServes d ch = true) (hrank : rank < (yardChannel d ch).ranks) :
    refresh ch rank d = (
      let v := yardChannel d ch
      let p := tget 0 v.postponed rank
      let busy := (readyList d ch [] v.queue 0).any (fun x => reqClass x.2 == 0) && decide (p < 4)
      if busy || !v.replay.isEmpty then setYardChannel ch { v with postponed := tset 0 v.postponed rank (p + 1) } d
      else setYardChannel ch { v with postponed := tset 0 v.postponed rank 0, refreshes := v.refreshes + 1 + p } d) :=
  if_neg (by simp [hs, hrank])

/-- A poll during a replay is held; else it sets the over temperature condition and the refresh mode (R472, R473, R481). -/
theorem mr4Poll_of_serving (m : Mr4) (hs : channelServes d ch = true) :
    mr4Poll ch m d = (
      let v := yardChannel d ch
      let polls := if m == .rate1x then min 2 (v.polls1x + 1) else 0
      let cool := if m == .aboveRange then 0 else min 2 (v.pollsCool + 1)
      let hot := m == .aboveRange || (v.overTemp && decide (cool < 2))
      let f := setYardChannel ch { v with polls1x := polls, pollsCool := cool, overTemp := hot } d
      let e := if hot && !v.overTemp then raiseFault (plainFault (yardSource ch) 7 1 0) f
        else if v.overTemp && !hot then clearLive (yardSource ch) 7 f else f
      if v.replay.isEmpty then
        setRefreshMode ch (m != .rate1x || hot || yardN e 4 == 1 || (v.refresh2x && decide (polls < 2))) e
      else setYardChannel ch { v with pollHeld := some m } d) := by
  unfold mr4Poll
  dsimp only
  rw [if_neg (by simp [hs])]
  cases (yardChannel d ch).replay.isEmpty <;> rfl

end

/-- Settles O56: the premises of each event open its guard, and what stands behind it is what the statement says. -/
theorem yardSchedulingActs : Obligations.YardSchedulingActs := by
  unfold Obligations.YardSchedulingActs
  and_intros
  · intro s ch l e hs
    exact act_next (yardRequest_of_serving l e hs)
  · intro s ch i r hr hclass hfirst hage
    exact act_next (agePromotion_of_aged hr hclass hfirst hage)
  · intro s ch rank v p hs hrank
    exact act_next (refresh_of_serving hs hrank)
  · intro s ch m v hs
    exact act_next (mr4Poll_of_serving m hs)

/-! ### Scrub and replay (R469-R471, R474, R475) -/

section
variable {ch : Nat} {d : Device}

/-- The channel once its scrub read the line at its place: the scrub address moves and the read spends its share (R471). -/
def scrubMoved (ch : Nat) (d : Device) : Device :=
  let v := yardChannel d ch
  let next := if d.yard.dimmBytes ≤ v.scrubAddr + 64 then 0 else v.scrubAddr + 64
  setYardChannel ch { v with
    scrubSince := none, scrubAddr := next, scrubFrom := if next == 0 then v.scrubFrom + yardN d 3 * 1000000000 else v.scrubFrom
    scrubBytes := (scrubSpent d ch + 64, d.time / 1000000000) } (takeFresh d)

/-- Where the scrub runs, is due, has share left and need not yield (R471). -/
theorem patrolScrubRead_of_due (b : BurstError) (written : Bool) (hs : channelServes d ch = true) (hon : yardN d 2 = 1)
    (hidle : (yardChannel d ch).replay = []) (hshare : scrubSpent d ch < scrubShare d ch) (hdue : scrubDue d ch ≤ d.time)
    (hturn : scrubYields d ch ((yardChannel d ch).scrubSince.getD d.time) = false) :
    patrolScrubRead ch b written d = (
      let v := yardChannel d ch
      let a := yardAddress d.yard.kept ch v.scrubAddr
      let next := if d.yard.dimmBytes ≤ v.scrubAddr + 64 then 0 else v.scrubAddr + 64
      let r := lineResult d a b
      let x := burstData d.fresh r (memRead d a 64)
      let e := match r.ecc with
        | .clean => scrubMoved ch d
        | .corrected =>
          let f := countCorrected ch (lineFault ch 1 0 a 0x3FD 4 r (scrubMoved ch d))
          if written then f else memWrite a x f
        | .uncorrectable => countUncorrectable ch a
          (lineFault ch 3 1 a 0x3FD 4 r (if written then scrubMoved ch d else setPoison a (scrubMoved ch d)))
      if next == 0 then raiseEvent (yardSource ch) 3 (ballIndex e) 0 e else e) := by
  have hopen : ¬ (!channelServes d ch || yardN d 2 != 1 || !(yardChannel d ch).replay.isEmpty
      || decide (scrubShare d ch ≤ scrubSpent d ch) || decide (d.time < scrubDue d ch)) = true := by
    simp [hs, hon, hidle, hshare, hdue]
  unfold patrolScrubRead
  dsimp only
  rw [if_neg hopen, if_neg (Bool.eq_false_iff.mp hturn)] <;> rfl

theorem alertN_of_serving (sub : Nat) (hs : channelServes d ch = true) :
    alertN ch sub d = (
      let v := yardChannel d ch
      match tget none v.replay sub with
      | none => setYardChannel ch { v with replay := tset none v.replay sub (some 0) } d
      | some r =>
        let e := setYardChannel ch { v with replay := tset none v.replay sub (some (r + 1)), failed := decide (3 ≤ r + 1) } d
        if 3 ≤ r + 1 then raiseFault (plainFault (yardSource ch) 5 2 0) e else e) := by
  unfold alertN
  rw [if_neg (by simp [hs])] <;> rfl

theorem replayComplete_of_running {sub : Nat} (hr : (tget none (yardChannel d ch).replay sub).isSome = true)
    (hok : (yardChannel d ch).failed = false) : replayComplete ch sub d = endReplay ch sub d := by
  have hopen : ¬ ((tget none (yardChannel d ch).replay sub).isNone || (yardChannel d ch).failed) = true := by
    simp [Option.isNone_eq_false_iff.mpr hr, hok]
  exact if_neg hopen

end

/-- The scrub of a Loft bank goes on, or waits for foreground accesses (R475). -/
theorem loftScrubAccess_of_awake {bank : Nat} {d : Device} (ecc : Ecc) (written busy : Bool) (h : d.power.state ≠ .sleep) :
    loftScrubAccess bank ecc written busy d = (
      let n := tget 0 d.yard.loftScrub bank
      let since := match tget none d.yard.loftSince bank with
        | some t => some t
        | none => if d.time < tget 0 d.yard.loftNext bank then none else some d.time
      let t := tset 0 d.yard.loftScrub bank (n + 1)
      let f : Device := { d with yard := { d.yard with
        loftScrub := t, loftNext := tset 0 d.yard.loftNext bank (d.time + 3200), loftSince := tset none d.yard.loftSince bank none } }
      let e := loftScrubRead bank (bank * 524288 + n % 8192 * 64) ecc written f
      if loftWaits d bank busy then { d with yard := { d.yard with loftSince := tset none d.yard.loftSince bank since } }
      else if n % 8192 == 8191 && loftPasses d.yard.loftScrub != loftPasses t then raiseEvent 0x340 1 (ballIndex e) 0 e
      else e) := by
  unfold loftScrubAccess
  rw [if_neg (by simpa using h)] <;> rfl

/-- Settles O57: the premises of each event open its guard, and what stands behind it is what the statement says. Where a Loft bank lies
and how far apart its scrub reads are is a choice of the model (log entry 41). -/
theorem yardErrorsActs : Obligations.YardErrorsActs := by
  unfold Obligations.YardErrorsActs
  and_intros
  · intro s ch b written v hs hon hidle hshare hdue hturn
    exact act_next (patrolScrubRead_of_due b written hs hon hidle hshare hdue hturn)
  · exact fun _ => rfl
  · intro s ch sub v hs
    exact act_next (alertN_of_serving sub.val hs)
  · intro s ch sub v hr hok
    exact act_next (replayComplete_of_running hr hok)
  · intro s bank ecc written busy h
    exact act_next (loftScrubAccess_of_awake ecc written busy h)

end Sys2Proof.Proofs
end

section
/-! SUPPORT. Groups and GROUP_SYNC (R491-R495): what the commands do behind their checks, the messages, and the deadlines. -/

namespace Sys2Proof.Proofs

open Sys2Proof.Machine Sys2Proof.Safety Sys2Proof.Laws

section
variable {p : Packet} {d : Device}

/-! ### Commands -/

/-- GROUP_FORM of devices that are near enough, outside a group (R491). -/
theorem groupForm_of_reachable {n : Nat} (hz : formParamsOk p = true) (hself : inMask (BitVec.ofNat 8 (pByte p 1)) d.group.id = true)
    (hout : d.group.members = 0) (hfirst : d.group.forming = none) (hids : duplicateIds d (BitVec.ofNat 8 (pByte p 1)) = false)
    (hn : diameter d (BitVec.ofNat 8 (pByte p 1)) = some n) (hnear : n ≤ 4) :
    groupForm p d = (
      let mask : BitVec 8 := BitVec.ofNat 8 (pByte p 1)
      settleForm (((List.range 8).filter (fun n => inMask mask n && n != d.group.id)).foldl (fun d n => sendMsg n (.form (.join mask)) d)
        (park p { d with group := { d.group with forming := some { packet := p, mask := mask, joined := ownBit d } } }))) := by
  unfold groupForm
  dsimp only
  rw [if_neg (by simp [hz, hself]), if_neg (by simp [hout, hfirst, hids]), hn]
  exact if_neg (Nat.not_lt.mpr hnear)

theorem groupLeave_of_member (hz : formParamsOk p = true) (hin : d.group.members ≠ 0) (hpair : d.group.pairFormed = false)
    (hplan : d.group.pairPlan = none) :
    groupLeave p d = (
      let e := leaveGroup (broadcast (.form .leave) d)
      complete p .ok (formReply e) e) :=
  (if_neg (by simp [hz])).trans (if_neg (by simpa [hpair, hplan] using hin))

/-- The run that GROUP_SYNC starts: the members that no route reaches have failed already (R494). -/
def startedSync (p : Packet) (gone : BitVec 8) : SyncRun :=
  { packet := p, external := bit (pByte p 0) 0, noBus := bit (pByte p 0) 1, phase := .query, reported := gone, failing := gone
    roots := 0, armed := 0, captures := [], transits := 0, transitMax := 0 }

theorem groupSync_of_idle (hz : reservedZero p [(0, 1)] = true) (hopt : pByte p 0 ≤ 3) (hnone : d.group.syncRun = none)
    (hidle : d.group.syncArmed = false) :
    groupSync p d = (
      let lost := (List.range 8).filter (fun n => inMask (syncMembers d) n && n != d.group.id && (routePort d n).isNone)
      let gone : BitVec 8 := lost.foldl (fun m n => m ||| deviceBit n) 0
      let e := toSyncOthers .query (setSyncRun (some (startedSync p gone)) (park p d))
      noteReport e.group.id (fsclkHz e) (commonFields e) (isRoot e) (syncReady e) e) :=
  (if_neg (by simp [hz, hopt])).trans (if_neg (by simp [hnone, hidle]))

/-! ### Messages -/

/-- What each FORM message does (R491, R492). -/
theorem formMsg_eq (src : Nat) (m : FormMsg) :
    formMsg src m d =
      match m with
      | .join members =>
        if d.group.members = 0 ∧ d.group.forming = none then
          let e := setMembers members { d with group := { d.group with joinedBy := some src } }
          sendMsg src (.form .joined) (raiseEvent 0x3C4 1 (ballIndex e) 0 e)
        else sendMsg src (.form .cannot) d
      | .joined =>
        match d.group.forming with
        | some r => settleForm { d with group := { d.group with forming := some { r with joined := r.joined ||| deviceBit src } } }
        | none => d
      | .cannot =>
        if d.group.forming ≠ none then failForm .notPresent d
        else if d.group.joinedBy = some src then leaveGroup d
        else d
      | .leave =>
        if inMask d.group.members src = true then
          let e := setMembers (d.group.members &&& ~~~ (deviceBit src)) d
          failFlights src (raiseEvent 0x3C4 2 (ballIndex e) src e)
        else d
      | .neighbours l =>
        if tget none d.group.neighbours src = some l then d
        else
          let e := { d with group := { d.group with neighbours := tset none d.group.neighbours src (some l) } }
          let new := (knownDevices e).filter (fun n => !(knownDevices d).contains n)
          let f := new.foldl (fun d n => sendMsg n (.form (.neighbours (ownNeighbours d))) d) e
          flushHeld (lostMembers (knownDevices d) f) := by
  cases m with
  | join members =>
    by_cases h : d.group.members = 0 ∧ d.group.forming = none
    · exact (if_neg (by simp [h.1, h.2])).trans (if_pos h).symm
    · refine (if_pos ?_).trans (if_neg h).symm
      simpa [Option.isSome_iff_ne_none, imp_iff_not_or] using h
  | joined => cases h : d.group.forming <;> simp [formMsg, h]
  | cannot => exact if_congr Option.isSome_iff_ne_none rfl (if_congr beq_iff_eq rfl rfl)
  | leave =>
    cases h : inMask d.group.members src
    · exact if_pos (by simp [h])
    · exact if_neg (by simp [h])
  | neighbours l => exact if_congr beq_iff_eq rfl rfl

/-! ### Deadlines -/

section
variable {r : SyncRun}

theorem syncPulse_of_armed (hr : d.group.syncRun = some r) (hphase : r.phase = .arming) (hint : r.external = false)
    (hall : r.armed = syncMembers d) :
    syncPulse d = (
      let e := setSyncRun (some { r with phase := .pulsed }) d
      if isRoot e then { e with group := { e.group with syncOut := true } }
      else ((List.range 8).filter (inMask r.roots)).foldl (fun d n => sendMsg n (.syncCtl .pulse) d) e) := by
  unfold syncPulse
  rw [hr]
  exact if_pos (by simp [hphase, hint, hall])

theorem syncCaptureTimeout_of_member (hnone : d.group.syncRun = none) (harmed : d.group.syncArmed = true) :
    syncCaptureTimeout d = raiseFault (plainFault 0x3C4 6 1 0) (disarmSync d) := by
  unfold syncCaptureTimeout
  rw [hnone]
  exact if_pos harmed

theorem syncCaptureTimeout_of_pulsed (hr : d.group.syncRun = some r) (hphase : r.phase = .pulsed)
    (hedge : r.external = false ∨ r.captures ≠ []) :
    syncCaptureTimeout d = (
      let missed := (List.range 8).filter (fun k => inMask (syncMembers d) k && (tget none r.captures k).isNone)
      let d := (missed.filter (fun k => k != d.group.id)).foldl (fun d k => sendMsg k (.syncCtl .missed) d) d
      let d := if missed.contains d.group.id then missSync d else d
      let there := (List.range 8).filter (fun k => inMask (syncMembers d) k && !missed.contains k && k != d.group.id)
      let d := there.foldl (fun d k => sendMsg k (.syncCtl (.skew ((skewOf d r k).getD 0))) d) d
      endSync .timeout (maskOf 8 (fun k => missed.contains k)) (slipMask d r) r d) := by
  have hends : (r.phase == .pulsed && (!r.external || !r.captures.isEmpty)) = true := by
    obtain h | h := hedge <;> simp [hphase, h]
  unfold syncCaptureTimeout
  rw [hr]
  exact if_pos hends

theorem externalSyncTimeout_of_waiting (hr : d.group.syncRun = some r) (hphase : r.phase = .pulsed) (hext : r.external = true)
    (hnone : r.captures = []) :
    externalSyncTimeout d = (
      let e := disarmSync (toSyncOthers .disarm (setSyncRun none d))
      complete r.packet .timeout (syncReply e r 0 0) e) := by
  unfold externalSyncTimeout
  rw [hr]
  exact if_pos (by simp [hphase, hext, hnone])

end

end

/-- Settles O26: the premises are the checks of each command and event, and a message acts by its kind. That a member which misses SYNC
disarms, and what FORM and JOIN answer while a group forms, are choices of the model (log entry 59). -/
theorem groupCommandsAct : Obligations.GroupCommandsAct := by
  unfold Obligations.GroupCommandsAct
  and_intros
  · intro s p n ha hz d mask hself hout hfirst hids hn hnear
    exact admitted_next ha (groupForm_of_reachable hz hself hout hfirst hids hn hnear)
  · intro s p ha hz hin hpair hplan
    exact admitted_next ha (groupLeave_of_member hz (by simpa using hin) (by simpa using hpair) (by simpa using hplan))
  · intro s p ha hz
    exact admitted_next (body := groupStatus) ha (if_neg (by simp [formParamsOk, hz]))
  · intro s p ha hz hopt hnone hidle
    exact admitted_next ha (groupSync_of_idle hz hopt (by simpa using hnone) (by simpa using hidle))
  · intro s src m
    exact act_next ((formMsg_eq src.val m).trans (by cases m <;> rfl))
  · intro s src m
    exact act_next (f := syncCtl src.val m) (by cases m <;> rfl)
  · intro s r hr hphase hint hall
    exact act_next (syncPulse_of_armed hr hphase hint hall)
  · intro s hnone harmed
    exact act_next (syncCaptureTimeout_of_member hnone harmed)
  · intro s r hr hphase hedge
    exact act_next (syncCaptureTimeout_of_pulsed hr hphase hedge)
  · intro s r hr hphase hext hnone
    exact act_next (externalSyncTimeout_of_waiting hr hphase hext hnone)

end Sys2Proof.Proofs
end

section
/-! SUPPORT. The Shunis link (R485-R497): what its events do on a port in the state that their rule names. -/

namespace Sys2Proof.Proofs

open Sys2Proof.Machine Sys2Proof.Safety Sys2Proof.Laws

section
variable {d : Device} {n : Nat}

theorem portTerminationDetect_of_down (hup : (shunisPort d n).up = false) (hidle : (shunisPort d n).training = false)
    (hawake : d.power.state ≠ .sleep) (hruns : cpRuns d = true ∨ d.power.state = .loading) :
    portTerminationDetect n d = setShunisPort n { shunisPort d n with powered := true, training := true } d := by
  have hon : (cpRuns d || d.power.state == .loading) = true := by simpa using hruns
  exact if_neg (by simp [hup, hidle, hawake, hon])

theorem portTrainingComplete_of_training {trained : BitVec 4} {id serial version : Nat} (h : (shunisPort d n).training = true) :
    portTrainingComplete n trained id serial version d = (
      let p := shunisPort d n
      if version ≠ interfaceVersion then raiseEvent (0x3C0 + n) 4 (ballIndex d) 0 (setShunisPort n { p with training := false } d)
      else if laneCode trained = 0 then setShunisPort n { p with training := false } d
      else
        let d := setShunisPort n { p with
          training := false, up := true, trained := trained, neighbour := some id, serial := serial, txSeq := 0, rxSeq := none,
          unacked := [], replays := 0, naks := 0 } d
        let d := if trained ≠ 15 then raiseFault (plainFault (0x3C0 + n) 2 0 0) d else d
        let d := raiseEvent (0x3C0 + n) 1 (ballIndex d) 0 d
        let d := if p.serial = serial then d else raiseEvent (0x3C0 + n) 3 (ballIndex d) id d
        flushHeld (sendNeighbours d)) := by
  unfold portTrainingComplete
  dsimp only
  rw [if_neg (by simp [h])]
  simp only [bne_iff_ne, beq_iff_eq]

/-- A frame at a port that is up: a bad one, or one out of order, counts a NAK, another acts by its type (R487). -/
theorem linkFrameReceive_of_up {f : LinkFrame} (h : (shunisPort d n).up = true) :
    linkFrameReceive n f d = (
      let p := shunisPort d n
      let expected := match p.rxSeq with
        | some s => (s + 1) % 65536
        | none => 0
      if f.good = false ∨ f.seq ≠ expected then setShunisPort n { p with naks := p.naks + 1 } d
      else if f.type = 2 then nakReceived n f.ack d
      else if f.type = 0 then ackTo n f.ack d
      else if f.type = 1 then dataFrame f (ackTo n f.ack (setShunisPort n { p with rxSeq := some f.seq, naks := 0 } d))
      else d) := by
  refine (if_neg (by simp [h])).trans (if_congr ?_ rfl (if_congr beq_iff_eq rfl (if_congr beq_iff_eq rfl (if_congr beq_iff_eq rfl rfl))))
  exact Bool.or_eq_true_iff.trans (or_congr (Iff.of_eq (Bool.not_eq_true' _)) bne_iff_ne)

theorem nakReceived_of_up {ack : Nat} (h : (shunisPort d n).up = true) :
    nakReceived n ack d = (
      let d := ackTo n ack d
      let p := shunisPort d n
      if p.unacked = [] then d
      else if 7 ≤ p.replays then
        let d := raiseFault (plainFault (0x3C0 + n) 4 1 0) d
        raiseEvent (0x3C0 + n) 2 (ballIndex d) 0 (portDown n d)
      else raiseFault (plainFault (0x3C0 + n) 1 0 0) (setShunisPort n { p with replays := p.replays + 1 } d)) :=
  (if_neg (by simp [h])).trans (if_congr List.isEmpty_iff rfl rfl)

theorem cplReceived_of_forwarded {src tag status : Nat} {reply : List Byte} {f : Flight} (hf : tget none d.host.flights tag = some f)
    (hto : f.forwardedTo = some src) :
    cplReceived src tag status reply d = (
      let d := freeForwarded src d
      let q := queueOf f.packet
      let sq := subQueue d q
      let long := 20 < reply.length
      let written := long ∧ f.packet.replyAddr ≠ 0
      let d := if written then memWrite f.packet.replyAddr (padTo reply 256) d else d
      let flags := if written then 4 else if long then 2 else 0
      if d.host.silent.contains f.packet then dropFlight tag { d with host := { d.host with silent := d.host.silent.erase f.packet } }
      else settleDeletes (postRaw sq.cq
        { bytes := completionBytes tag status flags q sq.head reply.length src reply, frees := some tag, event := none } d)) := by
  unfold cplReceived
  rw [hf]
  dsimp only
  rw [if_pos (by simp [hto])]
  by_cases hlong : 20 < reply.length <;> by_cases haddr : f.packet.replyAddr = 0 <;> simp [hlong, haddr, boolN]

end

/-- Settles O27: the premises are the guards of each event. One message in one frame, link sequences from 0 and a PONG without effect are
choices of the model (log entry 58). -/
theorem linkMessagesAct : Obligations.LinkMessagesAct := by
  unfold Obligations.LinkMessagesAct
  and_intros
  · intro s n hup hidle hawake hruns
    exact act_next (portTerminationDetect_of_down hup hidle hawake hruns)
  · intro s n trained id serial version h
    exact act_next (portTrainingComplete_of_training h)
  · intro s n bs fec h
    exact act_next (linkFrameReceive_of_up (f := readFrame bs fec) h)
  · intro s n ack h
    exact act_next (nakReceived_of_up h)
  · intro s n h
    exact act_next (f := shunisLinkDown n.val) (if_neg (by simp [h]))
  · intro s src mask t emit h
    exact act_next (f := fun d => if inMask d.group.members src.val then assertBus mask.toNat t d else d) (if_pos h)
  · intro s src emit h
    exact act_next (f := ping src.val emit) (if_neg (by simp [h]))
  · intro s src emit
    exact act_next (f := fun d => d) rfl
  · intro s src tag status reply f hf hto
    exact act_next (cplReceived_of_forwarded hf hto)

/-! ### The pair commands (R500, R501, R509) -/

section
variable {p : Packet} {d : Device}

theorem pairForm_of_ready (hz : reservedZero p [(0, 3), (8, 40)] = true) (hk : pByte p 1 ≤ 3) (hopt : pByte p 2 = 0) (hmask : pByte p 47 < 64)
    (heven : d.group.id = 2 * pByte p 1) (hout : d.group.pairFormed = false) (hplan : d.group.pairPlan = none)
    (hepoch : epochIndex d + 3 ≤ p64 p 8) (hpeer : pairReady d (2 * pByte p 1 + 1) (pairStreams p) = true)
    (hrings : (streamsOf (pairStreams p)).any (ringTooShort d) = false) :
    pairForm p d = (
      let k := pByte p 1
      sendMsg (2 * k + 1)
        (.cmdMirror (.pairForm (p64 p 8) (pairStreams p) d.cfg.generation (pairKept (listed d.cfg.active)) (pairKept (listed d.cfg.dirty))
          (d.cfg.overlays.filterMap (fun e => e.2.map (fun l => (e.1, pairKept l))))
          ((streamsOf (pairStreams p)).map (fun n => (n, (stream d n).ringLog2)))))
        { park p d with group := { (park p d).group with pairPlan := some ⟨some p, p64 p 8, 1, 2 * k + 1, pairStreams p, false⟩ } }) := by
  have hparams : ¬ (!reservedZero p [(0, 3), (8, 40)] || decide (3 < pByte p 1) || pByte p 2 != 0 || decide (64 ≤ pByte p 47) ||
      d.group.id != 2 * pByte p 1) = true := by simp [hz, hk, hopt, hmask, heven]
  have hstate : ¬ (d.group.pairFormed || d.group.pairPlan.isSome || decide (p64 p 8 < epochIndex d + 3) ||
      !pairReady d (2 * pByte p 1 + 1) (pairStreams p)) = true := by simp [hout, hplan, hepoch, hpeer]
  exact (if_neg hparams).trans ((if_neg hstate).trans (if_neg (Bool.eq_false_iff.mp hrings)))

theorem pairDissolve_of_formed (hz : reservedZero p [(0, 3)] = true) (hopt : pByte p 2 ≤ 1) (hpair : d.group.id / 2 = pByte p 1)
    (hformed : d.group.pairFormed = true) :
    pairDissolve p d = complete p .ok [] (dissolve (bit (pByte p 2) 0)
      (sendMsg (d.group.pairPeer.getD 0) (.cmdMirror (.dissolve (bit (pByte p 2) 0))) d)) :=
  (if_neg (by simp [hz, hopt, hpair])).trans (if_neg (by simp [hformed]))

theorem pairTakeover_of_primary (hz : reservedZero p [(1, 2), (8, 8)] = true) (hopt : pByte p 2 ≤ 1) (hpair : d.group.id / 2 = pByte p 1)
    (hformed : d.group.pairFormed = true) (hrole : d.group.pairRole = 1) (hwhole : d.group.pairDegraded = false)
    (hnone : d.group.takeoverAt = none)
    (hahead : d.sampleIndex < epochStart d (if bit (pByte p 2) 0 then p64 p 8 else epochIndex d + 3)) :
    pairTakeover p d = (
      let t := if bit (pByte p 2) 0 then p64 p 8 else epochIndex d + 3
      let e := { park p d with group := { (park p d).group with takeoverAt := some (some p, t) } }
      sendMsg (e.group.pairPeer.getD 0) (.cmdMirror (.takeoverAt t)) e) := by
  unfold pairTakeover
  dsimp only
  rw [if_neg (by simp [hz, hopt, hpair]), if_neg (by simp [hformed, hrole, hwhole]), if_neg (by simp [hnone]),
    if_neg (by simpa using hahead)]

end

/-- Settles O28: an admitted packet runs its command, and the premises are the checks of that command. -/
theorem pairCommandsAct : Obligations.PairCommandsAct := by
  unfold Obligations.PairCommandsAct
  and_intros
  · intro s p ha hz d k hk hopt hmask heven hout hplan hepoch hpeer hrings
    exact admitted_next ha (pairForm_of_ready hz hk hopt hmask heven hout hplan hepoch hpeer hrings)
  · intro s p ha hz hopt hpair hformed
    refine admitted_next ha ((pairDissolve_of_formed hz hopt (by simpa using hpair) (by simpa using hformed)).trans ?_)
    rw [taken_group]
  · intro s p ha hz hpair
    exact admitted_next (body := pairStatus) ha (if_neg (by simp [hz, hpair]))
  · intro s p ha hz hopt d t hpair hformed hrole hwhole hnone hahead
    exact admitted_next ha (pairTakeover_of_primary hz hopt hpair hformed hrole hwhole hnone hahead)

end Sys2Proof.Proofs
end

section
/-! SUPPORT. A pair in service (R498, R502-R509): heartbeats, takeover, mirroring, and the machine check of a member (R455). -/

namespace Sys2Proof.Proofs

open Sys2Proof.Machine Sys2Proof.Safety Sys2Proof.Laws

section
variable {d : Device}

theorem canTakeOver_of_shadow (hf : d.group.pairFormed = true) (hr : d.group.pairRole = 2) (hw : d.group.pairDegraded = false) :
    canTakeOver d = true := by
  simp [canTakeOver, hf, hr, hw]

/-! ### Heartbeats and takeover -/

theorem heartbeatSend_of_formed {peer : Nat} (hf : d.group.pairFormed = true) (hp : d.group.pairPeer = some peer) :
    heartbeatSend d = (
      let m := Msg.heartbeat d.group.pairRole (ballIndex d) d.cfg.generation (lastKeySeq d) (pairStatusWord d)
      let d := sendEveryRoute peer m d
      { d with group := { d.group with heartbeatsSent := d.group.heartbeatsSent + 1 } }) := by
  unfold heartbeatSend
  rw [hf, hp]

theorem heartbeat_of_formed {port3 : Bool} {st : Nat} (hf : d.group.pairFormed = true) :
    heartbeat port3 st d = (
      let d := { d with group := { d.group with lastHeartbeat := some d.time, heartbeatPort3 := port3 } }
      if port3 = false ∧ (shunisPort d 3).up = false ∧ d.group.pairDegraded = false then degrade (raiseFault (plainFault 0x3C5 9 1 0) d)
      else if mirroring d = true ∧ bit st 1 = true then degrade (raiseFault (plainFault 0x3C5 0x0A 1 0) d)
      else d) := by
  refine (if_neg (by simp [hf])).trans (if_congr ?_ rfl (if_congr Bool.and_eq_true_iff rfl rfl))
  simp only [Bool.and_eq_true, Bool.not_eq_true', and_assoc]

theorem heartbeatTimeout_of_primary (hf : d.group.pairFormed = true) (hr : d.group.pairRole = 1) (hw : d.group.pairDegraded = false) :
    heartbeatTimeout d = degrade (raiseFault (plainFault 0x3C5 0x0A 1 0) d) :=
  (if_neg (by simp [canTakeOver, hr])).trans (if_pos (by simp [mirroring, hf, hr, hw]))

theorem fatalNotice_of_shadow {src : Nat} (hf : d.group.pairFormed = true) (hr : d.group.pairRole = 2) (hw : d.group.pairDegraded = false) :
    fatalNotice src d = takeOver (if src = 0x3FD then 3 else 1) d := by
  have hsrc : (if src == safeNoticeSource then 3 else 1) = (if src = 0x3FD then 3 else 1) := if_congr beq_iff_eq rfl rfl
  exact (if_pos (canTakeOver_of_shadow hf hr hw)).trans (by rw [hsrc])

theorem pairTakeoverAct_of_reached {p : Option Packet} {t peer : Nat} (ht : d.group.takeoverAt = some (p, t))
    (hp : d.group.pairPeer = some peer) (hnow : epochStart d t ≤ d.sampleIndex) (hside : d.group.pairRole = 1 ∨ p = none) :
    pairTakeoverAct d = (
      if d.group.pairRole = 1 then
        { d with group := { d.group with
            pairRole := 2, pairMuted := true, unmuteAt := none, keySeq := lastSequences d, takeoverAt := p.map (fun x => (some x, t)) } }
      else
        let d := { d with group := { d.group with pairRole := 1, takeoverAt := none } }
        let counts := d.group.reorder.map (fun e => (e.1, e.2.length))
        let d := (streamsOf d.group.mirrored).foldl (fun d n => writeUnkeyed n d) d
        let d := writeTakeovers 2 peer (tget 0 counts) d
        sendMsg peer (.cmdMirror .switched) { d with group := { d.group with pairMuted := false, unmuteAt := none } }) := by
  unfold pairTakeoverAct
  rw [ht, hp]
  dsimp only
  rw [if_neg (Nat.not_lt.mpr hnow)]
  refine ite_congr (propext beq_iff_eq) (fun _ => rfl) (fun hshadow => ?_)
  exact if_neg (by simp [hside.resolve_left hshadow])

/-! ### Mirroring -/

theorem keyLog_of_mirrored {k : RecKey} (h : mirrorsIn d k.stream = true) :
    keyLog k d = (
      let e := setKeys k.stream (keyQueue d k.stream ++ [k]) d
      settleRequests k.stream (allocOffset (stream d k.stream)) (matchKeys k.stream ((keyQueue e k.stream).length) e)) :=
  if_neg (by simp [h])

theorem keyMatchTimeout_of_mirrored {n : Nat} (h : mirrorsIn d n = true) :
    keyMatchTimeout n d =
      match keyQueue d n with
      | [] => setReorder n (reorderArea d n).tail d
      | k :: ks =>
        let o := allocOffset (stream d n)
        let d := setStream n { stream d n with nextSeq := k.seq } (setKeys n ks d)
        let d := appendRec n (gapRec d k.source 0x0B k.firstIndex 0 0 d.cfg.generation []) d
        let d := raiseFault (plainFault 0x3C5 8 0 0) { d with group := { d.group with
          mismatches := d.group.mismatches + 1, keySeq := tset 0 d.group.keySeq n k.seq } }
        settleRequests n o (matchKeys n ((keyQueue d n).length) d) := by
  refine (if_neg (by simp [h])).trans ?_
  cases keyQueue d n <;> rfl

theorem ackMirror_of_mirrored {tag n seq off : Nat} (h : mirrorsIn d n = true) :
    ackMirror false tag n seq off d =
      sendMsg (d.group.pairPeer.getD 0) (.ackMirror true tag n seq off) (applyAck n seq off d) :=
  (if_neg Bool.false_ne_true).trans (if_pos h)

theorem ackMirror_of_confirmed {tag n seq off : Nat} {u : Unconfirmed} (h : d.group.unconfirmed.find? (fun u => u.tag == tag) = some u) :
    ackMirror true tag n seq off d =
      finish u.packet .ok (stateBlock d n) { d with group := { d.group with unconfirmed := d.group.unconfirmed.erase u } } := by
  unfold ackMirror
  rw [if_pos rfl, h]

theorem memMirror_of_shadow {m : MemMirrorMsg} (hf : d.group.pairFormed = true) (hr : d.group.pairRole = 2)
    (hw : d.group.pairDegraded = false) :
    memMirror m d =
      match m with
      | .write g e v => entryMemoryWrite g.val e v d
      | .ringCommit g n => mirrorCommit g.val n d :=
  (if_neg (by simp [canTakeOver_of_shadow hf hr hw])).trans (by cases m <;> rfl)

/-- A mirrored command without blocks runs at the shadow, is counted and confirmed (R505). -/
theorem mirroredCommand_of_shadow {p : Packet} {i : Option Nat} (hr : d.group.pairRole = 2) (hwrite : p.opcode ≠ 0x0100)
    (hstage : p.opcode ≠ 0x0101) :
    mirroredCommand p i [] d = (
      let d := withBlocks [] (runPacket (actAtInstant { p with src := .mirrored } i)) d
      let d := { d with group := { d.group with mirroredCount := d.group.mirroredCount + 1, lastTag := p.tag.toNat } }
      sendMsg (d.group.pairPeer.getD 0) (.cmdMirror (.confirm p.tag.toNat)) d) := by
  have hcommand : shadowCommand p i [] = (actAtInstant { p with src := .mirrored } i, []) := by
    simp [shadowCommand, hwrite, hstage]
  unfold mirroredCommand
  rw [if_neg (by simp [hr]), hcommand]
  dsimp only
  rw [if_neg (by simp [hwrite, hstage])]

/-- What each CMD_MIRROR message does (R502, R505, R509). -/
theorem cmdMirror_eq (m : CmdMirrorMsg) :
    cmdMirror m d =
      match m with
      | .command p i data =>
        if d.group.pairRole ≠ 2 then d
        else
          let x := shadowCommand p i data
          let gone := (p.opcode == 0x0100 || (p.opcode == 0x0101 && pByte p 1 != 2)) && x.2.all (fun e => e.2.isEmpty)
          let d := if gone then d else withBlocks x.2 (runPacket x.1) d
          let d := { d with group := { d.group with mirroredCount := d.group.mirroredCount + 1, lastTag := p.tag.toNat } }
          sendMsg (d.group.pairPeer.getD 0) (.cmdMirror (.confirm p.tag.toNat)) d
      | .confirm tag => confirmCommand tag d
      | .pairForm t streams g active staged overlays rings => pairFormMsg (d.group.id / 2 * 2) t streams g active staged overlays rings d
      | .pairAnswer ok => pairAnswer ok d
      | .dissolve unmute => if d.group.pairFormed then dissolve unmute d else d
      | .takeoverAt t =>
        if d.group.pairRole = 2 ∧ d.group.pairFormed = true then { d with group := { d.group with takeoverAt := some (none, t) } } else d
      | .switched => switchedMsg d := by
  cases m with
  | command p i data => exact if_congr bne_iff_ne rfl rfl
  | takeoverAt t => exact if_congr (by simp) rfl rfl
  | _ => rfl

/-! ### The machine check -/

theorem machineCheck_of_broken {addr upset : Nat} {reads : List (Option (List (Nat × Byte)))} {fetched : List Nat}
    (hrun : cpRuns d = true) (hbroken : parityHolds (fetchWord (upsetWord d.pad.store addr upset) addr) = false) :
    machineCheck addr upset reads fetched d = (
      let d := { d with pad := { d.pad with store := upsetWord d.pad.store addr upset } }
      let d := raiseFault (plainFault 0x001 2 1 0) { d with host := { d.host with mcheck := true } }
      reloadStore reads (fetched.foldl (fun d q => retryFetched q d) d)) :=
  (if_neg (by simp [hrun])).trans (if_neg (Bool.eq_false_iff.mp hbroken))

end

/-- Settles O29: the premises are the guards of each event. Bit 1 of the heartbeat's status, the records that no key has matched in a planned
takeover, and the key that its own timeout handles first are choices of the model (log entries 118 and 60). -/
theorem pairEventsAct : Obligations.PairEventsAct := by
  unfold Obligations.PairEventsAct
  and_intros
  · intro s peer hf hp
    exact act_next (heartbeatSend_of_formed hf hp)
  · intro s port3 i k st hf
    exact act_next (heartbeat_of_formed hf)
  · intro s hf hr hw
    exact act_next (f := heartbeatTimeout) (if_pos (canTakeOver_of_shadow hf hr hw))
  · intro s hf hr hw
    exact act_next (heartbeatTimeout_of_primary hf hr hw)
  · intro s src kind hf hr hw
    exact act_next (fatalNotice_of_shadow hf hr hw)
  · intro s
    refine act_next (f := fenced) ?_
    unfold fenced
    cases s.dev.group.takeoverAt <;> rfl
  · intro s p t peer ht hp hnow hside
    exact act_next (pairTakeoverAct_of_reached ht hp hnow hside)
  · intro s k h
    exact act_next (keyLog_of_mirrored h)
  · intro s n h
    refine act_next ((keyMatchTimeout_of_mirrored h).trans ?_)
    cases keyQueue s.dev n.val <;> rfl
  · intro s n tag seq off h
    exact act_next (ackMirror_of_mirrored h)
  · intro s n tag seq off u h
    exact act_next (ackMirror_of_confirmed h)
  · intro s m hf hr hw
    exact act_next ((memMirror_of_shadow hf hr hw).trans (by cases m <;> rfl))
  · intro s p i hr hwrite hstage
    exact act_next (f := mirroredCommand p i []) (mirroredCommand_of_shadow hr hwrite hstage)
  · intro s m
    exact act_next ((cmdMirror_eq m).trans (by cases m <;> rfl))
  · intro s src q role p h
    exact act_next (f := forwardedCommand src.val q role p) (if_neg (Nat.not_le.mpr h))
  · intro s addr upset reads fetched hrun hbroken
    exact act_next (machineCheck_of_broken hrun hbroken)

end Sys2Proof.Proofs
end

section
/-! SUPPORT. Faults (R569-R590): what the commands do behind their checks, and the four ways in which the collector takes a message. -/

namespace Sys2Proof.Proofs

open Sys2Proof.Machine Sys2Proof.Safety Sys2Proof.Laws

/-! ### Commands -/

section
variable {p : Packet} {d : Device}

theorem blockReset_of_block {b : Nat} (hz : reservedZero p [] = true) (hb : resetBlockOf (unitOf p) = some b) :
    blockReset p d = beginReset b (some p) (park p d) := by
  unfold blockReset
  rw [hb]
  exact if_neg (by simp [hz])

theorem safeExit_of_clear (hz : reservedZero p [] = true) (hsafe : d.power.state = .safe) (hclear : exitBlocker d = none) :
    safeExit p d = (
      let d := { d with power := { d.power with state := .ready }, clk := { d.clk with loHeld := !d.clk.lo.locked }
                        fault := { d.fault with fatalKinds := [], fatalHandled := [] } }
      complete p .ok [] (raiseEvent 0x3F0 4 (ballIndex d) 0 d)) := by
  unfold safeExit
  rw [if_neg (by simp [hz]), if_neg (by simp [hsafe]), hclear]

theorem faultReadLog_of_entries (hok : faultReadOk d p (64 * (d.fault.log.take (p32 p 4)).length) = true)
    (hsome : d.fault.log.take (p32 p 4) ≠ []) :
    faultReadLog p d = (
      let es := d.fault.log.take (p32 p 4)
      let d := memWrite (p64 p 8) (es.flatMap faultBytes) d
      let d := { d with fault := { d.fault with log := d.fault.log.drop es.length
                                                logRead := d.fault.logRead + BitVec.ofNat 32 es.length, corrected := none } }
      complete p .ok (leBytes 4 es.length ++ leBytes 4 d.fault.log.length) d) := by
  unfold faultReadLog
  dsimp only
  rw [if_neg (by rw [hok]; exact Bool.false_ne_true), if_neg (by rw [beq_iff_eq]; exact mt List.length_eq_zero_iff.mp hsome)]

theorem faultAck_of_record {e : FaultEntry} (hz : reservedZero p [(0, 1), (8, 8)] = true) (hcls : pByte p 0 ≤ 2)
    (he : faultRecord d (pByte p 0) = some e) (htime : e.firstTime = p64 p 8) :
    faultAck p d = complete p .ok (leBytes 4 e.count) (setFaultRecord (pByte p 0) none d) := by
  unfold faultAck
  dsimp only
  rw [if_neg (by simp [hz, hcls]), he]
  exact if_neg (by simp [htime])

theorem faultDump_of_reachable (hz : reservedZero p [(8, 12)] = true) (haddr : p64 p 8 ≠ 0)
    (hreach : min (p32 p 16) (dumpBytes d).length = 0 ∨ reachable d .cp true (p64 p 8) (min (p32 p 16) (dumpBytes d).length) = true) :
    faultDump p d = (
      let bs := dumpBytes d
      let n := min (p32 p 16) bs.length
      complete p .ok (leBytes 4 n ++ leBytes 1 (boolN (decide (n < bs.length)))) (memWrite (p64 p 8) (bs.take n) (takeFresh d))) := by
  refine if_neg ?_
  rw [hz, Bool.or_eq_true, not_or]
  refine ⟨by simp [haddr], fun hbad => ?_⟩
  rw [Bool.and_eq_true, bne_iff_ne, Bool.not_eq_true'] at hbad
  exact hreach.elim hbad.1 (Bool.eq_false_iff.mp hbad.2)

end

/-- Settles O32: an admitted packet runs its command, and the premises are the checks of that command. The corrected record that a drain of
the log empties, the hold of LO_OUT behind SAFE_EXIT and the old mask that EVENT_MAP answers are choices of the model (log entries 68, 111
and 73). -/
theorem faultCommandsAct : Obligations.FaultCommandsAct := by
  unfold Obligations.FaultCommandsAct
  and_intros
  · intro s p b ha hz hb
    exact admitted_next ha (blockReset_of_block hz hb)
  · intro s p ha hz hsafe hclear
    exact admitted_next ha (safeExit_of_clear hz (by simpa using hsafe) hclear)
  · intro s p ha hz
    exact admitted_next (body := faultReadRecords) ha (if_neg (by simp [hz]))
  · intro s p ha d es hok hsome
    exact admitted_next ha (faultReadLog_of_entries hok hsome)
  · intro s p ha hok
    exact ⟨admitted_next (body := faultReadLive) ha (if_neg (by simp [hok])),
      admitted_next (body := faultReadEvents) ha (if_neg (by simp [hok]))⟩
  · intro s p e ha hz hcls he htime
    exact admitted_next ha (faultAck_of_record hz hcls he htime)
  · intro s p ha hz d bs n haddr hreach
    exact admitted_next ha (faultDump_of_reachable hz haddr hreach)
  · intro s p ha hok
    exact admitted_next (body := setEventMap) ha (if_neg (by simp [hok]))

/-! ### Messages -/

section
variable {d : Device} {m : FaultMsg}

/-- The device once the collector has taken the message: its lost count is spent and its live bit stands (R569, R575). -/
def markedLive (m : FaultMsg) (d : Device) : Device :=
  { d with fault := { d.fault with
      lost := tset 0 d.fault.lost (m.source * 64 + m.kind) 0, live := tset none d.fault.live (m.source * 64 + m.kind) (some d.time) } }

/-- The log entry of a message, with the occurrences lost before it. -/
def acceptedEntry (m : FaultMsg) (d : Device) : FaultEntry := faultEntry d m (tget 0 d.fault.lost (m.source * 64 + m.kind))

theorem faultMessage_of_waiting {rest : List FaultMsg} (h : d.fault.inbox = m :: rest) :
    faultMessage none d = acceptFault m { d with fault := { d.fault with inbox := rest } } := by
  unfold faultMessage
  dsimp only
  rw [h]

theorem acceptFault_collateral (hsource : m.source ≠ 0x3F0) (hc : isCollateral (markedLive m d) m.source m.kind = true) :
    acceptFault m d = (
      let e := acceptedEntry m d
      let d := markedLive m d
      writeLog { e with collateral := true } { d with fault := { d.fault with collateral := d.fault.collateral + 1 } }) :=
  (if_neg (by simpa using hsource)).trans (if_pos hc)

theorem acceptFault_own (hsource : m.source ≠ 0x3F0) (hc : isCollateral (markedLive m d) m.source m.kind = false) :
    acceptFault m d = handleFault (acceptedEntry m d) (markedLive m d) :=
  (if_neg (by simpa using hsource)).trans (if_neg (Bool.eq_false_iff.mp hc))

section
variable {e r : FaultEntry}

theorem handleFault_of_empty (h : faultRecord d e.reported = none) : handleFault e d = reactFault e (writeLog e (captureFault e d)) := by
  unfold handleFault
  rw [h]

theorem handleFault_of_same (h : faultRecord d e.reported = some r) (hsame : sameFault r e = true) :
    handleFault e d = reactFault e (writeLog e (countFault e.reported e.count d)) := by
  unfold handleFault
  rw [h]
  exact if_pos hsame

/-- A different fault that finds its record filled is handled in the next class (R575). -/
theorem handleFault_of_other (h : faultRecord d e.reported = some r) (hsame : sameFault r e = false) (hcls : e.reported < 2) :
    handleFault e d = (
      let e := { e with handled := e.reported + 1, escalated := true }
      let d := raiseEvent 0x3F0 2 (ballIndex d) 0
        { d with fault := { d.fault with
            escalations := d.fault.escalations + 1
            fatalHandled := if e.handled == 2 then d.fault.fatalHandled ++ [(e.source, e.kind)] else d.fault.fatalHandled } }
      if (faultRecord d e.handled).isNone then reactFault e (writeLog e (captureFault e d))
      else writeLog e (countFault e.handled e.count d)) := by
  unfold handleFault
  rw [h]
  exact (if_neg (Bool.eq_false_iff.mp hsame)).trans (if_neg (by rw [beq_iff_eq]; omega))

end

theorem completeReset_of_running {b : Nat} {r : RunningReset} (h : d.fault.resets.find? (fun x => x.block == b) = some r) :
    completeReset b d = (
      let d := { d with fault := { d.fault with resets := d.fault.resets.filter (fun x => x.block != b) } }
      let stop := resetStop d b
      let d := gapFor 0x06 r.startIndex (stop - r.startIndex) d.cfg.generation (resetChannels b) (resetFeeds d b) d
      let d := restartBlock b r.startIndex d
      r.waiters.foldl (fun d p => complete p .ok (leBytes 8 d.time) d) d) := by
  unfold completeReset
  rw [h]

theorem blockResetComplete_of_block {src b : Nat} (h : resetBlockOf src = some b) : blockResetComplete src d = completeReset b d := by
  unfold blockResetComplete
  rw [h]

theorem clearLive_eq (src kind : Nat) :
    clearLive src kind d = (
      let mark (r : Option FaultEntry) : Option FaultEntry :=
        r.map (fun e => if e.source = src ∧ e.kind = kind then { e with noLonger := true } else e)
      { d with fault := { d.fault with
          live := tset none d.fault.live (src * 64 + kind) none
          corrected := mark d.fault.corrected, contained := mark d.fault.contained, fatal := mark d.fault.fatal } }) := by
  simp only [clearLive, Bool.and_eq_true, beq_iff_eq]

end

/-- Settles O33: the oldest message is collateral, finds its record empty, meets the same fault in it, or escalates. That a repeat reacts
again, that an escalated record found filled is counted, that a window is named by its place, and which sources a window covers are
choices of the model (log entries 67, 71 and 72). -/
theorem faultEventsAct : Obligations.FaultEventsAct := by
  unfold Obligations.FaultEventsAct
  and_intros
  · intro s m rest hin hsource d e d' hc
    exact act_next ((faultMessage_of_waiting hin).trans (acceptFault_collateral hsource hc))
  · intro s m rest hin hsource d e d' hc hempty
    exact act_next ((faultMessage_of_waiting hin).trans ((acceptFault_own hsource hc).trans (handleFault_of_empty hempty)))
  · intro s m rest r hin hsource d e d' hc hr hsame
    exact act_next ((faultMessage_of_waiting hin).trans ((acceptFault_own hsource hc).trans (handleFault_of_same hr hsame)))
  · intro s m rest r hin hsource d e d' hc hr hsame hcls
    exact act_next ((faultMessage_of_waiting hin).trans ((acceptFault_own hsource hc).trans (handleFault_of_other hr hsame hcls)))
  · intro s src kind
    exact act_next (clearLive_eq src kind)
  · intro s i
    exact act_next (f := reactionWindowClose i) rfl
  · intro s src b r hb hr
    exact act_next ((blockResetComplete_of_block hb).trans (completeReset_of_running hr))

end Sys2Proof.Proofs
end

section
/-! SUPPORT. Start-up (R526-R532, R601): POR#, the rail sequence, the pushed image, the Yard and PERST#. -/

namespace Sys2Proof.Proofs

open Sys2Proof.Machine Sys2Proof.Safety Sys2Proof.Laws

section
variable {d : Device}

theorem porDeassert_of_por {b : Board} (h : d.power.por = true) :
    porDeassert b d = (
      let d := if d.power.board.isNone then { d with pad := { d.pad with fuses := b.fuses, flash := b.flash } } else d
      let d := { d with
        power := { d.power with por := false, extSeq := b.pwrSeqExt, board := some b, state := .bootRom, railsRunning := !b.pwrSeqExt }
        group := { d.group with id := b.groupId.val }
        host := { d.host with perst := b.perst }
        clk := { d.clk with refPresent := b.refin } }
      let d := if b.xtal32 then d else droneFallback d
      if b.pwrSeqExt then bootRom d else d) := by
  refine (if_neg (by simp [h])).trans ?_
  dsimp only
  cases d.power.board <;> rfl

theorem railGood_of_next {r status vout : Nat} (hrun : d.power.railsRunning = true) (hr : r = d.power.railsGood + 1)
    (hgood : railIsGood r status vout = true) :
    railGood r status vout d = (
      let d := { d with power := { d.power with railsGood := r, railsRunning := decide (r < 10) } }
      if r < 10 then d else bootRom d) :=
  if_neg (by rw [hrun, hgood, bne_eq_false_iff_eq.mpr hr]; exact Bool.false_ne_true)

theorem railTimeout_of_next {r : Nat} (hrun : d.power.railsRunning = true) (hr : r = d.power.railsGood + 1) :
    railTimeout r d =
      droneRecord 0x033 9 (r % 16) { d with power := { d.power with railsGood := 0, railsRunning := false, railFailure := true } } :=
  if_neg (by rw [hrun, bne_eq_false_iff_eq.mpr hr]; exact Bool.false_ne_true)

theorem bootPush_of_waiting {ok : Bool} (hlink : hostLink d = true) (hwait : d.power.state = .waitImage) :
    bootPush 1 ok d = (
      let a := hostBase + d.host.bootImageAddr
      let img := memRead d a d.host.bootImageLen
      if ok = false ∨ addressEnd < a + d.host.bootImageLen then bootFail 0x08 d
      else match verifyImage d.pad.fuses img with
        | .error c => bootFail c (blowOwner img d)
        | .ok x => firmwareStart (takeImage 2 x (blowOwner img d))) := by
  refine (if_neg (by simp [hlink, hwait])).trans (ite_congr (propext (by simp)) (fun _ => rfl) fun _ => ?_)
  dsimp only <;> cases verifyImage d.pad.fuses (memRead d (hostBase + d.host.bootImageAddr) d.host.bootImageLen) <;> rfl

theorem yardBringUpComplete_of_closed {found : List (Option Dimm × Nat)} (hs : d.power.state = .safe ∨ d.power.state = .loading)
    (hclosed : isOpen (stream d 254) = false) :
    yardBringUpComplete found d = (
      let d := openReserved 255 (openReserved 254 (bringUpYard found d))
      let d := if d.power.state == .loading then { d with power := { d.power with state := .ready } } else d
      raiseEvent 0x030 3 (ballIndex d) 0 d) :=
  if_neg (by obtain h | h := hs <;> simp [h, hclosed])

end

/-- Settles O19: each event finds the state that its rule names. That the board gives fuses and flash at the first POR# only, and that POR#
keeps host memory, are choices of the model (log entries 64 and 82). -/
theorem startUpProceeds : Obligations.StartUpProceeds := by
  unfold Obligations.StartUpProceeds
  and_intros
  · intro s
    exact ⟨after s (porAssert s.dev), act_next rfl, rfl, rfl, rfl, rfl, rfl, rfl, rfl, rfl⟩
  · intro s
    exact ⟨rfl, act_next rfl⟩
  · intro s b h
    exact act_next (porDeassert_of_por h)
  · intro s r status vout hrun hr hgood
    exact act_next (railGood_of_next hrun hr hgood)
  · intro s r hrun hr
    exact act_next (railTimeout_of_next hrun hr)
  · intro s ok hlink hwait
    refine act_next ((bootPush_of_waiting hlink hwait).trans (ite_congr rfl (fun _ => rfl) fun _ => ?_))
    cases verifyImage s.dev.pad.fuses (memRead s.dev (hostBase + s.dev.host.bootImageAddr) s.dev.host.bootImageLen) <;> rfl
  · intro s found hs hclosed
    exact act_next (yardBringUpComplete_of_closed hs hclosed)
  · intro s h
    exact act_next (f := perstAssert) (if_neg (Bool.eq_false_iff.mp h))
  · intro s h
    exact act_next (f := perstDeassert) (if_neg (by simp [h]))

end Sys2Proof.Proofs
end

section
/-! SUPPORT. Power, temperature, telemetry and SLEEP (R517-R538): the commands behind their checks, and the events in the states that their
rules name. -/

namespace Sys2Proof.Proofs

open Sys2Proof.Machine Sys2Proof.Safety Sys2Proof.Laws

/-! ### Commands -/

section
variable {p : Packet} {d : Device}

theorem sleepCmd_of_free (hz : reservedZero p [(0, 9)] = true) (hopt : pByte p 8 < 4) (hpair : d.group.pairRole = 0)
    (hidle : bit (pByte p 8) 0 = true ∨ (d.nvme.running = [] ∧ d.nvme.playing = [])) :
    sleepCmd p d = (
      let e := enterSleep (p64 p 0) (bit (pByte p 8) 1) d
      complete p .ok (leBytes 8 e.time) e) := by
  have hfree : ¬ (!bit (pByte p 8) 0 && (!d.nvme.running.isEmpty || !d.nvme.playing.isEmpty)) = true := by
    obtain h | ⟨hrun, hplay⟩ := hidle
    · simp [h]
    · simp [hrun, hplay]
  exact (if_neg (by simp [hz, hopt])).trans ((if_neg (by simp [hpair])).trans (if_neg hfree))

theorem wakeCmd_of_sleep (hz : reservedZero p [] = true) (hs : d.power.state = .sleep) (hw : d.power.waking = none) :
    wakeCmd p d = startWake (some p) (park p d) :=
  (if_neg (by simp [hz])).trans ((if_neg (by simp [hs])).trans (if_neg (by simp [hw])))

/-- Outside SLEEP, TELE_READ takes a fresh sample and clears the marks that it reads (R538). -/
theorem teleRead_of_awake (hz : reservedZero p [(0, 1), (8, 8)] = true) (hsec : pByte p 0 < 8) (halign : p64 p 8 % 64 = 0)
    (hawake : d.power.state ≠ .sleep)
    (hdest : p64 p 8 = 0 ∨ reachable d .cp true (p64 p 8)
      (teleBytes (takeReadings (freshReadings d.fresh) (takeFresh d)) (pByte p 0)).length = true) :
    teleRead p d = (
      let e := takeReadings (freshReadings d.fresh) (takeFresh d)
      let bs := teleBytes e (pByte p 0)
      complete p .ok (bs.take 20) (clearMarks (pByte p 0) (if p64 p 8 = 0 then e else memWrite (p64 p 8) bs e))) := by
  have hstate : (d.power.state == .sleep) = false := beq_false_of_ne hawake
  unfold teleRead
  dsimp only
  rw [if_neg (by simp [hz, hsec, halign]), hstate, if_neg (by simp), if_neg (by obtain h | h := hdest <;> simp [teleData, h])]
  simp only [teleData, beq_iff_eq, Bool.false_eq_true, if_false]

/-- In SLEEP, TELE_READ gives the Drone's last sample, into host memory, and reads no mark (R538). -/
theorem teleRead_of_sleep (hz : reservedZero p [(0, 1), (8, 8)] = true) (hsec : pByte p 0 < 8) (halign : p64 p 8 % 64 = 0)
    (hs : d.power.state = .sleep)
    (hdest : p64 p 8 = 0 ∨ (regionOf (p64 p 8) = .host ∧
      reachable d .cp true (p64 p 8) (teleData true (takeFresh d) (pByte p 0)).length = true)) :
    teleRead p d = (
      let e := takeFresh d
      let bs := teleData true e (pByte p 0)
      complete p .ok (bs.take 20) (if p64 p 8 = 0 then e else memWrite (p64 p 8) bs e)) := by
  have hstate : (d.power.state == .sleep) = true := beq_iff_eq.mpr hs
  have hhost : ¬ (true && p64 p 8 != 0 && regionOf (p64 p 8) != .host) = true := by
    obtain h | ⟨h, -⟩ := hdest <;> simp [h]
  have hreach : ¬ (p64 p 8 != 0 && !reachable d .cp true (p64 p 8) (teleData true (takeFresh d) (pByte p 0)).length) = true := by
    obtain h | ⟨-, h⟩ := hdest
    · simp [h]
    · rw [h]; simp
  unfold teleRead
  dsimp only
  rw [if_neg (by simp [hz, hsec, halign]), hstate, if_neg hhost]
  simp only [if_true]
  rw [if_neg hreach]
  simp only [beq_iff_eq]
  exact congrArg (complete p .ok _) (if_neg (by simp [bit]))

end

/-- Settles O20: an admitted packet runs its command, and the premises are the checks of that command. -/
theorem powerCommandsAct : Obligations.PowerCommandsAct := by
  unfold Obligations.PowerCommandsAct
  and_intros
  · intro s p ha hz hopt hpair hidle
    exact admitted_next ha (sleepCmd_of_free hz hopt (by simpa using hpair) (by simpa using hidle))
  · intro s p ha hz hs hw
    exact admitted_next ha (wakeCmd_of_sleep hz (by simpa using hs) (by simpa using hw))
  · intro s p ha hz hlo hhi
    exact admitted_next ha (powerCap_of_admissible hz hlo hhi)
  · intro s p ha hz hsec halign hawake d bs hdest
    exact admitted_next ha (teleRead_of_awake hz hsec halign (by simpa using hawake) hdest)
  · intro s p ha hz hsec halign hs d bs hdest
    exact admitted_next ha (teleRead_of_sleep hz hsec halign (by simpa using hs) hdest)

/-! ### Events -/

section
variable {d : Device}

theorem domainPowerUp_of_wanted {b : Nat} (hlo : 8 ≤ b) (hhi : b < 31) (hrun : bellowsRuns d = true) (hoff : domainReady d b = false)
    (hwant : domainCondition d b = true) :
    domainPowerUp b d = (
      let e := setDomain b true d
      let e := if 22 ≤ b ∧ b < 26 then { e with reed := { e.reed with usable := tset false e.reed.usable (b - 22) true } } else e
      noteState (powerState d) (swapAtOnce e)) :=
  if_neg (by simp [hlo, hhi, hrun, hoff, hwant])

theorem domainPowerDown_of_unwanted {b : Nat} (hlo : 8 ≤ b) (hhi : b < 31) (hrun : bellowsRuns d = true) (hon : domainReady d b = true)
    (hnot : domainCondition d b = false) :
    domainPowerDown b d = noteState (powerState d) (setDomain b false (discardDomain b d)) :=
  if_neg (by simp [hlo, hhi, hrun, hon, hnot])

theorem overTemperature_of_hot {t : Int} (ht : 110 * 16 ≤ t) (hpor : d.power.por = false) (htrip : d.power.thermalTrip = false) :
    overTemperature t d = (
      let e := if d.power.state == .sleep then droneRecord 0x032 6 0 d else raiseFault (plainFault 0x032 6 2 0) d
      if 125 * 16 ≤ t then thermalTrip e else e) :=
  if_neg (by simpa [hpor, htrip] using ht)

theorem wakeSource_of_sleep {cause : Nat} (hs : d.power.state = .sleep) (hw : d.power.waking = none) :
    wakeSource cause d = raiseEvent 0x033 1 (ballIndex d) (Config.wakeCause cause) (startWake none d) :=
  if_neg (by simp [hs, hw])

theorem timedWake_of_sleep (ht : d.power.wakeTime ≠ 0) (hs : d.power.state = .sleep) (hw : d.power.waking = none) :
    timedWake d = wakeSource 0 { d with time := max d.time d.power.wakeTime } :=
  if_neg (by simp [ht, hs, hw])

theorem wakeComplete_of_locked {p : Option Packet} {since : Nat} {failed : List Nat} {words : List (Nat × Nat × Bool)}
    (hw : d.power.waking = some (p, since)) (hs : d.clk.sclk.relock ≠ .search) (hsc : d.clk.sclk.relock ≠ .closing)
    (hl : d.clk.lo.relock ≠ .search) (hlc : d.clk.lo.relock ≠ .closing) :
    wakeComplete failed words d = finishWake p since failed words d := by
  unfold wakeComplete
  dsimp only
  rw [hw]
  exact if_neg (by simp [hs, hsc, hl, hlc])

end

/-- Settles O21: the premises are the guards of each event. The bits of a STATUS_WORD, the values of a sample and the trip that keeps STATE,
and the faults that in SLEEP only the Drone records, are choices of the model (log entries 61, 62 and 63). -/
theorem powerEventsAct : Obligations.PowerEventsAct := by
  unfold Obligations.PowerEventsAct
  and_intros
  · intro s b hlo hhi hrun hoff hwant
    exact act_next (domainPowerUp_of_wanted hlo hhi hrun hoff hwant)
  · intro s b hlo hhi hrun hon hnot
    exact act_next (domainPowerDown_of_unwanted hlo hhi hrun hon hnot)
  · intro s mv hrun
    exact act_next (f := avsUpdate mv) (if_neg (by simp [hrun]))
  · intro s mw t hrun
    exact act_next (f := throttleEvaluate mw t) (if_neg (by simp [hrun]))
  · intro s h
    exact act_next (f := powerCapUnreachable) (if_pos h)
  · intro s t ht hpor htrip
    exact act_next (overTemperature_of_hot ht hpor htrip)
  · intro s l hpor
    exact act_next (f := pmbAlert l) (if_neg (by simp [hpor]))
  · intro s r hrun
    exact act_next (f := telemetrySample r) (if_neg (by simp [hrun]))
  · intro s r hs
    exact act_next (f := sleepSample r) (if_neg (by simp [hs]))
  · intro s hs hw
    exact act_next (f := cpClockStop) (if_pos (by simp [hs, hw]))
  · intro s ht hs hw
    exact act_next ((timedWake_of_sleep ht hs hw).trans (wakeSource_of_sleep hs hw))
  · intro s htrig hs hw
    exact act_next (f := wakeTrig) ((if_pos htrig).trans (wakeSource_of_sleep hs hw))
  · intro s failed words since p hw hs hsc hl hlc
    exact act_next (wakeComplete_of_locked hw hs hsc hl hlc)

end Sys2Proof.Proofs
end

section
/-! SUPPORT. The Paddock (R548-R564): authentication, key slots, images, zeroisation, self-tests and the TAP. -/

namespace Sys2Proof.Proofs

open Sys2Proof.Machine Sys2Proof.Safety Sys2Proof.Laws

/-! ### Authentication -/

section
variable {p : Packet} {d : Device}

theorem authChallenge_of_open (hz : reservedZero p [(0, 1)] = true) (hop : pByte p 0 ≤ 7) (hopen : paddockDenies d = false)
    (hlock : d.pad.lockedOut = false) :
    authChallenge p d = (
      let x := drbgBytes 48 d
      complete p .ok x.1 (setNonce (sessionOf p) (some { operator := pByte p 0, bytes := x.1 }) x.2)) :=
  (if_neg (Bool.eq_false_iff.mp hopen)).trans ((if_neg (by simp [hz, hop])).trans (if_neg (Bool.eq_false_iff.mp hlock)))

/-- AUTH_RESPONSE uses the nonce up, whatever the signature gives (R553). -/
theorem authResponse_of_open (hflag : flagSet p 2 = true) (hz : reservedZero p [(0, 1), (16, 96)] = true)
    (hopen : paddockDenies d = false) :
    authResponse p d = (
      let e := setNonce (sessionOf p) none d
      match authRole d p with
      | none => complete p .denied [] (authFailed e)
      | some r => complete p .ok [] (raiseEvent 0x3E4 1 (ballIndex d) 0
          { e with pad := { e.pad with failures := 0, sessions := tset 0 e.pad.sessions (sessionOf p) r } })) := by
  refine (if_neg (Bool.eq_false_iff.mp hopen)).trans ((if_neg (by simp [hflag, hz])).trans ?_)
  dsimp only
  cases authRole d p <;> rfl

theorem authEnd_of_open (hz : reservedZero p [] = true) (hopen : paddockDenies d = false) :
    authEnd p d = complete p .ok [] { d with pad := { d.pad with sessions := tset 0 d.pad.sessions (sessionOf p) 0 } } :=
  (if_neg (Bool.eq_false_iff.mp hopen)).trans (if_neg (by simp [hz]))

end

/-- Settles O58: an admitted packet of an open Paddock runs its command, and the two timers act in every state. -/
theorem authenticationActs : Obligations.AuthenticationActs := by
  unfold Obligations.AuthenticationActs
  and_intros
  · intro s p ha hz hop d hopen hlock x
    exact admitted_next ha (authChallenge_of_open hz hop hopen hlock)
  · intro s p ha hflag hz d hopen e
    refine admitted_next ha ((authResponse_of_open hflag hz hopen).trans ?_)
    dsimp only <;> cases authRole (taken p s.dev) p <;> rfl
  · intro s p ha hz d hopen
    exact admitted_next ha (authEnd_of_open hz hopen)
  · intro s q
    exact act_next (f := setNonce q.val none) rfl
  · intro s
    exact act_next (f := fun d => { d with pad := { d.pad with lockedOut := false } }) rfl

/-! ### Keys and images -/

section
variable {p : Packet} {d : Device}

theorem keyGenerate_of_empty (hok : keyParamsOk p = true) (hopen : paddockDenies d = false) (hempty : tget none d.pad.slots (pByte p 1) = none) :
    keyGenerate p d = (
      let x := drbgBytes 32 d
      complete p .ok [] (setKeySlot (pByte p 1) (some (bytesKey x.1)) x.2)) :=
  (if_neg (Bool.eq_false_iff.mp hopen)).trans ((if_neg (by simp [hok])).trans (if_neg (by simp [hempty])))

theorem keyImport_of_wrapped {w : BitVec 256} (hok : keyParamsOk p = true) (hopen : paddockDenies d = false)
    (hreach : reachable d .cp false (p64 p 8) 40 = true) (hempty : tget none d.pad.slots (pByte p 1) = none)
    (hdiff : pByte p 1 ≠ pByte p 2) (hw : keyOfSlot d (pByte p 2) = some w) :
    keyImport p d =
      match Config.kwUnwrap w (memRead d (p64 p 8) 40) with
      | none => complete p .denied [] d
      | some k => complete p .ok [] (setKeySlot (pByte p 1) (some (bytesKey k)) d) := by
  refine (if_neg (Bool.eq_false_iff.mp hopen)).trans ((if_neg (by simp [hok, hreach])).trans
    ((if_neg (by simp [hempty])).trans ((if_neg (by simp [hdiff])).trans ?_)))
  cases hk : Config.kwUnwrap w (memRead d (p64 p 8) 40) <;> simp only [hw, hk]

theorem keyExport_of_loaded {k w : BitVec 256} (hok : keyParamsOk p = true) (hopen : paddockDenies d = false)
    (hreach : reachable d .cp true (p64 p 8) 40 = true) (hdiff : pByte p 1 ≠ pByte p 2) (hk : keyOfSlot d (pByte p 1) = some k)
    (hw : keyOfSlot d (pByte p 2) = some w) :
    keyExport p d = complete p .ok [] (memWrite (p64 p 8) (padTo (Config.kwWrap w (leBytes 32 k.toNat)) 40) d) := by
  unfold keyExport
  rw [if_neg (Bool.eq_false_iff.mp hopen), if_neg (by simp [hok, hreach]), if_neg (by simp [hdiff]), hk, hw] <;> rfl

theorem keyDestroy_of_loaded (hok : keyParamsOk p = true) (hopen : paddockDenies d = false)
    (hloaded : (tget none d.pad.slots (pByte p 1)).isSome = true) :
    keyDestroy p d = complete p .ok [] (setKeySlot (pByte p 1) none d) :=
  (if_neg (Bool.eq_false_iff.mp hopen)).trans
    ((if_neg (by simp [hok])).trans (if_neg (by simpa [Option.isSome_iff_ne_none] using hloaded)))

theorem imageUpdateWrite_of_reachable (hz : reservedZero p [(0, 1), (8, 12)] = true) (hopen : paddockDenies d = false)
    (hreach : reachable d .cp false (p64 p 8) (p32 p 16) = true) (hflash : d.pad.flash.present = true) :
    imageUpdateWrite p d = (
      let img := memRead d (p64 p 8) (p32 p 16)
      let e := { d with pad := { d.pad with flash := writeSlotImage (updateSlot d) (img.take (getLe img 24 4)) d.pad.flash } }
      match verifyImage d.pad.fuses img with
      | .error c => complete p .badParam (updateReply d ++ leBytes 1 c) d
      | .ok _ => complete p .ok (updateReply e) (raiseEvent 0x3E0 3 (ballIndex e) 0 e)) := by
  refine (if_neg (Bool.eq_false_iff.mp hopen)).trans ((if_neg (by simp [hz, hreach])).trans ?_)
  dsimp only
  cases verifyImage d.pad.fuses (memRead d (p64 p 8) (p32 p 16)) with
  | error c => rfl
  | ok x => exact if_neg (by simp [hflash])

theorem commitVersion_of_open (hz : reservedZero p [(0, 1), (8, 12)] = true) (hopen : paddockDenies d = false) :
    commitVersion p d = (
      let v := (d.pad.image.map (·.securityVersion)).getD 0
      let e := { d with pad := { d.pad with fuses := blowArb v d.pad.fuses } }
      if v ≤ fusedVersion d.pad.fuses then complete p .ok (updateReply d) d
      else complete p .ok (updateReply e) (raiseEvent 0x3E0 4 (ballIndex e) 0 e)) :=
  (if_neg (Bool.eq_false_iff.mp hopen)).trans (if_neg (by simp [hz]))

end

/-- Settles O59: an admitted packet of an open Paddock runs its command, and the premises are the checks of that command. -/
theorem keyAndImageActs : Obligations.KeyAndImageActs := by
  unfold Obligations.KeyAndImageActs
  and_intros
  · intro s p ha hok d hopen hempty x
    exact admitted_next ha (keyGenerate_of_empty hok hopen hempty)
  · intro s p w ha hok d hopen hreach hempty hdiff hw
    refine admitted_next ha ((keyImport_of_wrapped hok hopen hreach hempty hdiff hw).trans ?_)
    cases Config.kwUnwrap w (memRead (taken p s.dev) (p64 p 8) 40) <;> rfl
  · intro s p k w ha hok d hopen hreach hdiff hk hw
    exact admitted_next ha (keyExport_of_loaded hok hopen hreach hdiff hk hw)
  · intro s p ha hok d hopen hloaded
    exact admitted_next ha (keyDestroy_of_loaded hok hopen hloaded)
  · intro s p ha hz
    exact admitted_next (body := keyWrapStatus) ha (if_neg (by simp [hz]))
  · intro s p ha hz d hopen hreach hflash img e
    refine admitted_next ha ((imageUpdateWrite_of_reachable hz hopen hreach hflash).trans ?_)
    dsimp only <;> cases verifyImage (taken p s.dev).pad.fuses (memRead (taken p s.dev) (p64 p 8) (p32 p 16)) <;> rfl
  · intro s p ha hz d v hopen e
    exact admitted_next ha (commitVersion_of_open hz hopen)
  · intro s p ha hz
    exact admitted_next (body := imageUpdateStatus) ha (if_neg (by simp [hz]))

/-! ### Zeroisation, tests and the TAP -/

section
variable {p : Packet} {d : Device}

theorem zeroizeCmd_permanent (hz : reservedZero p [(0, 1), (8, 4)] = true) (hopt : pByte p 0 ≤ 1) (hmagic : p32 p 8 = 0x5A45524F) :
    zeroizeCmd true p d = complete p .ok [] (zeroise { d with pad := { d.pad with fuses := { d.pad.fuses with kill := 0xFF } } }) :=
  (if_neg (by simp [hz, hopt])).trans ((if_neg (by simp)).trans (if_neg (by simp [hmagic])))

section
variable {ns : Nat}

theorem zeroizePin_of_held (hpor : d.power.por = false) (h : 1000 ≤ ns) : zeroizePin ns d = zeroise d := by
  have hlong : ¬ (d.power.por || decide (ns < 200)) = true := by
    simp only [hpor, Bool.false_or, decide_eq_true_eq]; omega
  exact (if_neg hlong).trans ((if_pos (by simp [h])).trans (by rw [if_pos h]))

/-- A pulse of the pin between 0.2 and 1 µs is free to count (R609). -/
theorem zeroizePin_of_pulse (hpor : d.power.por = false) (hlo : 200 ≤ ns) (hhi : ns < 1000) :
    zeroizePin ns d = if Config.shortPulse d.fresh then zeroise (takeFresh d) else takeFresh d := by
  have hshort : ¬ 1000 ≤ ns := Nat.not_le.mpr hhi
  refine (if_neg (by simp [hpor, hlo])).trans (ite_congr (by simp [hshort]) (fun _ => ?_) fun _ => rfl)
  rw [if_neg hshort]

end

theorem selfTest_of_open (hz : reservedZero p [(0, 1)] = true) (hmask : pByte p 0 ≤ 7) (hopen : paddockDenies d = false) :
    selfTest p d = (
      let m := pByte p 0
      let got := testBits d
      let pass := maskOf 3 (fun i => bit m i && bit got i)
      let e := takeFresh d
      let e := if bit m 1 && !bit got 1 then failTest true e else e
      let e := if (bit m 0 && !bit got 0) || (bit m 2 && !bit got 2) then failTest false e else e
      complete p .ok (leBytes 1 pass) (if pass == m then testPassed e else e)) :=
  (if_neg (Bool.eq_false_iff.mp hopen)).trans (if_neg (by simp [hz, hmask]))

theorem periodicSelfTest_of_due {pass : BitVec 3} (hperiod : cfgN d 0x12 0 2 ≠ 0) (hs : d.power.state = .ready ∨ d.power.state = .safe) :
    periodicSelfTest pass d = (
      let digest := pass.getLsbD 2 && bit (testBits d) 2
      let e := if pass.getLsbD 1 then d else failTest true d
      if pass.getLsbD 0 && digest then (if pass.getLsbD 1 then testPassed d else e) else failTest false e) :=
  if_neg (by obtain h | h := hs <;> simp [hperiod, h])

end

section
variable {s : State} {t : TapInstr}

theorem execTapInstruction_of_effect (h : ∀ c, tapTaken (jtagMode s.dev) t ≠ .mehrikDebug c) :
    execTapInstruction t s = .next (after s { s.dev with pad := { s.dev.pad with tap := tapTaken (jtagMode s.dev) t } }) := by
  unfold execTapInstruction
  split
  next c hc => exact absurd hc (h c)
  next => exact act_next (f := setTap t) rfl

theorem execTapInstruction_of_debug {c : Nat} (h : jtagMode s.dev = 2) :
    execTapInstruction (.mehrikDebug c) s = .refused .mehrikDebug := by
  simp [execTapInstruction, tapTaken, h]

end

/-- Settles O60: the pin by the length of its pulse, the commands behind their checks, the TAP by what its mode takes. That an instruction
outside its mode is BYPASS, and that the Mehrik debug instructions are refused, are choices of the model (log entry 81). -/
theorem zeroisationAndTestActs : Obligations.ZeroisationAndTestActs := by
  unfold Obligations.ZeroisationAndTestActs
  and_intros
  · intro s p ha hz hopt
    exact admitted_next (body := zeroizeCmd false) ha ((if_neg (by simp [hz, hopt])).trans (if_pos rfl))
  · intro s p ha hz hopt hmagic d
    exact admitted_next ha (zeroizeCmd_permanent hz hopt hmagic)
  · intro s ns hpor h
    exact act_next (zeroizePin_of_held hpor h)
  · intro s ns hpor hlo hhi
    exact act_next (zeroizePin_of_pulse hpor hlo hhi)
  · intro s ns h
    exact act_next (f := zeroizePin ns) (if_pos (by simp [h]))
  · intro s p ha hz hmask d hopen
    exact admitted_next ha (selfTest_of_open hz hmask hopen)
  · intro s pass hperiod hs
    exact act_next (periodicSelfTest_of_due hperiod hs)
  · intro s t h
    exact execTapInstruction_of_effect h
  · intro s c h
    exact execTapInstruction_of_debug h

end Sys2Proof.Proofs
end
